-- ==== Sys2Proof/Word.lean ====
section
/-! DEFINITION. The word types of the fabric and the sparse table (`SMap`) in which State holds what is numerous. -/

namespace Sys2Proof

/-- A byte of a payload, a descriptor or a ring entry. -/
abbrev Byte := BitVec 8
/-- The payload of one flit (R38). -/
abbrev Payload := BitVec 512

/-- A table with Nat keys: key and value pairs, keys strictly rising. A key not listed holds the default that the
reader gives. -/
abbrev SMap (α : Type) := List (Nat × α)

/-- The value at a key, or the default. -/
def SMap.get {α : Type} (d : α) : SMap α → Nat → α
  | [], _ => d
  | (k', v) :: m, k => if k = k' then v else SMap.get d m k

/-- The value at a key, if the key is listed. -/
def SMap.find {α : Type} : SMap α → Nat → Option α
  | [], _ => none
  | (k', v) :: m, k => if k = k' then some v else SMap.find m k

/-- Write a key, keeping the keys in rising order. -/
def SMap.set {α : Type} : SMap α → Nat → α → SMap α
  | [], k, v => [(k, v)]
  | (k', v') :: m, k, v =>
    if k = k' then (k, v) :: m
    else if k < k' then (k, v) :: (k', v') :: m
    else (k', v') :: SMap.set m k v

/-- Change the value at a key, which holds `d` where it is not listed. -/
def SMap.mod {α : Type} (d : α) (m : SMap α) (k : Nat) (f : α → α) : SMap α :=
  m.set k (f (m.get d k))

/-- Take a key out. -/
def SMap.erase {α : Type} (m : SMap α) (k : Nat) : SMap α := m.filter (fun e => e.1 != k)

/-- The values listed, in key order. -/
def SMap.vals {α : Type} (m : SMap α) : List α := List.map (fun e => e.2) m

/-- Change every value listed. -/
def SMap.mapVals {α : Type} (m : SMap α) (f : Nat → α → α) : SMap α :=
  List.map (fun e => (e.1, f e.1 e.2)) m

/-- Keys strictly rising from a bound. -/
def SMap.risingFrom {α : Type} : Nat → SMap α → Bool
  | _, [] => true
  | lo, (k, _) :: m => decide (lo ≤ k) && SMap.risingFrom (k + 1) m

/-- The canonical form of a sparse table. -/
def SMap.wf {α : Type} (m : SMap α) : Bool := SMap.risingFrom 0 m

end Sys2Proof
end

