-- ==== Sys2Proof/Syntax.lean ====
section
/-! DEFINITION. The commands the block takes: one constructor of `Instr` per row of spec/opcode_table.json, with the
row's operands. An operand is what the outside world brings (a packet, a descriptor, a physical result such as a
self-test verdict or the bits in error on a link) or the name of the element the event happens at. -/

namespace Sys2Proof

/-- A packet as a unit presents it at its unit port: the TX signals of R172 (06). -/
structure UnitPkt where
  /-- TX_CLASS -/
  cls : Nat
  /-- TX_OPC -/
  opc : Nat
  /-- TX_LEN: flits in the packet minus one -/
  len : Nat
  /-- TX_TIER -/
  tier : Nat
  /-- TX_ORD -/
  ord : Bool
  /-- TX_POISON -/
  poison : Bool
  /-- TX_DSEL: false, the NI resolves DEST from the address map -/
  dsel : Bool
  /-- TX_DEST -/
  dest : BitVec 16
  /-- TX_ADDR -/
  addr : BitVec 46
  /-- TX_TAG -/
  tag : BitVec 10
  /-- TX_UID -/
  uid : BitVec 12
  /-- TX_DATA, one payload per flit that arrived between TX_SOP and TX_EOP (R173) -/
  pays : List Payload
  /-- TX_HPAR failed (R176) -/
  hparErr : Bool
  /-- TX_DPAR failed on some byte (R176) -/
  dparErr : Bool
  /-- the NI's own payload buffer reports an uncorrectable error (R75) -/
  bufErr : Bool
deriving DecidableEq, Repr

/-- The Fords of R226 (07), named by the element they serve. -/
inductive FordId where
  /-- the unit port of an NI, by the NI's source index -/
  | unitPort (ni : Nat)
  /-- the die side of a Col or Ridge adapter -/
  | adapterDie (adp : Nat)
  /-- the link side of a Col or Ridge adapter -/
  | adapterLink (adp : Nat)
  /-- the SerDes side of a Pass port -/
  | passPort (port : Nat)
  /-- a steward, by its source index -/
  | steward (stw : Nat)
  /-- a die's always-on logic -/
  | alwaysOn (die : Nat)
  /-- a die's telemetry agent -/
  | telemetry (die : Nat)
deriving DecidableEq, Repr

/-- What the far side of a link says of itself in PARAM (08 R249; 09 R273 for a Pass port). -/
structure Param where
  version : Nat
  kind : Nat
  /-- SIDE of R249, PORT of R273 -/
  side : Nat
  die : Nat
  link : Nat
  pkg : Nat
  vcs : Nat
  rxok : Bool
  /-- TSRC: the sender is the time source of the link (R249) -/
  tsrc : Bool
  /-- RIDGELESS, bit 31 of DESIGN -/
  ridgeless : Bool
  /-- DESIGN bits 30:0, recorded and not checked (R249; the 32-bit code of R273 on a Pass port) -/
  design : Nat
  /-- LEADER of R273 -/
  leader : Bool
  /-- MEMBERS, packages in the sender's membership table (R273) -/
  members : Nat
  /-- LEADER package of R273 -/
  leaderPkg : Nat
  /-- SERIAL of R273 -/
  serial : Nat
deriving DecidableEq, Repr

/-- One row of a far package's membership table (09 R272), with the far package's Pass neighbours. -/
structure FarMember where
  id : Nat
  serial : Nat
  prio : Nat
  /-- packages one Pass hop from this member -/
  nbrs : List Nat
deriving DecidableEq, Repr

/-- The parts of a steward image that its checks read (14 R387, R388). Hash and signature arithmetic are outside the
model: their verdicts are operands. -/
structure FwImage where
  magic : Nat
  format : Nat
  /-- number of segments as the header says -/
  segments : Nat
  size : Nat
  secver : Nat
  build : Nat
  /-- SHA-384 of KEY -/
  keyHash : Nat
  /-- SIG verifies over the bytes of R388 -/
  sigOk : Bool
  /-- SEGTAB: offset, length, role mask, target, and whether the segment matches its CRC-32 -/
  segtab : List (Nat × Nat × Nat × Nat × Bool)
deriving DecidableEq, Repr

/-- A ring command as the lead reads it: the command ring, the 64 descriptor bytes, and what a read of the input
buffer gives (`none`: the host-memory port reports an error, 16 R425). -/
structure Cmd where
  ring : Nat
  desc : List Byte
  buf : Option (List Byte)
  /-- the host-memory port takes the write of an answer buffer (16 R425) -/
  bufOk : Bool
deriving DecidableEq, Repr

/-- A flit in a buffer or on a link: what the element holding it knows of it. The 32-bit check code is a function of header
and payload (02 R76) and is not stored. -/
structure Flit where
  /-- header, 128 bits (02 R38, R40). Reset 0. -/
  hdr : BitVec 128 := 0
  /-- payload, 512 bits (02 R39). Reset 0. -/
  pay : BitVec 512 := 0
  /-- overdue bit FOVD, 1 bit (04 R112, R122). Reset 0. -/
  ovd : Bool := false
  /-- the flit holds a shared-pool slot of a link receiver, 1 bit (08 R245). Reset 0. -/
  pool : Bool := false
  /-- Fabric Time of arrival in this buffer, 64 bits (18 R479). Reset 0. -/
  arr : Nat := 0
  /-- flits ahead of it at arrival, 3 bits (18 R479). Reset 0. -/
  depth : Nat := 0
  /-- its head arrived at its target NI while the partition mask excluded it, 1 bit (06 R194). Reset 0. -/
  barred : Bool := false
  /-- which copy of a duplicated packet it belongs to: 1 on Plane A, 2 on Plane B, 0 where there is no copy (13 R370). Reset 0. -/
  copy : Nat := 0
deriving DecidableEq, Repr

/-- Frame types (08 R238, 09 R265). -/
inductive FType where
  | data | idle | nak | param | creditInit | time | ready | quiet | align | close
  /-- a code that names no type on the link -/
  | reserved (code : Nat)
deriving DecidableEq, Repr

/-- A frame (08 R236, 09 R265). Slots hold a VC index with the flit; empty slots are not listed. -/
structure Frame where
  ty : FType
  seq : Nat
  ack : Nat
  /-- the flits in slot order: slot, VC, flit. -/
  slots : List (Nat × Nat × Flit)
  /-- credit entries: VC (31 for the pool) and COUNT. -/
  cred : List (Nat × Nat)
  rply : Bool
  pm : Nat
  /-- the 80 bytes of slot 0 in a frame that carries content (08 R240), byte 0 highest. -/
  cont : BitVec 640 := 0
deriving DecidableEq, Repr

/-- One side of a Ford (07 R230): `fab` names its side in the fabric. -/
structure FordEnd where
  ford : FordId
  fab : Bool
deriving DecidableEq, Repr

/-- A link side whose PHY has trained, and the physical lanes that failed in it (08 R248). -/
structure Trained where
  adp : Nat
  lanes : List Nat
deriving DecidableEq, Repr

/-- What the filtered attention button does (09 R278, R279): pressed at the own end, released there after a time in ms, or a press that counts
reported by the far package. -/
inductive Press where
  | down
  | up (heldMs : Nat)
  | far
deriving DecidableEq, Repr

/-- The filtered WAKE_N (09 R278, R280): low, with whether the module's flags show an alarm, or no answer of the module; or high. -/
inductive WakePin where
  | low (alarm : Option Bool)
  | high
deriving DecidableEq, Repr

/-- The bits of a Watershed message, and of its extension, that are wrong on arrival (11 R313, R314). -/
structure MsgErr where
  beat : BitVec 192
  ext : BitVec 136
deriving DecidableEq, Repr

/-- The commands. -/
inductive Instr where
  | resetRelease
  | strapSampling (samples : List Nat)
  | bootSelftestDone (stw : Nat) (pass : Bool)
  | stewardAllLost
  | ridgeIdentityTimeout (adp : Nat)
  | refclkLoss
  | clockUnlock (die : Nat)
  | timeBaseError (die : Nat)
  | unitPacket (ni : Nat) (p : UnitPkt)
  | unitReceiveCredit (ni : Nat) (cls : Nat)
  | unitDelivery (ni : Nat)
  | fordReset (f : FordEnd)
  | fordResetAck (f : FordEnd)
  | fordResetDone (f : FordEnd)
  | tollgateStart (ni : Nat)
  | niPacketArrival (ni port : Nat) (err : BitVec 672)
  | answerReceive (ni port : Nat) (err : BitVec 672)
  | tagOrphan (ni tag : Nat)
  | tagQuarantineEnd (ni tag : Nat)
  | lockSweep (ni : Nat)
  | lockAmnesiaEnd (ni : Nat)
  | mapLookupServe (bank : Nat)
  | mapFillReceipt (ni port : Nat) (err : BitVec 672)
  | mapLookupTimeout (ni tag : Nat)
  | duplicateFilterRetire (ni : Nat)
  | exitFilterRetire (port : Nat)
  | resetNotice (ni : Nat) (owner : BitVec 16) (inc : BitVec 8)
  | fenceNotice (ni pkg ty id : Nat)
  | epochCommit (rcv : Nat) (map : Bool)
  | epochCommitAck (rcv : Nat) (map : Bool)
  | drainQueryTick (region : Nat)
  | epochDrainReport (region : Nat)
  | epochDrainTimeout
  | mapEpochRetire
  | mapBankCopyDone (bank : Nat)
  | heartbeatSend (stw : Nat)
  | heartbeatReceipt (stw skip : Nat)
  | heartbeatMiss (stw : Nat)
  | restartAnnounceExpiry (stw : Nat)
  | imageBlockReceipt (stw : Nat) (last crcOk : Bool)
  | mgtRequest (dest src : BitVec 16) (opc : Nat) (tag : BitVec 10) (addr : BitVec 46) (room : Bool)
  | flitReceive (elem port : Nat) (err : BitVec 672) (parErr : Bool)
  | arbitration (elem : Nat)
  | creditReceive (elem port : Nat) (parErr : Bool)
  | turnForecastReceive (elem port : Nat) (parErr : Bool)
  | overdue (elem port vc pos : Nat)
  | starve (router port vc : Nat)
  | outputWatchdog (router port : Nat)
  | linkWidthWindow (elem port : Nat)
  | linkWidenOnWait (elem port : Nat)
  | frameReceive (adp : Nat) (err : BitVec 10280) (par : BitVec 600) (far : Option Frame) (bad : BitVec 10280)
  | replayTimer (adp : Nat)
  | linkRetrain (adp : Nat)
  | linkFail (adp : Nat)
  | phyTrainDone (t : Trained)
  | paramReceipt (adp : Nat) (p : Option Param)
  | creditInitReceipt (adp : Nat) (depths : Option (List Nat)) (pool : Nat)
  | readyReceipt (adp : Nat)
  | trainingLimit (adp : Nat)
  | timeExchangeStart (adp : Nat)
  | timeReq (adp : Nat)
  | timeRsp (adp : Nat)
  | timeRes (adp : Nat)
  | timeExchangeRetry (adp : Nat)
  | timeApplyBoundary (die : Nat)
  | laneWindow (adp : Nat)
  | wakeMessage (adp : Nat)
  | wakeRepeat (adp : Nat)
  | wakeTimeout (adp : Nat)
  | quietWindowArm (ridge : Bool) (link : Nat)
  | quietOverlayStart (ni : Nat)
  | linkQuiet (adp : Nat)
  | linkCalibrationDone (adp : Nat)
  | quietResume (adp : Nat)
  | quietOverlayEnd (ni : Nat)
  | alignReceipt (port num applyAt : Nat) (map proposed : List Nat) (mapAck shadowOk : Bool) (suspect : Option Nat)
  | closeReceipt (port cause : Nat)
  | laneRotationStart (port : Nat)
  | shadowCompareDone (port : Nat) (ok : Bool)
  | passLaneCalibrationDone (port : Nat)
  | passLaneCalibrationLimit (port : Nat)
  | presenceChange (port : Nat) (present : Bool)
  | buttonPress (port : Nat) (p : Press)
  | buttonStuck (port : Nat)
  | cableWake (port : Nat) (w : WakePin)
  | cmisReadDone (port : Nat) (accepted ready : Bool) (lanes : Nat)
  | cmisReadTimeout (port : Nat)
  | moduleReadyLimit (port : Nat)
  | join (port : Nat) (d : Nat) (far : List FarMember)
  | abortWindowEnd (port : Nat)
  | steeringLimit (port : Nat)
  | cablePowerOff (port : Nat)
  | indicatorTimer (port : Nat)
  | passTimeExchange
  | passTimeRequest (port exch : Nat) (t1 : Nat)
  | passTimeReply (exch t2 t3 : Nat)
  | passTimeLoss
  | timeHoldover
  | memberTimeout (id : Nat)
  | ppsInEdge
  | ppsOutSecond
  | tsInEdge
  | tsCapture
  | tsCompareMatch
  | timeSetPpsTimeout
  | fordStall (f : FordId)
  | fordUnstable (f : FordId)
  | domainIdleTimeout (dom : Nat)
  | entryDrainLimit (dom : Nat)
  | detectorArming (dom : Nat)
  | domainWake (dom code detail : Nat)
  | wakeComplete (dom : Nat) (sigs : List (Nat × BitVec 32))
  | wakeFail (dom : Nat)
  | goldenReloadDone (dom bank : Nat)
  | powerDownDrained (dom : Nat)
  | powerDownTimeout (dom : Nat)
  | dieCollectorMessage (die : Nat) (err : MsgErr)
  | wshMessageArrival (err : MsgErr)
  | leadFaultInterrupt
  | sweepComplete (ty id : Nat) (unreadable : List Nat)
  | eventRecordWrite
  | wshPathLost (die : Nat)
  | scopeDrained (ty id : Nat)
  | scopeDrainTimeout (ty id : Nat)
  | scopeResetDone (ty id : Nat)
  | scopeTestDone (ty id : Nat) (failed : Option (Nat × Nat))
  | scopeAdmissionStart (ty id : Nat)
  | planeNoticeLimit
  | tableScrub (owner table row : Nat) (uncorrectable : Bool)
  | tableWordReloaded (owner table row : Nat)
  | mapBankRestored (bank : Nat) (pass : Bool)
  | starveRebalance (region : Nat) (src : BitVec 16)
  | rateRecovery (region : Nat)
  | profileDrainComplete
  | profileDrainTimeout
  | vddFabOk (region : Nat)
  | profileRailWaitLimit (region : Nat)
  | ringStaleTimeout (ring : Nat)
  | hostPortError (ring : Nat)
  | telemetryRecordWrite (die : Nat)
  | bandwidthWindowEnd (elem : Nat)
  | queueSample (router : Nat)
  | counterWrap (elem ctr : Nat)
  | cairnSlotRelease (region : Nat)
  | gateSwitch (ni : Nat)
  | switchInstantReceipt (ni : Nat)
  | ringCtrlWrite (ring : Nat) (v : BitVec 32)
  | timeInitWrite (v : BitVec 64)
  | timeNowLowRead
  | timeCtrlWrite (v : BitVec 32)
  | tsCompareWrite (v : BitVec 64)
  | wshStickyClear (word : Nat) (v : BitVec 64)
  | wshForceWrite (word : Nat) (v : BitVec 64)
  | wshFirstClear (v : BitVec 64)
  | errLastClear (v : BitVec 64)
  | vectorCtrlWrite (vec : Nat) (v : BitVec 32)
  | passFilterWrite (port : Nat) (v : BitVec 32)
  | registerWrite (offset width : Nat) (v : BitVec 64)
  | post (ring index : Nat)
  | consumed (ring index : Nat)
  | read (ring index : Nat)
  | mark (ring index : Nat)
  | rewind (ring index : Nat)
  | release (ring index : Nat)
  | clearLost (ring index : Nat)
  | i3cWordSelect (word : Nat)
  | tapInstruction (code : Nat)
  | nop (c : Cmd)
  | fence (c : Cmd)
  | query (c : Cmd)
  | profileSet (c : Cmd)
  | fwLoad (c : Cmd) (img : Option FwImage)
  | mapWrite (c : Cmd)
  | mapCommit (c : Cmd)
  | routeWrite (c : Cmd)
  | routeCommit (c : Cmd)
  | partitionSet (c : Cmd)
  | regulatorSet (c : Cmd)
  | gateLoad (c : Cmd)
  | gateActivate (c : Cmd)
  | domainPower (c : Cmd)
  | idleTimerSet (c : Cmd)
  | domainReset (c : Cmd)
  | scopeFence (c : Cmd)
  | scopeReadmit (c : Cmd)
  | linkService (c : Cmd)
  | linkReturn (c : Cmd)
  | selftest (c : Cmd)
  | calibrate (c : Cmd)
  | lockBreak (c : Cmd)
  | faultForce (c : Cmd)
  | faultAck (c : Cmd)
  | traceArm (c : Cmd)
  | telemetryConfig (c : Cmd)
  | counterRead (c : Cmd)
  | timeSet (c : Cmd)
  | timeAdjust (c : Cmd)
  | retentionCommit (dom : Nat)
  | leadImageRestart
  | fordClockReturn (f : FordId)
deriving DecidableEq, Repr

end Sys2Proof
end

