-- ==== Sys2Proof/Machine/State.lean ====
section
/-! DEFINITION. The state of the block as plain data: every register, buffer, table, counter, mode and pin the spec gives
the fabric, with its value at reset as the default of its field. `NN Rn` in a docstring is rule n of spec/NN_*.md. Numerous
things are sparse tables (`SMap`) whose unlisted keys hold the value at reset. -/

namespace Sys2Proof.Machine

/-- Why a command stops. The block has no exception and no fault of its own that stops it: every fault kind of 11 R321 is
an effect on the state. The type has one constructor so that it is not empty; no meaning answers it (safe). -/
inductive Fault where
  /-- never raised -/
  | none
deriving DecidableEq, Repr

/-- Why a command has no meaning here. -/
inductive Refusal where
  /-- a command without a meaning in this model, by its mnemonic; raised by the dispatcher only (safe) -/
  | notModelled (mnemonic : String)
deriving DecidableEq, Repr

/-! ### Packets, buffers and ports of a mesh element -/

/-- One input VC buffer. -/
structure Vc where
  /-- the flits held, front first, up to the depth of 03 R79. Reset: empty. -/
  q : List Flit := []
  /-- output port chosen by the front packet (03 R81). Reset: none. -/
  out : Option Nat := none
  /-- downstream VC chosen by the front packet (03 R81, R82). Reset: none. -/
  dvc : Option Nat := none
  /-- wait counter in FCLK, of which 16 make a unit (04 R129). Reset 0. -/
  wait : Nat := 0
  /-- the front packet has raised STARVE here, 1 bit (04 R130). Reset 0. -/
  starved : Bool := false
  /-- flits of the front packet already sent, 0-7: 0 while its head is here (04 R127). Reset 0. -/
  sent : Nat := 0
  /-- flits still to come of the packet being received (02 R43). Reset 0. -/
  rem : Nat := 0
  /-- header of the packet being received, 128 bits. Reset 0. -/
  rhdr : BitVec 128 := 0
  /-- which copy of a duplicated packet is being received, 0-2 (13 R370). Reset 0. -/
  rcopy : Nat := 0
  /-- flits of the packet being received are discarded up to its tail, 1 bit (02 R77). Reset 0. -/
  drop : Bool := false
deriving DecidableEq, Repr

/-- Who holds a downstream VC (04 R119, R127). -/
structure Held where
  /-- input port of the holder, 3 bits (04 R127). -/
  inPort : Nat
  /-- input VC of the holder, 5 bits (04 R127). -/
  inVc : Nat
  /-- progress count, 0-7 (04 R127). -/
  prog : Nat
  /-- flits of the packet, from LEN. -/
  flits : Nat
  /-- header of the packet in progress. -/
  hdr : BitVec 128
  /-- which copy of a duplicated packet it is, 0-2 (13 R370). -/
  copy : Nat
deriving DecidableEq, Repr

/-- One output port. -/
structure Out where
  /-- credits taken and not returned, by downstream VC (04 R110: the counter is the depth minus this). Reset: none taken. -/
  used : SMap Nat := []
  /-- holder of each held downstream VC (04 R119, R127). Reset: none held. -/
  held : SMap Held := []
  /-- output watchdog timer in FCLK (04 R135). Reset 0. -/
  wdog : Nat := 0
  /-- last turn forecast received, 4 bits per VC (04 R133). Reset 0. -/
  fc : SMap Nat := []
  /-- link width line: half width, 1 bit (13 R367). Reset 0. -/
  narrow : Bool := false
  /-- FCLK at which the width line last changed: the new width applies from the second FCLK after it (13 R367). Reset: none. -/
  widthAt : Option Nat := none
  /-- flits sent in the present 4 us window (13 R367). Reset 0. -/
  winFlits : Nat := 0
  /-- FCLK of the last flit sent, for half width (13 R367). Reset: none. -/
  lastSend : Option Nat := none
  /-- credits returned in FCLK `backAt`, by downstream VC: usable from the next FCLK on (04 R114). Reset: none. -/
  backAt : Nat := 0
  back : SMap Nat := []
deriving DecidableEq, Repr

/-- A trace or telemetry record as the one-flit TRC packet that carries it (02 R46, R64, R65; 18 R469), and the ring it is
meant for. -/
structure TrcPkt where
  /-- ring: TEL0, TEL1 or TRC0 (15 R397). -/
  ring : Nat
  /-- header, 128 bits: class TRC, the record's type as opcode, tier Background, TAG zero (02 R44, R46, R65). -/
  hdr : BitVec 128
  /-- payload: byte i is byte i of the ring record (18 R469). -/
  pay : BitVec 512
deriving DecidableEq, Repr

/-- Telemetry settings and samples of an element (18). -/
structure Tel where
  /-- bandwidth window in us, 20 bits (18 R472). Reset 1,000. -/
  window : Nat := 1000
  /-- window waiting for the end of the one in progress (18 R472). Reset: none. -/
  nextWindow : Option Nat := none
  /-- ENABLE, 2 bits (18 R472). Reset 0. -/
  enable : Nat := 0
  /-- RING, 1 bit: TEL0 or TEL1 (18 R472). Reset 0. -/
  ring : Nat := 0
  /-- RING stored in profile 11 for the time after it (13 R374; 16 R441). Reset: none. -/
  nextRing : Option Nat := none
  /-- sampling restricted to this local input port (18 R474). Reset: none. -/
  onlyPort : Option Nat := none
  /-- flit counts of the window: OUT at 0-5, IN at 6-11 (18 R473). Reset 0. -/
  counts : SMap Nat := []
  /-- LFSR, 16 bits (18 R474). Reset: source index plus one (held as none until it first steps). -/
  lfsr : Option Nat := none
  /-- rotation of the sampled VC (18 R474). Reset 0. -/
  rot : Nat := 0
  /-- samples held, oldest first, 32 bits each (18 R475). Reset: none. -/
  samples : List Nat := []
  /-- Fabric Time of the first sample's period, and periods spanned (18 R475). Reset 0. -/
  start : Nat := 0
  periods : Nat := 0
  /-- records waiting, up to 4, oldest first (18 R469). Reset: none. -/
  queue : List TrcPkt := []
  /-- records overwritten since the last record left, 7 bits (18 R470). Reset 0. -/
  dropped : Nat := 0
  /-- TRC packets discarded here (11 R334): R334 names no counter, and no command reads this one. Reset 0. -/
  trcLost : Nat := 0
deriving DecidableEq, Repr

/-- A mesh element: a router, the mesh and link sides of an adapter or Pass port, or the fabric side of an NI or die agent.
Ports of a router are numbered N 0, E 1, S 2, W 3, L0 4, L1 5 (04 R124); of an adapter, its mesh ports 0-3 and its link 7. -/
structure Elem where
  /-- input VC buffers, by port x 32 + VC (03 R79). Reset: empty. -/
  ins : SMap Vc := []
  /-- output ports (04 R117). Reset: each as `Out`. -/
  outs : SMap Out := []
  /-- turn forecast last sent for each input VC, by port x 32 + VC (04 R133). Reset 0. -/
  fcSent : SMap Nat := []
  /-- changed forecasts to send, oldest first: port x 32 + VC (04 R133). Reset: none. -/
  fcDue : List Nat := []
  /-- VC whose turn it is in the rotation of unchanged forecasts, by port (04 R133). Reset 0. -/
  fcRot : SMap Nat := []
  /-- FCLK of the last STARVE message (04 R130). Reset: none. -/
  lastStarve : Option Nat := none
  /-- FCLK of the last CHECK_CORRECTED record, by input port (02 R77). Reset: none. -/
  lastCorr : SMap Nat := []
  /-- event counters, 48 bits each (18 R461, R466-R468). Reset 0. -/
  ctr : SMap Nat := []
  /-- OVF bits of the counters (18 R462). Reset 0. -/
  ovf : SMap Bool := []
  /-- wraps of each counter since it was cleared (18 R476). Reset 0. -/
  wraps : SMap Nat := []
  /-- wraps already reported in a wrap record (18 R476). Reset 0. -/
  wrapRep : SMap Nat := []
  /-- FCLK from which counters 62 and 63 of a router count while its domain is On; the FCLKs counted while it rests (18 R463,
  R466). Reset 0. -/
  onFrom : Nat := 0
  /-- route-table entries that differ from the computed ones, by epoch x 256 + index, 16 bits (03 R98). Reset: none,
  hence the built-in content of 03 R101. -/
  tab : SMap Nat := []
  /-- pass, counted from 1, in which a table row was last corrected (12 R354), by table x 131072 + row. Reset 0: in none. -/
  rowHits : SMap Nat := []
  /-- spare rows used, by table (12 R354). Reset 0. -/
  sparesUsed : SMap Nat := []
  /-- times of TABLE_UNCORRECTABLE with no spare row left, by table (12 R354). Reset: none. -/
  uncorrAt : SMap (List Nat) := []
  /-- rows uncorrectable and not reloaded, table x 131072 + row (11 R322). Reset: none. -/
  badRows : List Nat := []
  /-- of an NI or a die agent: FCLK since which a head waits for its local link (13 R367). Reset: none. -/
  headFrom : Option Nat := none
  /-- telemetry settings, samples and queue (18). Reset as `Tel`. -/
  tel : Tel := {}
deriving DecidableEq, Repr

/-! ### Network interface -/

/-- A tag of an NI's tag store (06 R178). An unlisted tag is free. -/
structure Tag where
  /-- quarantined rather than outstanding, 1 bit (02 R69). -/
  quar : Bool := false
  /-- TX_UID recorded, 12 bits (06 R178). -/
  uid : BitVec 12 := 0
  /-- FCLK of injection, or of the start of quarantine (02 R68, R69); none before injection. -/
  since : Option Nat := none
  /-- Fabric Time at the start of quarantine, against which it runs while the domain rests (10 R292). -/
  qft : Nat := 0
  /-- header of the packet that holds the tag. -/
  hdr : BitVec 128 := 0
  /-- profile 8 has sent the packet in two copies, 1 bit (13 R370, R371, R378). Reset 0. -/
  dup : Bool := false
  /-- an INDETERMINATE answer of a duplicated packet is held (13 R371). -/
  heldAbort : Option (BitVec 512) := none
deriving DecidableEq, Repr

/-- A packet in the Tollgate or waiting to be sent by its NI. -/
structure QPkt where
  /-- header; AGE, EPOCH, PART and CAIRN are stamped at injection (02 R40, R41). -/
  hdr : BitVec 128
  /-- payload of each flit. -/
  pays : List (BitVec 512)
  /-- DEST is resolved (06 R181). -/
  resolved : Bool
  /-- TX_UID, 12 bits (06 R172). -/
  uid : BitVec 12 := 0
deriving DecidableEq, Repr

/-- A packet in progress at the Tollgate (05 R141, R158). -/
structure Prog where
  /-- packet being sent. -/
  pkt : QPkt
  /-- its header as stamped at injection. -/
  hdr : BitVec 128
  /-- flits already sent. -/
  sent : Nat
  /-- tier of its queue, or none for MGT and NI-originated packets. -/
  tier : Option Nat
  /-- it has been preempted once and is not preempted again (05 R158). -/
  wasPre : Bool
  /-- output ports it leaves by, one or, for a duplicated packet, both planes (03 R92, R94). -/
  ports : List Nat
  /-- downstream VC it holds (04 R119). -/
  vc : Nat
  /-- which copy of a duplicated packet is left, 0 where both ports send theirs or there is no copy (13 R370). -/
  copy : Nat
deriving DecidableEq, Repr

/-- A gate list (05 R151): GUARD in FCLK, and entries as 32-bit words. -/
structure GateList where
  /-- ENTRIES, 1-256 (05 R151). Reset 1. -/
  entries : Nat := 1
  /-- GUARD, 8 bits (05 R151). Reset 0. -/
  guard : Nat := 0
  /-- the 256 entry words, by index (05 R151). Reset 0x000F_C350 (R153). -/
  words : SMap (BitVec 32) := []
deriving DecidableEq, Repr

/-- The Tollgate of an NI (05). -/
structure Gate where
  /-- the four tier queues of 32 flits (05 R140). Reset: empty. -/
  queue : SMap (List QPkt) := []
  /-- MGT packets waiting to be injected (05 R139). Reset: none. -/
  mgtq : List QPkt := []
  /-- packets the NI originates itself, no Tollgate governing them (05 R141). Reset: none. -/
  ownq : List QPkt := []
  /-- shaper credit, signed, 1/4,096 flit (05 R143). Reset 0. -/
  credit : SMap Int := []
  /-- current rate, 1-4,096 (05 R144, 14 R391). Reset 4,096. -/
  rate : SMap Nat := []
  /-- rate that the present FCLK is charged with, where a new one has been received in it (05 R144, R169). Reset: none. -/
  oldRate : SMap Nat := []
  /-- configured rate, 1-4,096 (14 R391). Reset 4,096. -/
  conf : SMap Nat := []
  /-- rate pinned by the driver, 1 bit a tier (14 R395). Reset 0. -/
  pin : SMap Bool := []
  /-- return value of a rate while the package is in profile 9 (05 R149). Reset: none. -/
  ret : SMap Nat := []
  /-- active gate list (05 R151, R153). -/
  active : GateList := {}
  /-- shadow gate list (05 R151, R153). -/
  shadow : GateList := {}
  /-- base time B of the active list, 64 bits (05 R155). Reset 0. -/
  base : Nat := 0
  /-- pending activation: S, B, and the list as it was activated (05 R161, R162). Reset: none. -/
  pend : Option (Nat × Nat) := none
  /-- S sent by the stewards and not yet received (05 R163). Reset: none. -/
  pendMsg : Option (Nat × Nat) := none
  /-- quiet overlay: start, length in 5 ns, closed-tier mask (05 R166). Reset: none. -/
  quiet : Option (Nat × Nat × Nat) := none
  /-- packet in progress (05 R141). Reset: none. -/
  cur : Option Prog := none
  /-- preempted packet (05 R158). Reset: none. -/
  pre : Option Prog := none
  /-- tier whose flit left in the present FCLK (05 R143). Reset: none. -/
  sentTier : Option Nat := none
  /-- FCLK of the last flit sent, for half width (05 R141). Reset: none. -/
  lastSend : Option Nat := none
deriving DecidableEq, Repr

/-- A packet in a receive buffer or the MSG receive queue of an NI (06 R175, R195). -/
structure RPkt where
  /-- header, 128 bits (02 R40). -/
  hdr : BitVec 128
  /-- payloads that have arrived, 512 bits each (02 R38). -/
  pays : List (BitVec 512)
  /-- its tail has been written. -/
  whole : Bool
  /-- order of arrival, or of the tail's writing for a message (06 R175, R196). -/
  seq : Nat
  /-- RX_UID, 12 bits (06 R172, R178). -/
  uid : BitVec 12 := 0
  /-- input port x 32 + VC it came in by; none for an answer that the NI gives its own unit (06 R208). -/
  key : Option Nat := none
  /-- arrival of its head, Fabric Time (06 R199). -/
  arr : Nat := 0
deriving DecidableEq, Repr

/-- A map-cache entry (06 R188). -/
structure MapEnt where
  /-- granule index, 16 bits (06 R188). -/
  granule : Nat
  /-- map epoch it was filled under, 1 bit. -/
  epoch : Bool
  /-- granule entry, 16 bits (06 R183). -/
  entry : Nat
  /-- the group's 32 slots of 12 bits (06 R189). -/
  slots : List Nat
  /-- way count W, 3 bits (06 R185). -/
  w : Nat
  /-- hash select H, 2 bits (06 R185). -/
  h : Nat
deriving DecidableEq, Repr

/-- A lookup outstanding (06 R188, R190). -/
structure Lookup where
  /-- granule looked up, 16 bits (06 R188). -/
  granule : Nat
  /-- the second lookup, at the alternate bank. -/
  second : Bool
  /-- FCLK at which it was sent. -/
  at_ : Nat
  /-- ADDR looked up. -/
  addr : BitVec 46
deriving DecidableEq, Repr

/-- A lock entry (06 R198). An unlisted entry is FREE. -/
structure Lock where
  /-- BROKEN rather than HELD (06 R198). -/
  broken : Bool
  /-- address locked, 46 bits (06 R198). -/
  addr : BitVec 46
  /-- NodeID of the holder, 16 bits (06 R198). -/
  owner : BitVec 16
  /-- incarnation of the holder, 8 bits (06 R198). -/
  inc : BitVec 8
  /-- lease expiry, Fabric Time (06 R198). -/
  expiry : Nat
deriving DecidableEq, Repr

/-- What an NI hands its unit: a packet delivered, an answer, or an abort given in place of delivery. -/
structure UnitOut where
  /-- header, 128 bits (02 R40). -/
  hdr : BitVec 128
  /-- payloads, 512 bits each (02 R38). -/
  pays : List (BitVec 512)
  /-- RX_UID (06 R172). -/
  uid : BitVec 12
deriving DecidableEq, Repr

/-- A network interface beside its mesh side and Tollgate (06 R170). -/
structure Ni where
  /-- tag store of 1,024 tags (06 R170, R178). Reset: all free. -/
  tags : SMap Tag := []
  /-- answer ledger of 1,024 entries, oldest first: the headers whose SRC and TAG are recorded (06 R206). Reset: empty. -/
  ledger : List (BitVec 128) := []
  /-- map cache of 64 entries, most recently used first (06 R188). Reset: empty. -/
  cache : List MapEnt := []
  /-- lookups outstanding, by tag (06 R188). Reset: none. -/
  lookups : SMap Lookup := []
  /-- route injection epoch, 1 bit (03 R103). Reset 0. -/
  epoch : Bool := false
  /-- map epoch, 1 bit (06 R191). Reset 0. -/
  mapEpoch : Bool := false
  /-- partition, 3 bits (06 R192). Reset 0. -/
  part : Nat := 0
  /-- partition mask, 8 bits (06 R192). Reset 1. -/
  mask : Nat := 1
  /-- receive buffers of REQ, SNP, RSP and DAT, oldest first (06 R175). Reset: empty. -/
  rx : List RPkt := []
  /-- MSG receive queue of 64 messages (06 R195). Reset: empty. -/
  msgq : List RPkt := []
  /-- order counter of arrivals (06 R175, R196). Reset 0. -/
  seq : Nat := 0
  /-- transmit credits that the unit has taken and not got back, by tier (06 R174). Reset 0. -/
  txTaken : SMap Nat := []
  /-- FCLK at which the unit port came up: its counters start at 0 there, and the 32 credits of each tier follow, one a UCLK; how many of a
  tier have come, by tier (06 R174). Reset 0. -/
  portFrom : Nat := 0
  txIn : SMap Nat := []
  /-- LOCK_RELEASEs of stray grants that wait for a reserved tag: the grant's header and incarnation byte (06 R204). Reset: none. -/
  rels : List (BitVec 128 × Nat) := []
  /-- the unit port is up (06 R174, R175; 07 R230). Reset: up. -/
  portUp : Bool := true
  /-- receive credits, by class (06 R175). Reset 0. -/
  rxCred : SMap Nat := []
  /-- lock keeper of 16 entries (06 R198). Reset: all FREE. -/
  locks : SMap Lock := []
  /-- FCLK until which every grant is LOCK_BROKEN (06 R203). Reset 0. -/
  amnesiaTo : Nat := 0
  /-- incarnation, 8 bits (06 R202). Reset 0, DESIGN CHOICE. -/
  inc : BitVec 8 := 0
  /-- duplicate filter of 1,024 pairs, oldest first: SRC, TAG, FCLK of entry (13 R370). Reset: empty. -/
  dupf : List (BitVec 16 × BitVec 10 × Nat) := []
  /-- cairn K, 5 bits, and CLASSMASK, 6 bits (18 R477). Reset 0 and 0x3F. -/
  cairnK : Nat := 0
  cairnMask : Nat := 0x3F
  /-- values stored for the time after profile 11 (13 R374). Reset: none. -/
  cairnNext : Option (Nat × Nat) := none
  /-- packets of admitted classes injected since the last cairn turn (18 R477). Reset 0. -/
  cairnCnt : Nat := 0
  /-- rate limits: FCLK of the last record by kind (02 R69, R70; 05 R159; 06 R184). Reset: none. -/
  lastEv : SMap Nat := []
  /-- the NI is fenced as a whole (11 R335). Reset 0. -/
  fenced : Bool := false
  /-- first ordered packet of the new epoch held back while ordered packets of the old are unanswered (02 R74). Reset 0. -/
  oldOrdered : List Nat := []
  /-- packet being discarded up to its tail by the receive side, by input port x 32 + VC. Reset: none. -/
  dropRx : List Nat := []
  /-- what was handed to the unit, newest first (an output). Reset: none. -/
  toUnit : List UnitOut := []
deriving DecidableEq, Repr

/-- A Ford (07 R226): the reset notices of its two sides, the stall monitor, and what its data paths hold while it waits: at all other times
what enters a data path has crossed it within its 2 to 3 cycles (R227). The 8 flits between an adapter's clocks, the 4 frames of its link side
and the 32 flits of a Pass port are part of the buffer or frame queue before them (notes/assumptions/88.md). -/
structure Ford where
  /-- RST_REQ of the far side, and RST_ACK of the side in the fabric (07 R230). Reset 0. -/
  req : Bool := false
  ack : Bool := false
  /-- RST_REQ of the side in the fabric, and RST_ACK of the far side (07 R230, R232). Reset 0. -/
  reqF : Bool := false
  ackF : Bool := false
  /-- the far side's clock is stopped (07 R228). Reset 0. -/
  stopped : Bool := false
  /-- FORD_STALL was raised in this stall (07 R228). Reset 0. -/
  stalled : Bool := false
  /-- packets from the unit, up to 8 flits, that wait for the NI's domain to be On (07 R226, R229). Reset: none. -/
  up : List UnitPkt := []
  /-- packets for the unit, up to 8 flits, while its clock is stopped (07 R226, R228). Reset: none. -/
  down : List UnitOut := []
  /-- requests for a steward, up to 8 flits, while its clock is stopped: their headers. Reset: none. -/
  reqs : List (BitVec 128) := []
  /-- records for a telemetry agent, up to 16, while its clock is stopped. Reset: none. -/
  recs : List TrcPkt := []
  /-- stalls counted (07 R228). Reset 0. -/
  stalls : Nat := 0
deriving DecidableEq, Repr

/-! ### Links and Pass ports -/

/-- States of a link (08 R248). -/
inductive LinkSt where
  | down | phyTrain | param | creditInit | timeAlign | ready | active | quiet | retained | retrain
deriving DecidableEq, Repr

/-- One side of a link: the link layer of a Col or Ridge adapter or of a Pass port (08, 09). -/
structure Link where
  /-- state, 4 bits (08 R248). Reset DOWN; PHY_TRAIN follows at reset release. -/
  st : LinkSt := .phyTrain
  /-- FCLK at which the present state was entered. Reset 0. -/
  since : Nat := 0
  /-- training attempts failed (08 R248). Reset 0. -/
  attempts : Nat := 0
  /-- a PARAM of the far side is held (08 R250). Reset: none. -/
  far : Option Param := none
  /-- adopted die, link and package ID of a compute-die side (08 R250). Reset: unknown. -/
  ident : Option (Nat × Nat × Nat) := none
  /-- SEQ of the next DATA frame, 12 bits (08 R242). Reset 0. -/
  next : Nat := 0
  /-- replay buffer, oldest first (08 R242, R243; 64 or 256 frames). Reset: empty. -/
  replay : List Frame := []
  /-- frames of the replay buffer still to be resent (08 R243). Reset 0. -/
  resend : Nat := 0
  /-- expected SEQ E, 12 bits (08 R242). Reset 0. -/
  expect : Nat := 0
  /-- a DATA frame has been accepted, so that ACK is E - 1 rather than 0xFFF (08 R236). Reset 0. -/
  accepted : Bool := false
  /-- a NAK is outstanding (08 R243). Reset 0. -/
  nakOut : Bool := false
  /-- a NAK is due at the next frame boundary (08 R243). Reset 0. -/
  nakDue : Bool := false
  /-- FCLK since which the oldest unacknowledged frame waits (08 R243). Reset 0. -/
  ackFrom : Nat := 0
  /-- replays in a row without ACK advancing (08 R244). Reset 0. -/
  replays : Nat := 0
  /-- FCLK of the last RETRAIN (08 R244) and of the last LINK_REPLAY record (08 R243). Reset: none. -/
  lastRetrain : Option Nat := none
  lastReplayEv : Option Nat := none
  /-- dedicated depths the far side advertised, by VC, and its pool (08 R247). Reset: 03 R79 depths, pool 0. -/
  depths : SMap Nat := []
  pool : Nat := 0
  /-- dedicated credits taken, by VC, and pool credits taken (08 R245). Reset 0. -/
  used : SMap Nat := []
  poolUsed : Nat := 0
  /-- credit returns pending, oldest first: VC or 31 (08 R246). Reset: none. -/
  returns : List Nat := []
  /-- frames on their way to this side, oldest first. Reset: none. -/
  inbox : List Frame := []
  /-- ENTER_REQ sent and not acknowledged; ENTER_ACK due (08 R257). Reset 0. -/
  pmReq : Bool := false
  pmAck : Bool := false
  /-- an IDLE frame with ENTER_REQ has left (08 R257). Reset 0. -/
  pmOut : Bool := false
  /-- at CREDIT_INIT: the far side's content is held; an IDLE of the far side has echoed the own content; the next frame echoes rather than
  carries content (08 R248 step 3). Reset 0. -/
  ciGot : Bool := false
  ciEcho : Bool := false
  ciTurn : Bool := false
  /-- in RETRAIN: the module has trained, and READY frames are sent (08 R244). Reset 0. -/
  retrained : Bool := false
  /-- FCLK of the first wake message of the present wake (08 R258). Reset: none. -/
  wakeFrom : Option Nat := none
  /-- corrections per physical lane in the present window (08 R255, 09 R271). Reset 0. -/
  laneCorr : SMap Nat := []
  /-- physical lane of each logical lane that has moved (08 R254). Reset: lane i on i. -/
  laneMap : SMap Nat := []
  /-- redundant lanes retired by the self-test of profile 11 (13 R374), and lanes suspect awaiting repair (08 R255). Reset: none. -/
  badSpares : List Nat := []
  suspects : List Nat := []
  /-- eye offset of each physical lane, signed, in mUI (13 R374; 16 R438). Reset 0. -/
  eye : SMap Int := []
  /-- quiet window: start T (05 R167), and whether calibration is complete. Reset: none. -/
  quietAt : Option Nat := none
  calDone : Bool := false
  /-- old-epoch packets are discarded at the receiving side since a drain timeout (08 R260): the old epoch. Reset: none. -/
  dropEpoch : Option Bool := none
deriving DecidableEq, Repr

/-- A time exchange of a time link (07 R214; 08 R251-R253), by compute die. -/
structure TimeX where
  /-- exchange number, 8 bits (08 R251). Reset 0. -/
  num : Nat := 0
  /-- an exchange runs; TRAIN set; measuring only (08 R252, R253). Reset 0. -/
  busy : Bool := false
  train : Bool := false
  /-- T1 to T4 recorded (08 R251). Reset 0. -/
  t1 : Nat := 0
  t2 : Nat := 0
  t3 : Nat := 0
  t4 : Nat := 0
  /-- the apply boundary and k of TIME_REQ (08 R251). Reset 0. -/
  boundary : Nat := 0
  k : Int := 0
  /-- theta of the last exchange (08 R252). Reset 0. -/
  theta : Int := 0
  /-- tries made of this exchange (08 R253). Reset 0. -/
  tries : Nat := 0
  /-- FCLK of the last try (08 R253). Reset 0. -/
  at_ : Nat := 0
  /-- step of 1: REQ sent, 2: RSP sent, 3: RES sent. Reset 0. -/
  phase : Nat := 0
  /-- midpoint whose exchange waits for the link to be ACTIVE, and the midpoint last served (08 R252, R262). Reset: none, 0. -/
  due : Option Nat := none
  mark : Nat := 0
deriving DecidableEq, Repr

/-- LED codes of 17 R459 (ATTN, ACT). -/
inductive Led where
  | off | on | slow | fast
deriving DecidableEq, Repr

/-- A Pass port beside its link layer (09). -/
structure Pass where
  /-- STATE, 4 bits (09 R281, 17 R459). Reset 0. -/
  st : Nat := 0
  /-- filtered PRESENT_N, ATTN_BTN_N and WAKE_N asserted (09 R278, 17 R459). Reset 0. -/
  present : Bool := false
  button : Bool := false
  wake : Bool := false
  /-- FCLK from which the filtered button is held (09 R279). Reset 0. -/
  pressAt : Nat := 0
  /-- CBL_PWR_EN (09 R278). Reset low. -/
  pwr : Bool := false
  /-- ATTN_LED and ACT_LED (09 R281, 17 R459). Reset off. -/
  attn : Led := .off
  act : Led := .off
  /-- REFUSAL, 8 bits (17 R459). Reset 0. -/
  refusal : Nat := 0
  /-- IGNORED, 16 bits (17 R459). Reset 0. -/
  ignored : Nat := 0
  /-- PASS_FILTER, 32 bits (17 R458). Reset PRESENT 100, BUTTON 20, MAXPRESS 5. -/
  filter : BitVec 32 := 0x190A1400#32
  /-- a stuck button has not been released yet (09 R279). Reset 0. -/
  stuck : Bool := false
  /-- step of R273 within BRINGUP: 1 CABLE to 6 JOIN (09 R273). Reset 0. -/
  step : Nat := 0
  /-- FCLK at which the present step or state began. Reset 0. -/
  since : Nat := 0
  /-- failed CMIS reads in a row (09 R280). Reset 0. -/
  cmisFails : Nat := 0
  /-- a CABLE_ALERT stands since (09 R281). Reset: none. -/
  alertAt : Option Nat := none
  /-- the port is to open without a further press; it serves a returning cable (09 R282, R283). Reset 0. -/
  openNext : Bool := false
  returning : Bool := false
  /-- service was ordered by command rather than by press (09 R282). Reset 0. -/
  byCmd : Bool := false
  /-- far package ID, SERIAL and port (09 R273). Reset: none. -/
  far : Option (Nat × Nat) := none
  /-- held out of routing by 01 R35. Reset 0. -/
  rook : Bool := false
  /-- cause of a CABLE_PULLED or PASS_PEER_CLOSED fence: 0 none, 1 pulled, 2 peer closed, 3 peer closed and another far SERIAL found,
  which waits for a press (09 R284). Reset 0. -/
  fenceCause : Nat := 0
  /-- lane repairs since the cable was fitted (16 R443). Reset 0. -/
  laneRepairs : Nat := 0
  /-- exit filter of 256 pairs, oldest first: SRC, TAG, FCLK (03 R95). Reset: empty. -/
  exitf : List (BitVec 16 × BitVec 10 × Nat) := []
  /-- ALIGN number last sent and received, 16 bits (09 R268). Reset 0. -/
  alignTx : Nat := 0
  alignRx : Nat := 0
  /-- lane map in force, physical lane to code of R268, receive and send side (09 R268). Reset: lane p carries p, spares
  16 and 17 idle. -/
  mapTx : SMap Nat := []
  mapRx : SMap Nat := []
  /-- proposed map and the ALIGN number from which it applies; MAPACK received (09 R268, R270). Reset: none. -/
  prop : Option (List Nat × Nat) := none
  mapAck : Bool := false
  /-- MAPACK sent: the far side's proposal is held (09 R268). Reset 0. -/
  ackDue : Bool := false
  /-- SHADOWOK of the reverse direction (09 R268). Reset 0. -/
  shadowOk : Bool := false
  /-- frames sent since the last ALIGN, up to 27 (09 R263). Reset 0. -/
  sinceAlign : Nat := 0
  /-- the cable's module was read and is ready (09 R273 step 1); its flags are to be read (09 R280). Reset 0. -/
  module : Bool := false
  flagRead : Bool := false
  /-- rotation: logical lane next; step 1-6, 7 the return to the map before, or 8 a lane repair, and FCLK of the step (09 R270, R271).
  Reset 0, none. -/
  rotLane : Nat := 0
  rotStep : Option (Nat × Nat) := none
  /-- the rotations serve a `CALIBRATE` (12 R360): lanes left. Reset 0. -/
  calLeft : Nat := 0
deriving DecidableEq, Repr

/-- Fabric Time of one die (07 R212-R215). -/
structure Tb where
  /-- integer part, 64 bits (07 R212). Reset 0. -/
  ft : Nat := 0
  /-- fraction, 32 bits (07 R212). Reset 0. -/
  frac : Nat := 0
  /-- the second copies of both (07 R215). Reset 0. -/
  ft2 : Nat := 0
  frac2 : Nat := 0
  /-- correction k, signed, at most 2,147,484 (07 R213). Reset 0. -/
  k : Int := 0
  /-- k loaded, and the apply boundary at which it applies (07 R213). Reset: none. -/
  kNext : Option (Nat × Int) := none
  /-- a k loaded after the midpoint while the one before waits for its boundary (07 R213). Reset: none. -/
  kLater : Option (Nat × Int) := none
  /-- step of a compute-die base due at the next apply boundary (08 R252). Reset 0. -/
  step : Int := 0
  /-- the apply boundary last passed (07 R213). Reset 0. -/
  applied : Nat := 0
deriving DecidableEq, Repr

/-- A time exchange with the parent package (07 R219). -/
structure PassX where
  /-- exchange number (07 R219). -/
  num : Nat
  /-- t1, Fabric Time of the request (07 R219). -/
  t1 : Nat
  /-- FCLK of the request (07 R220). -/
  at_ : Nat
deriving DecidableEq, Repr

/-- The package's time keeping (07 R218-R225, 17 R452). -/
structure TimeSys where
  /-- TIME_STATUS.LOCKED (07 R222). Reset 0. -/
  locked : Bool := false
  /-- TIME_STATUS.LEADER (09 R276). Reset 1. -/
  leader : Bool := true
  /-- TIME_STATUS.HOLDOVER (07 R221). Reset 0. -/
  holdover : Bool := false
  /-- TIME_STATUS.PPSARMED, V, and the last accepted PPS edge in FCLK (07 R223). Reset 0, none. -/
  ppsArmed : Bool := false
  ppsV : Nat := 0
  ppsLast : Option Nat := none
  /-- a `TIME_SET` with PPS waits since (07 R232): value and FCLK. Reset: none. -/
  ppsWait : Option (Nat × Nat) := none
  /-- FCLK of the last PPS_REJECTED and TIME_RATE_LIMIT events (07 R223, R221). Reset: none. -/
  ppsRejAt : Option Nat := none
  rateLimAt : Option Nat := none
  /-- parent port (07 R218). Reset: none. -/
  parent : Option Nat := none
  /-- the parent changed since the last exchange, so that the next is accepted (07 R220). Reset 1. -/
  fresh : Bool := true
  /-- last accepted d and theta, f, and f as it stood at the last apply boundary (07 R221, 17 R452). Reset 0. -/
  d : Nat := 0
  theta : Int := 0
  f : Int := 0
  fOld : Int := 0
  /-- the last 16 exchanges of each port, newest first: d of an accepted one (07 R220). Reset: none. -/
  ds : SMap (List (Option Nat)) := []
  /-- rejected and lost exchanges in a row, and counted (07 R220). Reset 0. -/
  badRun : Nat := 0
  bad : Nat := 0
  /-- exchange in flight, and the next exchange number (07 R219). Reset: none, 0. -/
  exch : Option PassX := none
  exchNum : Nat := 0
  /-- an exchange is due and waits for the parent port to be up (09 R285). Reset 0. -/
  exchDue : Bool := false
  /-- FCLK of the last accepted exchange (07 R221). Reset 0. -/
  lastAcc : Nat := 0
  /-- an exchange was accepted since the last apply boundary (07 R221). Reset 0. -/
  accSince : Bool := false
  /-- step, value and adjustment pending for the next apply boundary (07 R225, R232; 16 R442). Reset: none. -/
  pendStep : Int := 0
  /-- the pending step is one of the loop, which raises TIME_STEP whatever its size (07 R221). Reset 0. -/
  loopStep : Bool := false
  pendSet : Option Nat := none
  pendAdj : Int := 0
  /-- adjustments accepted after the midpoint, due one apply boundary later (07 R213, R232). Reset 0. -/
  adjLater : Int := 0
  /-- TIME_CTRL.PRIO, 4 bits (17 R452). Reset 8. -/
  prio : Nat := 8
deriving DecidableEq, Repr

/-- The time stamp pins and registers (07 R224, 17 R452). -/
structure TsPins where
  /-- TIME_TS_CAPTURE, 64 bits. Reset 0. -/
  capture : Nat := 0
  /-- TIME_TS_COMPARE, 64 bits. Reset all ones. -/
  compare : Nat := 0xFFFFFFFFFFFFFFFF
  /-- TS_OUT has not yet pulsed for the value in TIME_TS_COMPARE (17 R453). Reset 1. -/
  armed : Bool := true
  /-- TIME_TS_COUNT, 32 bits. Reset 0. -/
  count : Nat := 0
  /-- capture waiting for its TS_CAPTURE event (07 R224). Reset: none. -/
  waiting : Option Nat := none
  /-- Fabric Time of the last TS_CAPTURE event, and FCLK of the last TS_IN edge (07 R224). Reset: none. -/
  lastEv : Option Nat := none
  lastEdge : Option Nat := none
  /-- Fabric Time until which PPS_OUT, and TS_OUT, is high (07 R224). Reset: 0, low. -/
  ppsOutTo : Nat := 0
  tsOutTo : Nat := 0
  /-- multiple of a second at which PPS_OUT was last driven (07 R224). Reset: none. -/
  ppsAt : Option Nat := none
  /-- latched high half of TIME_NOW, 32 bits (07 R217). Reset 0, DESIGN CHOICE; and whether it is latched. -/
  nowHigh : Nat := 0
  /-- latched high half of TIME_TS_CAPTURE, 32 bits (17 R446). Reset 0, DESIGN CHOICE. -/
  capHigh : Nat := 0
deriving DecidableEq, Repr

/-! ### Power domains, regions, stewards -/

/-- A domain controller (10). -/
structure Dom where
  /-- state code 0-8 (10 R291). Reset 0, ON. -/
  st : Nat := 0
  /-- idle timer set by `IDLE_TIMER_SET`, in us (10 R293). Reset: none. -/
  timer : Option Nat := none
  /-- FCLK from which the domain counts as idle (10 R293). Reset 0. -/
  idleFrom : Nat := 0
  /-- FCLK at which the present entry or wake step began (10 R294, R299). Reset 0. -/
  since : Nat := 0
  /-- committed and not yet armed (10 R298). Reset 0. -/
  unarmed : Bool := false
  /-- entries aborted (10 R295). Reset 0. -/
  aborts : Nat := 0
  /-- last-wake record: WAKE_TIME, SOURCE, DETAIL, FROM, LATENCY (10 R302). Reset 0, DESIGN CHOICE. -/
  wakeTime : Nat := 0
  wakeSrc : Nat := 0
  wakeDetail : Nat := 0
  wakeFrom : Nat := 0
  wakeLat : Nat := 0
  /-- ENTRIES, 16 bits (10 R302). Reset 0. -/
  entries : Nat := 0
  /-- stale banks awaiting reload (10 R304, R305). Reset: none. -/
  stale : List Nat := []
  /-- the banks that the wake found to need a reload, which a new primary starts anew (14 R384). Reset: none. -/
  found : List Nat := []
  /-- stewards hold no golden copy of the stale bank (10 R305). Reset 0. -/
  noGold : Bool := false
  /-- target of a `DOMAIN_POWER` in progress, or waiting for an automatic entry or a wake to end (10 R307, R311): state code. Reset: none. -/
  target : Option Nat := none
  /-- routes exclude the domain that is ordered Off: its drain has begun (10 R307). Reset 0. -/
  excl : Bool := false
  /-- the domain is On after Off and not yet in routing (10 R300). Reset 0. -/
  offRoute : Bool := false
  /-- body bias in mV as applied (10 R290). Reset 0. -/
  bias : Int := 0
  /-- retention signature of each bank, computed at SIGNING, by its name (10 R289, R303; notes/assumptions/21.md). Reset: none listed. -/
  sigs : SMap (BitVec 32) := []
deriving DecidableEq, Repr

/-- A region (01 R30; 05 R146; 14). -/
structure Region where
  /-- the four budgets (05 R146). Reset: the maximum (106,496 or 81,920). -/
  budget : SMap Nat := []
  /-- return values of the budgets (05 R149). Reset: none. -/
  ret : SMap Nat := []
  /-- the fraction f by which the budgets are scaled, in quarters (05 R149). Reset 4. -/
  frac : Nat := 4
  /-- FCLK of the last lowering and of the last STARVE (14 R391, R392). Reset: none. -/
  lastLower : Option Nat := none
  lastStarve : Option Nat := none
  /-- FCLK of the last rise (14 R392). Reset 0. -/
  lastRise : Nat := 0
  /-- drain report on its way to the lead: the query's round and the packets counted (03 R103, R104). Reset: none. -/
  report : Option (Nat × Nat) := none
  /-- cairn slots in use: FCLK of injection (18 R477). Reset: none. -/
  cairns : List Nat := []
  /-- VDD_FAB_REQ, 6 bits (21 R503). Reset 20. -/
  vreq : Nat := 20
  /-- VDD_FAB_OK input, 1 bit (21 R503). Reset 1, DESIGN CHOICE. -/
  vok : Bool := true
  /-- immediate settings of a profile switch not yet applied (13 R376). Reset 0. -/
  applying : Bool := false
  /-- I/O-die map bank out of lookup service (11 R322). Reset 0. -/
  bankOut : Bool := false
  /-- map epoch the bank answers from, 1 bit (16 R430). Reset 0. -/
  bankEpoch : Bool := false
  /-- the bank has copied the new epoch into its idle copy (16 R430). Reset 1. -/
  bankCopied : Bool := true
  /-- lookups waiting at the bank, oldest first: requester's header (06 R189). Reset: none. -/
  lookq : List (BitVec 128) := []
  /-- FCLK of the last REGION_ERROR_RISE, and recent corrected-error sources: source, FCLK (11 R339). Reset: none. -/
  riseAt : Option Nat := none
  rise : List (Nat × Nat) := []
deriving DecidableEq, Repr

/-- A steward (14). -/
structure Stw where
  /-- boot self-test: 0 not done, 1 passed, 2 failed (19 R485). Reset 0. -/
  self : Nat := 0
  /-- runs the steward image rather than its boot ROM (14 R389). Reset 0. -/
  image : Bool := false
  /-- BUILD of the image it runs, 64 bits (14 R387). Reset: none; reads as a free value. -/
  build : Option (BitVec 64) := none
  /-- lost, and not yet readmitted (12 R358). Reset 0. -/
  lost : Bool := false
  /-- heartbeats of its buddy missed in a row (12 R358): the row HEARTBEAT_MISS stands for the third, which loses the buddy and
  ends the count, and no row shows the first two. Reset 0. -/
  missed : Nat := 0
  /-- HEARTBEAT sequence number, 16 bits; heartbeats sent and not yet received, oldest first: sequence number and CRC; and the sequence number
  and CRC of the last one received, its heartbeat record (14 R382, R384). Reset 0, none, none. -/
  hbSeq : Nat := 0
  hbSent : List (Nat × BitVec 32) := []
  hbGot : Option (Nat × BitVec 32) := none
  /-- Fabric Time at which its buddy declared it lost, and whether it was the lead then (14 R381, R383). Reset: none, 0. -/
  lostAt : Option Nat := none
  wasLead : Bool := false
  /-- instruction and data SRAM (14 R379): the segments of the image that they hold, length and role mask; the golden copies in data SRAM are
  `Block.gold`. Reset: none. -/
  iram : List (Nat × Nat) := []
  dram : List (Nat × Nat) := []
  /-- heartbeats in a row whose golden CRC differs from the buddy's (14 R382). Reset 0. -/
  crcDiff : Nat := 0
  /-- CRC-32 of the golden copies held, `Config.crcOf` of them since the first change (14 R382, R385). Reset 0, DESIGN CHOICE. -/
  crc : BitVec 32 := 0
  /-- restart announced since (14 R389). Reset: none. -/
  announced : Option Nat := none
  /-- times its segments failed their CRC (14 R389). Reset 0. -/
  segFails : Nat := 0
  /-- the golden copies of the pair's other steward were fetched (14 R382). Reset 0. -/
  fetched : Nat := 0
deriving DecidableEq, Repr

/-- The golden copy of the tables of one router, NI or region (14 R385). The CRCs kept of a map bank are functions of its contents and are not
listed; the computed part of a route table is the epoch's `Facts`. -/
structure Gold where
  /-- a router's written entries, of both epochs, as `Elem.tab`. -/
  tab : SMap Nat := []
  /-- an NI's gate lists, base time and pending switch instant. -/
  active : GateList := {}
  shadow : GateList := {}
  base : Nat := 0
  pend : Option (Nat × Nat) := none
  /-- its configured and current rates, return values and pin flags. -/
  conf : SMap Nat := []
  rate : SMap Nat := []
  ret : SMap Nat := []
  pin : SMap Bool := []
  /-- its partition, mask and incarnation. -/
  part : Nat := 0
  mask : Nat := 1
  inc : BitVec 8 := 0
  /-- a region's budgets and their return values, and the granule masks. -/
  budget : SMap Nat := []
  budgetRet : SMap Nat := []
  masks : SMap Nat := []
deriving DecidableEq, Repr, Inhabited

/-- A repair scope (12 R340, R342), by type and ID. An unlisted scope is ACTIVE with no flag. -/
structure Scope where
  /-- state code 0-7 (12 R342). Reset 0. -/
  st : Nat := 0
  /-- FAULT, HOLD, RETIRED, OFFLINED (12 R342). Reset 0. -/
  fault : Bool := false
  hold : Bool := false
  retired : Bool := false
  offlined : Bool := false
  /-- FORCE of the command that closed it (12 R346). Reset 0. -/
  force : Bool := false
  /-- the detecting element has stopped traffic across the boundary, before the fence lines are driven (11 R318). Reset 0. -/
  stopped : Bool := false
  /-- fault fences in the last 24 h: Fabric Times (12 R349). Reset: none. -/
  fences : List Nat := []
  /-- kind code of the fault (02 R62). Reset 0. -/
  kind : Nat := 0
  /-- FCLK at which the state was entered. Reset 0. -/
  since : Nat := 0
  /-- the sweep of 11 R336 is complete. Reset 0. -/
  swept : Bool := false
  /-- it was widened from a smaller scope (12 R349). Reset 0. -/
  widened : Bool := false
  /-- order of reaching READY (12 R361). Reset 0. -/
  readyNo : Nat := 0
  /-- runs the full test set of `SELFTEST` (12 R345). Reset 0. -/
  selfTest : Bool := false
  /-- tests passed, bit n for code n (16 R435). Reset 0. -/
  passed : Nat := 0
  /-- offset of the retention voltage for the SRAM BIST, signed, in mV (13 R374; 16 R435). Reset 0. -/
  margin : Int := 0
  /-- packets discarded under FORCE (16 R435). Reset 0. -/
  discarded : Nat := 0
  /-- out of ACTIVE as a plane or Plane A region, which counts for profile 9 without a fault (12 R352). Reset 0. -/
  degr : Bool := false
deriving DecidableEq, Repr

/-! ### Watershed -/

/-- A Watershed message (11 R314) and what its record needs beside it. -/
structure Msg where
  /-- source index (11 R314). -/
  src : Nat
  /-- kind code, 8 bits (11 R314, R321). -/
  kind : Nat
  /-- severity, 2 bits (11 R314). -/
  sev : Nat
  /-- NodeID, 16 bits (11 R314). -/
  nodeid : BitVec 16 := 0
  /-- ADDR, 46 bits (11 R314). -/
  addr : BitVec 46 := 0
  /-- Fabric Time of detection. -/
  time : Nat := 0
  /-- DETAIL, 32 bits (11 R314). -/
  detail : BitVec 32 := 0
  /-- forced by WSH_FORCE or FAULT_FORCE (11 R324). -/
  forced : Bool := false
  /-- severity raised by escalation (11 R319). -/
  escalated : Bool := false
  /-- extension beat (11 R314). -/
  ext : Option (BitVec 128) := none
  /-- occurrences not recorded since the last record (11 R326). -/
  count : Nat := 0
  /-- granule fenced (11 R328). -/
  scTy : Nat := 0
  scId : Nat := 0
  /-- profile entered by the reaction, 0xF for none (11 R326). -/
  profile : Nat := 15
  /-- ARRIVAL, I/O-die Fabric Time (11 R326). -/
  arrival : Nat := 0
deriving DecidableEq, Repr

/-- A record written (11 R326), for acknowledgement (11 R332). -/
structure Rec where
  /-- SEQ, 32 bits (11 R326). -/
  seq : Nat
  /-- SEQWRAP (11 R326). -/
  wrap : Bool
  /-- the message it records. -/
  msg : Msg
deriving DecidableEq, Repr

/-- The package collector and the die collectors (11). -/
structure Wsh where
  /-- queue of each die collector, oldest first, up to 64 messages; and the messages of sources that wait for room in it, oldest first (11 R315).
  Reset: empty. -/
  die : SMap (List Msg) := []
  late : SMap (List Msg) := []
  /-- sources that hold their own sticky state since a message of theirs was lost (11 R315). Reset: none. -/
  kept : List Nat := []
  /-- STEWARD_LOST messages of the last 100 us, oldest first (14 R383). Reset: none. -/
  losses : List Msg := []
  /-- messages on their way to the package collector, oldest first (11 R312). Reset: none. -/
  up : List Msg := []
  /-- messages held for ordering (11 R330). Reset: none. -/
  held : List Msg := []
  /-- Containable and Fatal messages for the lead's interrupt, oldest first (11 R318). Reset: none. -/
  lead : List Msg := []
  /-- source, kind and time of messages received, for the second copies (11 R312). Reset: none. -/
  seen : List (Nat × Nat × Nat) := []
  /-- WSH_STICKY, 104 words of 64 bits (11 R323, 17 R454). Reset 0. -/
  sticky : SMap (BitVec 64) := []
  /-- WSH_FORCE, 104 words of 64 bits (11 R324, 17 R454). Reset 0. -/
  force : SMap (BitVec 64) := []
  /-- SEQ of the next record, 32 bits, and SEQWRAP (11 R326). Reset 0, DESIGN CHOICE. -/
  seq : Nat := 0
  wrap : Bool := false
  /-- records that await a ring, oldest first, up to 256 (11 R329). Reset: none. -/
  wait : List Rec := []
  /-- the collector's lost count (11 R329). Reset 0. -/
  lost : Nat := 0
  /-- records not acknowledged, written order (11 R332). Reset: none. -/
  unack : List Rec := []
  /-- WSH_FIRST: VALID and the record (11 R331, 17 R455). Reset 0. -/
  firstValid : Bool := false
  first : Option Rec := none
  /-- WSH_SEVMASK, 64 bits (17 R456). Reset 0. -/
  sevmask : BitVec 64 := 0
  /-- FCLK of the last WSH_SEVMASK message, by severity (17 R456). Reset: none. -/
  sevAt : SMap Nat := []
  /-- FAULT_N is driven to 0b00 by the loss detector of 21 R506. Reset 0. -/
  refLost : Bool := false
  /-- occurrences suppressed since the last record, by source x 256 + kind (11 R326, R329). Reset 0. -/
  supp : SMap Nat := []
  /-- dies whose sideband paths are lost (11 R313). Reset: none. -/
  pathLost : List Nat := []
  /-- interrupts to the stewards of a router's region: region and the starved packet's SRC (04 R130). Reset: none. -/
  starveInt : List (Nat × BitVec 16) := []
deriving DecidableEq, Repr

/-! ### Rings, vectors, commands -/

/-- One ring (15 R400, R401). -/
structure Ring where
  /-- EN, ERR, MARKLOST, MARKVALID (15 R400). Reset 0. -/
  en : Bool := false
  err : Bool := false
  markLost : Bool := false
  markValid : Bool := false
  /-- SEVMASK 4 bits, VECTOR 4 bits, COALESCE 8 bits, LOG2SIZE 5 bits (15 R400). Reset 0. -/
  sevmask : Nat := 0
  vector : Nat := 0
  coalesce : Nat := 0
  log2 : Nat := 0
  /-- BASE, bits 63:12 (15 R401). Reset 0. -/
  base : BitVec 64 := 0
  /-- PROD, CONS, REL, MARK, 17 bits each (15 R401). Reset 0. -/
  prod : Nat := 0
  cons : Nat := 0
  rel : Nat := 0
  mark : Nat := 0
  /-- STALE in us, 20 bits (15 R401). Reset 1,000. -/
  stale : Nat := 1000
  /-- COUNT of lost entries, 32 bits (15 R401). Reset 0. -/
  lost : Nat := 0
  /-- PERMIT, 32 bits, and whether it is locked (15 R401). Reset all ones, unlocked. -/
  permit : BitVec 32 := 0xFFFFFFFF#32
  permitLocked : Bool := false
  /-- ARMED (15 R415). Reset 0. -/
  armed : Bool := false
  /-- FCLK from which the stale count runs (15 R416). Reset 0. -/
  staleFrom : Nat := 0
  /-- completion entries reserved by commands in flight (15 R405). Reset 0. -/
  reserved : Nat := 0
deriving DecidableEq, Repr

/-- An interrupt vector (15 R414). -/
structure Vec where
  /-- ADDR, 64 bits with bits 1:0 zero. Reset 0. -/
  addr : BitVec 64 := 0
  /-- DATA, 32 bits. Reset 0. -/
  data : BitVec 32 := 0
  /-- MASK. Reset 1. -/
  mask : Bool := true
  /-- PENDING. Reset 0. -/
  pending : Bool := false
deriving DecidableEq, Repr

/-- What the block writes into host memory (15 R398, R399). -/
inductive HostOut where
  /-- a ring entry: ring, index, its bytes -/
  | entry (ring index : Nat) (bytes : List Byte)
  /-- an answer buffer: address, its bytes -/
  | buffer (addr : BitVec 64) (bytes : List Byte)
  /-- an interrupt message: vector, address, data -/
  | irq (vec : Nat) (addr : BitVec 64) (data : BitVec 32)
deriving DecidableEq, Repr

/-- A command accepted and not completed (15 R406). -/
structure Flight where
  /-- command ring (15 R407). -/
  ring : Nat
  /-- index of its descriptor (15 R407). -/
  index : Nat
  /-- opcode, 8 bits (16 R420). -/
  opc : Nat
  /-- TAG, 16 bits (16 R421). -/
  tag : Nat
  /-- NOTIFY, 1 bit (16 R421). -/
  notify : Bool
  /-- SCOPE_TYPE, 8 bits (16 R421). -/
  scTy : Nat
  /-- SCOPE_ID, 32 bits (16 R421). -/
  scId : Nat
  /-- arguments its completion needs. -/
  a : Nat := 0
  /-- a second argument of its completion. -/
  b : Nat := 0
  /-- FCLK of acceptance. -/
  at_ : Nat := 0
deriving DecidableEq, Repr

/-- The route commit in flight (03 R103). -/
structure Commit where
  /-- why: 0 driver command, 1 Degraded, 2 readmission, 3 leaving profile 9, 4 profile switch, 5 Pass service, 6 routes that
  exclude a scope about to close (12 R343), 7 other steward commit. -/
  why : Nat
  /-- new epoch. -/
  epoch : Bool
  /-- receivers that have not acknowledged, by source index (03 R103 step 3). -/
  waitAck : List Nat
  /-- receivers that have not received EPOCH_COMMIT (03 R103 step 2). -/
  waitRcv : List Nat
  /-- commit point reached at this FCLK (03 R103 step 4). -/
  point : Option Nat
  /-- round of drain queries in progress, in us after the commit point; what each region's counter read in it; the regions that have not
  reported zero in it (03 R103 steps 5, 6). -/
  round : Option Nat := none
  counts : SMap Nat := []
  waitDrain : List Nat
  /-- packets discarded at the drain timeout. -/
  discarded : Nat
  /-- scope readmitted by it, as type x 65536 + ID. -/
  scope : Option Nat
  /-- profile to be in force with it. -/
  profile : Nat
  /-- domains whose change of power it takes into account: on their way to Off, or back from it (10 R300, R307). -/
  doms : List Nat := []
deriving DecidableEq, Repr

/-- Facts from which the route tables of one epoch are computed (03 R85-R97). -/
structure Facts where
  /-- built-in content (03 R101). -/
  builtin : Bool := true
  /-- package ID. -/
  pkg : Nat := 0
  /-- profile governing the epoch (13 R363). Reset 0. -/
  profile : Nat := 0
  /-- dies whose escape Col is Col 1 (03 R87). -/
  esc1 : List Nat := []
  /-- Col links not in service. -/
  colsOut : List Nat := []
  /-- ORDER of each die that is not XY: die x 4 + order (03 R85). -/
  orders : SMap Nat := []
  /-- detouring dies: die and neighbour (03 R90). -/
  detour : SMap Nat := []
  /-- dies unreachable from off the die (03 R90). -/
  unreach : List Nat := []
  /-- Ridges out of service (03 R89). Reset: all, no Ridge route exists under the built-in tables. -/
  ridgesOut : List Nat := List.range 12
  /-- planes that carry traffic (03 R93). -/
  planeA : Bool := true
  planeB : Bool := true
  /-- packages reachable, with the Pass ports that lead there, lowest first, and whether by two hops (03 R96). -/
  pass : SMap (List Nat × Bool) := []
deriving DecidableEq, Repr

/-- The lead steward and the package-wide reconfiguration state (03 R103, 13, 14, 16 R430, 19). -/
structure Lead where
  /-- LEAD, the lead's local steward number on the I/O die; none until chosen (19 R485). Reset: none. -/
  who : Option Nat := none
  /-- the lead runs its boot ROM (14 R389). Reset 1. -/
  bootRom : Bool := true
  /-- the lead is restarting on its image and serves no ring (14 R389 step 4). Reset 0. -/
  restarting : Bool := false
  /-- current profile and return profile (13 R363). Reset 0, none. -/
  profile : Nat := 0
  ret : Option Nat := none
  /-- profile whose immediate settings are in force: in profile 9, that of its entry (13 R365, R366, R377). Reset 0. -/
  applied : Nat := 0
  /-- output watchdog interval in us (04 R136). Reset 1,000. -/
  watchdog : Nat := 1000
  /-- route epoch in force, 1 bit (03 R103). Reset 0. -/
  epoch : Bool := false
  /-- facts behind tables 0 and 1 (03 R98, R101). Reset: built-in. -/
  facts0 : Facts := {}
  facts1 : Facts := {}
  /-- route commit in flight (03 R103). Reset: none. -/
  commit : Option Commit := none
  /-- steward commits waiting for the one in flight: why and scope (03 R107, 12 R361). Reset: none. -/
  commitQ : List (Nat × Option Nat) := []
  /-- a driver ROUTE_COMMIT, and a MAP_COMMIT, completed OK since reset (13 R375). Reset 0. -/
  routeOk : Bool := false
  mapOk : Bool := false
  /-- map epoch, 1 bit, and granule code g, 2 bits (06 R182, R187). Reset 0. -/
  mapEpoch : Bool := false
  gran : Nat := 0
  /-- map commit in flight: new granule code, NIs that have not received and not acknowledged, commit point, bank copies due (16 R430).
  Reset: none. -/
  mapGran : Option Nat := none
  mapRcv : List Nat := []
  mapAck : List Nat := []
  mapPoint : Option Nat := none
  mapCopy : List Nat := []
  /-- command ring whose turn is next (15 R405). Reset 0. -/
  turn : Nat := 0
  /-- commands in flight (15 R406). Reset: none. -/
  flights : List Flight := []
  /-- image being loaded: BUILD, and the stewards to receive their segments, in order (14 R389). Reset: none. -/
  load : Option (BitVec 64 × List Nat) := none
  /-- segments of the image last loaded: length, role mask, target (14 R387). Reset: none. -/
  segs : List (Nat × Nat × Nat) := []
  /-- stewards retired by the load (16 R426). Reset 0. -/
  loadRetired : Nat := 0
  /-- profile switch in flight: previous profile, and FCLK (13 R376). Reset: none. -/
  switchFrom : Option Nat := none
  /-- a profile-10 drain runs since (13 R373). Reset: none. -/
  drainFrom : Option Nat := none
  /-- FCLK of the last entry into profile 4, from which the width windows count (13 R367). Reset 0. -/
  winFrom : Nat := 0
  /-- repair counter for the order of READY (12 R361). Reset 0. -/
  readyCtr : Nat := 0
  /-- plane repair waiting for the other packages' acknowledgement: plane, FCLK of the notice, packages yet to acknowledge
  (12 R355). Reset: none. -/
  planeNotice : Option (Nat × Nat × List Nat) := none
  /-- Pass ports in STEERING in order of registration (09 R286). Reset: none. -/
  steerQ : List Nat := []
  /-- links recorded as suspect needing a quiet window, adapters (08 R255). Reset: none. -/
  quietDue : List Nat := []
  /-- windows of a `CALIBRATE` cut short, by link key (12 R360). Reset 0. -/
  calShort : SMap Nat := []
  /-- pending notices to NIs: RESET_NOTICE owner and incarnation, FENCE_NOTICE scope key, each with the NIs left to
  receive it (06 R202; 11 R318). Reset: none. -/
  resetN : List (BitVec 16 × BitVec 8 × List Nat) := []
  fenceN : List (Nat × List Nat) := []
  /-- FENCE_NOTICEs of other packages: package, scope key, the NIs left to receive it (06 R200; 11 R318). Reset: none. -/
  farFence : List (Nat × Nat × List Nat) := []
  /-- per-granule partition masks that differ from 0xFF, by scope key (13 R368). Reset 0xFF. -/
  masks : SMap Nat := []
  /-- NIs whose EPOCH-bound settings still hold the old map copies; golden copies recorded for sleeping receivers:
  source indices that take the epoch at wake (03 R108). Reset: none. -/
  sleepers : List Nat := []
deriving DecidableEq, Repr

/-- A package in the membership table (09 R272). -/
structure Member where
  /-- serial number, 64 bits (09 R272). -/
  serial : Nat
  /-- PRIO, 4 bits (09 R272). -/
  prio : Nat
  /-- reachable (09 R272). -/
  reach : Bool
  /-- FCLK since which no path reached it (09 R272). -/
  since : Nat := 0
  /-- packages it has open links to (09 R272). -/
  nbrs : List Nat := []
  /-- scopes of its planes that its notices tell are out of service: with none it is eligible for transit (03 R93; 12 R355). -/
  out : List Nat := []
deriving DecidableEq, Repr

/-- An abort that the fabric has originated and not yet delivered to the requester (02 R66, R67). -/
structure AbortPkt where
  /-- header, 128 bits (02 R66). -/
  hdr : BitVec 128
  /-- payload, 512 bits (02 R62). -/
  pay : BitVec 512
  /-- the CRC flit of profile 8 behind it, on an MGT packet (02 R55). -/
  crc : Option (BitVec 512) := none
deriving DecidableEq, Repr

/-- An answer of profile sends beyond the package: frames and notices sent to other packages (an output). -/
inductive FarOut where
  /-- a wake message on a link, or a pattern on lanes of a Pass port (08 R258, 09 R285) -/
  | wake (adp : Nat) (lanes : List Nat)
  /-- FENCE_NOTICE, RESET_NOTICE or a plane notice to the lead of a reachable package -/
  | notice (pkg kind a b : Nat)
  /-- a frame sent on a Pass port's cable (09 R265) -/
  | frame (port : Nat) (f : Frame)
  /-- the membership table for another package: ID, SERIAL and PRIO of every member (09 R272, R273 step 6) -/
  | table (pkg : Nat) (rows : List (Nat × Nat × Nat))
  /-- the far end of a port's cable is told of the service: it begins here, or a press here readmits (09 R282 steps 4 and 8) -/
  | service (port : Nat) (readmit : Bool)
deriving DecidableEq, Repr

/-! ### The block -/

/-- The block: everything but the queue of commands. -/
structure Block where
  /-- FCLK since reset release (07 R212). Reset 0. -/
  now : Nat := 0
  /-- FCB_STATUS.PKGID, 4 bits (17 R450). Reset 0. -/
  pkgid : Nat := 0
  /-- FCB_STATUS.STRAPOK (17 R450). Reset 0. -/
  strapOk : Bool := false
  /-- FCB_STATUS.FATAL: the package is under a Fatal fence (11 R320). Reset 0. -/
  fatal : Bool := false
  /-- kind code of the fault that closed the package (02 R62; 11 R318). Reset 0. -/
  fatalKind : Nat := 0
  /-- REFCLK runs (21 R506). Reset 1. -/
  refclk : Bool := true
  /-- fuses: package serial 64 bits (09 R272), key hash 384 bits and minimum security version 32 bits (14 R388). Reset 0,
  DESIGN CHOICE. -/
  fuseSerial : Nat := 0
  fuseKey : Nat := 0
  fuseMinSec : Nat := 0
  /-- design code that the PARAM of a Pass port carries, 32 bits, of a compute die its low 31 bits (08 R249; 09 R273). Reset 0, DESIGN
  CHOICE. -/
  design : Nat := 0
  /-- a Col link has entered TIME_ALIGN (19 R491). Reset 0. -/
  colTrained : Bool := false
  /-- FCB_CAP.RIDGELESS, 12 bits (17 R450). Reset 0. -/
  ridgeless : List Nat := []
  /-- word selected on the I3C target, 8 bits (21 R509). Reset 0, DESIGN CHOICE. -/
  i3cWord : Nat := 0
  /-- instruction the TAP executes: 0 BYPASS, 1 IDCODE, 2 SAMPLE/PRELOAD, others as loaded (21 R512). Reset 1, DESIGN
  CHOICE. -/
  tapIr : Nat := 1
  /-- FCB_ERR_LAST: VALUE, VALID, CAUSE, COUNT, OFFSET (17 R448). Reset 0. -/
  errValue : BitVec 64 := 0
  errValid : Bool := false
  errCause : Nat := 0
  errCount : Nat := 0
  errOffset : Nat := 0
  /-- the counter that free values are applied to (the model's own). Reset 0, DESIGN CHOICE. -/
  freeCtr : Nat := 0
  /-- mesh elements by source index. Reset: each as `Elem`. -/
  elems : SMap Elem := []
  /-- flits on the wires, oldest first, by receiving element x 8 + port: VC and flit (04 R112). Reset: none. -/
  wires : SMap (List (Nat × Flit)) := []
  /-- credits on the wires, oldest first, by sending element x 8 + output port: VC (04 R112). Reset: none. -/
  crWires : SMap (List Nat) := []
  /-- forecasts on the wires, by sending element x 8 + output port: VC and value (04 R112). Reset: none. -/
  fcWires : SMap (List (Nat × Nat)) := []
  /-- network interfaces by source index. Reset: each as `Ni`. -/
  nis : SMap Ni := []
  /-- Tollgates by the NI's source index. Reset: each as `Gate`. -/
  gates : SMap Gate := []
  /-- Fords by key (07 R226). Reset: each as `Ford`. -/
  fords : SMap Ford := []
  /-- link layers by the adapter's source index. Reset: each as `Link`. -/
  links : SMap Link := []
  /-- Pass ports 0-7. Reset: each as `Pass`. -/
  ports : SMap Pass := []
  /-- time bases by die. Reset: each as `Tb`. -/
  tbs : SMap Tb := []
  /-- time exchanges by the source side's adapter (08 R251). Reset: each as `TimeX`. -/
  timeX : SMap TimeX := []
  /-- package time keeping (07). -/
  time : TimeSys := {}
  /-- time stamp pins and registers (07 R224). -/
  ts : TsPins := {}
  /-- power domains 0-271. Reset: each as `Dom`. -/
  doms : SMap Dom := []
  /-- regions 0-31. Reset: each as `Region`. -/
  regions : SMap Region := []
  /-- stewards by source index. Reset: each as `Stw`. -/
  stws : SMap Stw := []
  /-- repair scopes by type x 65536 + ID. Reset: each as `Scope`. -/
  scopes : SMap Scope := []
  /-- golden copies by the steward that holds them, then by the owner: a source index, or 8,192 + region (14 R385). Reset: none listed, which
  stands for tables at their reset values. -/
  gold : SMap (SMap Gold) := []
  /-- Watershed collectors (11). -/
  wsh : Wsh := {}
  /-- rings 0-22. Reset: each as `Ring`. -/
  rings : SMap Ring := []
  /-- vectors 0-15. Reset: each as `Vec`. -/
  vecs : SMap Vec := []
  /-- lead steward and package-wide reconfiguration. -/
  lead : Lead := {}
  /-- granule entries of the map, by epoch x 65536 + granule, 16 bits (06 R183). Reset 0. -/
  map : SMap Nat := []
  /-- interleave groups, by epoch x 1024 + group: W, H, 32 slots (06 R185). Reset 0. -/
  groups : SMap (Nat × Nat × List Nat) := []
  /-- membership table, by package ID (09 R272). Reset: the package itself. -/
  members : SMap Member := [(0, { serial := 0, prio := 8, reach := true })]
  /-- records queued at each die's telemetry agent, oldest first, up to 256 (18 R469). Reset: none. -/
  agents : SMap (List TrcPkt) := []
  /-- aborts originated by the fabric and not yet delivered (02 R66). Reset: none. -/
  aborts : List AbortPkt := []
  /-- what was written into host memory, newest first (15 R399; an output). Reset: none. -/
  hostOut : List HostOut := []
  /-- what was sent to other packages, newest first (an output). Reset: none. -/
  farOut : List FarOut := []
deriving DecidableEq, Repr

/-- The state: the block and the commands that wait, first in first out. -/
structure State where
  /-- the block. -/
  blk : Block
  /-- commands waiting, front first (the model's own). Reset: none. -/
  pending : List Instr
deriving DecidableEq, Repr

/-- The block at reset release (19 R481, R482): every field at its default. -/
def Block.reset : Block := {}

/-- The machine right after reset, with no command waiting. -/
def State.reset : State := ⟨Block.reset, []⟩

end Sys2Proof.Machine
end

