-- ==== Sys2Proof/Machine/Topology.lean ====
section
/-! DEFINITION. The fixed layout of the instance (spec/01): elements, ports, NodeIDs, clusters, regions, scopes, domains. -/

namespace Sys2Proof.Machine

/-- Source index: die x 512 + local index (01 R32, 11 R314). -/
def src (die loc : Nat) : Nat := die * 512 + loc

/-- Die of a source index. -/
def dieOf (s : Nat) : Nat := s / 512

/-- Local index of a source index. -/
def locOf (s : Nat) : Nat := s % 512

/-- Router at (x, y) of a compute die, or of plane p of the I/O die (01 R16, R22). -/
def rtr (die p x y : Nat) : Nat := src die (p * 64 + y * 8 + x)

/-- Column of a router (01 R22). -/
def colOf (r : Nat) : Nat := locOf r % 8

/-- Row of a router (01 R22). -/
def rowOf (r : Nat) : Nat := locOf r % 64 / 8

/-- Plane of an I/O-die router: 0 A, 1 B (01 R22). -/
def planeOf (r : Nat) : Nat := locOf r / 64

/-- The 512 routers (01 R5, R22). -/
def isRouter (s : Nat) : Bool := (dieOf s < 12 && locOf s < 32) || (dieOf s == 12 && locOf s < 128)

/-- What the local ports of an I/O-die router serve (01 R22). -/
inductive IoKind where
  | pass | col | mc | ha | rc | stw
deriving DecidableEq, Repr

/-- The map of 01 R22 by coordinate. -/
def ioKind (x y : Nat) : IoKind :=
  if (x == 0 || x == 7) && (y == 0 || y == 7) then .pass
  else if x == 0 || x == 7 || y == 0 || y == 7 then .col
  else if (x == 1 || x == 6) && (y == 1 || y == 6) then .mc
  else if (x == 2 || x == 5) && (y == 2 || y == 5) then .mc
  else if (x == 3 || x == 4) && (y == 2 || y == 5) then .rc
  else if 2 ≤ x && x ≤ 5 && (y == 3 || y == 4) then .stw
  else .ha

/-- Coordinate of Col link n on the I/O die (01 R18). -/
def colXY (n : Nat) : Nat × Nat :=
  if n < 6 then (n + 1, 0)
  else if n < 12 then (7, n - 5)
  else if n < 18 then (18 - n, 7)
  else (0, 24 - n)

/-- Col link at a perimeter coordinate (01 R18, R22). -/
def colAt (x y : Nat) : Nat :=
  if y == 0 then x - 1 else if x == 7 then y + 5 else if y == 7 then 18 - x else 24 - y

/-- Corner of Pass port k (01 R22, R23). -/
def passXY (k : Nat) : Nat × Nat := ((k / 2 % 2) * 7, (k / 4) * 7)

/-- Pass port at a corner and local port (01 R23). -/
def passAt (x y l : Nat) : Nat := (y / 7) * 4 + (x / 7) * 2 + l

/-- Adapter of compute die d: Col 0, Col 1, Ridge-West, Ridge-East (01 R32). -/
def colAdp (n : Nat) : Nat := src (n / 2) (384 + n % 2)
/-- I/O-die side of Col link n (01 R32). -/
def colIo (n : Nat) : Nat := src 12 (384 + n)
/-- Ridge-West and Ridge-East adapters of a compute die (01 R32). -/
def ridgeW (d : Nat) : Nat := src d 386
def ridgeE (d : Nat) : Nat := src d 387
/-- Link layer of Pass port k (01 R32). -/
def passAdp (k : Nat) : Nat := src 12 (408 + k)

/-- A compute-die Col adapter. -/
def isColC (s : Nat) : Bool := dieOf s < 12 && (locOf s == 384 || locOf s == 385)
/-- An I/O-die Col adapter. -/
def isColI (s : Nat) : Bool := dieOf s == 12 && 384 ≤ locOf s && locOf s < 408
/-- A Ridge adapter. -/
def isRidge (s : Nat) : Bool := dieOf s < 12 && (locOf s == 386 || locOf s == 387)
/-- A Pass port's link layer. -/
def isPass (s : Nat) : Bool := dieOf s == 12 && 408 ≤ locOf s && locOf s < 416
/-- An adapter or Pass port. -/
def isAdp (s : Nat) : Bool := isColC s || isColI s || isRidge s || isPass s
/-- A Col or Ridge adapter. -/
def isDieAdp (s : Nat) : Bool := isColC s || isColI s || isRidge s

/-- Col link of a Col adapter. -/
def colOfAdp (s : Nat) : Nat := if dieOf s == 12 then locOf s - 384 else 2 * dieOf s + (locOf s - 384)
/-- Ridge link of a Ridge adapter (01 R17). -/
def ridgeOfAdp (s : Nat) : Nat := if locOf s == 387 then dieOf s else (dieOf s + 11) % 12
/-- The far side's adapter of a Col or Ridge adapter (01 R17, R18). -/
def farAdp (s : Nat) : Nat :=
  if isColC s then colIo (colOfAdp s)
  else if isColI s then colAdp (colOfAdp s)
  else if locOf s == 387 then ridgeW ((dieOf s + 1) % 12) else ridgeE ((dieOf s + 11) % 12)

/-- An element at the mesh end of a local port that is an NI or a die agent: local index 128 + 2r + l (01 R32). -/
def niAt (die r l : Nat) : Nat := src die (128 + 2 * r + l)
/-- Plane A router index and local port of an NI's local index. -/
def niR (s : Nat) : Nat := (locOf s - 128) / 2
def niL (s : Nat) : Nat := (locOf s - 128) % 2

/-- A core-complex or L3-slice NI (01 R19). -/
def isTileNi (s : Nat) : Bool :=
  dieOf s < 12 && 128 ≤ locOf s && locOf s < 192 && 1 ≤ niR s % 8 && niR s % 8 ≤ 6
/-- A steward's NI. -/
def isStwNi (s : Nat) : Bool :=
  (dieOf s < 12 && 128 ≤ locOf s && locOf s < 192 && (niR s == 24 || niR s == 31)) ||
  (dieOf s == 12 && 128 ≤ locOf s && locOf s < 256 && ioKind (niR s % 8) (niR s / 8) == .stw)
/-- A Pass port's NI. -/
def isPassNi (s : Nat) : Bool :=
  dieOf s == 12 && 128 ≤ locOf s && locOf s < 256 && ioKind (niR s % 8) (niR s / 8) == .pass
/-- The NI of Pass port `k` (01 R22, R23), and the element whose input VCs an endpoint's packets wait in: its own, or the port's. -/
def passNi (k : Nat) : Nat := niAt 12 ((passXY k).2 * 8 + (passXY k).1) (k % 2)
def rxElem (n : Nat) : Nat := if isPassNi n then passAdp (passAt (niR n % 8) (niR n / 8) (niL n)) else n
/-- The 704 NIs (01 R19, R22). -/
def isNi (s : Nat) : Bool :=
  isTileNi s || isStwNi s ||
  (dieOf s == 12 && 128 ≤ locOf s && locOf s < 256 && ioKind (niR s % 8) (niR s / 8) != .col)
/-- A die agent (01 R19). -/
def isAgent (s : Nat) : Bool := dieOf s < 12 && (locOf s == 129 || locOf s == 143)
/-- An NI or die agent. -/
def isEndpoint (s : Nat) : Bool := isNi s || isAgent s
/-- A dual-homed endpoint: one on the I/O die (01 R24). -/
def isDual (s : Nat) : Bool := dieOf s == 12

/-- Every mesh element that has a buffer. -/
def isElem (s : Nat) : Bool := isRouter s || isEndpoint s || isAdp s

/-- NodeID of package, die, router index, local port (01 R15). -/
def nodeId (pkg die r l : Nat) : BitVec 16 := BitVec.ofNat 16 (pkg * 4096 + die * 256 + r * 2 + l)
/-- Fields of a NodeID (01 R15). -/
def nodePkg (n : BitVec 16) : Nat := n.toNat / 4096
def nodeDie (n : BitVec 16) : Nat := n.toNat / 256 % 16
def nodeR (n : BitVec 16) : Nat := n.toNat / 2 % 128
def nodeL (n : BitVec 16) : Nat := n.toNat % 2
/-- Canonical form: Plane A for an I/O-die endpoint (01 R24). -/
def canon (n : BitVec 16) : BitVec 16 := if nodeDie n == 12 then n &&& 0xFF7F#16 else n
/-- Canonical NodeID of an NI or die agent of a package. -/
def niNode (pkg s : Nat) : BitVec 16 := nodeId pkg (dieOf s) (niR s) (niL s)
/-- Source index of the endpoint that a NodeID names, in its package. -/
def nodeNi (n : BitVec 16) : Nat := niAt (nodeDie n) (if nodeDie n == 12 then nodeR n % 64 else nodeR n) (nodeL n)

/-- A NodeID is valid (01 R31). -/
def nodeValid (n : BitVec 16) : Bool :=
  nodeDie n ≤ 12 && (nodeDie n == 12 || nodeR n < 32)
/-- A NodeID names an endpoint rather than an adapter, so that a packet may go to it (01 R31, R515). -/
def nodeOk (n : BitVec 16) : Bool := nodeValid n && isEndpoint (nodeNi n)

/-! ### Clusters, regions, stewards -/

/-- Cluster of a router (01 R21, R28, R30). -/
def clusterOf (r : Nat) : Nat :=
  let c := (rowOf r / 2) * 4 + colOf r / 2
  if dieOf r < 12 then 8 * dieOf r + c else 96 + 16 * planeOf r + c

/-- Region of a router (01 R21, R28). -/
def regionOf (r : Nat) : Nat :=
  if dieOf r < 12 then 2 * dieOf r + colOf r / 4
  else 24 + 4 * planeOf r + 2 * (rowOf r / 4) + colOf r / 4

/-- Region of a cluster (01 R28, R30). -/
def regionOfCluster (c : Nat) : Nat :=
  if c < 96 then 2 * (c / 8) + (c % 4) / 2 else 24 + 4 * ((c - 96) / 16) + 2 * ((c % 16) / 8) + (c % 4) / 2

/-- Routers of a cluster. -/
def clusterRouters (c : Nat) : List Nat :=
  let (die, p, k) := if c < 96 then (c / 8, 0, c % 8) else (12, (c - 96) / 16, c % 16)
  let x := (k % 4) * 2
  let y := (k / 4) * 2
  [rtr die p x y, rtr die p (x + 1) y, rtr die p x (y + 1), rtr die p (x + 1) (y + 1)]

/-- Clusters of a region. -/
def regionClusters (g : Nat) : List Nat := (List.range 128).filter (fun c => regionOfCluster c == g)

/-- The 512 routers, in order. -/
def allRouters : List Nat :=
  (List.range 12).flatMap (fun d => (List.range 32).map (src d)) ++ (List.range 128).map (src 12)

/-- The 704 NIs, in order. -/
def allNis : List Nat :=
  ((List.range 13).flatMap (fun d => (List.range (if d == 12 then 128 else 64)).map (fun i => src d (128 + i)))).filter isNi

/-- The 80 adapters and Pass ports. -/
def allAdps : List Nat :=
  (List.range 12).flatMap (fun d => [src d 384, src d 385, src d 386, src d 387]) ++
  (List.range 24).map colIo ++ (List.range 8).map passAdp

/-- Region of which an NI draws its budget while Plane A serves (01 R27; compute: its own). -/
def niRegion (s : Nat) : Nat := regionOf (src (dieOf s) (niR s))

/-- Local index of a steward n (01 R32), and the NI it sits behind (01 R19, R22, R23). -/
def stwSrc (die n : Nat) : Nat := src die (448 + n)
/-- Steward number of a steward's source index. -/
def stwNo (s : Nat) : Nat := locOf s - 448
/-- A steward source index. -/
def isStw (s : Nat) : Bool := (dieOf s < 12 && 448 ≤ locOf s && locOf s < 452) || (dieOf s == 12 && 448 ≤ locOf s && locOf s < 464)
/-- The steward's router (01 R19; on the I/O die quadrant by quadrant, 01 R23). -/
def stwRouter (s : Nat) : Nat :=
  if dieOf s < 12 then (if stwNo s < 2 then 24 else 31)
  else
    let q := stwNo s / 4
    let x := 2 + 2 * (q % 2) + stwNo s % 4 / 2
    (3 + q / 2) * 8 + x
/-- The steward's NI. -/
def stwNi (s : Nat) : Nat := niAt (dieOf s) (stwRouter s) (stwNo s % 2)
/-- Canonical NodeID of a steward. -/
def stwNode (pkg s : Nat) : BitVec 16 := niNode pkg (stwNi s)
/-- The 64 stewards. -/
def allStws : List Nat :=
  (List.range 12).flatMap (fun d => (List.range 4).map (stwSrc d)) ++ (List.range 16).map (stwSrc 12)
/-- NODEID field of a message from an element that names no packet (11 R316). -/
def ownNode (pkg s : Nat) : BitVec 16 :=
  if isRouter s then nodeId pkg (dieOf s) (locOf s) 0
  else if isEndpoint s then niNode pkg s
  else if allStws.contains s then stwNode pkg s
  else BitVec.ofNat 16 (pkg * 4096 + 0xFFF)

/-- The other steward of the pair (01 R21, R28). -/
def buddy (s : Nat) : Nat := if stwNo s % 2 == 0 then s + 1 else s - 1

/-- The pair of a region: its lower-NodeID steward (01 R21, R28). -/
def regionPair (g : Nat) : Nat :=
  if g < 24 then stwSrc (g / 2) (2 * (g % 2))
  else stwSrc 12 (match g - 24 with
    | 0 => 0 | 1 => 6 | 2 => 8 | 3 => 14 | 4 => 2 | 5 => 4 | 6 => 10 | _ => 12)
/-- Region a steward serves. -/
def stwRegion (s : Nat) : Nat :=
  if dieOf s < 12 then 2 * dieOf s + stwNo s / 2
  else 24 + (match stwNo s / 2 with
    | 0 => 0 | 3 => 1 | 4 => 2 | 7 => 3 | 1 => 4 | 2 => 5 | 5 => 6 | _ => 7)
/-- The peer region of the other plane's same quadrant, or the die's other region (01 R27, 06 R190). -/
def peerRegion (g : Nat) : Nat :=
  if g < 24 then (if g % 2 == 0 then g + 1 else g - 1) else if g < 28 then g + 4 else g - 4
/-- Source index of a region's map bank (01 R32). -/
def bankSrc (g : Nat) : Nat := if g < 24 then src (g / 2) (468 + g % 2) else src 12 (468 + (g - 24))

/-! ### Ports: who is at the other end -/

/-- The element and input port that output `p` of element `e` leads into (01 R18-R22). Ports of an NI on the I/O die: 0 on
Plane A, 1 on Plane B. -/
def peer (e p : Nat) : Option (Nat × Nat) :=
  if isRouter e then
    let d := dieOf e
    let x := colOf e
    let y := rowOf e
    let h := if d < 12 then 4 else 8
    match p with
    | 0 => if y + 1 < h then some (e + 8, 2) else none
    | 1 => if x + 1 < 8 then some (e + 1, 3) else none
    | 2 => if 0 < y then some (e - 8, 0) else none
    | 3 => if 0 < x then some (e - 1, 1) else none
    | 4 | 5 =>
      let l := p - 4
      if d < 12 then
        if x == 0 && (y == 1 || y == 2) then some (src d 384, (y - 1) * 2 + l)
        else if x == 7 && (y == 1 || y == 2) then some (src d 385, (y - 1) * 2 + l)
        else if x == 0 && y == 0 && l == 0 then some (ridgeW d, 0)
        else if x == 7 && y == 0 && l == 0 then some (ridgeE d, 0)
        else some (niAt d (locOf e) l, 0)
      else
        match ioKind x y with
        | .col => some (colIo (colAt x y), 2 * planeOf e + l)
        | .pass => some (passAdp (passAt x y l), planeOf e)
        | _ => some (niAt 12 (locOf e % 64) l, planeOf e)
    | _ => none
  else if isColC e then
    if p < 4 then some (rtr (dieOf e) 0 (if locOf e == 384 then 0 else 7) (1 + p / 2), 4 + p % 2) else none
  else if isColI e then
    let (x, y) := colXY (locOf e - 384)
    if p < 4 then some (rtr 12 (p / 2) x y, 4 + p % 2) else none
  else if isRidge e then
    if p == 0 then some (rtr (dieOf e) 0 (if locOf e == 386 then 0 else 7) 0, 4) else none
  else if isPass e then
    let k := locOf e - 408
    let (x, y) := passXY k
    if p < 2 then some (rtr 12 p x y, 4 + k % 2) else none
  else if isEndpoint e then
    if isDual e then (if p < 2 then some (src 12 (p * 64 + niR e), 4 + niL e) else none)
    else (if p == 0 then some (src (dieOf e) (niR e), 4 + niL e) else none)
  else none

/-- Three VCs a class on the I/O die, at a Col adapter and at a Pass port; two elsewhere (03 R79, 04 R111). Which set the
input port `p` of an element has: the compute-die side of a Col adapter has the Col's 21 on its link, and 14 towards the mesh. -/
def vcPer (e : Nat) : Nat := if dieOf e == 12 then 3 else 2

/-- Number of VCs of an input port (03 R79): both sides of a Col adapter and a Pass port 21. -/
def vcCount (e : Nat) : Nat := if dieOf e == 12 || isColC e then 21 else 14

/-- VCs a class at an element's own ports (04 R111). -/
def perOf (e : Nat) : Nat := if dieOf e == 12 || isColC e then 3 else 2

/-- Depth of a VC (03 R79): A 4 flits, E 2. -/
def vcDepth (e vc : Nat) : Nat := if vc % perOf e == 0 then 4 else 2

/-! ### Scopes and domains -/

/-- Key of a scope. -/
def scKey (ty id : Nat) : Nat := ty * 65536 + id

/-- Scope of the mesh link behind output or input `p` of router `e` (11 R328 type 1). -/
def meshLinkId (e p : Nat) : Nat :=
  match p with
  | 0 => 2 * e + 1 | 1 => 2 * e | 2 => 2 * (e - 8) + 1 | _ => 2 * (e - 1)

/-- Scope ID of the local link at port `p` of the element `a` at its local end (11 R328 type 2). -/
def localLinkId (a p : Nat) : Nat :=
  if isColC a then a + (if p / 2 == 1 then 16384 else 0) + (if p % 2 == 1 then 8192 else 0)
  else if isColI a then a + (if p / 2 == 1 then 32768 else 0) + (if p % 2 == 1 then 8192 else 0)
  else if isNi a && isDual a && p == 1 then a + 32768 else a

/-- Scope type and ID that a fault on the link at port `p` of element `e` fences (02 R70, 11 R328). -/
def linkScope (e p : Nat) : Nat × Nat :=
  let local_ (a q : Nat) : Nat × Nat :=
    if isRidge a then (4, ridgeOfAdp a) else if isPass a then (5, locOf a - 408) else (2, localLinkId a q)
  if isRouter e then
    if p < 4 then (1, meshLinkId e p)
    else match peer e p with
      | some (a, q) => local_ a q
      | none => (0, 0)
  else if p == 7 then
    (if isRidge e then (4, ridgeOfAdp e) else if isPass e then (5, locOf e - 408) else (3, colOfAdp e))
  else local_ e p

/-- Domain of an element (10 R287). -/
def domOf (e : Nat) : Option Nat :=
  if isRouter e then some (clusterOf e)
  else if isColC e then some (128 + colOfAdp e)
  else if isColI e then some (152 + colOfAdp e)
  else if isRidge e then some (if locOf e == 386 then 176 + 2 * dieOf e else 177 + 2 * dieOf e)
  else if isPass e then some (200 + (locOf e - 408))
  else if isPassNi e then some (200 + passAt (niR e % 8) (niR e / 8) (niL e))
  else if isStwNi e && dieOf e == 12 then
    some (256 + 4 * ((niR e / 8 - 3) * 2 + (niR e % 8 - 2) / 2) + 2 * (niR e % 8 % 2) + niL e)
  else if isEndpoint e && dieOf e < 12 then some (clusterOf (src (dieOf e) (niR e)))
  else none

/-- Domain of a steward (10 R287). -/
def stwDom (s : Nat) : Nat := if dieOf s < 12 then 208 + 4 * dieOf s + stwNo s else 256 + stwNo s
/-- Steward of a steward domain. -/
def domStw (d : Nat) : Nat := if d < 256 then stwSrc ((d - 208) / 4) ((d - 208) % 4) else stwSrc 12 (d - 256)

/-- Link adapter of an adapter or Pass domain. -/
def domAdp (d : Nat) : Option Nat :=
  if d < 128 then none
  else if d < 152 then some (colAdp (d - 128))
  else if d < 176 then some (colIo (d - 152))
  else if d < 200 then some (if d % 2 == 0 then ridgeW ((d - 176) / 2) else ridgeE ((d - 177) / 2))
  else if d < 208 then some (passAdp (d - 200))
  else none

/-- Region that a domain's repair and stewards belong to (12 R341, 14 R380). -/
def domRegion (d : Nat) : Nat :=
  if d < 128 then regionOfCluster d
  else if d < 152 then 2 * ((d - 128) / 2) + d % 2
  else if d < 176 then (let (x, y) := colXY (d - 152); regionOf (rtr 12 0 x y))
  else if d < 200 then 2 * ((d - 176) / 2) + d % 2
  else if d < 208 then (let (x, y) := passXY (d - 200); regionOf (rtr 12 0 x y))
  else stwRegion (domStw d)

/-- Elements whose buffers a domain holds (10 R287). -/
def domElems (d : Nat) : List Nat :=
  if d < 128 then
    (clusterRouters d).flatMap (fun r => r ::
      (if dieOf r < 12 then [niAt (dieOf r) (locOf r) 0, niAt (dieOf r) (locOf r) 1].filter isEndpoint else []))
  else match domAdp d with
    | some a => if isPass a then
        (let k := locOf a - 408; let (x, y) := passXY k; [a, niAt 12 (y * 8 + x) (k % 2)]) else [a]
    | none => if d < 256 then [] else [stwNi (domStw d)]

/-- Region whose map bank a die agent answers for (01 R19). -/
def agentRegion (e : Nat) : Nat := 2 * dieOf e + (if locOf e == 129 then 0 else 1)

/-- NIs of a domain. -/
def domNis (d : Nat) : List Nat := (domElems d).filter isNi

/-- Scopes are well formed: the ID names something of the package (11 R328, 16 R423). -/
def scopeOk (ty id : Nat) : Bool :=
  match ty with
  | 1 => isRouter (id / 2) && (peer (id / 2) (if id % 2 == 0 then 1 else 0)).isSome
  | 2 => let a := id % 8192
         let hi := id / 8192
         if isColC a then hi < 4 else if isColI a then hi / 2 % 2 == 0
         else if isNi a && isDual a then hi % 4 == 0 else (isEndpoint a || isRidge a) && hi == 0
  | 3 => id < 24
  | 4 => id < 12
  | 5 => id < 8
  | 6 => id < 128
  | 7 => id < 32
  | 8 => id < 2
  | 9 => id < 12
  | 10 => isStw id
  | _ => false

/-- Domains of a scope (12 R340). -/
def scopeDoms (ty id : Nat) : List Nat :=
  match ty with
  | 3 => [128 + id, 152 + id]
  | 4 => [177 + 2 * id, 176 + 2 * ((id + 1) % 12)]
  | 5 => [200 + id]
  | 6 => [id]
  | 7 => regionClusters id
  | 8 => (List.range 16).map (fun c => 96 + 16 * id + c)
  | 9 => (List.range 8).map (fun c => 8 * id + c) ++ [128 + 2 * id, 129 + 2 * id, 176 + 2 * id, 177 + 2 * id] ++
         (List.range 4).map (fun n => 208 + 4 * id + n) ++ [152 + 2 * id, 153 + 2 * id]
  | 10 => [stwDom id]
  | _ => []

/-- The router at the far end of a local link (11 R328). -/
def localRouter (id : Nat) : Option Nat :=
  let a := id % 8192
  (peer a (if isColC a then id / 16384 % 2 * 2 else if isColI a then id / 32768 * 2 else id / 32768)).map (·.1)

/-- Region whose stewards serve a scope (12 R341, 11 R318). -/
def scopeRegion (ty id : Nat) : Nat :=
  match ty with
  | 1 => regionOf (id / 2)
  | 2 => (match localRouter id with
          | some r => regionOf r
          | none => 0)
  | 3 => let (x, y) := colXY id; regionOf (rtr 12 0 x y)
  | 4 => 2 * id + 1
  | 5 => domRegion (200 + id)
  | 6 => regionOfCluster id
  | 7 => id
  | 8 => 24 + 4 * id
  | 9 => 2 * id
  | 10 => stwRegion id
  | _ => 0

/-- Scopes that contain a router. -/
def routerScopes (r : Nat) : List (Nat × Nat) :=
  [(6, clusterOf r), (7, regionOf r)] ++ (if dieOf r < 12 then [(9, dieOf r)] else [(8, planeOf r)])

/-- Scopes that contain an element beside its links. -/
def elemScopes (e : Nat) : List (Nat × Nat) :=
  if isRouter e then routerScopes e
  else if isColC e || isColI e then [(3, colOfAdp e), (9, colOfAdp e / 2)]
  else if isRidge e then [(4, ridgeOfAdp e), (9, dieOf e)]
  else if isPass e then [(5, locOf e - 408)]
  else if isPassNi e then [(5, passAt (niR e % 8) (niR e / 8) (niL e))]
  else if isEndpoint e && dieOf e < 12 then (2, e) :: routerScopes (src (dieOf e) (niR e))
  else if isStwNi e then [(10, stwSrc 12 (4 * ((niR e / 8 - 3) * 2 + (niR e % 8 - 2) / 2) + 2 * (niR e % 8 % 2) + niL e))]
  else []

/-- One scope holds another (12 R345). -/
def scopeIn (ty id ty' id' : Nat) : Bool :=
  (ty == ty' && id == id') ||
  (match ty' with
   | 6 => ty == 1 && clusterOf (id / 2) == id'
          || ty == 2 && (localRouter id).any (fun r => clusterOf r == id')
   | 7 => (ty == 6 && regionOfCluster id == id') || (ty == 1 && regionOf (id / 2) == id')
          || (ty == 2 && scopeRegion 2 id == id')
   | 8 => (ty == 6 && 96 ≤ id && (id - 96) / 16 == id') || (ty == 7 && 24 ≤ id && (id - 24) / 4 == id')
          || (ty == 1 && dieOf (id / 2) == 12 && planeOf (id / 2) == id')
          || (ty == 2 && (localRouter id).any (fun r => dieOf r == 12 && planeOf r == id'))
   | 9 => (ty == 6 && id < 96 && id / 8 == id') || (ty == 7 && id < 24 && id / 2 == id') || (ty == 3 && id / 2 == id')
          || (ty == 10 && dieOf id == id') || (ty == 1 && dieOf (id / 2) == id') || (ty == 2 && dieOf (id % 8192) == id')
   | _ => false)

/-- Col and Ridge links and their compute dies, for the quiet window (05 R167). -/
def linkDies (ridge : Bool) (n : Nat) : List Nat := if ridge then [n, (n + 1) % 12] else [n / 2]

/-- An adapter or Pass port attaches to a router of the region: one on the I/O die to a region of each plane (03 R104). -/
def attachedTo (a g : Nat) : Bool :=
  (List.range 4).any (fun p => match peer a p with
    | some (r, _) => regionOf r == g
    | none => false)

/-- Region whose stewards send an NI, adapter or Pass port its notices: that of its router, of Plane A where it has two (03 R103, R104). -/
def rcvRegion (r : Nat) : Nat :=
  if isAdp r then ((List.range 32).find? (attachedTo r)).getD 0 else regionOf (src (dieOf r) (niR r))

/-- The steward behind an NI, if there is one. -/
def niStw (n : Nat) : Option Nat := allStws.find? (fun s => stwNi s == n)

/-- Row numbers that stand for the four spare rows of a table (12 R354; notes/assumptions/95.md). -/
def isSpareRow (row : Nat) : Bool := 131068 ≤ row && row < 131072

end Sys2Proof.Machine
end

