-- ==== Sys2Proof/Machine/Packet.lean ====
section
/-! DEFINITION. Flits and packets to the bit (spec/02): header fields, opcodes, payload layouts, the abort detail, the
check code of R76 and the CRCs of R55, R239 and R314. -/

namespace Sys2Proof.Machine

/-! ### Header (02 R40) -/

/-- Header field of `w` bits from bit `lo` (02 R40). -/
def hf (h : BitVec 128) (lo w : Nat) : Nat := h.toNat / 2 ^ lo % 2 ^ w

def hDest (h : BitVec 128) : BitVec 16 := h.extractLsb' 112 16
def hSrc (h : BitVec 128) : BitVec 16 := h.extractLsb' 96 16
def hCls (h : BitVec 128) : Nat := hf h 93 3
def hOpc (h : BitVec 128) : Nat := hf h 87 6
def hTag (h : BitVec 128) : BitVec 10 := h.extractLsb' 77 10
def hLen (h : BitVec 128) : Nat := hf h 74 3
def hAge (h : BitVec 128) : Nat := hf h 62 12
def hEpoch (h : BitVec 128) : Bool := h.getLsbD 61
def hPart (h : BitVec 128) : Nat := hf h 58 3
def hCairn (h : BitVec 128) : Bool := h.getLsbD 57
def hEsc (h : BitVec 128) : Nat := hf h 55 2
def hAddr (h : BitVec 128) : BitVec 46 := h.extractLsb' 9 46
def hTier (h : BitVec 128) : Nat := hf h 7 2
def hOrd (h : BitVec 128) : Bool := h.getLsbD 6
def hPoison (h : BitVec 128) : Bool := h.getLsbD 5
def hRsv (h : BitVec 128) : Nat := hf h 0 5
/-- Flits of the packet: LEN + 1 (02 R40). -/
def hFlits (h : BitVec 128) : Nat := hLen h + 1

/-- Write a header field of `w` bits at bit `lo`. -/
def setF (h : BitVec 128) (lo w v : Nat) : BitVec 128 :=
  (h &&& ~~~ BitVec.ofNat 128 ((2 ^ w - 1) * 2 ^ lo)) ||| BitVec.ofNat 128 ((v % 2 ^ w) * 2 ^ lo)

/-- A header from its fields, AGE, EPOCH, PART, CAIRN and ESC zero (02 R40). -/
def mkHdr (dest src : BitVec 16) (cls opc : Nat) (tag : BitVec 10) (len : Nat) (addr : BitVec 46) (tier : Nat)
    (ord poison : Bool) : BitVec 128 :=
  BitVec.ofNat 128 (dest.toNat * 2 ^ 112 + src.toNat * 2 ^ 96 + (cls % 8) * 2 ^ 93 + (opc % 64) * 2 ^ 87
    + tag.toNat * 2 ^ 77 + (len % 8) * 2 ^ 74 + addr.toNat * 2 ^ 9 + (tier % 4) * 2 ^ 7
    + (if ord then 64 else 0) + (if poison then 32 else 0))

/-! ### Classes and opcodes (02 R48, R52) -/

def REQ : Nat := 0
def SNP : Nat := 1
def RSP : Nat := 2
def DAT : Nat := 3
def MSG : Nat := 4
def MGT : Nat := 5
def TRC : Nat := 6

/-- The permitted numbers of content flits of an opcode; empty for a reserved opcode (02 R52). -/
def opLens (cls opc : Nat) : List Nat :=
  match cls with
  | 0 => if opc ∈ [0, 1, 2, 3, 4, 5, 8, 0xA, 0xC, 0x10, 0x11, 0x12, 0x13, 0x18, 0x19, 0x1A, 0x1B, 0x1C, 0x1D, 0x1E]
         then [1] else if opc ∈ [9, 0xB, 0xD] then [2] else []
  | 1 => if opc < 8 then [1] else []
  | 2 => if opc < 10 || (0x10 ≤ opc && opc ≤ 0x14) then [1] else []
  | 3 => if opc < 9 then [1] else []
  | 4 => if opc == 0 || opc == 2 then [1] else if opc == 1 then [2, 3, 4, 5, 6, 7, 8] else []
  | 5 => if opc ∈ [0, 2, 4, 5, 6, 7, 8, 9, 10, 11, 12] then [1]
         else if opc ∈ [1, 3, 13] then [1, 2, 3, 4, 5, 6, 7, 8] else []
  | 6 => if opc < 4 then [1] else []
  | _ => []

/-- An opcode is listed (02 R52). -/
def opKnown (cls opc : Nat) : Bool := !(opLens cls opc).isEmpty

/-- LEN is permitted; `crc`: the packet carries the CRC flit of profile 8 (02 R52, R55). -/
def lenOk (cls opc len : Nat) (crc : Bool) : Bool :=
  if cls == MGT && crc then (opLens cls opc).contains len && len ≥ 1 && len ≤ 7 else (opLens cls opc).contains (len + 1)

/-- A packet that holds a tag at its source (02 R65): REQ, SNP, MSG, and MGT other than the MGT answers. -/
def isMgtAnswer (cls opc : Nat) : Bool := cls == MGT && (opc ∈ [2, 3, 4, 6, 9])
def holdsTag (cls opc : Nat) : Bool := cls == REQ || cls == SNP || cls == MSG || (cls == MGT && !isMgtAnswer cls opc)
/-- SETTLE (02 R65). -/
def isSettle (cls opc : Nat) : Bool := cls == RSP && opc == 1
/-- An abort completion: RSP 0x10-0x14 or MGT_ABORT (02 R67). -/
def isAbort (cls opc : Nat) : Bool := (cls == RSP && 0x10 ≤ opc && opc ≤ 0x14) || (cls == MGT && opc == 4)
/-- An RSP, DAT or MGT answer (02 R49). -/
def isAnswer (cls opc : Nat) : Bool := cls == RSP || cls == DAT || isMgtAnswer cls opc
/-- A lock opcode (02 R52). -/
def isLockOp (cls opc : Nat) : Bool := cls == REQ && 0x1C ≤ opc && opc ≤ 0x1E
/-- An opcode a unit may send (02 R48). -/
def unitMay (cls opc : Nat) : Bool :=
  cls == REQ || cls == SNP || cls == DAT || cls == MSG || (cls == RSP && opc ≤ 4)

/-! ### Payload bytes and words (02 R39) -/

/-- Byte `i` of a payload. -/
def pByte (p : BitVec 512) (i : Nat) : Nat := p.toNat / 2 ^ (8 * i) % 256
/-- `n` bytes from byte `i`, little-endian. -/
def pWord (p : BitVec 512) (i n : Nat) : Nat := p.toNat / 2 ^ (8 * i) % 2 ^ (8 * n)
/-- A payload holding little-endian words: (byte, width in bytes, value). -/
def mkPay (fs : List (Nat × Nat × Nat)) : BitVec 512 :=
  BitVec.ofNat 512 (fs.foldl (fun a f => a + f.2.2 % 2 ^ (8 * f.2.1) * 2 ^ (8 * f.1)) 0)

/-- Attribute word of a REQ: payload bytes 56-63 of the flit that carries it (02 R57). -/
def attr (p : BitVec 512) : Nat := pWord p 56 8
def aSubop (a : Nat) : Nat := a / 2 ^ 60 % 16
def aSize (a : Nat) : Nat := a / 2 ^ 56 % 16
def aOff (a : Nat) : Nat := a / 2 ^ 50 % 64
def aLease (a : Nat) : Nat := a / 2 ^ 32 % 2 ^ 18

/-- A REQ opcode that carries an attribute word: every one without a full line of data (02 R57). -/
def hasAttr (opc : Nat) : Bool := !(opc == 8 || opc == 0xA || opc == 0xC)
/-- The partial writes (02 R57, R60). -/
def isPartial (opc : Nat) : Bool := opc == 9 || opc == 0xB || opc == 0xD

/-- The attribute word is consistent with 02 R57 and R58, and the LEASE with R70. -/
def attrOk (opc : Nat) (a : Nat) : Bool :=
  let fixed := aSize a == 6 && aOff a == 0
  let amo := opc == 0x18 || opc == 0x19
  (aSize a ≤ 6) && (aOff a % 2 ^ aSize a == 0)
  && (if amo then aSubop a < 8 else aSubop a == 0)
  && (if opc == 0x1C || opc == 0x1E then 1 ≤ aLease a && aLease a ≤ 10000 else aLease a == 0)
  && (if opc ∈ [0, 1, 2, 4, 5, 0x10, 0x11, 0x12, 0x13, 0x1C, 0x1D, 0x1E] then fixed else true)
  && (if amo then aSize a == 2 || aSize a == 3 else true)
  && (if opc == 0x1A || opc == 0x1B then aSize a ≥ 2 && aSize a ≤ 4 else true)

/-- The flits' attribute word lies in the second flit of a partial write, else in the first (02 R57). -/
def attrOf (opc : Nat) (pays : List (BitVec 512)) : Nat :=
  attr (if isPartial opc then pays.getD 1 0 else pays.getD 0 0)

/-- Abort detail (02 R62). -/
def abortDetail (time source kind cls opc mgt : Nat) : BitVec 512 :=
  mkPay [(0, 8, time), (8, 2, source % 8192), (10, 1, kind), (11, 2, (cls % 8) * 64 + opc % 64), (13, 1, mgt)]

/-! ### Check code (02 R76) -/

/-- Minimal polynomials over GF(2) of alpha, alpha^3 and alpha^5 for p(x) = x^10 + x^3 + 1, as bit masks (02 R76):
x^10 + x^3 + 1; x^10 + x^3 + x^2 + x + 1; x^10 + x^8 + x^3 + x^2 + 1. -/
def m1Poly : Nat := 0x409
def m3Poly : Nat := 0x40F
def m5Poly : Nat := 0x50D

/-- Product over GF(2) of a polynomial of degree at most 40 with another, as bit masks. -/
def gfMul (a : Nat) (b : Nat) : Nat :=
  (List.range 41).foldl (fun r i => if b.testBit i then r ^^^ (a <<< i) else r) 0

/-- Generator g(x) = (x^2 + 1) m1 m3 m5, degree 32 (02 R76). -/
def genPoly : Nat := gfMul (gfMul 0x5 m1Poly) (gfMul m3Poly m5Poly)

/-- Multiply a residue by x modulo g. -/
def stepX (r : Nat) : Nat := if (2 * r).testBit 32 then (2 * r) ^^^ genPoly else 2 * r

/-- Residue modulo g of the polynomial whose coefficients are the low `n` bits of `v`, top bit first. -/
def residue (v : Nat) : Nat → Nat → Nat
  | 0, r => r
  | n + 1, r => residue v n (stepX r ^^^ (if v.testBit n then 1 else 0))

/-- The check of 640 message bits: x^32 m(x) mod g (02 R76). -/
def checkOf (m : BitVec 640) : BitVec 32 := BitVec.ofNat 32 (residue (m.toNat * 2 ^ 32) 672 0)

/-- Residues of x^0 to x^671. -/
def powers : Nat → Nat → List Nat
  | 0, _ => []
  | n + 1, r => r :: powers n (stepX r)

/-- What decoding gives for a received word that is a codeword with the error pattern `e` (02 R76, R77): the remaining
error after correction (0 for none), and whether bits were corrected; `none`: uncorrectable. -/
def decodeErr (e : BitVec 672) : Option (BitVec 672 × Nat) :=
  if e = 0 then some (0, 0)
  else
    let s := residue e.toNat 672 0
    if s = 0 then some (e, 0)
    else
      let ps := powers 672 1
      match ps.findIdx? (· == s) with
      | some i => some (e ^^^ BitVec.ofNat 672 (2 ^ i), 1)
      | none =>
        match (List.range 672).find? (fun i => ps.contains (s ^^^ ps.getD i 0)) with
        | some i =>
          match ps.findIdx? (· == (s ^^^ ps.getD i 0)) with
          | some j => some (e ^^^ BitVec.ofNat 672 (2 ^ i) ^^^ BitVec.ofNat 672 (2 ^ j), 2)
          | none => none
        | none => none

/-- The 672 bits of a flit (02 R38). -/
def flitBits (f : Flit) : BitVec 672 := (f.hdr ++ f.pay) ++ checkOf (f.hdr ++ f.pay)

/-- A flit whose header and payload have the bits of `e` flipped. -/
def flipFlit (f : Flit) (e : BitVec 672) : Flit :=
  { f with hdr := f.hdr ^^^ e.extractLsb' 544 128, pay := f.pay ^^^ e.extractLsb' 32 512 }

/-! ### CRCs -/

/-- CRC over `n` bits of `v`, top bit first, with generator `g` of degree `w` and initial value `init`. -/
def crcBits (g w : Nat) (v : Nat) : Nat → Nat → Nat
  | 0, c => c
  | n + 1, c =>
    let fb := (c.testBit (w - 1)) != v.testBit n
    let c' := (c * 2) % 2 ^ w
    crcBits g w v n (if fb then c' ^^^ (g % 2 ^ w) else c')

/-- The CRC of 08 R239 over `n` bits. -/
def crc32 (v n : Nat) : Nat := (crcBits 0x04C11DB7 32 v n 0xFFFFFFFF) ^^^ 0xFFFFFFFF

/-- Reverse the low `n` bits. -/
def revBits (n v : Nat) : Nat := (List.range n).foldl (fun a i => if v.testBit i then a + 2 ^ (n - 1 - i) else a) 0

/-- CRC-32 of IEEE 802.3 over payload bytes in order, each byte least significant bit first (02 R55). -/
def crc8023 (bytes : List Nat) : Nat :=
  revBits 32 ((bytes.foldl (fun c b => crcBits 0x04C11DB7 32 (revBits 8 b) 8 c) 0xFFFFFFFF) ^^^ 0xFFFFFFFF)

/-- CRC-8 of a Watershed beat (11 R314). -/
def crc8 (v n : Nat) : Nat := crcBits 0x07 8 v n 0

/-- Payload bytes of a packet, in flit order (02 R39, R55). -/
def payBytes (ps : List (BitVec 512)) : List Nat := ps.flatMap (fun p => (List.range 64).map (pByte p))

/-- The CRC flit that profile 8 appends to an MGT packet (02 R55). -/
def crcFlit (ps : List (BitVec 512)) : BitVec 512 := mkPay [(0, 4, crc8023 (payBytes ps))]

/-- The flits of a packet. -/
def flitsOf (h : BitVec 128) (ps : List (BitVec 512)) : List Flit := ps.map (fun p => { hdr := h, pay := p })

end Sys2Proof.Machine
end

