-- ==== Sys2Proof/Machine/Frames.lean ====
section
/-! DEFINITION. Frames to the bit (spec/08 R235-R240, R247, R249, R251, R254; spec/09 R263-R265, R268, R269): the header with its
descriptors, credit entries and CRC, the slots, the lane of every bit, the symbols of the FEC, and the contents of slot 0. -/

namespace Sys2Proof
open Sys2Proof.Machine

/-! ### The header (08 R236-R239; 09 R265) -/

/-- TYPE (08 R238; 09 R265). -/
def FType.code : FType → Nat
  | .data => 0 | .idle => 1 | .nak => 2 | .param => 3 | .creditInit => 4 | .time => 5 | .ready => 6 | .quiet => 7 | .align => 8 | .close => 9
  | .reserved c => c

/-- The type that a code names on a link: ALIGN and CLOSE are types of a Pass link alone. -/
def FType.ofCode (pass : Bool) (c : Nat) : FType :=
  match c with
  | 0 => .data | 1 => .idle | 2 => .nak | 3 => .param | 4 => .creditInit | 5 => .time | 6 => .ready | 7 => .quiet
  | 8 => if pass then .align else .reserved 8
  | 9 => if pass then .close else .reserved 9
  | c => .reserved c

/-- Bits of a frame header: 160, on a Pass link 200. -/
def hdrWidth (pass : Bool) : Nat := if pass then 200 else 160
/-- Header bit of credit entry 0; RPLY and PM lie below it. -/
def credLo (pass : Bool) : Nat := if pass then 58 else 36
/-- Credit entries of a header. -/
def credCount (pass : Bool) : Nat := if pass then 6 else 4

/-- The descriptor of an empty slot (08 R237). -/
def emptySlot : Nat := 6
/-- The descriptor of a slot that holds a flit of VC `vc`, on a link with `per` VCs a class: POOL, K, OVD (08 R237). -/
def slotDesc (per vc : Nat) (f : Flit) : Nat := (if f.pool then 8 else 0) + vc % per * 2 + (if f.ovd then 1 else 0)

/-- The descriptor of slot `i` of a frame. -/
def Frame.desc (per : Nat) (fr : Frame) (i : Nat) : Nat :=
  match fr.slots.find? (fun s => s.1 == i) with
  | some (_, vc, f) => slotDesc per vc f
  | none => emptySlot

/-- Header bits above the CRC: TYPE, SEQ, ACK, SLOT, CRED, RPLY, PM, and the reserved bits zero (08 R236; 09 R265). -/
def Frame.msg (pass : Bool) (per : Nat) (fr : Frame) : Nat :=
  let w := hdrWidth pass
  (fr.ty.code % 16) * 2 ^ (w - 4) + (fr.seq % 4096) * 2 ^ (w - 16) + (fr.ack % 4096) * 2 ^ (w - 28)
    + ((List.range 15).map (fun i => fr.desc per i * 2 ^ (4 * i + (w - 88)))).sum
    + (fr.cred.zipIdx.map (fun x => (x.1.1 % 32 * 16 + x.1.2 % 16) * 2 ^ (9 * x.2 + credLo pass))).sum
    + (if fr.rply then 2 ^ (credLo pass - 1) else 0) + (fr.pm % 4) * 2 ^ (credLo pass - 3)

/-- The header of a frame with its CRC (08 R239). -/
def Frame.header (pass : Bool) (per : Nat) (fr : Frame) : Nat :=
  let m := fr.msg pass per
  m + crc32 (m / 2 ^ 32) (hdrWidth pass - 32)

/-- The CRC of a received header matches (08 R239, R241). -/
def crcMatches (pass : Bool) (h : Nat) : Bool := crc32 (h / 2 ^ 32) (hdrWidth pass - 32) == h % 2 ^ 32

/-- Bits `lo` up of a number, `w` of them. -/
def bitsAt (v lo w : Nat) : Nat := v / 2 ^ lo % 2 ^ w

/-- The frame that a received header tells of; `flit i` is what slot `i` holds. The VC follows from the flit's class and K (08 R237). -/
def Frame.ofHeader (pass : Bool) (per h : Nat) (flit : Nat → Flit) (cont : BitVec 640) : Frame :=
  let w := hdrWidth pass
  { ty := FType.ofCode pass (bitsAt h (w - 4) 4), seq := bitsAt h (w - 16) 12, ack := bitsAt h (w - 28) 12,
    slots := (List.range 15).filterMap (fun i =>
      let d := bitsAt h (4 * i + (w - 88)) 4
      if d = emptySlot then none
      else some (i, per * hCls (flit i).hdr + d / 2 % 4, { flit i with pool := d.testBit 3, ovd := d.testBit 0 })),
    cred := ((List.range (credCount pass)).map (fun j =>
      (bitsAt h (9 * j + credLo pass + 4) 5, bitsAt h (9 * j + credLo pass) 4))).filter (fun e => e.2 != 0),
    rply := bitsAt h (credLo pass - 1) 1 == 1, pm := bitsAt h (credLo pass - 3) 2, cont := cont }

/-! ### The slots and the lanes (08 R235, R240, R254; 09 R263, R264) -/

/-- Lowest frame bit of slot `i`: flit bit j lies at this plus j (08 R235). -/
def slotLo (i : Nat) : Nat := 9408 - 672 * i

/-- The 672 bits of slot `i`: a flit with its check code, in slot 0 of a frame with content that content with its own, or 672 zeros (08 R237,
R240). -/
def Frame.slotBits (fr : Frame) (i : Nat) : BitVec 672 :=
  match fr.slots.find? (fun s => s.1 == i) with
  | some (_, _, f) => flitBits f
  | none => if i = 0 then fr.cont ++ checkOf fr.cont else 0

/-- A frame's bits: 10,240 of them, on a Pass link 10,280 content bits (08 R235; 09 R264). -/
def Frame.bits (pass : Bool) (per : Nat) (fr : Frame) : Nat :=
  fr.header pass per * 2 ^ 10080 + ((List.range 15).map (fun i => (fr.slotBits i).toNat * 2 ^ slotLo i)).sum

/-- Lanes of a Col or Ridge direction (08 R235). -/
def linkLanes (ridge : Bool) : Nat := if ridge then 32 else 64
/-- Logical lane of a frame bit, and the UI it travels in (08 R235). -/
def laneOfBit (ridge : Bool) (n : Nat) : Nat := n % linkLanes ridge
def uiOfBit (ridge : Bool) (n : Nat) : Nat := (10239 - n) / linkLanes ridge

/-- The error pattern of slot `i` within that of a frame. -/
def slotErr (e : BitVec 10280) (i : Nat) : BitVec 672 := e.extractLsb' (slotLo i) 672
/-- The error pattern of the header. -/
def hdrErr (pass : Bool) (e : BitVec 10280) : Nat := bitsAt e.toNat 10080 (hdrWidth pass)

/-- Symbol `s` of codeword `c` in the error pattern of a Pass frame: 514 message symbols, then 30 of parity (09 R263, R264). -/
def symErr (e : BitVec 10280) (par : BitVec 600) (c s : Nat) : Nat :=
  if s < 514 then bitsAt e.toNat (10280 - 5140 * c - 10 * (s + 1)) 10 else bitsAt par.toNat (600 - 300 * c - 10 * (s - 513)) 10

/-- The symbols of codeword `c` in error. -/
def badSyms (e : BitVec 10280) (par : BitVec 600) (c : Nat) : List Nat :=
  if e = 0 && par = 0 then [] else (List.range 544).filter (fun s => symErr e par c s != 0)

/-- The FEC corrects a frame: at most 15 symbols of each codeword are in error (09 R263). More than that it is taken to detect
(notes/assumptions/89.md). -/
def fecCorrects (e : BitVec 10280) (par : BitVec 600) : Bool :=
  (badSyms e par 0).length ≤ 15 && (badSyms e par 1).length ≤ 15

/-- Logical lanes of the symbols that the FEC corrects: symbol j on lane j mod 16 (09 R263). -/
def symLanes (e : BitVec 10280) (par : BitVec 600) : List Nat := (badSyms e par 0 ++ badSyms e par 1).map (· % 16)

/-- Logical lanes of the bits that the check code corrects in slot `i` (08 R235, R255). -/
def bitLanes (ridge : Bool) (i : Nat) (fixed : BitVec 672) : List Nat :=
  ((List.range 672).filter (fun j => fixed.getLsbD j)).map (fun j => laneOfBit ridge (slotLo i + j))

/-! ### What is received (08 R241) -/

/-- What a receiver makes of a frame. -/
structure Seen where
  /-- the frame as its header and slots say. -/
  frame : Frame
  /-- the header CRC matches. -/
  crcOk : Bool
  /-- every slot is correct or corrected. -/
  slotsOk : Bool
  /-- slots corrected. -/
  fixed : List Nat
  /-- logical lanes of the corrected bits. -/
  lanes : List Nat

/-- A frame is received with error pattern `e`: the header CRC and every slot are decoded (08 R241). -/
def Frame.seen (pass ridge : Bool) (fr : Frame) (e : BitVec 10280) : Seen :=
  if e = 0 then ⟨fr, true, true, [], []⟩
  else
    let per := if ridge then 2 else 3
    let h := fr.header pass per ^^^ hdrErr pass e
    let dec (i : Nat) : Option (BitVec 672 × Nat) := decodeErr (slotErr e i)
    let left (i : Nat) : BitVec 672 := match dec i with | some (r, _) => r | none => 0
    let sent (i : Nat) : Flit := match fr.slots.find? (fun s => s.1 == i) with | some (_, _, f) => f | none => {}
    let fixed := (List.range 15).filter (fun i => match dec i with | some (_, n) => n != 0 | none => false)
    ⟨Frame.ofHeader pass per h (fun i => flipFlit (sent i) (left i)) (fr.cont ^^^ (left 0).extractLsb' 32 640),
      crcMatches pass h, (List.range 15).all (fun i => (dec i).isSome), fixed,
      fixed.flatMap (fun i => bitLanes ridge i (slotErr e i ^^^ left i))⟩

/-! ### Contents of slot 0 (08 R240) -/

/-- Content from its bytes: byte b at slot bits 671 - 8b down to 664 - 8b, unlisted bytes zero. -/
def contOf (l : List Nat) : BitVec 640 := BitVec.ofNat 640 (((l ++ List.replicate 80 0).take 80).foldl (fun a x => a * 256 + x % 256) 0)
/-- Byte `b` of a content. -/
def contByte (c : BitVec 640) (b : Nat) : Nat := bitsAt c.toNat (8 * (79 - b)) 8
/-- A little-endian field of `n` bytes from byte `b` on. -/
def contWord (c : BitVec 640) (b n : Nat) : Nat := ((List.range n).map (fun i => contByte c (b + i) * 256 ^ i)).sum
/-- The same, signed. -/
def contInt (c : BitVec 640) (b n : Nat) : Int :=
  let v := contWord c b n
  if v < 2 ^ (8 * n - 1) then v else (v : Int) - (2 ^ (8 * n) : Nat)
/-- A little-endian field as bytes. -/
def leNats (v n : Nat) : List Nat := (List.range n).map (fun i => v / 256 ^ i % 256)
/-- A signed little-endian field as bytes. -/
def leInts (v : Int) (n : Nat) : List Nat := leNats (v % (2 ^ (8 * n) : Nat)).toNat n

/-- PARAM of a Col or Ridge (08 R249). -/
def Param.dieBytes (p : Param) : List Nat :=
  [p.version, p.kind, p.side, p.die, p.link, p.pkg, p.vcs, (if p.rxok then 1 else 0) + (if p.tsrc then 2 else 0)] ++
  leNats (p.design % 2 ^ 31 + (if p.ridgeless then 2 ^ 31 else 0)) 4
/-- PARAM of a Pass port (09 R273). -/
def Param.passBytes (p : Param) : List Nat :=
  [p.version, p.kind, p.side, p.pkg, (if p.rxok then 1 else 0) + (if p.leader then 2 else 0), p.members, p.leaderPkg, 0] ++
  leNats p.serial 8 ++ leNats p.design 4
/-- PARAM content. -/
def Param.cont (pass : Bool) (p : Param) : BitVec 640 := contOf (if pass then p.passBytes else p.dieBytes)

/-- What a PARAM content says. -/
def paramOf (pass : Bool) (c : BitVec 640) : Param :=
  let flag (b i : Nat) : Bool := (contByte c b).testBit i
  if pass then
    { version := contByte c 0, kind := contByte c 1, side := contByte c 2, die := 0, link := 0, pkg := contByte c 3, vcs := 0,
      rxok := flag 4 0, tsrc := false, ridgeless := false, design := contWord c 16 4, leader := flag 4 1, members := contByte c 5,
      leaderPkg := contByte c 6, serial := contWord c 8 8 }
  else
    { version := contByte c 0, kind := contByte c 1, side := contByte c 2, die := contByte c 3, link := contByte c 4, pkg := contByte c 5,
      vcs := contByte c 6, rxok := flag 7 0, tsrc := flag 7 1, ridgeless := flag 11 7, design := contWord c 8 4 % 2 ^ 31,
      leader := false, members := 0, leaderPkg := 0, serial := 0 }

/-- CREDIT_INIT content: dedicated depths and the shared pool (08 R247). -/
def creditCont (depths : List Nat) (pool : Nat) : BitVec 640 := contOf ((depths ++ List.replicate 21 0).take 21 ++ leNats pool 2)

/-- TIME content of a die link: kind, exchange number, TRAIN, and what bytes 8 to 31 hold (08 R251). -/
def timeCont (kind num : Nat) (train : Bool) (rest : List Nat) : BitVec 640 :=
  contOf ([kind, num, if train then 1 else 0, 0, 0, 0, 0, 0] ++ rest)

/-- TIME content of a Pass link: 0x11 request with t1, 0x12 reply with t2 and t3 (09 R269). -/
def passTimeCont (kind num t2 t3 : Nat) : BitVec 640 := contOf ([kind, num, 0, 0, 0, 0, 0, 0] ++ leNats t2 8 ++ leNats t3 8)

/-- ALIGN content (09 R268). -/
def alignCont (num : Nat) (map prop : List Nat) (applyAt : Nat) (mapAck shadowOk : Bool) (suspect : Option Nat) : BitVec 640 :=
  contOf (leNats num 2 ++ map ++ prop ++ leNats applyAt 2 ++ [(if mapAck then 1 else 0) + (if shadowOk then 2 else 0),
    match suspect with | some l => 1 + l % 32 * 2 | none => 0])

/-- A frame of a type that carries no flit and no credit, with its content (08 R238). -/
def plainFrame (ty : FType) (seq ack : Nat) (cont : BitVec 640) : Frame :=
  { ty := ty, seq := seq, ack := ack, slots := [], cred := [], rply := false, pm := 0, cont := cont }

/-- CLOSE with its cause (09 R266, R269). -/
def closeFrame (cause : Nat) : Frame := plainFrame .close 0 0xFFF (contOf [cause])

end Sys2Proof
end

