-- ==== Sys2Proof/Config.lean ====
section
/-! DEFINITION. The values the spec leaves open: opaque constants without a body, applied to the state's counter. -/

namespace Sys2Proof

/-- A value that the spec leaves open, of width `w`; the argument is the state's counter `freeCtr`
(notes/assumptions/3.md). Nothing in Lean can evaluate it. -/
opaque Config.freeValue (w : Nat) : Nat → BitVec w

/-- Bytes of a retained bank of a domain, by domain and bank number: the spec gives no bank its size
(notes/assumptions/22.md). -/
opaque Config.bankSize : Nat → Nat → Nat

/-- What the bytes of a host buffer say of a retained bank, by its name: the spec gives no bank a layout
(notes/assumptions/22.md). -/
opaque Config.bankContents : Nat → List Byte → Machine.Gold

/-- CRC-32 of contents of which the spec gives no layout in bytes (notes/assumptions/93.md). -/
opaque Config.crcOf {α : Type} : α → BitVec 32

end Sys2Proof
end

