-- ==== Sys2Proof/Machine/Ops.lean ====
section
/-! DEFINITION. The shared operations over the block's tables, time, scopes and the Watershed. -/

namespace Sys2Proof.Machine

/-! ### Tables -/

def Block.elem (b : Block) (e : Nat) : Elem := b.elems.get {} e
def Block.modElem (b : Block) (e : Nat) (f : Elem → Elem) : Block := { b with elems := b.elems.mod {} e f }
def Block.ni (b : Block) (n : Nat) : Ni := b.nis.get {} n
def Block.modNi (b : Block) (n : Nat) (f : Ni → Ni) : Block := { b with nis := b.nis.mod {} n f }
def Block.gate (b : Block) (n : Nat) : Gate := b.gates.get {} n
def Block.modGate (b : Block) (n : Nat) (f : Gate → Gate) : Block := { b with gates := b.gates.mod {} n f }
def Block.link (b : Block) (a : Nat) : Link := b.links.get {} a
def Block.modLink (b : Block) (a : Nat) (f : Link → Link) : Block := { b with links := b.links.mod {} a f }
def Block.port (b : Block) (k : Nat) : Pass := b.ports.get {} k
def Block.modPort (b : Block) (k : Nat) (f : Pass → Pass) : Block := { b with ports := b.ports.mod {} k f }
def Block.tb (b : Block) (d : Nat) : Tb := b.tbs.get {} d
def Block.modTb (b : Block) (d : Nat) (f : Tb → Tb) : Block := { b with tbs := b.tbs.mod {} d f }
def Block.dom (b : Block) (d : Nat) : Dom := b.doms.get {} d
def Block.modDom (b : Block) (d : Nat) (f : Dom → Dom) : Block := { b with doms := b.doms.mod {} d f }
def Block.region (b : Block) (g : Nat) : Region := b.regions.get {} g
def Block.modRegion (b : Block) (g : Nat) (f : Region → Region) : Block := { b with regions := b.regions.mod {} g f }
def Block.stw (b : Block) (s : Nat) : Stw := b.stws.get {} s
def Block.modStw (b : Block) (s : Nat) (f : Stw → Stw) : Block := { b with stws := b.stws.mod {} s f }
def Block.scope (b : Block) (ty id : Nat) : Scope := b.scopes.get {} (scKey ty id)
def Block.modScope (b : Block) (ty id : Nat) (f : Scope → Scope) : Block :=
  { b with scopes := b.scopes.mod {} (scKey ty id) f }
def Block.ring (b : Block) (r : Nat) : Ring := b.rings.get {} r
def Block.modRing (b : Block) (r : Nat) (f : Ring → Ring) : Block := { b with rings := b.rings.mod {} r f }
def Block.vec (b : Block) (v : Nat) : Vec := b.vecs.get {} v
def Block.modVec (b : Block) (v : Nat) (f : Vec → Vec) : Block := { b with vecs := b.vecs.mod {} v f }
def Block.modWsh (b : Block) (f : Wsh → Wsh) : Block := { b with wsh := f b.wsh }
def Block.modLead (b : Block) (f : Lead → Lead) : Block := { b with lead := f b.lead }
def Block.modTime (b : Block) (f : TimeSys → TimeSys) : Block := { b with time := f b.time }

/-- A fresh free value, and the block with the counter advanced (notes/assumptions/3.md). -/
def Block.free (b : Block) (w : Nat) : BitVec w × Block :=
  (Config.freeValue w b.freeCtr, { b with freeCtr := b.freeCtr + 1 })

/-- Apply an update for every element of a list. -/
def Block.forEach {α : Type} (b : Block) (l : List α) (f : Block → α → Block) : Block := l.foldl f b

/-- Drive the width line of a direction (13 R367). -/
def Out.setWidth (o : Out) (half : Bool) (now : Nat) : Out :=
  if o.narrow == half then o else { o with narrow := half, widthAt := some now }
/-- The width in force is half: a change of the line applies from the second FCLK after it (13 R367). -/
def Out.half (o : Out) (now : Nat) : Bool :=
  match o.widthAt with | some t => if now < t + 2 then !o.narrow else o.narrow | none => o.narrow

/-! ### Time -/

/-- Fabric Time of a die (07 R216). -/
def Block.ft (b : Block) (d : Nat) : Nat := (b.tb d).ft
/-- Fabric Time as the element `s` reads it (07 R216). -/
def Block.ftOf (b : Block) (s : Nat) : Nat := b.ft (dieOf s)
/-- FCLK in one microsecond. -/
def us : Nat := 3200
/-- FCLK in one millisecond. -/
def ms : Nat := 3200000
/-- A PPS second in Fabric Time (07 R223). -/
def second : Nat := 3200000000

/-- A time base after `n` FCLK: each adds 1 + k / 2^32 (07 R212). -/
def Tb.elapse (t : Tb) (n : Nat) : Tb :=
  let on (ft frac : Nat) : Int := (ft * 2 ^ 32 + frac : Nat) + (n : Int) * (2 ^ 32 + t.k)
  let x := on t.ft t.frac
  let y := on t.ft2 t.frac2
  { t with ft := (x / 2 ^ 32).toNat, frac := (x % 2 ^ 32).toNat, ft2 := (y / 2 ^ 32).toNat, frac2 := (y % 2 ^ 32).toNat }
/-- FCLKs until Fabric Time has reached `x`, at the rate of 07 R212. -/
def Tb.fclkTo (t : Tb) (x : Nat) : Nat :=
  let rate : Int := 2 ^ 32 + t.k
  (((x * 2 ^ 32 : Nat) - (t.ft * 2 ^ 32 + t.frac : Nat) + rate - 1) / rate).toNat
/-- A time base set to an integer part, in both its copies (07 R215, R217, R225). -/
def Tb.put (t : Tb) (ft : Nat) : Tb := { t with ft := ft, ft2 := ft, frac2 := t.frac }
/-- The two copies agree (07 R215). -/
def Tb.agrees (t : Tb) : Bool := t.ft == t.ft2 && t.frac == t.frac2

/-! ### Configuration that profiles and epochs fix (13) -/

/-- Facts behind the table of an epoch (03 R98). -/
def Block.facts (b : Block) (ep : Bool) : Facts := if ep then b.lead.facts1 else b.lead.facts0
/-- Facts of the epoch in force. -/
def Block.factsNow (b : Block) : Facts := b.facts b.lead.epoch
/-- Effective profile (19 R488). -/
def Block.effProfile (b : Block) : Nat := if b.lead.profile == 9 then b.lead.ret.getD 0 else b.lead.profile
/-- Profile that governs packets of an epoch, profile 9 giving its return profile (13 R363, R364). -/
def Block.epProfile (b : Block) (ep : Bool) : Nat := (b.facts ep).profile
/-- Profile whose immediate settings are in force (13 R365, R366). -/
def Block.immProfile (b : Block) : Nat := b.lead.applied
/-- Adaptive routing, escape only in profile 0 (13 R364). -/
def detProfile (p : Nat) : Bool := p == 5 || p == 7
/-- Partition masks enforced (13 R364). -/
def partProfile (p : Nat) : Bool := p == 6 || p == 7

/-! ### Scopes (12) and domains (10) -/

/-- A scope from FENCED to ADMITTING carries nothing (12 R342). -/
def Block.scFenced (b : Block) (ty id : Nat) : Bool := 3 ≤ (b.scope ty id).st || (b.scope ty id).stopped

/-- An element lies in a fenced scope, or the package does (11 R318, R320). -/
def Block.elemFenced (b : Block) (e : Nat) : Bool := b.fatal || (elemScopes e).any (fun s => b.scFenced s.1 s.2)

/-- Kind code of the fence that closes an element, 0 where none by a fault (02 R62): that of a scope whose fence lines are driven, or
which its detecting element has stopped already, else that of the package's Fatal fence. -/
def Block.fenceKind (b : Block) (scs : List (Nat × Nat)) : Nat :=
  match scs.find? (fun s => b.scFenced s.1 s.2 && ((b.scope s.1 s.2).fault || (b.scope s.1 s.2).stopped)) with
  | some s => (b.scope s.1 s.2).kind
  | none => b.fatalKind

/-- Scopes at the boundary that the link behind port `p` of `e` crosses: the link's own and those of its far end. -/
def linkScopes (e p : Nat) : List (Nat × Nat) :=
  linkScope e p :: (match peer e p with
    | some (a, _) => elemScopes a
    | none => [])

/-- The link behind a port is fenced, or its far end is (03 R86, 04 R115). -/
def Block.linkFenced (b : Block) (e p : Nat) : Bool :=
  b.fatal || (linkScopes e p).any (fun s => b.scFenced s.1 s.2)

/-- Domain state code of the element an output leads into, ON where it lies in no domain (10 R291). -/
def Block.domSt (b : Block) (e : Nat) : Nat :=
  match domOf e with
  | some d => (b.dom d).st
  | none => 0

/-- A power-fenced domain (10 R309), or one held for a reload without a golden copy (10 R305): treated as fenced. -/
def Block.powerFenced (b : Block) (e : Nat) : Bool :=
  match domOf e with
  | some d => (b.dom d).st == 7 || ((b.dom d).st == 6 && (b.dom d).noGold)
  | none => false

/-- An output is fenced for traffic: its link or far end fenced or power-fenced (03 R86, 10 R305, R309). -/
def Block.outFenced (b : Block) (e p : Nat) : Bool :=
  b.linkFenced e p || (match peer e p with | some (a, _) => b.powerFenced a | none => true)

/-- The domain of an element carries flits: it is On, or drains for a change of power by command (10 R307). -/
def Block.carries (b : Block) (e : Nat) : Bool := b.domSt e == 0 || b.domSt e == 8

/-- The domain of an element is closed to its neighbours: not On; on its way to Off, not before the routes exclude it (10 R294, R307). -/
def Block.closed (b : Block) (e : Nat) : Bool :=
  match domOf e with
  | some d => let x := b.dom d; x.st != 0 && !(x.st == 8 && x.target == some 7 && !x.excl)
  | none => false

/-- A flit may not cross to the far end of an output: a head not into a closed domain from outside, a body flit not into one that rests
(10 R296, R307). -/
def Block.outShut (b : Block) (e p : Nat) (head : Bool) : Bool :=
  match peer e p with
  | some (a, _) => if head && domOf e != domOf a then b.closed a else !b.carries a
  | none => true

/-- An output leads into a domain that is closed or resting (10 R296). -/
def Block.outClosed (b : Block) (e p : Nat) : Bool := b.outShut e p true

/-- A domain is waking (10 R299, R304). -/
def Block.outWaking (b : Block) (e p : Nat) : Bool :=
  match peer e p with
  | some (a, _) => b.domSt a == 5 || b.domSt a == 6
  | none => false

/-- A cluster of the plane is fenced or in repair, or the plane is (03 R93). -/
def Block.planeCarries (b : Block) (p : Nat) : Bool :=
  !b.fatal && (b.scope 8 p).st == 0 &&
  (List.range 16).all (fun c => !b.scFenced 6 (96 + 16 * p + c)) &&
  (List.range 4).all (fun g => !b.scFenced 7 (24 + 4 * p + g))

/-! ### Event counters (18 R461-R468) -/

/-- One event on a counter: modulo 2^48, setting OVF on a wrap (18 R463). -/
def Elem.bumpOne (el : Elem) (i : Nat) : Elem :=
  let c := el.ctr.get 0 i
  if c + 1 < 2 ^ 48 then { el with ctr := el.ctr.set i (c + 1) }
  else { el with ctr := el.ctr.set i 0, ovf := el.ovf.set i true, wraps := el.wraps.mod 0 i (· + 1) }

/-- `n` events on a counter. -/
def Elem.bump (el : Elem) (i n : Nat) : Elem :=
  let c := el.ctr.get 0 i
  if n = 0 then el
  else if c + n < 2 ^ 48 then { el with ctr := el.ctr.set i (c + n) }
  else { el with ctr := el.ctr.set i ((c + n) % 2 ^ 48), ovf := el.ovf.set i true, wraps := el.wraps.mod 0 i (· + 1) }

def Block.bump (b : Block) (e i n : Nat) : Block := b.modElem e (fun el => el.bump i n)

/-- The counter of a source that counts a kind (18 R466-R468; 11 R317). -/
def kindCtr (s kind : Nat) : Option Nat :=
  if isRouter s then
    match kind with
    | 0x01 => some 36 | 0x02 => some 37 | 0x03 => some 38 | 0x04 => some 38 | 0x05 => some 38 | 0x07 => some 39
    | 0x08 => some 40 | 0x62 => some 42 | 0x63 => some 43 | 0x64 => some 44 | _ => none
  else if isNi s then
    match kind with
    | 0x10 => some 7 | 0x0F => some 8 | 0x09 => some 9 | 0x0A => some 11 | 0x01 => some 12 | _ => some 15
  else if isAdp s then
    match kind with
    | 0x25 => some 12 | 0x26 => some 12 | 0x27 => some 12
    | 0x28 => some (if isPass s then 12 else 15)
    | 0x20 => none | 0x21 => none
    | _ => some 15
  else none

def Block.bumpKind (b : Block) (s kind : Nat) : Block :=
  match kindCtr s kind with
  | some i => b.bump s i 1
  | none => b

/-! ### Raising a Watershed message (11) -/

/-- Severity of a kind at a source (11 R321). -/
def kindSev (s kind : Nat) : Nat :=
  if kind ∈ [0x30, 0x31] then (if dieOf s == 12 then 3 else 2)
  else if kind ∈ [0x66, 0x72] then 3
  else if kind ∈ [0x02, 0x03, 0x04, 0x05, 0x06, 0x07, 0x22, 0x23, 0x24, 0x2A, 0x40, 0x58, 0x59, 0x60, 0x71] then 2
  else if kind ∈ [0x0B, 0x0C, 0x0D, 0x0E, 0x0F, 0x11, 0x12, 0x13, 0x15, 0x27, 0x35, 0x36, 0x41, 0x51, 0x52, 0x53, 0x54,
                  0x55, 0x56, 0x5A, 0x61, 0x63, 0x65, 0x70] then 1
  else 0

/-- The kinds of 11 R321. -/
def kindKnown (k : Nat) : Bool :=
  (1 ≤ k && k ≤ 0x16) || (0x20 ≤ k && k ≤ 0x2A) || (0x30 ≤ k && k ≤ 0x3A) || k == 0x40 || k == 0x41 ||
  (0x50 ≤ k && k ≤ 0x5A) || (0x60 ≤ k && k ≤ 0x66) || (0x70 ≤ k && k ≤ 0x72) || k == 0xFE

/-- DETAIL layouts of 11 R327. -/
def detP (inPort vc out cls tier tag : Nat) : BitVec 32 :=
  BitVec.ofNat 32 (inPort % 8 * 2 ^ 29 + vc % 32 * 2 ^ 24 + out % 8 * 2 ^ 21 + cls % 8 * 2 ^ 18 + tier % 4 * 2 ^ 16 + tag % 2 ^ 16)
def detL (kind dir lane count : Nat) : BitVec 32 :=
  BitVec.ofNat 32 (kind * 2 ^ 24 + dir * 2 ^ 16 + min lane 255 * 2 ^ 8 + min count 255)
def detD (dom bank st : Nat) : BitVec 32 := BitVec.ofNat 32 (dom * 2 ^ 16 + bank % 256 * 256 + st % 256)
def detK (node inc entry cause : Nat) : BitVec 32 :=
  BitVec.ofNat 32 (node * 2 ^ 16 + inc * 256 + entry % 16 * 16 + cause % 4)
def detN (n : Nat) : BitVec 32 := BitVec.ofNat 32 n
/-- A signed value in FCLK, saturating (11 R327 T). -/
def detT (v : Int) : BitVec 32 := BitVec.ofInt 32 (max (-2147483648) (min 2147483647 v))
def detS (ty id cause : Nat) : BitVec 32 := BitVec.ofNat 32 (id % 65536 * 2 ^ 16 + ty * 256 + cause % 256)

/-- Link kind of DETAIL L at a port (11 R327). -/
def linkKind (e p : Nat) : Nat :=
  if p == 7 then (if isRidge e then 3 else if isPass e then 4 else 2)
  else if isRouter e && p < 4 then 0 else 1

/-- A steward serves: neither lost nor fenced, and its domain runs. -/
def Block.stwUp (b : Block) (s : Nat) : Bool :=
  !(b.stw s).lost && !b.scFenced 10 s && ((b.dom (stwDom s)).st == 0 || (b.dom (stwDom s)).st == 8)

/-- A steward of the I/O die would be in service if `except` were fenced (11 R319). -/
def Block.ioStwLeft (b : Block) (except : Nat) : Bool :=
  (List.range 16).any (fun n => stwSrc 12 n != except && b.stwUp (stwSrc 12 n))

/-- A repair of the scope has been accepted and its routes are not yet excluded. -/
def Block.aboutToClose (b : Block) (ty id : Nat) : Bool :=
  let k := some (scKey ty id)
  b.lead.commit.any (fun c => c.why == 6 && c.scope == k) || b.lead.commitQ.any (fun x => x.1 == 6 && x.2 == k) ||
  b.lead.planeNotice.any (fun p => ty == 8 && p.1 == id)

/-- A plane is in repair from the acceptance of the command on (12 R355). -/
def Block.planeInRepair (b : Block) (p : Nat) : Bool := (b.scope 8 p).st != 0 || b.aboutToClose 8 p

/-- A Containable fence of the scope would leave no plane carrying traffic, or no I/O-die steward (11 R319), or lies on a plane while the other
one is in repair (12 R355, R361). -/
def Block.escalates (b : Block) (ty id : Nat) : Bool :=
  let hitsPlane (p : Nat) : Bool := scopeIn ty id 8 p && (ty == 6 || ty == 7 || ty == 8 || b.planeInRepair (1 - p))
  (hitsPlane 0 && (!b.planeCarries 1 || b.planeInRepair 1)) || (hitsPlane 1 && (!b.planeCarries 0 || b.planeInRepair 0)) || (ty == 10 && dieOf id == 12 && !b.ioStwLeft id)

/-- A message of source `s` (11 R314, R316): time of detection on its own die, its own NODEID where no packet is named. -/
def Block.mkMsg (b : Block) (s kind sev : Nat) (pk : Option (BitVec 128)) (det : BitVec 32) : Msg :=
  { src := s, kind := kind, sev := sev,
    nodeid := match pk with | some h => hSrc h | none => ownNode b.pkgid s,
    addr := match pk with | some h => hAddr h | none => 0,
    time := b.ftOf s, detail := det }

/-- Send a message to the die collector, counting the occurrence; while the queue of 64 is full the source waits (11 R312, R315, R317). -/
def Block.send (b : Block) (m : Msg) : Block :=
  (b.bumpKind m.src m.kind).modWsh (fun w =>
    let k := m.src * 256 + m.kind
    let m := { m with count := min 0xFFFF (w.supp.get 0 k) }
    let d := dieOf m.src
    if (w.die.get [] d).length < 64 then { w with supp := w.supp.erase k, die := w.die.mod [] d (· ++ [m]) }
    else { w with supp := w.supp.erase k, late := w.late.mod [] d (· ++ [m]) })

/-- A Corrected or Deferred event (11 R317). -/
def Block.event (b : Block) (s kind : Nat) (pk : Option (BitVec 128)) (det : BitVec 32) : Block :=
  b.send (b.mkMsg s kind (kindSev s kind) pk det)

/-- An occurrence that a rate limit keeps from a record: it is counted (11 R317, R329). -/
def Block.suppress (b : Block) (s kind : Nat) : Block :=
  (b.bumpKind s kind).modWsh (fun w => { w with supp := w.supp.mod 0 (s * 256 + kind) (· + 1) })

/-- A Containable fault, Fatal where 11 R319 escalates it: the message, which names the package then (R328), leaves and the detecting element stops traffic across
the boundary of the granule, whose discards carry the fault's kind from then on (11 R318 step 1; 02 R62). -/
def Block.fault (b : Block) (s kind ty id : Nat) (pk : Option (BitVec 128)) (det : BitVec 32)
    (ext : Option (BitVec 128) := none) (forced : Bool := false) : Block :=
  let sev := kindSev s kind
  let esc := sev == 2 && b.escalates ty id
  let m := { b.mkMsg s kind (if esc then 3 else sev) pk det with
    escalated := esc, ext := ext, forced := forced, scTy := if esc then 11 else ty, scId := if esc then b.pkgid else id }
  let b := b.send m
  if ty == 0 || sev < 2 then b
  else b.modScope ty id (fun sc => { sc with stopped := true, kind := if sc.stopped || 3 ≤ sc.st then sc.kind else kind })

/-- A source sends its FORCED message (11 R324). -/
def Block.sendForced (b : Block) (s : Nat) : Block := b.send { b.mkMsg s 0xFE 0 none 0 with forced := true }

/-- A die has its path again: sources whose force bits stand send their messages (17 R460). -/
def Block.flushForced (b : Block) (d : Nat) : Block :=
  (List.range 512).foldl (fun (b : Block) i =>
    let s := d * 512 + i
    if (b.wsh.force.get 0 (s / 64)).getLsbD (s % 64) then
      (b.sendForced s).modWsh (fun w => { w with force := w.force.mod 0 (s / 64) (fun y => y &&& ~~~(BitVec.ofNat 64 (2 ^ (s % 64)))) })
    else b) b

/-- A Corrected event of an NI at most once per `per` FCLK (02 R69, R70; 05 R159; 06 R184); a further one is counted. -/
def Block.niEvent (b : Block) (n kind per : Nat) (pk : Option (BitVec 128)) (det : BitVec 32) : Block :=
  match (b.ni n).lastEv.find kind with
  | some t => if b.now < t + per then b.suppress n kind
    else (b.event n kind pk det).modNi n (fun x => { x with lastEv := x.lastEv.set kind b.now })
  | none => (b.event n kind pk det).modNi n (fun x => { x with lastEv := x.lastEv.set kind b.now })

/-- Source index of the lead steward; steward 0 of the I/O die until one is chosen (14 R381). -/
def Block.leadSrc (b : Block) : Nat := stwSrc 12 (b.lead.who.getD 0)

/-! ### Aborts that the fabric originates (02 R62, R66, R67; 11 R334) -/

/-- A packet that profile 8 duplicates: MGT, or REQ with ORD, of this package, under an epoch of profile 8 (13 R370). -/
def Block.isDup (b : Block) (h : BitVec 128) : Bool :=
  b.epProfile (hEpoch h) == 8 && nodePkg (hSrc h) == b.pkgid && (hCls h == MGT || (hCls h == REQ && hOrd h))

/-- The packet has gone out in two copies: its source's tag, if it holds one, says so (13 R371). -/
def Block.markDup (b : Block) (h : BitVec 128) : Block :=
  if holdsTag (hCls h) (hOpc h) then b.modNi (nodeNi (hSrc h)) (fun x => match x.tags.find (hTag h).toNat with
    | some g => { x with tags := x.tags.set (hTag h).toNat { g with dup := true } }
    | none => x)
  else b

/-- Epoch under which an element injects what it originates itself: an NI or Pass port its injection epoch, any other the epoch in force. -/
def Block.injEpoch (b : Block) (e : Nat) : Bool := if isNi e || isAdp e then (b.ni e).epoch else b.lead.epoch

/-- A one-flit packet of an epoch that carries profile 8 (`p8`), or not: an MGT packet has its CRC flit there, which LEN counts (02 R55, R56). -/
def AbortPkt.epochIs (a : AbortPkt) (p8 ep : Bool) : AbortPkt :=
  let crc := hCls a.hdr == MGT && p8
  let h := setF a.hdr 61 1 (if ep then 1 else 0)
  ⟨setF h 74 3 (if crc then 1 else 0), a.pay, if crc then some (crcFlit [a.pay]) else none⟩

/-- A one-flit packet as element `e` puts it into the fabric without a Tollgate: AGE, EPOCH and, at an NI, PART are written, and an MGT packet
under an epoch of profile 8 carries its CRC flit, which LEN counts (02 R40, R41, R45, R55, R56). -/
def Block.sealed (b : Block) (e : Nat) (h : BitVec 128) (pay : BitVec 512) : AbortPkt :=
  let h := setF h 62 12 (b.ftOf e / 16)
  let h := if isNi e then setF h 58 3 (b.ni e).part else h
  AbortPkt.epochIs ⟨h, pay, none⟩ (b.epProfile (b.injEpoch e) == 8) (b.injEpoch e)

/-- The answer to a discarded packet, if any. `indet`: its head had been handed to the target unit, its frame may have
been accepted, or it is one of two copies (13 R371). `at_`: source index of the element that held the head. -/
def Block.abortFor (b : Block) (at_ kind : Nat) (h : BitVec 128) (indet : Bool) : Option AbortPkt :=
  let cls := hCls h
  let opc := hOpc h
  let mk (dest src : BitVec 16) (c o mgt : Nat) : AbortPkt :=
    b.sealed at_ (mkHdr dest src c o (hTag h) 0 (hAddr h) (hTier h) false false) (abortDetail (b.ftOf at_) at_ kind cls opc mgt)
  if isAbort cls opc || cls == TRC || cls == 7 then none
  else if isSettle cls opc then some (mk (hDest h) (hSrc h) RSP 0x11 0)
  else if isMgtAnswer cls opc then some (mk (hDest h) (canon (hDest h)) MGT 4 0x11)
  else if cls == RSP || cls == DAT then some (mk (hDest h) (canon (hDest h)) RSP 0x11 0)
  else if cls == MGT then some (mk (hSrc h) (canon (hDest h)) MGT 4 (if indet then 0x11 else 0x10))
  else some (mk (hSrc h) (canon (hDest h)) RSP (if indet then 0x11 else 0x10) 0)

/-- Discard a packet whose head `h` was held by `at_`, sending the answer that the rules give; a TRC packet is counted (11 R334). -/
def Block.discard (b : Block) (at_ kind : Nat) (h : BitVec 128) (indet : Bool) : Block :=
  if hCls h == TRC then b.modElem at_ (fun el => { el with tel := { el.tel with trcLost := el.tel.trcLost + 1 } }) else
  match b.abortFor at_ kind h indet with
  | some a => { b with aborts := b.aborts ++ [a] }
  | none => b

/-! ### Host memory and interrupts (15) -/

def Block.hostWrite (b : Block) (o : HostOut) : Block := { b with hostOut := o :: b.hostOut }

/-- Send a vector's message, or mark it pending while masked (15 R414). -/
def Block.irq (b : Block) (v : Nat) : Block :=
  if (b.vec v).mask then b.modVec v (fun x => { x with pending := true })
  else b.hostWrite (.irq v (b.vec v).addr (b.vec v).data)

/-- `n` little-endian bytes of a number. -/
def leBytes (v : Nat) : Nat → List Byte
  | 0 => []
  | n + 1 => BitVec.ofNat 8 (v % 256) :: leBytes (v / 256) n

/-- A little-endian number of `n` bytes from byte `i`. -/
def leNat (bs : List Byte) (i n : Nat) : Nat :=
  (List.range n).foldr (fun j a => (bs.getD (i + j) 0).toNat + 256 * a) 0

/-- Reinterpret the low `w` bits of a number as signed. -/
def toSigned (w v : Nat) : Int := if v % 2 ^ w < 2 ^ (w - 1) then (v % 2 ^ w : Nat) else ((v % 2 ^ w : Nat) : Int) - 2 ^ w

end Sys2Proof.Machine
end

