-- ==== Sys2Proof/Machine/Routes.lean ====
section
/-! DEFINITION. Routing (spec/03): the facts the stewards compute tables from, a table's entries, the outputs of a packet at
a router, and the plane an injector chooses. -/

namespace Sys2Proof.Machine

/-! ### Facts from the state of the package (03 R85-R97, 14 R393) -/

/-- A scope counts as in service for new routes: ACTIVE, or the one being readmitted; `excl` leaves one out (12 R343, R350). -/
def Block.inService (b : Block) (incl excl : Option Nat) (ty id : Nat) : Bool :=
  let sc := b.scope ty id
  ((sc.st == 0 && !sc.stopped) || incl == some (scKey ty id)) && excl != some (scKey ty id)

/-- A domain that routes may use: not Off by command, nor on its way there or back, nor held without a golden copy (10 R300, R305, R307). -/
def Block.domUsable (b : Block) (d : Nat) : Bool :=
  let x := b.dom d
  !(x.st == 7 || ((x.st == 8 || x.st == 4) && x.target == some 7) || ((x.st == 5 || x.st == 6) && x.wakeFrom == 7) || (x.st == 6 && x.noGold))

/-- A link layer that has reached ACTIVE (08 R248). -/
def Block.linkUp (b : Block) (a : Nat) : Bool :=
  match (b.link a).st with
  | .active | .quiet | .retained | .retrain => true
  | _ => false

/-- A Col link is in service: its scope and its die's are ACTIVE, both sides have trained, and neither is Off or ordered Off (03 R87; 10 R306). -/
def Block.colUp (b : Block) (n : Nat) : Bool :=
  b.inService none none 3 n && b.inService none none 9 (n / 2) && b.linkUp (colAdp n) && b.linkUp (colIo n) &&
  b.domUsable (128 + n) && b.domUsable (152 + n)

/-- Pass ports whose link leads to package `q` and carries traffic: OPEN to STEERING, or a refusal shown (09 R281). -/
def Block.portsTo (b : Block) (incl excl : Option Nat) (q : Nat) : List Nat :=
  (List.range 8).filter (fun k =>
    let p := b.port k
    (p.st == 2 || p.st == 3 || p.st == 4 || p.st == 9 || (p.openNext && p.step == 7 && (p.st == 1 || p.st == 7))) && !p.rook &&
    (p.far.map (·.1)) == some q && b.inService incl excl 5 k && b.domUsable (200 + k))

/-- Packages one Pass hop from the own. -/
def Block.directTo (b : Block) (incl excl : Option Nat) (q : Nat) : Bool := !(b.portsTo incl excl q).isEmpty

/-- The intermediate package of a two-hop route: eligible for transit by 03 R93, one Pass hop from both (03 R96, 09 R275). -/
def Block.interTo (b : Block) (incl excl : Option Nat) (q : Nat) : Option Nat :=
  let p := b.pkgid
  let ok (i : Nat) : Bool := i != p && i != q && b.directTo incl excl i &&
    (match b.members.find i with | some m => m.nbrs.contains q && m.out.isEmpty | none => false)
  let rook := 10 ≤ b.members.length
  let c1 := 4 * (p / 4) + q % 4
  let c2 := 4 * (q / 4) + p % 4
  if rook && p / 4 != q / 4 && p % 4 != q % 4 then (if ok c1 then some c1 else if ok c2 then some c2 else none)
  else if rook && p / 4 == q / 4 then (List.range 16).find? (fun i => i / 4 == p / 4 && ok i)
  else if rook && p % 4 == q % 4 then (List.range 16).find? (fun i => i % 4 == p % 4 && ok i)
  else (List.range 16).find? ok

/-- Facts for a new epoch; `incl`: scope readmitted with it, `excl`: scope left out (03 R85, R87, R90, R93, R96). -/
def Block.mkFacts (b : Block) (incl excl : Option Nat) (profile : Nat) : Facts :=
  let svc := b.inService incl excl
  let colIn (n : Nat) : Bool := svc 3 n && svc 9 (n / 2) && (b.linkUp (colIo n) || incl == some (scKey 3 n) || incl == some (scKey 9 (n / 2))) &&
    b.domUsable (128 + n) && b.domUsable (152 + n)
  let ridgeIn (k : Nat) : Bool := svc 4 k && svc 9 k && svc 9 ((k + 1) % 12) && (b.linkUp (ridgeE k) || incl == some (scKey 4 k)) &&
    b.domUsable (177 + 2 * k) && b.domUsable (176 + 2 * ((k + 1) % 12))
  let clOut (c : Nat) : Bool := !(svc 6 c && svc 7 (regionOfCluster c) && b.domUsable c)
  let order (d : Nat) : Nat :=
    let lo := (List.range 4).any (fun c => clOut (8 * d + c))
    let hi := (List.range 4).any (fun c => clOut (8 * d + 4 + c))
    if lo && !hi then 2 else if hi && !lo then 1 else 0
  let out (d : Nat) : Bool := !colIn (2 * d) && !colIn (2 * d + 1)
  let elig (d nb k : Nat) : Bool := order nb == 0 && !out nb && order d == 0 && ridgeIn k && svc 9 d
  let nbr (d : Nat) : Option Nat :=
    if elig d ((d + 1) % 12) d then some ((d + 1) % 12)
    else if elig d ((d + 11) % 12) ((d + 11) % 12) then some ((d + 11) % 12) else none
  let dies := List.range 12
  { builtin := false, pkg := b.pkgid, profile := profile,
    esc1 := dies.filter (fun d => !colIn (2 * d) && colIn (2 * d + 1)),
    colsOut := (List.range 24).filter (fun n => !colIn n),
    orders := dies.filterMap (fun d => if order d = 0 then none else some (d, order d)),
    detour := dies.filterMap (fun d => if out d then (nbr d).map (fun n => (d, n)) else none),
    unreach := dies.filter (fun d => !svc 9 d || (out d && (nbr d).isNone)),
    ridgesOut := dies.filter (fun k => !ridgeIn k),
    planeA := svc 8 0 && (List.range 16).all (fun c => !clOut (96 + c)),
    planeB := svc 8 1 && (List.range 16).all (fun c => !clOut (112 + c)),
    pass := (List.range 16).filterMap (fun q =>
      if q = b.pkgid then none
      else if b.directTo incl excl q then some (q, b.portsTo incl excl q, false)
      else match b.interTo incl excl q with
        | some i => some (q, b.portsTo incl excl i, true)
        | none => none) }

/-! ### Outputs within a mesh (03 R83-R85) -/

/-- Adaptive outputs towards router (xd, yd), its local ports apart (03 R84). -/
def adaptTo (xc yc xd yd : Nat) (arrLocal : Bool) : List Nat :=
  let vert := if yd > yc then 0 else 2
  if xd = xc ∧ yd = yc then []
  else if xd = xc then [vert]
  else if xd > xc then
    if yd = yc then [1]
    else (if xc % 2 = 1 || arrLocal then [vert] else []) ++ (if xd % 2 = 1 || xd - xc != 1 then [1] else [])
  else [3] ++ (if yd != yc && xc % 2 == 0 then [vert] else [])

/-- Escape output towards router (xd, yd) under an order: 0 XY, else trunk row; `none` at that router (03 R85). -/
def escTo (order xc yc xd yd : Nat) : Option Nat :=
  let vert (t : Nat) : Nat := if t > yc then 0 else 2
  let hor : Nat := if xd > xc then 1 else 3
  if xd = xc ∧ yd = yc then none
  else if order = 0 then (if xd ≠ xc then some hor else some (vert yd))
  else if xd = xc then some (vert yd)
  else if yc ≠ order then some (vert order)
  else some hor

/-- A turn from input port `i` to output `o` in column `x` is forbidden, or a reversal (03 R83). -/
def turnForbidden (i o x : Nat) : Bool :=
  if i ≥ 4 || o ≥ 4 then false
  else i == o ||
    (if x % 2 == 0 then i == 3 && (o == 0 || o == 2) else (i == 2 || i == 0) && o == 3)

/-! ### Table entries (03 R98-R101) -/

/-- Escape Col of a die under the facts (03 R87). -/
def Facts.escCol (f : Facts) (d : Nat) : Nat := if f.esc1.contains d then 1 else 0

/-- Ports of a route entry: column, row and local output of the exit router. -/
abbrev Exit := Nat × Nat × Nat

/-- Exit towards Ridge neighbour `n` of die `d` (01 R17, R19). -/
def ridgeExit (d n : Nat) : Exit := if n == (d + 1) % 12 then (7, 0, 4) else (0, 0, 4)

/-- Exit of a compute die by its Col `c`, from row `y` (03 R87). -/
def colExit (f : Facts) (d c y : Nat) : Exit :=
  let o := f.orders.get 0 d
  (if c = 0 then 0 else 7, if o ≠ 0 then o else if y < 2 then 1 else 2, 4)

/-- The die by whose Col a die is entered: itself, or its detour neighbour (03 R90). -/
def Facts.viaDie (f : Facts) (d : Nat) : Nat := f.detour.get d d

/-- Dies `d` and `n` are neighbours on the ring and the Ridge between them is in service (01 R17; 03 R89, R91). -/
def Facts.ridgeTo (f : Facts) (d n : Nat) : Bool :=
  (n == (d + 1) % 12 && !f.ridgesOut.contains d) || (n < 12 && d == (n + 1) % 12 && !f.ridgesOut.contains n)

/-- Exits of the route from router `r` to (package, die): escape, and the adaptive ones; none where unreachable. -/
def Facts.exits (f : Facts) (r dp dd : Nat) : Option (Exit × List Exit) :=
  let d := dieOf r
  let y := rowOf r
  let x := colOf r
  if dp = f.pkg ∧ f.unreach.contains dd then none
  else if dp ≠ f.pkg ∧ (f.pass.find dp).isNone then none
  else if d < 12 then
    let twoHop : Bool := dp != f.pkg && (match f.pass.find dp with | some (_, t) => t | none => false)
    if f.unreach.contains d then none
    else match f.detour.find d with
    | some n =>
      if twoHop then none
      else if dp = f.pkg ∧ f.ridgeTo d dd ∧ (f.detour.find dd).isSome then some (ridgeExit d dd, [ridgeExit d dd])
      else if dp = f.pkg ∧ dd < 12 ∧ (f.detour.find dd).isSome ∧ dd ≠ n then none
      else some (ridgeExit d n, [ridgeExit d n])
    | none =>
      if dp = f.pkg ∧ f.detour.find dd = some d then some (ridgeExit d dd, [ridgeExit d dd])
      else
        let side := if x < 4 then 0 else 1
        let cols := if f.profile == 3 then [0, 1].filter (fun c => !f.colsOut.contains (2 * d + c))
          else if f.colsOut.contains (2 * d + side) then [1 - side] else [side]
        let ridge := if dp = f.pkg ∧ f.ridgeTo d dd then [ridgeExit d dd] else []
        some (colExit f d (f.escCol d) y, cols.map (fun c => colExit f d c y) ++ ridge)
  else if dp = f.pkg then
    let v := f.viaDie dd
    let (cx, cy) := colXY (2 * v + f.escCol v)
    some ((cx, cy, 4), [(cx, cy, 4)])
  else match f.pass.find dp with
    | some (ports, _) =>
      let es := ports.map (fun k => let (px, py) := passXY k; ((px, py, 4 + k % 2) : Exit))
      some (es.headD (0, 0, 4), es)
    | none => none

/-- A route entry as 16 bits (03 R98). -/
def mkEntry (valid : Bool) (escout amask order : Nat) (own : Bool) : Nat :=
  (if valid then 2 ^ 15 else 0) + escout * 2 ^ 12 + amask * 2 ^ 6 + order * 16 + (if own then 8 else 0)

def eValid (e : Nat) : Bool := e.testBit 15
def eEsc (e : Nat) : Nat := e / 2 ^ 12 % 8
def eMask (e : Nat) : Nat := e / 2 ^ 6 % 64
def eOrder (e : Nat) : Nat := e / 16 % 4
def eOwn (e : Nat) : Bool := e.testBit 3

/-- AMASK from a list of outputs: N at bit 5 of the mask to L1 at bit 0 (03 R98). -/
def maskOf (outs : List Nat) : Nat :=
  (List.range 6).foldl (fun m p => if outs.contains p then m + 2 ^ (5 - p) else m) 0
/-- Outputs of an AMASK. -/
def maskOuts (m : Nat) : List Nat := (List.range 6).filter (fun p => m.testBit (5 - p))

/-- The entry that the built-in content or the stewards give (03 R99, R101). R101 leads the built-in entries on Plane A and leaves open what the
routers of Plane B hold: they hold the same entries, on their own plane, and injectors may choose it (DESIGN CHOICE,
notes/assumptions/97.md). -/
def Facts.entry (f : Facts) (r idx : Nat) : Nat :=
  let dp := idx / 16
  let dd := idx % 16
  if dd > 12 then 0
  else if dp = f.pkg ∧ dd = dieOf r then mkEntry true 0 0 (if dieOf r < 12 then f.orders.get 0 (dieOf r) else 0) true
  else if f.builtin then
    if dp ≠ f.pkg then 0
    else
      let (ex, ey) := if dieOf r < 12 then (0, if rowOf r < 2 then 1 else 2) else colXY (2 * dd)
      mkEntry true ((escTo 0 (colOf r) (rowOf r) ex ey).getD 4) 0 0 false
  else match f.exits r dp dd with
    | none => 0
    | some ((ex, ey, el), ads) =>
      let o := if dieOf r < 12 then f.orders.get 0 (dieOf r) else 0
      let ad (e : Exit) : List Nat :=
        if e.1 = colOf r ∧ e.2.1 = rowOf r then [e.2.2] else adaptTo (colOf r) (rowOf r) e.1 e.2.1 true
      mkEntry true ((escTo o (colOf r) (rowOf r) ex ey).getD el) (if f.profile == 0 then 0 else maskOf (ads.flatMap ad)) 0 false

/-- Entry of a router's table: what a write left there, else what the stewards computed (03 R98, R102). -/
def Block.entry (b : Block) (r : Nat) (ep : Bool) (idx : Nat) : Nat :=
  match (b.elem r).tab.find ((if ep then 256 else 0) + idx) with
  | some v => v
  | none => (b.facts ep).entry r idx

/-! ### The outputs of a packet at a router (03 R81, R86, R88, R98, R99; 13 R368) -/

/-- ORD as it is honoured: on REQ, SNP, MSG and MGT (02 R73). -/
def ordOf (h : BitVec 128) : Bool := hOrd h && (hCls h == REQ || hCls h == SNP || hCls h == MSG || hCls h == MGT)

/-- The packet is ordered under its epoch: ORD, or of the Scheduled tier in profiles 5 and 7 (02 R72-R74). -/
def Block.ordered (b : Block) (h : BitVec 128) : Bool := ordOf h || (detProfile (b.epProfile (hEpoch h)) && hTier h == 3)

/-- The packet must travel on escape VCs from its first hop in a mesh (03 R80). -/
def Block.mustEscape (b : Block) (h : BitVec 128) : Bool :=
  let p := b.epProfile (hEpoch h)
  ordOf h || (detProfile p && hTier h == 3) || p == 0

/-- Escape VC of a packet at an input with `per` VCs a class (03 R82, 04 R111). -/
def Block.escVc (b : Block) (per : Nat) (h : BitVec 128) : Nat :=
  per * hCls h + (if per == 3 then (if nodePkg (hSrc h) == b.pkgid then 1 else 2) else 1)
/-- Adaptive VC of a packet (04 R111). -/
def adVc (per : Nat) (h : BitVec 128) : Nat := per * hCls h

/-- Free credits of an output on a downstream VC, as they stood at the start of this FCLK: one returned in it is not among them (04 R110,
R114). -/
def Block.freeCr (b : Block) (e p vc : Nat) : Nat :=
  match peer e p with
  | some (a, _) =>
    let o := (b.elem e).outs.get {} p
    vcDepth a vc - (o.used.get 0 vc + (if o.backAt = b.now then o.back.get 0 vc else 0))
  | none => 0

/-- An output is excluded by partition masks in profiles 6 and 7 (13 R368). -/
def Block.partExcluded (b : Block) (e p : Nat) (h : BitVec 128) : Bool :=
  partProfile (b.epProfile (hEpoch h)) &&
  (match peer e p with
   | some (a, _) =>
     let keys := if isRouter a then [scKey 6 (clusterOf a)] else if isAdp a then [scKey (linkScope a 7).1 (linkScope a 7).2] else []
     keys.any (fun k => !(b.lead.masks.get 0xFF k).testBit (hPart h))
   | none => false)

/-- The output that stands for a chosen one: into a Col adapter, the local port whose downstream VC has more free credits,
local port 0 on a tie, never one whose local link is fenced (03 R98). -/
def Block.colPort (b : Block) (r o vc : Nat) : Nat :=
  if o < 4 then o
  else match peer r o with
    | some (a, _) =>
      if isColC a || isColI a then
        let f4 := b.scFenced (linkScope r 4).1 (linkScope r 4).2
        let f5 := b.scFenced (linkScope r 5).1 (linkScope r 5).2
        if f4 && !f5 then 5 else if f5 then 4 else if b.freeCr r 5 vc > b.freeCr r 4 vc then 5 else 4
      else o
    | none => o

/-- What a router does with the packet at the front of an input VC. -/
inductive RouteTo where
  /-- output and downstream VC -/
  | go (out vc : Nat)
  /-- wait and decide again (03 R81) -/
  | wait
  /-- discard it, answered with a kind (03 R86, R99) -/
  | drop (kind : Nat)
deriving DecidableEq, Repr

/-- Adaptive outputs and the escape output of a packet at router `r`; `none` for an invalid entry (03 R99). -/
def Block.routeOf (b : Block) (r : Nat) (inPort : Nat) (h : BitVec 128) : Option (List Nat × Nat) :=
  let idx := nodePkg (hDest h) * 16 + nodeDie (hDest h)
  let e := b.entry r (hEpoch h) idx
  if eOwn e then
    let xd := nodeR (hDest h) % 8
    let yd := nodeR (hDest h) % 64 / 8
    let loc := 4 + nodeL (hDest h)
    if colOf r = xd ∧ rowOf r = yd then some ([loc], loc)
    else some (adaptTo (colOf r) (rowOf r) xd yd (inPort ≥ 4), (escTo (eOrder e) (colOf r) (rowOf r) xd yd).getD loc)
  else if !eValid e then none
  else some (maskOuts (eMask e), eEsc e)

/-- The Ridge behind output `o` is closed to a packet on an A VC: it was injected on another die, and its route is no detour
(03 R89-R91). -/
def Block.ridgeBarred (b : Block) (r o : Nat) (h : BitVec 128) : Bool :=
  let f := b.facts (hEpoch h)
  match peer r o with
  | some (a, _) => isRidge a && !(nodePkg (hSrc h) == b.pkgid && nodeDie (hSrc h) == dieOf r) && (f.detour.find (dieOf r)).isNone
      && !(nodePkg (hDest h) == b.pkgid && f.detour.find (nodeDie (hDest h)) == some (dieOf r))
  | none => false

/-- Adaptive outputs of a packet at router `r`, of those that the tables give. One that came off a detouring die and leaves this neighbour again
keeps to the neighbour's escape Col on its A VC too (03 R90), which the tables, that know no source, do not show: the router tells it by SRC
(DEDUCED, notes/assumptions/96.md). -/
def Block.detourAds (b : Block) (r inPort : Nat) (h : BitVec 128) (ads : List Nat) : List Nat :=
  let f := b.facts (hEpoch h)
  let d := dieOf r
  let onDie := nodePkg (hDest h) == b.pkgid && nodeDie (hDest h) == d
  if nodePkg (hSrc h) == b.pkgid && f.detour.find (nodeDie (hSrc h)) == some d && !onDie && !ads.isEmpty then
    let (ex, ey, el) := colExit f d (f.escCol d) (rowOf r)
    if colOf r = ex ∧ rowOf r = ey then [el] else adaptTo (colOf r) (rowOf r) ex ey (inPort ≥ 4)
  else ads

/-- The decision of 03 R81 for the head `h` on input VC `vc` of router `r`. A packet on an A VC that has permitted adaptive outputs, none
with a credit, while its escape output is fenced, is discarded: 03 R81 alone would have it wait, 03 R86 alone has it discarded
(DESIGN CHOICE, notes/assumptions/73.md). -/
def Block.decideRoute (b : Block) (r inPort vc : Nat) (h : BitVec 128) : RouteTo :=
  match b.routeOf r inPort h with
  | none => .drop 0
  | some (ads, esc0) =>
    let per (o : Nat) : Nat := match peer r o with | some (a, _) => perOf a | none => 2
    let ads := ((b.detourAds r inPort h ads).map (fun o => b.colPort r o (adVc (per o) h))).dedup
    let okAd := ads.filter (fun o => !turnForbidden inPort o (colOf r) && !b.outFenced r o && !b.outClosed r o && !b.partExcluded r o h
      && !b.ridgeBarred r o h)
    let esc := b.colPort r esc0 (b.escVc (per esc0) h)
    let evc := b.escVc (per esc) h
    let onEsc := vc % perOf r != 0 || b.mustEscape h
    let escGo : RouteTo :=
      if b.outFenced r esc then .drop (b.fenceKind (linkScopes r esc))
      else if b.partExcluded r esc h then .drop 0
      else if b.freeCr r esc evc > 0 then .go esc evc else .wait
    if onEsc then escGo
    else
      let cand := okAd.filter (fun o => b.freeCr r o (adVc (per o) h) > 0)
      let score (o : Nat) : Nat :=
        b.freeCr r o (adVc (per o) h) * 1024 + (15 - ((b.elem r).outs.get {} o).fc.get 0 (adVc (per o) h)) * 8 + (7 - o)
      match cand with
      | [] => escGo
      | c :: cs =>
        let best := cs.foldl (fun m o => if score o > score m then o else m) c
        .go best (adVc (per best) h)

/-! ### Planes (03 R92, R93) -/

/-- Injectors choose the plane under these routes (03 R93). -/
def Facts.plane (f : Facts) (p : Nat) : Bool := if p = 0 then f.planeA else f.planeB

/-- The injector's choice of plane for a packet, by the routes of its epoch (03 R92, R93): `none` for transit while the package is
ineligible. `ca`, `cb`: free credits of its ports on the two planes. -/
def Block.planeFor (b : Block) (h : BitVec 128) (ca cb : Nat) : Option Nat :=
  let f := b.facts (hEpoch h)
  let a := f.plane 0
  let bb := f.plane 1
  let home := (nodeDie (hSrc h) + nodeR (hDest h) % 64) % 2
  if nodePkg (hSrc h) == b.pkgid then
    let pl := if f.profile == 3 && !b.mustEscape h && ca != cb then (if ca > cb then 0 else 1) else home
    some (if pl == 0 then (if a then 0 else 1) else (if bb then 1 else 0))
  else if nodePkg (hDest h) == b.pkgid then some (if a then 0 else 1)
  else if a && bb && b.planeCarries 0 && b.planeCarries 1 then some 1 else none

/-- A destination is reachable from an endpoint under its injection epoch (03 R36, R90, R91, R97). -/
def Block.reachable (b : Block) (n : Nat) (ep : Bool) (dest : BitVec 16) : Bool :=
  let r := src (dieOf n) (niR n)
  eValid (b.entry r ep (nodePkg dest * 16 + nodeDie dest))

end Sys2Proof.Machine
end

