-- ==== Sys2Proof/Machine/Gates.lean ====
section
/-! DEFINITION. Gate lists, shapers and windows as functions (spec/05 R143, R151-R159). -/

namespace Sys2Proof.Machine

/-- Entry word `i` of a list; the reset entry opens all tiers for 50,000 units (05 R151, R153). -/
def GateList.word (l : GateList) (i : Nat) : Nat := (l.words.get 0x000FC350#32 i).toNat
/-- INTERVAL of an entry, in units of 16 FCLK (05 R151). -/
def GateList.interval (l : GateList) (i : Nat) : Nat := l.word i % 65536
/-- Tier `t` is open in entry `i` (05 R151). -/
def GateList.opens (l : GateList) (t i : Nat) : Bool := (l.word i).testBit (16 + t)
/-- Cycle time in FCLK (05 R152, R155). -/
def GateList.cycle (l : GateList) : Nat := 16 * ((List.range l.entries).map l.interval).sum
/-- A list is valid (05 R152). -/
def GateList.valid (l : GateList) : Bool :=
  1 ≤ l.entries && l.entries ≤ 256 && l.cycle ≤ 32000000 &&
  (List.range l.entries).all (fun i => 1 ≤ l.interval i && l.word i / 2 ^ 20 == 0) &&
  (List.range 4).all (fun t => (List.range l.entries).any (l.opens t))

/-- Position of Fabric Time `ft` in the cycle of a list with base `base` (05 R155). -/
def GateList.pos (l : GateList) (base ft : Nat) : Nat := (((ft : Int) - base) % (l.cycle : Int)).toNat

/-- Entry in force at position `p`, counted from entry `i` on with `fuel` entries left (05 R155). -/
def GateList.entryFrom (l : GateList) : Nat → Nat → Nat → Nat
  | 0, i, _ => i
  | fuel + 1, i, p => if p < 16 * l.interval i then i else l.entryFrom fuel (i + 1) (p - 16 * l.interval i)
def GateList.entryAt (l : GateList) (p : Nat) : Nat := l.entryFrom (l.entries - 1) 0 p
/-- FCLK at which entry `i` begins in the cycle. -/
def GateList.startOf (l : GateList) (i : Nat) : Nat := 16 * ((List.range i).map l.interval).sum

/-- Length of the run of entries open for tier `t` from entry `i` on, wrapping once round (05 R155). -/
def GateList.runFrom (l : GateList) (t : Nat) : Nat → Nat → Nat
  | 0, _ => 0
  | fuel + 1, i => if l.opens t (i % l.entries) then 16 * l.interval (i % l.entries) + l.runFrom t fuel (i + 1) else 0
/-- Open in every entry. -/
def GateList.always (l : GateList) (t : Nat) : Bool := (List.range l.entries).all (l.opens t)
/-- Longest window of a tier in FCLK; the whole cycle where it never closes (05 R155, R159). -/
def GateList.longest (l : GateList) (t : Nat) : Nat :=
  ((List.range l.entries).map (fun i => l.runFrom t l.entries i)).foldl max 0

/-- FCLK from position `p` to the tier's close under the list alone; 0 where it is closed, `none` where it never closes. -/
def GateList.toClose (l : GateList) (t p : Nat) : Option Nat :=
  if l.always t then none
  else
    let i := l.entryAt p
    if l.opens t i then some (l.startOf i + 16 * l.interval i - p + l.runFrom t l.entries (i + 1)) else some 0

/-- FCLK of one cycle in [0, p) in which the tier is open. -/
def GateList.openTo (l : GateList) (t p : Nat) : Nat :=
  ((List.range l.entries).map (fun i =>
    if l.opens t i then min (16 * l.interval i) (p - l.startOf i) else 0)).sum
/-- FCLK in [base, base + x) in which the tier is open. -/
def GateList.openBy (l : GateList) (t x : Nat) : Nat :=
  if l.cycle = 0 then 0 else x / l.cycle * l.openTo t l.cycle + l.openTo t (x % l.cycle)
/-- FCLK of Fabric Time [a, z) in which the tier is open. -/
def GateList.openIn (l : GateList) (base t a z : Nat) : Nat :=
  let p := l.pos base a
  l.openBy t (p + (z - a)) - l.openBy t p

/-- The open bits govern at an NI: its injection epoch's profile is 5 or 7 (05 R154, 13 R364). -/
def Block.gateGoverns (b : Block) (n : Nat) : Bool := detProfile (b.epProfile (b.ni n).epoch)

/-- The quiet overlay closes tier `t` at Fabric Time `ft` (05 R166). -/
def Gate.quietCloses (g : Gate) (t ft : Nat) : Bool :=
  match g.quiet with
  | some (s, len, mask) => s ≤ ft && ft < s + 16 * len && mask.testBit t
  | none => false

/-- A tier's gate is open (05 R154, R166). -/
def Block.gateOpen (b : Block) (n t : Nat) : Bool :=
  let g := b.gate n
  let ft := b.ftOf n
  !g.quietCloses t ft && (!b.gateGoverns n || g.active.opens t (g.active.entryAt (g.active.pos g.base ft)))

/-- The link between an NI and its router runs at half width (13 R367). Of a dual-homed NI, which has two such links, either one
counts: 05 R156 speaks of one link (DESIGN CHOICE, notes/assumptions/75.md). -/
def Block.niNarrow (b : Block) (n : Nat) : Bool :=
  (List.range 2).any (fun p => ((b.elem n).outs.get {} p).half b.now)

/-- r of 05 R156 for a packet of `flits` flits in tier `t`. -/
def needFclk (guard flits t w : Nat) (det : Bool) : Nat := (flits + (if det && t != 3 then 8 else 0)) * w + guard

/-- The start rule: the whole packet fits before the tier's close (05 R157). Where the active list would close at or after S and the pending
list's entry 0 is open, the close is that of the new list's first window (DESIGN CHOICE, notes/assumptions/76.md). -/
def Block.mayStart (b : Block) (n t flits : Nat) : Bool :=
  let g := b.gate n
  let ft := b.ftOf n
  let gov := b.gateGoverns n
  let r := needFclk g.active.guard flits t (if b.niNarrow n then 2 else 1) gov
  let c1 : Option Nat := if gov then (g.active.toClose t (g.active.pos g.base ft)).map (ft + ·) else none
  let c1 := match g.pend with
    | some (s, _) =>
      if !gov then c1
      else
        let atS : Nat := if g.shadow.opens t 0 then
            (match g.shadow.toClose t 0 with | some c => s + c | none => s + r) else s
        (match c1 with
          | some c => if c < s then some c else some atS
          | none => some atS)
    | none => c1
  let c2 : Option Nat := match g.quiet with
    | some (s, _, mask) => if mask.testBit t && ft < s then some s else none
    | none => none
  b.gateOpen n t &&
  (match c1 with | some c => ft + r ≤ c | none => true) && (match c2 with | some c => ft + r ≤ c | none => true)

/-- A packet too long for every window of its tier (05 R159). -/
def Block.oversize (b : Block) (n : Nat) (l : GateList) (t flits : Nat) : Bool :=
  b.gateGoverns n && !l.always t &&
  needFclk l.guard flits t (if b.niNarrow n then 2 else 1) true > l.longest t

/-! ### Shapers (05 R143) -/

def Gate.q (g : Gate) (t : Nat) : List QPkt := g.queue.get [] t
def Gate.rateOf (g : Gate) (t : Nat) : Nat := g.rate.get 4096 t
def Gate.confOf (g : Gate) (t : Nat) : Nat := g.conf.get 4096 t

/-- The new rate of a tier: it applies from the next FCLK on (05 R144, R169). -/
def Gate.putRate (g : Gate) (t r : Nat) : Gate :=
  { g with oldRate := if (g.oldRate.find t).isSome then g.oldRate else g.oldRate.set t (g.rateOf t), rate := g.rate.set t r }

/-- Packets of a tier of which flits are still in its queue: those that wait, and one in progress or preempted, whose flits leave it one
by one (05 R140, R141; 06 R174). -/
def Gate.backlog (g : Gate) (t : Nat) : List (BitVec 128) :=
  ((g.cur.toList ++ g.pre.toList).filter (fun p => p.tier == some t)).map (·.hdr) ++ (g.q t).map (·.hdr)

/-- The queue is held whole: profile 10, and every packet of it a REQ or MSG (05 R143, 13 R372). -/
def Block.heldWhole (b : Block) (n t : Nat) : Bool :=
  b.immProfile == 10 && ((b.gate n).backlog t).all (fun h => hCls h == REQ || hCls h == MSG)

def satCredit (c : Int) : Int := max (-16777216) (min 32768 c)

/-- Credit of a tier after `n` FCLK in which nothing of it leaves (05 R143): `opened`, how many of them found its gate open. A credit below
0 whose queue is empty rises also while the gate is closed, as the table of 05 R143 has it; the last row of 05 R169 alone would leave it
unchanged (DESIGN CHOICE, notes/assumptions/77.md). -/
def shaperIdle (c : Int) (rate n opened : Nat) (empty held : Bool) : Int :=
  if n = 0 then c
  else if empty then (if c < 0 then min 0 (c + (n : Int) * rate) else 0)
  else if held then c else satCredit (c + (opened : Int) * rate)

/-- Of the next `m` FCLK of a time base, those that find its Fabric Time within [lo, hi) (07 R212). -/
def Tb.within (tb : Tb) (m lo hi : Nat) : Nat := min m (tb.fclkTo hi) - min m (tb.fclkTo lo)

/-- Those of them that find tier `t` open in a list with base `base`. -/
def GateList.openFclk (l : GateList) (base t : Nat) (tb : Tb) (m lo hi : Nat) : Nat :=
  let lo := max lo tb.ft
  let hi := min hi ((tb.elapse m).ft + 1)
  if l.always t then tb.within m lo hi
  else if tb.k = 0 then (if lo < min hi (tb.ft + m) then l.openIn base t lo (min hi (tb.ft + m)) else 0)
  else
    let at_ (c i : Nat) : Nat := lo + c * l.cycle + l.startOf i - l.pos base lo
    let open_ (c i : Nat) : Nat := if l.opens t i then tb.within m (max lo (at_ c i)) (min hi (at_ c i + 16 * l.interval i)) else 0
    ((List.range ((hi - lo) / l.cycle + 2)).map (fun c => ((List.range l.entries).map (open_ c)).sum)).sum

/-- Of the next `m` FCLK those in which a tier's gate is open: its list governs or not, less the quiet overlay (05 R154, R166). -/
def Block.openFclk (b : Block) (n t m : Nat) : Nat :=
  let g := b.gate n
  let tb := b.tb (dieOf n)
  let span (lo hi : Nat) : Nat := if b.gateGoverns n then g.active.openFclk g.base t tb m lo hi else tb.within m lo hi
  span tb.ft ((tb.elapse m).ft + 1) - (match g.quiet with
    | some (s, len, mask) => if mask.testBit t then span s (s + 16 * len) else 0
    | none => 0)

/-- The Tollgate's credits after `n` FCLK: the first is charged with the flit that has left and with the rate before one received in it,
the rest with the rate in force (05 R143, R144, R169). -/
def Block.gateElapse (b : Block) (n : Nat) (g : Gate) (fc : Nat) : Gate :=
  let step (t : Nat) : Int :=
    let c := g.credit.get 0 t
    let r0 := g.oldRate.get (g.rateOf t) t
    let first := b.openFclk n t 1
    let idle (c : Int) (r m opened : Nat) : Int := shaperIdle c r m opened (g.backlog t).isEmpty (b.heldWhole n t)
    let c1 := if g.sentTier == some t then satCredit (c - (4096 - (r0 : Int))) else idle c r0 1 first
    idle c1 (g.rateOf t) (fc - 1) (b.openFclk n t fc - first)
  { g with
    credit := (List.range 4).filterMap (fun t => let v := step t; if v = 0 then none else some (t, v)), sentTier := none, oldRate := [] }

end Sys2Proof.Machine
end

