-- ==== Sys2Proof/Machine/Clock.lean ====
section
/-! DEFINITION. The ages of packets, and the passing of time: FCLK, Fabric Time of every die, shapers, wait counters, watchdogs and the counters of
FCLKs (07 R212; 04 R129, R135; 05 R143; 18 R466). -/

namespace Sys2Proof.Machine

/-! ### Packets and their ages (04 R121-R123) -/

/-- Two headers are of one packet: equal but for the fields 02 R42 changes. -/
def sameId (a b : BitVec 128) : Bool :=
  let m : BitVec 128 := ~~~ BitVec.ofNat 128 (2 ^ 61 + 3 * 2 ^ 55)
  (a &&& m) == (b &&& m)

/-- A packet in the fabric: its header, and which copy of a duplicated packet it is, 0 where it is the packet itself (13 R370). -/
abbrev Pk := BitVec 128 × Nat

/-- The packet that a flit belongs to. -/
def pkOf (f : Flit) : Pk := (f.hdr, f.copy)

/-- `x` is part of packet `k`: each copy is a part of the packet itself. -/
def Pk.covers (k x : Pk) : Bool := sameId x.1 k.1 && (k.2 == 0 || x.2 == k.2)

/-- Packets without repeats. -/
def pksOf (l : List Pk) : List Pk :=
  l.foldl (fun l k => if l.any (fun x => sameId x.1 k.1 && x.2 == k.2) then l else l ++ [k]) []

/-- The packet at the front of an input VC: that of its front flit, or one of which the flits so far have left. -/
def Vc.front (v : Vc) : Option Pk :=
  match v.q.head? with
  | some f => some (pkOf f)
  | none => if v.sent > 0 then some (v.rhdr, v.rcopy) else none

/-- Age in units of 16 FCLK (04 R121). -/
def ageOf (ft : Nat) (h : BitVec 128) : Nat :=
  let raw := (ft / 16 % 4096 + 4096 - hAge h) % 4096
  if raw ≥ 4032 then 0 else raw
/-- Effective age; the overdue bit is set from 2,000 units (04 R121). -/
def effAge (ft : Nat) (f : Flit) : Nat := if f.ovd || ageOf ft f.hdr ≥ 2000 then 4095 else ageOf ft f.hdr

/-- Units of Fabric Time until the age of a packet reaches 2,000; a stamp up to 64 units ahead of local time counts as below zero
(04 R121, R122). -/
def toOverdue (ft : Nat) (h : BitVec 128) : Nat :=
  let raw := (ft / 16 % 4096 + 4096 - hAge h) % 4096
  if raw ≥ 4032 then 6096 - raw else 2000 - raw

/-- Packets of a VC without the overdue bit whose age reaches 2,000 within `u` units from Fabric Time `ft` (04 R122, R123). -/
def Vc.due (v : Vc) (ft u : Nat) : List Pk := pksOf ((v.q.filter (fun f => !f.ovd && decide (toOverdue ft f.hdr ≤ u))).map pkOf)

/-- Those of them whose head is held here: the bit is set, and counted, by the element with the head; the flits that follow a head elsewhere
carry it too (04 R121, R122; 18 R466). -/
def Vc.ageing (v : Vc) (ft u : Nat) : List Pk :=
  let due := v.due ft u
  match v.front with
  | some x => if v.sent > 0 then due.filter (fun k => !x.covers k) else due
  | none => due

/-- A VC after those units: the overdue bits that they set (04 R121, R122). -/
def Vc.ageBy (v : Vc) (ft u : Nat) : Vc :=
  let due := v.due ft u
  { v with q := v.q.map (fun f => if due.any (fun k => k.covers (pkOf f)) then { f with ovd := true } else f) }

/-- Every packet that an element holds, one that waits behind another among them, is evaluated (04 R123; 18 R466). -/
def Elem.ageBy (el : Elem) (e ft u : Nat) : Elem :=
  let n := (el.ins.map (fun kv => (kv.2.ageing ft u).length)).sum
  let el' := { el with ins := el.ins.mapVals (fun _ v => v.ageBy ft u) }
  if isRouter e then el'.bump 45 n else el'

/-- Fabric Time has been stepped: the packets in flight are evaluated by the new time (04 R123). -/
def Block.ageAll (b : Block) : Block :=
  { b with elems := b.elems.mapVals (fun e el => el.ageBy e (b.ftOf e) 0) }

/-! ### Time passes -/

/-- An output has an obligation (04 R135). -/
def Elem.obligated (el : Elem) (p : Nat) : Bool :=
  !(el.outs.get {} p).held.isEmpty || el.ins.any (fun kv => kv.2.out == some p && !kv.2.q.isEmpty)

/-- A router or adapter after `n` FCLK in which it sends nothing: wait counters and watchdogs run unless they are paused, and packets
become overdue. -/
def Block.elemElapse (b : Block) (n : Nat) (e : Nat) (el : Elem) : Elem :=
  let paused (p : Nat) : Bool := b.outWaking e p
  let el := el.ageBy e (b.ftOf e) (((b.tb (dieOf e)).elapse n).ft / 16 - b.ftOf e / 16)
  let ins := el.ins.mapVals (fun _ v =>
    match v.out with
    | some p => if v.sent = 0 && !v.q.isEmpty && !paused p then { v with wait := v.wait + n } else v
    | none => v)
  let outs := (List.range 8).foldl (fun (m : SMap Out) p =>
    let o := m.get {} p
    if el.obligated p then (if paused p then m else m.set p { o with wdog := o.wdog + n })
    else if o.wdog = 0 then m else m.set p { o with wdog := 0 }) el.outs
  let el' := { el with ins := ins, outs := outs }
  if isRouter e then
    let el' := (List.range 6).foldl (fun x p => if el.obligated p then Elem.bump x (24 + p) n else x) el'
    let el' := if (List.range 6).any (fun p => el.obligated p && paused p) then el'.bump 48 n else el'
    if (List.range 6).any (fun p => (el.outs.get {} p).narrow) then el'.bump 49 n else el'
  else el'

/-- `n` FCLK pass. The shapers' credits move in every FCLK, also while the NI's domain rests: 05 R143 says every FCLK, and 10 R290, by which the
clocks of a resting domain stop, names no shaper (DESIGN CHOICE, notes/assumptions/98.md). -/
def Block.elapse (b : Block) (n : Nat) : Block :=
  if n = 0 || !b.refclk then b
  else { b with
    now := b.now + n,
    tbs := (List.range 13).map (fun d => (d, (b.tb d).elapse n)),
    gates := b.gates.mapVals (fun k g => b.gateElapse k g n),
    elems := b.elems.mapVals (fun e el => b.elemElapse n e el) }

/-- Let time pass up to FCLK `t`, if it has not passed already (notes/assumptions/6.md). -/
def Block.elapseTo (b : Block) (t : Nat) : Block := if b.now < t then b.elapse (t - b.now) else b

/-- Let time pass until a die's Fabric Time has reached `x`: at most the FCLKs that its rate needs. -/
def Block.elapseFt (b : Block) (d x : Nat) : Block :=
  let t := b.tb d
  if x ≤ t.ft then b
  else
    b.elapse (t.fclkTo x)

end Sys2Proof.Machine
end

