-- ==== Sys2Proof/Machine/Mesh.lean ====
section
/-! DEFINITION. The on-die links: taking a flit off a wire with its checks, sending one, credits, forecasts, discarding a
packet wherever its flits are, telemetry records, and the fence of a scope (spec/02 R70, R77; 03; 04; 11 R335; 18). -/

namespace Sys2Proof.Machine

/-- Key of a table row: tables 0 and 1 the route tables of a router, 2 gate lists, 3 regulators, 4 map cache, 5 a map bank. -/
def rowKey (table row : Nat) : Nat := table * 131072 + row

/-- Key of a wire: element and port. -/
def wkey (e p : Nat) : Nat := e * 8 + p

def Elem.vc (el : Elem) (p v : Nat) : Vc := el.ins.get {} (p * 32 + v)
def Elem.setVc (el : Elem) (p v : Nat) (x : Vc) : Elem := { el with ins := el.ins.set (p * 32 + v) x }
def Elem.out (el : Elem) (p : Nat) : Out := el.outs.get {} p
def Elem.setOut (el : Elem) (p : Nat) (x : Out) : Elem := { el with outs := el.outs.set p x }

/-- A slot of input VC `v` at port `p` is freed: its credit goes back to the sender (04 R110), or into the link's pending
returns when the port is the link (08 R245, R246). -/
def Block.freeSlot (b : Block) (e p v : Nat) (f : Flit) : Block :=
  if p = 7 then b.modLink e (fun l => { l with returns := l.returns ++ [if f.pool then 31 else v] })
  else match peer e p with
    | some (a, q) => { b with crWires := b.crWires.mod [] (wkey a q) (· ++ [v]) }
    | none => b

/-- The idle count of a domain restarts, and an entry that runs is aborted: the domain is ON again and the abort counted (10 R293, R295). A power
change by command that waits for the entry goes on from there (10 R311). -/
def Block.dropEntry (b : Block) (d : Nat) : Block := b.modDom d (fun x =>
  if 1 ≤ x.st && x.st ≤ 3 then { x with st := 0, idleFrom := b.now, aborts := x.aborts + 1 } else { x with idleFrom := b.now })

/-- Work at an element restarts the idle count of its domain, and aborts an entry that runs (10 R293, R295). A flit queued at a link
after ENTER_ACK waits and wakes it after entry (08 R262). -/
def Block.touch (b : Block) (e : Nat) : Block :=
  match domOf e with
  | some d => if d < 128 then b.dropEntry d else b.modDom d (fun x => { x with idleFrom := b.now })
  | none => b

/-- Work at port `p` of an element: the plane-side ports of a dual-homed NI belong to the clusters they lead into (10 R287). -/
def Block.touchPort (b : Block) (e p : Nat) : Block :=
  let b := b.touch e
  if isEndpoint e && isDual e then (match peer e p with | some (r, _) => b.touch r | none => b) else b

/-- Count flits of a bandwidth window: OUT at 0-5, IN at 6-11 (18 R473). -/
def Block.telCount (b : Block) (e i n : Nat) : Block :=
  b.modElem e (fun el => { el with tel := { el.tel with counts := el.tel.counts.mod 0 i (· + n) } })

/-- The telemetry agent of a die: die agent West, on the I/O die the NI of the lead steward (01 R19, R29; 18 R469). -/
def Block.telAgent (b : Block) (d : Nat) : BitVec 16 :=
  if d < 12 then nodeId b.pkgid d 0 1 else stwNode b.pkgid b.leadSrc

/-- Header of a TRC packet of element `e`: its record's type as opcode, tier Background, TAG zero (02 R44, R46, R65). SRC names a
router by its local port 0, and ADDR is zero where the record is of no packet (DESIGN CHOICE, notes/assumptions/71.md). -/
def Block.trcHdr (b : Block) (e ty : Nat) (addr : BitVec 46) : BitVec 128 :=
  mkHdr (b.telAgent (dieOf e)) (ownNode b.pkgid e) TRC ty 0 0 addr 0 false false

/-- Put a record, as its TRC packet, into an emitter's queue of four, overwriting its oldest when full. `fs`: the fields after the
head; `addr`: line address of the packet it tells of. -/
def Block.emit (b : Block) (e ring ty : Nat) (addr : BitVec 46) (fs : List (Nat × Nat × Nat)) : Block :=
  b.modElem e (fun el =>
    let t := el.tel
    let rec_ : TrcPkt := ⟨ring, b.trcHdr e ty addr, mkPay ([(0, 1, ty), (1, 1, min 127 t.dropped), (2, 2, e)] ++ fs)⟩
    let full := 4 ≤ t.queue.length
    { el with tel := { t with queue := (if full then t.queue.drop 1 else t.queue) ++ [rec_],
                              dropped := if full then 1 else 0 } })

/-- Hop record of a cairn that leaves a router or is discarded there (18 R478, R479). -/
def Block.hop (b : Block) (r inPort inVc out outVc : Nat) (f : Flit) (delivered discarded : Bool) : Block :=
  if !hCairn f.hdr || !isRouter r then b
  else
    let h := f.hdr
    (b.emit r 22 0 (hAddr h) [(4, 2, (hSrc h).toNat), (6, 2, (hDest h).toNat), (8, 8, f.arr),
      (16, 8, if discarded then 0 else b.ftOf r), (24, 1, out * 8 + inPort), (25, 1, inVc), (26, 1, outVc), (27, 1, f.depth),
      (28, 1, (if hEpoch h then 128 else 0) + hEsc h * 32 + hTier h * 8 + hCls h),
      (29, 1, (if f.ovd then 128 else 0) + (if hOrd h then 64 else 0) + hOpc h),
      (30, 2, hLen h * 1024 + (hTag h).toNat), (32, 6, (hAddr h).toNat), (38, 2, hAge h),
      (41, 1, (if delivered then 2 else 0) + (if discarded then 1 else 0)), (42, 2, (ownNode b.pkgid r).toNat)]).bump r 50 1

/-! ### Discarding a packet (04 R138; 11 R334, R335) -/

/-- The packet that an NI is taking off its input VC `k`: its head has left the VC, its tail has not. -/
def Elem.taking (el : Elem) (k : Nat) : Option Pk :=
  let v := el.ins.get {} k
  if v.sent > 0 then v.front else none

/-- Input VC `k` of an element is giving packet `x` to its NI. -/
def Elem.takes (el : Elem) (k : Nat) (x : Pk) : Bool :=
  match el.taking k with
  | some y => x.covers y
  | none => false

/-- Take every flit of a packet out of one element; what is freed gives its credits back, and what is still to come of it is
discarded as it comes over a Pass link. -/
def Block.purgeElem (b : Block) (e : Nat) (k : Pk) : Block :=
  (b.elem e).ins.foldl (fun b kv =>
    let v := kv.2
    let gone := v.q.filter (fun f => k.covers (pkOf f))
    let coming := v.rem > 0 && k.covers (v.rhdr, v.rcopy)
    let far := isPass e && kv.1 / 32 == 7
    let rem := if coming && !far then 0 else v.rem
    let front := match v.front with
      | some x => k.covers x
      | none => false
    let v' := { v with q := v.q.filter (fun f => !k.covers (pkOf f)), rem := rem, drop := rem != 0 && (v.drop || coming) }
    let v' := if front then { v' with out := none, dvc := none, wait := 0, sent := 0, starved := false } else v'
    let b := b.modElem e (fun el => { el with
      ins := el.ins.set kv.1 v',
      outs := el.outs.mapVals (fun _ o => { o with held := o.held.filter (fun x => !k.covers (x.2.hdr, x.2.copy)) }) })
    gone.foldl (fun b f => b.freeSlot e (kv.1 / 32) (kv.1 % 32) f) b) b

/-- Take a packet, of which only part has arrived, out of the receive buffers of its target NI (04 R138). -/
def Block.purgeNi (b : Block) (n : Nat) (k : Pk) : Block :=
  let el := b.elem (rxElem n)
  let part (p : RPkt) : Bool := !p.whole && (match p.key with | some q => el.takes q k | none => false)
  b.modNi n (fun x => { x with
    rx := x.rx.filter (fun p => !part p), msgq := x.msgq.filter (fun p => !part p), dropRx := x.dropRx.filter (fun q => !el.takes q k) })

/-- The packet in progress at a Tollgate without the part that is discarded: a duplicated one goes on with its other copy. -/
def Prog.cut (k : Pk) (x : Prog) : Option Prog :=
  if !sameId x.hdr k.1 then some x
  else if k.2 = 0 || x.ports.length < 2 then (if k.covers (x.hdr, x.copy) then none else some x)
  else some { x with ports := x.ports.filter (fun p => p + 1 != k.2), copy := 3 - k.2 }

/-- The flits of a packet in frames that the far side of a die link has not accepted are taken back, with their credits; what a Pass port has
sent stays with the far package (08 R245). -/
def Block.purgeLink (b : Block) (a : Nat) (k : Pk) : Block :=
  let e := (b.link (farAdp a)).expect
  let ahead (fr : Frame) : Bool := (fr.seq + 4096 - e) % 4096 < 2048
  let strip (fr : Frame) : Frame := { fr with slots := fr.slots.filter (fun s => !k.covers (pkOf s.2.2)) }
  let gone := ((b.link a).replay.filter ahead).flatMap (fun fr => fr.slots.filter (fun s => k.covers (pkOf s.2.2)))
  if isPass a || gone.isEmpty then b
  else
    let refund (l : Link) (s : Nat × Nat × Flit) : Link :=
      if s.2.2.pool then { l with poolUsed := l.poolUsed - 1 } else { l with used := l.used.mod 0 s.2.1 (· - 1) }
    (b.modLink a (fun l => gone.foldl refund { l with replay := l.replay.map (fun fr => if ahead fr then strip fr else fr) })).modLink
      (farAdp a) (fun l => { l with inbox := l.inbox.map strip })

/-- Take every flit of a packet off the elements, receive buffers, wires, frames and its Tollgate; the answer is the caller's. -/
def Block.purge (b : Block) (k : Pk) : Block :=
  let b := b.nis.foldl (fun b kv => b.purgeNi kv.1 k) b
  let b := b.elems.foldl (fun b kv => b.purgeElem kv.1 k) b
  let b := b.wires.foldl (fun b kv =>
    let gone := kv.2.filter (fun x => k.covers (pkOf x.2))
    if gone.isEmpty then b
    else
      let b := { b with wires := b.wires.set kv.1 (kv.2.filter (fun x => !k.covers (pkOf x.2))) }
      gone.foldl (fun b x => b.freeSlot (kv.1 / 8) (kv.1 % 8) x.1 x.2) b) b
  let b := b.links.foldl (fun b kv => b.purgeLink kv.1 k) b
  { b with
    gates := b.gates.mapVals (fun _ g => { g with cur := g.cur.bind (·.cut k), pre := g.pre.bind (·.cut k) }) }

/-- Old-epoch packets and packets in a region are found by their headers: the distinct packets with a flit in element `e`. -/
def Block.packetsAt (b : Block) (e : Nat) : List Pk :=
  let hs := (b.elem e).ins.flatMap (fun kv => kv.2.q.map pkOf ++ (if kv.2.rem > 0 then [(kv.2.rhdr, kv.2.rcopy)] else []))
  let ws := (List.range 8).flatMap (fun p => (b.wires.get [] (wkey e p)).map (fun x => pkOf x.2))
  pksOf (hs ++ ws)

/-- Packets with a flit at one port of an element: in its input buffers, in progress into them, or on the wire. -/
def Block.portPackets (b : Block) (e p : Nat) : List Pk :=
  ((b.elem e).ins.filter (fun kv => kv.1 / 32 == p)).flatMap (fun kv =>
    kv.2.q.map pkOf ++ (if kv.2.rem > 0 then [(kv.2.rhdr, kv.2.rcopy)] else []))
  ++ (b.wires.get [] (wkey e p)).map (fun x => pkOf x.2)

/-- Of those, the packets with a flit still to come from behind the port: on its wire, or not sent yet. -/
def Block.crossing (b : Block) (e p : Nat) : List Pk :=
  ((b.elem e).ins.filter (fun kv => kv.1 / 32 == p && kv.2.rem > 0)).map (fun kv => (kv.2.rhdr, kv.2.rcopy))
  ++ (b.wires.get [] (wkey e p)).map (fun x => pkOf x.2)

/-- Packets whose head flit is at element `e` or on a wire into it. -/
def Block.headsAt (b : Block) (e : Nat) : List Pk :=
  pksOf ((b.elem e).ins.flatMap (fun kv =>
    let v := kv.2
    let fs := pksOf (v.q.map pkOf)
    if v.sent > 0 then fs.drop 1 else fs)
  ++ (List.range 8).flatMap (fun p =>
    (b.wires.get [] (wkey e p)).filterMap (fun x =>
      let v := (b.elem e).vc p x.1
      if v.rem > 0 && Pk.covers (v.rhdr, v.rcopy) (pkOf x.2) then none else some (pkOf x.2))))

/-- A packet at Pass port `a` is for the port's own NI: it leaves there and never goes on (01 R515; 03 R109). -/
def Block.forPassNi (b : Block) (a : Nat) (h : BitVec 128) : Bool :=
  isPass a && nodePkg (hDest h) == b.pkgid && nodeNi (hDest h) == passNi (locOf a - 408)

/-- The NI that has taken the head of a packet off its input VC, and whether it has answered it already. -/
def Block.takenBy (b : Block) (k : Pk) : Option (Nat × Bool) :=
  b.nis.findSome? (fun kv =>
    let el := b.elem (rxElem kv.1)
    match el.ins.find? (fun q => el.takes q.1 k) with
    | some q => if isPassNi kv.1 && !b.forPassNi (rxElem kv.1) k.1 then none else some (kv.1, kv.2.dropRx.contains q.1)
    | none => none)

/-- A buffer or wire of the fabric, or an NI, holds the head of a packet. -/
def Block.headHeld (b : Block) (k : Pk) : Bool := (b.takenBy k).isSome || b.elems.any (fun kv => (b.headsAt kv.1).any k.covers)

/-- The element that holds the head of a packet, `e` where no buffer and no wire of the fabric does. -/
def Block.headAt (b : Block) (e : Nat) (k : Pk) : Nat :=
  if (b.headsAt e).any k.covers then e
  else match b.elems.find? (fun kv => (b.headsAt kv.1).any k.covers) with
    | some kv => kv.1
    | none => e

/-- The head of a packet is gone: it could not be read, or was discarded and answered, and only what follows it is left (02 R77). -/
def Block.headless (b : Block) (k : Pk) : Bool :=
  b.elems.any (fun kv => kv.2.ins.any (fun q => q.2.drop && q.2.rem > 0 && k.covers (q.2.rhdr, q.2.rcopy)))

/-- Discard packet `k` at element `e`: every flit of it goes, and the element that holds its head, or the target NI that has taken
it, answers its source once, a copy of a duplicated one with INDETERMINATE (02 R62, R67; 04 R138; 11 R334, R335; 13 R371). -/
def Block.dropPacket (b : Block) (e kind : Nat) (k : Pk) (indet : Bool) : Block :=
  match b.takenBy k with
  | some (n, answered) => if answered then b.purge k else (b.purge k).discard n kind k.1 (indet || k.2 != 0)
  | none => if b.headless k then b.purge k else (b.purge k).discard (b.headAt e k) kind k.1 (indet || k.2 != 0)

/-! ### Taking a flit off a wire (02 R70, R77, R78; 04 R112, R113, R122) -/

/-- DETAIL P of a packet at an input. -/
def detPk (p vc : Nat) (h : Option (BitVec 128)) : BitVec 32 :=
  match h with
  | some h => detP p vc 0 (hCls h) (hTier h) ((hTag h).toNat)
  | none => detP p vc 0 0 0 0

/-- Raise CHECK_CORRECTED at most once per 1 ms per input port (02 R77). -/
def Block.corrected (b : Block) (e p vc : Nat) (h : Option (BitVec 128)) : Block :=
  match (b.elem e).lastCorr.find p with
  | some t => if b.now < t + ms then b.suppress e 0x01
    else (b.event e 0x01 h (detPk p vc h)).modElem e (fun el => { el with lastCorr := el.lastCorr.set p b.now })
  | none => (b.event e 0x01 h (detPk p vc h)).modElem e (fun el => { el with lastCorr := el.lastCorr.set p b.now })

/-- A Containable fault that fences the link behind port `p` of element `e`. -/
def Block.linkFault (b : Block) (e p kind : Nat) (pk : Option (BitVec 128)) (det : BitVec 32)
    (ext : Option (BitVec 128) := none) : Block :=
  b.fault e kind (linkScope e p).1 (linkScope e p).2 pk det ext

/-- Put an accepted flit at the back of its VC buffer (04 R110, R122; 18 R466, R479): one of a packet that is overdue has the bit stored with it,
and a head counts; a head at its target NI meets the partition mask
of that moment (06 R194). -/
def Block.store (b : Block) (e p vc : Nat) (f : Flit) : Block :=
  let v := (b.elem e).vc p vc
  let head := v.rem = 0
  let late := !f.ovd && ageOf (b.ftOf e) f.hdr ≥ 2000
  let f := { f with
    arr := b.ftOf e, depth := v.q.length, ovd := f.ovd || late,
    barred := head && isNi e && !(b.ni e).mask.testBit (hPart f.hdr) }
  let v' := { v with q := v.q ++ [f], rem := (if head then hLen f.hdr else v.rem - 1), rhdr := f.hdr, rcopy := f.copy }
  let b := b.modElem e (fun el => el.setVc p vc v')
  let b := b.touchPort e p
  if isRouter e then
    let b := b.bump e (6 + p) 1
    let b := b.modElem e (fun el => { el with tel := { el.tel with counts := el.tel.counts.mod 0 (6 + p) (· + 1) } })
    if head then ((b.bump e (51 + hCls f.hdr) 1).bump e (58 + hTier f.hdr) 1).bump e 45 (if late then 1 else 0) else b
  else b

/-- Only a head of class 7, or with ESC 3, is refused at a mesh input (02 R70). -/
def headLegal (h : BitVec 128) : Bool := hCls h != 7 && hEsc h != 3

/-- A flit arrives at port `p` of element `e` with error pattern `err`; `parErr`: the sideband parity of this FCLK fails, which is checked with
or without a flit (04 R113). On a link that is fenced, or whose far end is, it stays for the sweep (04 R115; 11 R336). Every flit is decoded,
one with a sideband fault or without a slot among them: where both fail both faults are raised, and a flit on a VC that the port does not
have counts as a head (02 R77, R78; notes/assumptions/72.md). `parErr` stands as well for two width lines that disagree (13 R367). -/
def Block.arrive (b : Block) (e p : Nat) (err : BitVec 672) (parErr : Bool) : Block :=
  if b.elemFenced e || b.linkFenced e p then b
  else match b.wires.get [] (wkey e p) with
  | [] => if parErr then b.linkFault e p 0x04 none (detPk p 0 none) else b
  | (vc, f) :: rest =>
    let b := { b with wires := b.wires.set (wkey e p) rest }
    let v := (b.elem e).vc p vc
    let known := decide (vc < vcCount e)
    let head := !known || v.rem = 0
    let dec := decodeErr err
    -- what is known of the packet: the header as decoded, or by its VC that of the head
    let hdr? : Option (BitVec 128) := match dec with
      | some (res, _) => some (flipFlit f res).hdr
      | none => if head then none else some f.hdr
    let side : Option Nat := if parErr || !known then some 0x04 else if vcDepth e vc ≤ v.q.length then some 0x05 else none
    let b := match side with
      | some k => b.linkFault e p k hdr? (detPk p vc hdr?)
      | none => b
    match dec with
    | none =>
      if head then
        let b := b.linkFault e p 0x02 none (detPk p vc none) (some (f.hdr ^^^ err.extractLsb' 544 128))
        if known then b.modElem e (fun el => el.setVc p vc { v with rem := hLen f.hdr, rhdr := f.hdr, rcopy := f.copy, drop := hLen f.hdr != 0 })
        else b
      else (b.linkFault e p 0x02 hdr? (detPk p vc hdr?)).dropPacket e (side.getD 0x02) (pkOf f) false
    | some (res, n) =>
      let f := flipFlit f res
      let b := if n = 0 then b else b.corrected e p vc (some f.hdr)
      if let some k := side then b.dropPacket e k (pkOf f) false
      else if v.drop && !head then
        (b.freeSlot e p vc f).modElem e (fun el => el.setVc p vc { v with rem := v.rem - 1, drop := v.rem - 1 != 0 })
      else if head && !headLegal f.hdr && !isEndpoint e then
        (b.linkFault e p 0x03 hdr? (detPk p vc hdr?) (some f.hdr)).dropPacket e 0x03 (pkOf f) false
      else b.store e p vc f

/-! ### Sending -/

/-- The flit leaves output `p` of element `e` on downstream VC `vc`, for a packet that came in by (inPort, inVc)
(04 R110, R119, R127, R135). -/
def Block.sendFlit (b : Block) (e p vc inPort inVc prog : Nat) (f : Flit) : Block :=
  match peer e p with
  | none => b
  | some (a, q) =>
    let tail := prog + 1 = hFlits f.hdr
    let b := { b with wires := b.wires.mod [] (wkey a q) (· ++ [(vc, f)]) }
    let b := b.modElem e (fun el =>
      let o := el.out p
      let el := el.setOut p { o with
        used := o.used.mod 0 vc (· + 1), wdog := 0, lastSend := some b.now, winFlits := o.winFlits + 1,
        held := if tail then o.held.erase vc else o.held.set vc ⟨inPort, inVc, prog + 1, hFlits f.hdr, f.hdr, f.copy⟩ }
      if isRouter e then { el with tel := { el.tel with counts := el.tel.counts.mod 0 p (· + 1) } } else el)
    if isRouter e then b.bump e p 1 else b

/-- A sideband of the reverse direction fails its parity in an FCLK that carries nothing else (04 R113). -/
def Block.backParity (b : Block) (e p : Nat) (parErr : Bool) : Block :=
  if !parErr || b.linkFenced e p || b.elemFenced e then b else b.linkFault e p 0x04 none (detPk p 0 none)

/-- An output takes a credit back in FCLK `now`: usable from the next one on (04 R110, R114). -/
def Out.credit (o : Out) (now vc : Nat) : Out :=
  { o with used := o.used.set vc (o.used.get 0 vc - 1), backAt := now,
           back := (if o.backAt = now then o.back else []).mod 0 vc (· + 1) }

/-- A credit returns at output `p` of element `e` (04 R110, R113, R114). -/
def Block.creditBack (b : Block) (e p : Nat) (parErr : Bool) : Block :=
  match b.crWires.get [] (wkey e p) with
  | [] => b.backParity e p parErr
  | vc :: rest =>
    let b := { b with crWires := b.crWires.set (wkey e p) rest }
    let o := (b.elem e).out p
    let cnt := match peer e p with | some (a, _) => vcCount a | none => 0
    if b.linkFenced e p || b.elemFenced e then b
    else if parErr || cnt ≤ vc then b.linkFault e p 0x04 none (detPk p vc none)
    else if o.used.get 0 vc = 0 then b.linkFault e p 0x05 none (detPk p vc none)
    else (b.modElem e (fun el => el.setOut p (o.credit b.now vc))).touchPort e p

/-- A turn forecast arrives for output `p` of element `e` (04 R133). -/
def Block.forecastIn (b : Block) (e p : Nat) (parErr : Bool) : Block :=
  match b.fcWires.get [] (wkey e p) with
  | [] => b.backParity e p parErr
  | (vc, v) :: rest =>
    let b := { b with fcWires := b.fcWires.set (wkey e p) rest }
    let cnt := match peer e p with | some (a, _) => vcCount a | none => 0
    if b.linkFenced e p || b.elemFenced e then b
    else if parErr || cnt ≤ vc then b.linkFault e p 0x04 none (detPk p vc none)
    else b.modElem e (fun el => el.setOut p { el.out p with fc := (el.out p).fc.set vc v })

/-- The VC of port `p` whose forecast is sent in the rotation: the next one, from the VC of the last turn on, that holds a waiting
packet (04 R133). -/
def Elem.fcTurn (el : Elem) (p : Nat) : Option Nat :=
  let ks := (el.ins.filter (fun kv => kv.1 / 32 == p && !kv.2.q.isEmpty)).map (·.1)
  (ks.find? (fun k => el.fcRot.get 0 p ≤ k % 32)).or ks.head?

/-- Send one forecast for each input port in this FCLK: the oldest change, or, where none is pending, that of a VC that still holds a
waiting packet, in rotation (04 R133). -/
def Block.forecastsOut (b : Block) (e : Nat) (vals : List (Nat × Nat)) : Block :=
  let el := b.elem e
  let cur (k : Nat) : Nat := match vals.find? (fun x => x.1 == k) with | some x => x.2 | none => 0
  let keys := (vals.map (·.1) ++ el.fcSent.map (·.1)).dedup
  let due := (el.fcDue.filter (fun k => cur k != el.fcSent.get 0 k)) ++
    keys.filter (fun k => cur k != el.fcSent.get 0 k && !el.fcDue.contains k)
  let now := (List.range 8).filterMap (fun p => due.find? (fun k => k / 32 == p))
  let turn := (List.range 8).filterMap (fun p => if due.any (fun k => k / 32 == p) then none else el.fcTurn p)
  let b := b.modElem e (fun el => { el with fcDue := due.filter (fun k => !now.contains k),
                                            fcSent := now.foldl (fun m k => m.set k (cur k)) el.fcSent,
                                            fcRot := turn.foldl (fun m k => m.set (k / 32) (k % 32 + 1)) el.fcRot })
  (now ++ turn).foldl (fun b k =>
    match peer e (k / 32) with
    | some (a, q) => { b with fcWires := b.fcWires.mod [] (wkey a q) (· ++ [(k % 32, cur k)]) }
    | none => b) b

end Sys2Proof.Machine
end

