-- ==== Sys2Proof/WellFormed.lean ====
section
/-! DEFINITION. Well-formed commands: every operand names an element the instance has, and fits its field. -/

namespace Sys2Proof
open Sys2Proof.Machine

/-- A packet's unit-port signals fit their widths (06 R172), and at most 8 flits arrive. -/
def UnitPkt.WellFormed (p : UnitPkt) : Bool :=
  p.cls < 8 && p.opc < 64 && p.len < 8 && p.tier < 4 && 1 ≤ p.pays.length

/-- A Ford of 07 R226. -/
def FordId.WellFormed : FordId → Bool
  | .unitPort n => isNi n
  | .adapterDie a => isDieAdp a
  | .adapterLink a => isDieAdp a
  | .passPort k => k < 8
  | .steward s => isStw s
  | .alwaysOn d => d < 13
  | .telemetry d => d < 13

/-- Key of a Ford in the state. -/
def FordId.key : FordId → Nat
  | .unitPort n => n
  | .adapterDie a => 8192 + a
  | .adapterLink a => 16384 + a
  | .passPort k => 24576 + k
  | .steward s => 32768 + s
  | .alwaysOn d => 40960 + d
  | .telemetry d => 49152 + d

/-- A descriptor of 64 bytes on a command ring (15 R397, R404). -/
def Cmd.WellFormed (c : Cmd) : Bool := c.ring < 8 && c.desc.length == 64

/-- An element port that a flit can arrive at: a router's or an adapter's mesh port. -/
def meshIn (e p : Nat) : Bool := (isRouter e || isAdp e) && p < 7 && (peer e p).isSome
/-- An output port of a router, an adapter's mesh side, an NI or die agent. -/
def meshOut (e p : Nat) : Bool := isElem e && p < 7 && (peer e p).isSome
/-- A port of an NI or die agent towards a plane or its router. -/
def niIn (n p : Nat) : Bool := isEndpoint n && (peer n p).isSome
/-- A receiver of EPOCH_COMMIT (03 R103 step 2). -/
def isReceiver (e : Nat) : Bool := isNi e || isAdp e
/-- An element with event counters (18 R461). -/
def hasCtrs (e : Nat) : Bool := isRouter e || isNi e || isAdp e
/-- A table of an element (12 R354): 0 and 1 the route tables of a router, 2 gate lists, 3 regulators, 4 map cache of an
NI; 5 a map bank. -/
def tableOk (owner table row : Nat) : Bool :=
  (isRouter owner && table < 2 && row < 256) || (isNi owner && 2 ≤ table && table < 5 && row < 1024) ||
  ((List.range 32).any (fun g => bankSrc g == owner) && table == 5 && row < 66560)

/-- Every operand of the command is one its row can have. -/
def Instr.WellFormed : Instr → Bool
  | .strapSampling l => l.length == 8 && l.all (· < 16)
  | .bootSelftestDone s _ => isStw s
  | .ridgeIdentityTimeout a => isRidge a
  | .clockUnlock d => d < 13
  | .timeBaseError d => d < 13
  | .unitPacket n p => isNi n && p.WellFormed
  | .unitReceiveCredit n c => isNi n && c < 5
  | .unitDelivery n => isNi n
  | .fordReset f => f.ford.WellFormed
  | .fordResetAck f => f.ford.WellFormed
  | .fordResetDone f => f.ford.WellFormed
  | .tollgateStart n => isNi n
  | .niPacketArrival n p _ => niIn n p
  | .answerReceive n p _ => niIn n p
  | .tagOrphan n t => isNi n && t < 1024
  | .tagQuarantineEnd n t => isNi n && t < 1024
  | .lockSweep n => isNi n
  | .lockAmnesiaEnd n => isNi n
  | .mapLookupServe g => g < 32
  | .mapFillReceipt n p _ => niIn n p
  | .mapLookupTimeout n t => isNi n && t < 1024
  | .duplicateFilterRetire n => isNi n
  | .exitFilterRetire k => k < 8
  | .resetNotice n _ _ => isNi n
  | .fenceNotice n k ty id => isNi n && k < 16 && scopeOk ty id
  | .epochCommit r m => if m then isNi r else isReceiver r
  | .epochCommitAck r m => if m then isNi r else isReceiver r
  | .drainQueryTick g => g < 32
  | .epochDrainReport g => g < 32
  | .mapBankCopyDone g => g < 32
  | .heartbeatSend s => isStw s
  | .heartbeatReceipt s _ => isStw s
  | .heartbeatMiss s => isStw s
  | .restartAnnounceExpiry s => isStw s
  | .imageBlockReceipt s _ _ => isStw s
  | .mgtRequest d _ o _ _ _ => nodeOk d && o < 64
  | .flitReceive e p _ _ => meshIn e p || niIn e p
  | .arbitration e => isRouter e || isAdp e
  | .creditReceive e p _ => meshOut e p
  | .turnForecastReceive e p _ => meshOut e p
  | .overdue e p v _ => isElem e && p < 8 && v < 21
  | .starve r p v => isRouter r && p < 6 && v < 21
  | .outputWatchdog r p => isRouter r && p < 6
  | .linkWidthWindow e p => (isRouter e || isEndpoint e) && p < 7 && (peer e p).isSome
  | .linkWidenOnWait e p => (isRouter e || isEndpoint e) && p < 7 && (peer e p).isSome
  | .frameReceive a _ par far bad => isAdp a && (far.isSome == isPass a) && (isPass a || (par == 0 && bad == 0))
  | .replayTimer a => isAdp a
  | .linkRetrain a => isAdp a
  | .linkFail a => isAdp a
  | .phyTrainDone t =>
      isAdp t.adp && (!isPass t.adp || t.lanes.isEmpty) && t.lanes.all (fun l => l < (if isRidge t.adp then 34 else 68))
  | .paramReceipt a p => isAdp a && (p.isSome || !isPass a)
  | .creditInitReceipt a c _ => isAdp a && (c.isSome || !isPass a)
  | .readyReceipt a => isAdp a
  | .trainingLimit a => isAdp a
  | .timeExchangeStart a => isDieAdp a
  | .timeReq a => isDieAdp a
  | .timeRsp a => isDieAdp a
  | .timeRes a => isDieAdp a
  | .timeExchangeRetry a => isDieAdp a
  | .timeApplyBoundary d => d < 13
  | .laneWindow a => isAdp a
  | .wakeMessage a => isAdp a
  | .wakeRepeat a => isAdp a
  | .wakeTimeout a => isAdp a
  | .quietWindowArm ridge n => n < (if ridge then 12 else 24)
  | .quietOverlayStart n => isNi n
  | .linkQuiet a => isDieAdp a
  | .linkCalibrationDone a => isDieAdp a
  | .quietResume a => isDieAdp a
  | .quietOverlayEnd n => isNi n
  | .alignReceipt k num at_ m pr _ _ su =>
      k < 8 && num < 65536 && at_ < 65536 && m.length == 18 && pr.length == 18 && (su.getD 0) < 18
  | .closeReceipt k c => k < 8 && 1 ≤ c && c ≤ 3
  | .laneRotationStart k => k < 8
  | .shadowCompareDone k _ => k < 8
  | .passLaneCalibrationDone k => k < 8
  | .passLaneCalibrationLimit k => k < 8
  | .presenceChange k _ => k < 8
  | .buttonPress k _ => k < 8
  | .buttonStuck k => k < 8
  | .cableWake k _ => k < 8
  | .cmisReadDone k _ _ _ => k < 8
  | .cmisReadTimeout k => k < 8
  | .moduleReadyLimit k => k < 8
  | .join k _ far => k < 8 && far.all (fun m => m.id < 16 && m.prio < 16) && 1 ≤ far.length && far.length ≤ 16
  | .abortWindowEnd k => k < 8
  | .steeringLimit k => k < 8
  | .cablePowerOff k => k < 8
  | .indicatorTimer k => k < 8
  | .passTimeRequest k e _ => k < 8 && e < 256
  | .passTimeReply e _ _ => e < 256
  | .memberTimeout i => i < 16
  | .fordStall f => f.WellFormed
  | .fordUnstable f => f.WellFormed
  | .fordClockReturn f => f.WellFormed
  | .domainIdleTimeout d => d < 272
  | .entryDrainLimit d => d < 272
  | .detectorArming d => d < 272
  | .domainWake d c _ => d < 272 && 1 ≤ c && c ≤ 7
  | .wakeComplete d _ => d < 272
  | .wakeFail d => d < 272
  | .goldenReloadDone d _ => d < 272
  | .powerDownDrained d => d < 272
  | .powerDownTimeout d => d < 272
  | .retentionCommit d => d < 272
  | .dieCollectorMessage d _ => d < 13
  | .sweepComplete ty id _ => scopeOk ty id
  | .wshPathLost d => d < 12
  | .scopeDrained ty id => scopeOk ty id
  | .scopeDrainTimeout ty id => scopeOk ty id
  | .scopeResetDone ty id => scopeOk ty id
  | .scopeTestDone ty id f => scopeOk ty id && (match f with | some (c, _) => 1 ≤ c && c ≤ 9 | none => true)
  | .scopeAdmissionStart ty id => scopeOk ty id
  | .tableScrub o t r _ => tableOk o t r || (isSpareRow r && tableOk o t 0)
  | .tableWordReloaded o t r => tableOk o t r
  | .mapBankRestored g _ => 24 ≤ g && g < 32
  | .starveRebalance g _ => g < 32
  | .rateRecovery g => g < 32
  | .vddFabOk g => g < 32
  | .profileRailWaitLimit g => g < 32
  | .ringStaleTimeout r => 8 ≤ r && r < 23
  | .hostPortError r => r < 23
  | .telemetryRecordWrite d => d < 13
  | .bandwidthWindowEnd e => hasCtrs e
  | .queueSample r => isRouter r
  | .counterWrap e c => hasCtrs e && c < (if isRouter e then 64 else 16)
  | .cairnSlotRelease g => g < 32
  | .gateSwitch n => isNi n
  | .switchInstantReceipt n => isNi n
  | .ringCtrlWrite r _ => r < 23
  | .wshStickyClear w _ => w < 104
  | .wshForceWrite w _ => w < 104
  | .vectorCtrlWrite v _ => v < 16
  | .passFilterWrite k _ => k < 8
  | .registerWrite o w _ => o < 65536 && w ≤ 8
  | .post r i => r < 23 && i < 131072
  | .consumed r i => r < 23 && i < 131072
  | .read r i => r < 23 && i < 131072
  | .mark r i => r < 23 && i < 131072
  | .rewind r i => r < 23 && i < 131072
  | .release r i => r < 23 && i < 131072
  | .clearLost r i => r < 23 && i < 131072
  | .i3cWordSelect w => w < 256
  | .tapInstruction _ => true
  | .nop c => c.WellFormed
  | .fence c => c.WellFormed
  | .query c => c.WellFormed
  | .profileSet c => c.WellFormed
  | .fwLoad c _ => c.WellFormed
  | .mapWrite c => c.WellFormed
  | .mapCommit c => c.WellFormed
  | .routeWrite c => c.WellFormed
  | .routeCommit c => c.WellFormed
  | .partitionSet c => c.WellFormed
  | .regulatorSet c => c.WellFormed
  | .gateLoad c => c.WellFormed
  | .gateActivate c => c.WellFormed
  | .domainPower c => c.WellFormed
  | .idleTimerSet c => c.WellFormed
  | .domainReset c => c.WellFormed
  | .scopeFence c => c.WellFormed
  | .scopeReadmit c => c.WellFormed
  | .linkService c => c.WellFormed
  | .linkReturn c => c.WellFormed
  | .selftest c => c.WellFormed
  | .calibrate c => c.WellFormed
  | .lockBreak c => c.WellFormed
  | .faultForce c => c.WellFormed
  | .faultAck c => c.WellFormed
  | .traceArm c => c.WellFormed
  | .telemetryConfig c => c.WellFormed
  | .counterRead c => c.WellFormed
  | .timeSet c => c.WellFormed
  | .timeAdjust c => c.WellFormed
  | .resetRelease => true
  | .stewardAllLost => true
  | .refclkLoss => true
  | .epochDrainTimeout => true
  | .mapEpochRetire => true
  | .passTimeExchange => true
  | .passTimeLoss => true
  | .timeHoldover => true
  | .ppsInEdge => true
  | .ppsOutSecond => true
  | .tsInEdge => true
  | .tsCapture => true
  | .tsCompareMatch => true
  | .timeSetPpsTimeout => true
  | .wshMessageArrival _ => true
  | .leadFaultInterrupt => true
  | .eventRecordWrite => true
  | .planeNoticeLimit => true
  | .profileDrainComplete => true
  | .profileDrainTimeout => true
  | .timeInitWrite _ => true
  | .timeNowLowRead => true
  | .timeCtrlWrite _ => true
  | .tsCompareWrite _ => true
  | .wshFirstClear _ => true
  | .errLastClear _ => true
  | .leadImageRestart => true

end Sys2Proof
end

