-- ==== Sys2Proof/Machine/Router.lean ====
section
/-! DEFINITION. The router family (spec/03, 04, 13 R367): flits, arbitration, credits, forecasts, ages, starvation, the output
watchdog and link width. Also `State.on`, by which every meaning acts on the block alone. -/

namespace Sys2Proof.Machine

/-- The outcome of a command that acts on the block by `f`, the queue untouched. A command whose operands name no element of the
instance, or no value of their field, meets no element that could act: it leaves the block as it is (DESIGN CHOICE,
notes/assumptions/57.md). -/
def State.on (s : State) (i : Instr) (f : Block → Block) : Host.Outcome State Fault Refusal :=
  .next { s with blk := if i.WellFormed then f s.blk else s.blk }

/-- A request at an arbiter (04 R118): input port and VC, output, downstream VC, ranking key, the flit. -/
structure Req where
  inPort : Nat
  vc : Nat
  out : Nat
  dvc : Nat
  key : Nat
  flit : Flit
  sent : Nat
deriving DecidableEq, Repr

/-- The ranking key of 24 bits (04 R124). -/
def rankKey (ft : Nat) (f : Flit) (inPort vc : Nat) : Nat :=
  let ea := effAge ft f
  let m := hCls f.hdr == MGT
  let o := !m && ea ≥ 400
  (if m then 2 ^ 23 else 0) + (if o then 2 ^ 22 else 0) + (if m || o then 0 else hTier f.hdr * 2 ^ 20)
    + ea * 256 + (7 - inPort) * 32 + (31 - vc)

/-- Insert a request in descending key order. -/
def insertReq (r : Req) : List Req → List Req
  | [] => [r]
  | x :: l => if r.key > x.key then r :: x :: l else x :: insertReq r l

/-- Grant in key order: one flit per input and per output (04 R118). -/
def grantReqs : List Req → List Nat → List Nat → List Req
  | [], _, _ => []
  | r :: l, ins, outs =>
    if ins.contains r.inPort || outs.contains r.out then grantReqs l ins outs
    else r :: grantReqs l (r.inPort :: ins) (r.out :: outs)

/-- An output can take a flit in this FCLK: at half width one per two FCLK (13 R367). -/
def Block.outReady (b : Block) (e p : Nat) : Bool :=
  let o := (b.elem e).out p
  !o.half b.now || (match o.lastSend with | some t => t + 2 ≤ b.now | none => true)

/-- Decide the output of every front packet of a router, discarding those that must be (03 R81, R86; 11 R322; 04 R138). A head on an A VC
without a credit on any permitted output has chosen none: its wait, the output of its STARVE detail and its obligation (04 R129, R130,
R135) are counted against its escape output (DESIGN CHOICE, notes/assumptions/74.md). -/
def Block.decideAll (b : Block) (r : Nat) : Block :=
  (b.elem r).ins.foldl (fun b kv =>
    let p := kv.1 / 32
    let vc := kv.1 % 32
    let v := (b.elem r).vc p vc
    match v.q.head? with
    | none => b
    | some f =>
      if v.sent > 0 then
        (match v.out with
         | some o => if b.outFenced r o then b.dropPacket r (b.fenceKind (linkScopes r o)) (pkOf f) false else b
         | none => b)
      else
        let idx := nodePkg (hDest f.hdr) * 16 + nodeDie (hDest f.hdr)
        let row := rowKey (if hEpoch f.hdr then 1 else 0) idx
        let dr (kind : Nat) : Block :=
          ((b.hop r p vc 0 0 f false true).dropPacket r kind (pkOf f) false).bump r 46 1
        if (b.elem r).badRows.contains row then dr 0
        else match b.decideRoute r p vc f.hdr with
          | .drop kind => dr kind
          | .go o d => b.modElem r (fun el => el.setVc p vc { v with out := some o, dvc := some d })
          | .wait =>
            let o := match b.routeOf r p f.hdr with | some (_, esc) => some (b.colPort r esc (b.escVc (match peer r esc with | some (a, _) => perOf a | none => 2) f.hdr)) | none => none
            b.modElem r (fun el => el.setVc p vc { v with out := o, dvc := none })) b

/-- The requests of a router in this FCLK, highest key first (04 R118, R124); at half width an output grants none of them in every
second FCLK (13 R367). -/
def Block.requests (b : Block) (r : Nat) : List Req :=
  (b.elem r).ins.foldl (fun l kv =>
    let p := kv.1 / 32
    let vc := kv.1 % 32
    let v := kv.2
    match v.q.head?, v.out, v.dvc with
    | some f, some o, some d =>
      let free := match ((b.elem r).out o).held.find d with
        | some h => h.inPort == p && h.inVc == vc && v.sent > 0
        | none => v.sent == 0
      if b.freeCr r o d > 0 && free then
        insertReq ⟨p, vc, o, d, rankKey (b.ftOf r) f p vc, f, v.sent⟩ l
      else l
    | _, _, _ => l) []

/-- Forecast of each waiting VC (04 R132). -/
def forecastVals (el : Elem) (reqs grants : List Req) : List (Nat × Nat) :=
  el.ins.filterMap (fun kv =>
    let p := kv.1 / 32
    let vc := kv.1 % 32
    if kv.2.q.isEmpty then none
    else match reqs.find? (fun r => r.inPort == p && r.vc == vc) with
      | none => some (kv.1, 15)
      | some r =>
        if grants.any (fun g => g.inPort == p && g.vc == vc) then some (kv.1, 0)
        else some (kv.1, max 1 (min 14 ((reqs.filter (fun x => x.out == r.out && x.key > r.key)).length))))

/-- Send the granted flit; into a domain that is not On it is presented and held (04 R116; 10 R295, R296). -/
def Block.grantOne (b : Block) (r : Nat) (reqs : List Req) (g : Req) : Block :=
  match peer r g.out with
  | none => b
  | some (a, _) =>
    if b.outShut r g.out (g.sent = 0) then b.touch a
    else
      let v := (b.elem r).vc g.inPort g.vc
      let tail := g.sent + 1 = hFlits g.flit.hdr
      let ovd := effAge (b.ftOf r) g.flit == 4095
      let f := { g.flit with ovd := ovd }
      let v' := { v with q := v.q.drop 1, sent := if tail then 0 else g.sent + 1, wait := 0,
                         starved := if tail then false else v.starved,
                         out := if tail then none else v.out, dvc := if tail then none else v.dvc }
      let b := b.modElem r (fun el => el.setVc g.inPort g.vc v')
      let b := b.freeSlot r g.inPort g.vc g.flit
      let b := b.sendFlit r g.out g.dvc g.inPort g.vc g.sent f
      let pre := reqs.any (fun x => x.out == g.out && x.sent > 0 && x.key < g.key)
      let b := if pre then b.bump r (12 + g.out) 1 else b
      let head := g.sent = 0
      let b := if head && g.key / 2 ^ 22 % 4 == 1 then b.bump r (18 + g.out) 1 else b
      let b := if head && g.vc % perOf r == 0 && g.dvc % perOf a != 0 then b.bump r (30 + g.inPort) 1 else b
      if head then b.hop r g.inPort g.vc g.out g.dvc f (isEndpoint a) false else b

/-- One FCLK of a router's arbiter (04 R118). -/
def Block.arbitrate (b : Block) (r : Nat) : Block :=
  if b.elemFenced r || !b.carries r then b
  else
    let b := (b.modElem r (fun el => el.ageBy r (b.ftOf r) 0)).decideAll r
    let reqs := b.requests r
    let grants := grantReqs (reqs.filter (fun q => b.outReady r q.out)) [] []
    let b := grants.foldl (fun b g => b.grantOne r reqs g) b
    b.forecastsOut r (forecastVals (b.elem r) reqs grants)

/-- CREDIT_RECEIVE (04 R110, R113). -/
def execCreditReceive (e p : Nat) (par : Bool) (s : State) : Host.Outcome State Fault Refusal :=
  s.on (.creditReceive e p par) (fun b => b.creditBack e p par)

/-- TURN_FORECAST_RECEIVE (04 R133). -/
def execTurnForecastReceive (e p : Nat) (par : Bool) (s : State) : Host.Outcome State Fault Refusal :=
  s.on (.turnForecastReceive e p par) (fun b => b.forecastIn e p par)

/-- Time passes until the age of the flit at a place reaches 2,000 units, which sets its packet's overdue bit (04 R121-R123). -/
def Block.setOverdue (b : Block) (e p vc pos : Nat) : Block :=
  match ((b.elem e).vc p vc).q[pos]? with
  | none => b
  | some f =>
    if f.ovd then b
    else
      let b := b.elapseFt (dieOf e) ((b.ftOf e / 16 + toOverdue (b.ftOf e) f.hdr) * 16)
      b.modElem e (fun el => el.ageBy e (b.ftOf e) 0)

/-- OVERDUE (04 R122). -/
def execOverdue (e p vc pos : Nat) (s : State) : Host.Outcome State Fault Refusal :=
  s.on (.overdue e p vc pos) (fun b => b.setOverdue e p vc pos)

/-- A wait counter reaches 1,600 units: STARVE, at most one message per 10 us per router and one per packet (04 R129, R130). -/
def Block.starveAt (b : Block) (r p vc : Nat) : Block :=
  let v := (b.elem r).vc p vc
  match v.q.head?, v.out with
  | some f, some o =>
    if v.starved || v.sent > 0 || b.outWaking r o then b
    else
      let b := b.elapseTo (b.now + (25600 - v.wait))
      let v := (b.elem r).vc p vc
      let b := (b.bump r 41 1).modElem r (fun el => el.setVc p vc { v with starved := true })
      let limited := match (b.elem r).lastStarve with | some t => decide (b.now < t + 32000) | none => false
      if limited then b.modWsh (fun w => { w with supp := w.supp.mod 0 (r * 256 + 0x08) (· + 1) })
      else
        let b := b.modWsh (fun w => { w with starveInt := w.starveInt ++ [(regionOf r, hSrc f.hdr)] })
        let b := b.event r 0x08 (some f.hdr) (detP p vc o (hCls f.hdr) (hTier f.hdr) (min 65535 (v.wait / 16)))
        b.modElem r (fun el => { el with lastStarve := some b.now })
  | _, _ => b

/-- STARVE (04 R130). -/
def execStarve (r p vc : Nat) (s : State) : Host.Outcome State Fault Refusal :=
  s.on (.starve r p vc) (fun b => b.starveAt r p vc)

/-- The output watchdog reaches its interval and bites (04 R135). -/
def Block.watchdogBite (b : Block) (r p : Nat) : Block :=
  if !(b.elem r).obligated p || b.outWaking r p || b.elemFenced r then b
  else
    let b := b.elapseTo (b.now + (b.lead.watchdog * us - ((b.elem r).out p).wdog))
    let el := b.elem r
    let by_ : Option (Nat × Nat × BitVec 128) := ((el.out p).held.head?.map (fun x => (x.2.inPort, x.2.inVc, x.2.hdr))).or
      ((el.ins.find? (fun kv => kv.2.out == some p && !kv.2.q.isEmpty)).bind (fun kv =>
        kv.2.q.head?.map (fun f => (kv.1 / 32, kv.1 % 32, f.hdr))))
    b.fault r 0x07 6 (clusterOf r) (by_.map (·.2.2)) (match by_ with
      | some (q, vc, h) => detP q vc p (hCls h) (hTier h) (hTag h).toNat
      | none => detP 0 0 p 0 0 0)

/-- OUTPUT_WATCHDOG (04 R135). -/
def execOutputWatchdog (r p : Nat) (s : State) : Host.Outcome State Fault Refusal :=
  s.on (.outputWatchdog r p) (fun b => b.watchdogBite r p)

/-- End of a 4 us window, which follow one another from the entry into profile 4: there a direction narrows below 3,200 flits and widens from
5,120 on; in any other profile it is wide (13 R367). -/
def Block.widthWindow (b : Block) (e p : Nat) : Block :=
  let b := b.elapseTo (b.lead.winFrom + (b.now - b.lead.winFrom + 12799) / 12800 * 12800)
  let o := (b.elem e).out p
  let narrow := if b.immProfile == 4 then (if o.narrow then decide (o.winFlits < 5120) else decide (o.winFlits < 3200)) else false
  b.modElem e (fun el => el.setOut p { o.setWidth narrow b.now with winFlits := 0 })

/-- LINK_WIDTH_WINDOW (13 R367). -/
def execLinkWidthWindow (e p : Nat) (s : State) : Host.Outcome State Fault Refusal :=
  s.on (.linkWidthWindow e p) (fun b => b.widthWindow e p)

/-- A head flit has waited 64 FCLK for a half-width direction: it widens at the end of the current flit (13 R367). -/
def Block.widen (b : Block) (e p : Nat) : Block :=
  let el := b.elem e
  let waits := el.ins.filter (fun kv => kv.2.out == some p && kv.2.sent == 0 && !kv.2.q.isEmpty)
  let most := (waits.map (·.2.wait)).foldl max 0
  let from_ := if waits.isEmpty then el.headFrom else some (b.now - most)
  match from_ with
  | some t => if !(el.out p).narrow then b else
    let b := b.elapseTo (t + 64)
    b.modElem e (fun el => el.setOut p ((el.out p).setWidth false b.now))
  | none => b

/-- LINK_WIDEN_ON_WAIT (13 R367). -/
def execLinkWidenOnWait (e p : Nat) (s : State) : Host.Outcome State Fault Refusal :=
  s.on (.linkWidenOnWait e p) (fun b => b.widen e p)

end Sys2Proof.Machine
end

