-- ==== Sys2Proof/Machine/NiOps.lean ====
section
/-! DEFINITION. Shared operations of a network interface (spec/06): tags, answers to its own unit and to the mesh, the
address map, the lock keeper, and the flush of R207. -/

namespace Sys2Proof.Machine

/-! ### Tags (06 R178, R179; 02 R68, R69) -/

/-- Tags for the unit's packets: 1,016 of 1,024 (06 R178). -/
def unitTags : List Nat := List.range 1016
/-- The 8 reserved tags (06 R178). -/
def ownTags : List Nat := (List.range 8).map (· + 1016)
/-- The free ones of some tags. -/
def Ni.free (x : Ni) (l : List Nat) : List Nat := l.filter (fun t => (x.tags.find t).isNone)
/-- A tag is outstanding: held since injection and not quarantined (02 R65, R69). -/
def Ni.outstanding (x : Ni) (t : Nat) : Bool :=
  match x.tags.find t with
  | some g => !g.quar && g.since.isSome
  | none => false
/-- A steward has work of the first class before work of its own of a later class (14 R390): it is the lead, in service, and a fault
interrupt waits. -/
def Block.fencesFirst (b : Block) (s : Nat) : Bool := s == b.leadSrc && b.stwUp s && !b.wsh.lead.isEmpty

/-- A steward is in service and does not leave it: one whose scope closes hands its duties to its buddy (12 R343; 14 R384). -/
def Block.stwServes (b : Block) (s : Nat) : Bool :=
  b.stwUp s && (b.scope 10 s).st == 0 && (12 ≤ dieOf s || (b.scope 9 (dieOf s)).st == 0)

/-- The steward of a region's pair that serves as primary: the lower-numbered in service (14 R380). -/
def Block.primary (b : Block) (g : Nat) : Nat :=
  let s := regionPair g
  if b.stwServes s || !b.stwServes (buddy s) then s else buddy s

/-- The steward that serves a region: in profile 0 the lead, for every region (13, Profile 0). -/
def Block.server (b : Block) (g : Nat) : Nat := if b.effProfile = 0 then b.leadSrc else b.primary g

/-- MGT requests of its steward that hold a tag at an NI until they are answered: commits, notices, drain queries, heartbeats and image blocks (02
R65; notes/assumptions/103.md). -/
def Block.mgtHeld (b : Block) (n : Nat) : Nat :=
  match niStw n with
  | none => 0
  | some s =>
    let l := b.lead
    let mine (rs : List Nat) : Nat := (rs.filter (fun r => b.server (rcvRegion r) == s)).length
    mine (match l.commit with | some c => c.waitAck | none => []) + mine l.mapAck + (l.resetN.map (fun e => mine e.2.2)).sum
      + (l.fenceN.map (fun e => mine e.2)).sum + (l.farFence.map (fun e => mine e.2.2)).sum
      + ((List.range 32).filter (fun g => (b.region g).report.isSome && b.server g == s)).length + (b.stw s).hbSent.length
      + (if s == b.leadSrc && l.load.any (fun x => !x.2.isEmpty) then 1 else 0)

/-- Tags free for the unit's packets at an NI, and TX_TAGSTOP (06 R178, R179). -/
def Block.freeUnitTags (b : Block) (n : Nat) : Nat := ((b.ni n).free unitTags).length - b.mgtHeld n
def Block.tagStop (b : Block) (n : Nat) : Bool := b.freeUnitTags n < 160

/-- One of the free tags of a list, if there is one; which one, the spec leaves open (06 R178). -/
def Block.allocTag (b : Block) (n : Nat) (l : List Nat) (uid : BitVec 12) : Option Nat × Block :=
  match (b.ni n).free l with
  | [] => (none, b)
  | t0 :: ts =>
    if l.length = 1016 && ts.length < b.mgtHeld n then (none, b)
    else
      let (v, b) := b.free 16
      let t := (t0 :: ts).getD (v.toNat % (ts.length + 1)) t0
      (some t, b.modNi n (fun x => { x with tags := x.tags.set t { uid := uid } }))

/-- Free a tag at once (02 R69): an outstanding one is work that ends (10 R293). -/
def Block.freeTag (b : Block) (n t : Nat) : Block :=
  let b := if ((b.ni n).tags.get {} t).quar then b else b.touch n
  b.modNi n (fun x => { x with tags := x.tags.erase t, oldOrdered := x.oldOrdered.filter (· != t) })
/-- Hold a tag out of use (02 R69), which is no longer outstanding (10 R292, R293). -/
def Block.quarTag (b : Block) (n t : Nat) : Block := (b.touch n).modNi n (fun x => { x with
  tags := x.tags.mod {} t (fun g => { g with quar := true, since := some b.now, qft := b.ftOf n, heldAbort := none }),
  oldOrdered := x.oldOrdered.filter (· != t) })

/-! ### Answers -/

/-- Reserved tags end with the lookups and releases that hold them: one not injected yet is free, one outstanding is out of use (02 R69; 06
R178). -/
def Block.endOwnTags (b : Block) (n : Nat) : Block :=
  ((b.ni n).tags.filter (fun kv => 1016 ≤ kv.1 && !kv.2.quar)).foldl (fun b kv =>
    if kv.2.since.isSome then b.quarTag n kv.1 else b.freeTag n kv.1) b

/-- Put an answer for the unit behind what waits for it (06 R175, R208). -/
def Block.forUnit (b : Block) (n : Nat) (h : BitVec 128) (pays : List (BitVec 512)) (uid : BitVec 12) : Block :=
  b.modNi n (fun x => { x with rx := x.rx ++ [{ hdr := h, pays := pays, whole := true, seq := x.seq, uid := uid }], seq := x.seq + 1 })

/-- Answer the own unit in place of injection or of an answer: RSP `opc` for the packet with header `h` (06 R208; 02 R62). Its SRC is the
destination's NodeID (02 R66), and 0 where no DEST was ever resolved: there the spec names none (DESIGN CHOICE,
notes/assumptions/78.md). -/
def Block.tellUnit (b : Block) (n : Nat) (h : BitVec 128) (opc kind : Nat) (uid : BitVec 12) : Block :=
  b.forUnit n (mkHdr (niNode b.pkgid n) (canon (hDest h)) RSP opc (hTag h) 0 (hAddr h) (hTier h) false false)
    [abortDetail (b.ftOf n) n kind (hCls h) (hOpc h) 0] uid

/-- A die agent, or the NI of a Pass port (01 R515). -/
def noUnit (n : Nat) : Bool := isAgent n || isPassNi n

/-- Send a packet that no Tollgate governs (05 R139). What a die agent or the NI of a Pass port sends leaves at once, sealed. -/
def Block.sendOwn (b : Block) (n : Nat) (h : BitVec 128) (pays : List (BitVec 512)) : Block :=
  if noUnit n then { b with aborts := b.aborts ++ [b.sealed n h (pays.headD 0)] }
  else b.modGate n (fun g => { g with ownq := g.ownq ++ [{ hdr := h, pays := pays, resolved := true }] })

/-- Send an MGT packet of an NI (05 R141). -/
def Block.sendMgt (b : Block) (n : Nat) (h : BitVec 128) (pays : List (BitVec 512)) : Block :=
  if noUnit n then { b with aborts := b.aborts ++ [b.sealed n h (pays.headD 0)] }
  else b.modGate n (fun g => { g with mgtq := g.mgtq ++ [{ hdr := h, pays := pays, resolved := true }] })

/-- The RSP with which a target NI answers a packet (02 R46, R63, R66). -/
def Block.reply (b : Block) (n : Nat) (h : BitVec 128) (opc : Nat) (pay : BitVec 512) : Block :=
  b.sendOwn n (mkHdr (hSrc h) (niNode b.pkgid n) RSP opc (hTag h) 0 (hAddr h) (hTier h) false false) [pay]

/-- The abort that answers a packet at a target NI; for an MGT request MGT_ABORT (02 R62, R71). -/
def Block.abortPkt (b : Block) (n : Nat) (h : BitVec 128) (opc kind : Nat) : BitVec 128 × BitVec 512 :=
  let mgt := hCls h == MGT
  (mkHdr (hSrc h) (niNode b.pkgid n) (if mgt then MGT else RSP) (if mgt then 4 else opc) (hTag h) 0 (hAddr h)
      (if mgt then 2 else hTier h) false false,
    abortDetail (b.ftOf n) n kind (hCls h) (hOpc h) (if mgt then opc else 0))

/-- The abort with which a target NI answers a packet (02 R62, R71). -/
def Block.replyAbort (b : Block) (n : Nat) (h : BitVec 128) (opc kind : Nat) : Block :=
  let a := b.abortPkt n h opc kind
  if hCls h == MGT then b.sendMgt n a.1 [a.2] else b.sendOwn n a.1 [a.2]

/-- Transmit credits that the NI returns (06 R174). -/
def Block.txReturn (b : Block) (n t k : Nat) : Block :=
  b.modNi n (fun x => { x with txTaken := x.txTaken.mod 0 t (· - k) })

/-- Credits of a tier that have reached the unit once `add` more have come, `draws` giving how the tiers share them (06 R174). -/
def shareCredits (have_ : SMap Nat) (draws : List Nat) (add : Nat) : SMap Nat :=
  let (m, left) := (List.range 4).foldl (fun (x : SMap Nat × Nat) t =>
    let c := x.1.get 0 t
    let k := draws.getD t 0 % (min (32 - c) x.2 + 1)
    (x.1.set t (c + k), x.2 - k)) (have_, add)
  ((List.range 4).foldl (fun (x : SMap Nat × Nat) t =>
    let c := x.1.get 0 t
    let k := min (32 - c) x.2
    (x.1.set t (c + k), x.2 - k)) (m, left)).1

/-- The first 32 credits of each tier come back one a UCLK, a UCLK of 200 MHz to 4.0 GHz, from the FCLK at which the unit port came up. How
many have come lies within those bounds and never falls; the number, and the tiers they are of, are free values (06 R171, R172, R174;
notes/assumptions/8.md). -/
def Block.txSync (b : Block) (n : Nat) : Block :=
  let x := b.ni n
  let k := b.now - x.portFrom
  let old := ((List.range 4).map (fun t => x.txIn.get 0 t)).sum
  let lo := max old (min 128 (k / 16))
  let hi := max old (min 128 (k * 5 / 4))
  if lo = 128 then b.modNi n (fun x => { x with txIn := [(0, 32), (1, 32), (2, 32), (3, 32)] })
  else
    let (v, b) := b.free 16
    let (d0, b) := b.free 16
    let (d1, b) := b.free 16
    let (d2, b) := b.free 16
    let (d3, b) := b.free 16
    b.modNi n (fun x => { x with
      txIn := shareCredits x.txIn [d0.toNat, d1.toNat, d2.toNat, d3.toNat] (lo + v.toNat % (hi - lo + 1) - old) })

/-- Transmit credits that the unit holds (06 R174). -/
def Block.txHeld (b : Block) (n t : Nat) : Nat := (b.ni n).txIn.get 0 t - (b.ni n).txTaken.get 0 t

/-- DETAIL P for a packet at an NI. -/
def detNi (h : BitVec 128) (k : Nat := 0) : BitVec 32 := detP (k / 32) (k % 32) 0 (hCls h) (hTier h) (hTag h).toNat

/-- Take a packet out of its tier queue, answering its unit; its tag is free at once (06 R208, 05 R159). -/
def Block.refuseQueued (b : Block) (n t : Nat) (p : QPkt) (opc kind : Nat) : Block :=
  let b := b.modGate n (fun g => { g with queue := g.queue.set t ((g.q t).erase p) })
  let b := b.txReturn n t p.pays.length
  let b := if holdsTag (hCls p.hdr) (hOpc p.hdr) then b.freeTag n (hTag p.hdr).toNat else b
  b.tellUnit n p.hdr opc kind p.uid

/-- Refuse every queued packet of an NI that no window of list `l` fits (05 R159). -/
def Block.refuseOversize (b : Block) (n : Nat) (l : GateList) : Block :=
  (List.range 4).foldl (fun b t =>
    ((b.gate n).q t).foldl (fun b p =>
      if b.oversize n l t p.pays.length then
        (b.refuseQueued n t p 0x14 0x0F).niEvent n 0x0F ms (some p.hdr) (detNi p.hdr)
      else b) b) b

/-! ### The address map (06 R181-R191) -/

/-- An address lies in the map of granule code `g` (06 R182). -/
def inMap (g : Nat) (addr : BitVec 46) : Bool := addr.toNat / 2 ^ (40 + 2 * g) == 0
/-- Granule index (06 R182). -/
def granuleOf (g : Nat) (addr : BitVec 46) : Nat := addr.toNat / 2 ^ (24 + 2 * g) % 65536

/-- Attributes of a granule entry: COH 4, NC 3, WR 2, ATOM 1, LOCK 0, that an opcode needs (06 R184). -/
def attrMask (opc : Nat) : Nat :=
  if opc ∈ [0, 1, 2, 4, 5, 0x10, 0x11, 0x12, 0x13] then 16
  else if opc ∈ [8, 9, 0xA, 0xB] then 20
  else if opc = 3 then 8
  else if opc ∈ [0xC, 0xD] then 12
  else if opc ∈ [0x18, 0x19, 0x1A, 0x1B] then 2
  else 1

/-- VALID and every attribute needed (06 R183, R184). -/
def entryPermits (entry opc : Nat) : Bool :=
  entry.testBit 5 && (entry &&& attrMask opc) == attrMask opc

/-- The hash of 06 R185. -/
def mapHash (h : Nat) (addr : BitVec 46) : Nat :=
  let a := addr.toNat
  if h = 0 then a % 32
  else if h = 1 then a / 64 % 32
  else (List.range 10).foldl (fun x i => x ^^^ (a / 2 ^ (5 * i) % 32)) 0

/-- NodeID that a slot names, if there is an NI there (06 R186). -/
def slotNode (s : Nat) : Option (BitVec 16) :=
  let n := nodeId (s / 256 % 16) 12 (s / 4 % 64) (s / 2 % 2)
  if isNi (nodeNi n) then some n else none

/-- The repair steward of a scope (12 R341): of the pair of its region the first in service, unless they lie in the scope or reach the mesh only
through it, as a dual-homed one never does; else of the other region of its compute die; else, and for a plane or a compute die, the lead. -/
def Block.repairStw (b : Block) (ty id : Nat) : Nat :=
  let apart (s : Nat) : Bool :=
    let n := stwNi s
    !(scopeDoms ty id).contains (stwDom s) &&
      (isDual n || (!(ty == 2 && id % 8192 == n) && !(routerScopes (src (dieOf n) (niR n))).contains (ty, id)))
  let of (g : Nat) : Option Nat := [regionPair g, buddy (regionPair g)].find? (fun s => b.stwUp s && apart s)
  let g := scopeRegion ty id
  if ty == 8 || ty == 9 || b.effProfile = 0 then b.leadSrc
  else ((of g).or (if g < 24 then of (g ^^^ 1) else none)).getD b.leadSrc

/-- Region whose budget and map bank an NI uses (01 R27). -/
def Block.homeRegion (b : Block) (n : Nat) : Nat :=
  let g := niRegion n
  if isDual n && (b.scFenced 7 g || b.scFenced 8 0) then g + 4 else g

/-! ### Golden copies (14 R385, R386) -/

/-- Owner key of a region's own tables. -/
def regKey (g : Nat) : Nat := 8192 + g

/-- The tables of an owner as they stand. -/
def Block.tablesOf (b : Block) (o : Nat) : Gold :=
  if 8192 ≤ o then
    let r := b.region (o - 8192)
    { budget := r.budget, budgetRet := r.ret, masks := b.lead.masks }
  else if isRouter o then { tab := (b.elem o).tab }
  else
    let g := b.gate o
    let x := b.ni o
    { active := g.active, shadow := g.shadow, base := g.base, pend := g.pend.or g.pendMsg, conf := g.conf, rate := g.rate, ret := g.ret, pin := g.pin,
      part := x.part, mask := x.mask, inc := x.inc }

/-- The pair of stewards that hold the golden copy of an owner (14 R385). -/
def Block.keepers (b : Block) (o : Nat) : List Nat :=
  let p := regionPair (if 8192 ≤ o then o - 8192 else if isRouter o then regionOf o else b.homeRegion o)
  [p, buddy p]

/-- A steward holds the golden copies `m`, and the CRC-32 of them (14 R382, R385). -/
def Block.putGold (b : Block) (s : Nat) (m : SMap Gold) : Block :=
  ({ b with gold := b.gold.set s m }).modStw s (fun x => { x with crc := Config.crcOf m })

/-- A change of tables is written to the golden copies of both stewards, as far as they are in service (14 R386). -/
def Block.keepGold (b : Block) (os : List Nat) : Block :=
  os.foldl (fun b o => ((b.keepers o).filter b.stwUp).foldl (fun b s => b.putGold s (SMap.set (b.gold.get [] s) o (b.tablesOf o))) b) b

/-- A steward fetches the golden copies of its buddy; with that one out of service it takes them from the tables of its region as they stand,
after the lead's commit record and the map banks (12 R359; 14 R382, R389, R396). -/
def Block.fetchGold (b : Block) (s : Nat) : Block :=
  let g := stwRegion s
  let os := (b.elems.filter (fun (kv : Nat × Elem) => isRouter kv.1 && regionOf kv.1 == g)).map (·.1) ++
    (b.gates.filter (fun (kv : Nat × Gate) => isNi kv.1 && b.homeRegion kv.1 == g)).map (·.1) ++ [regKey g]
  b.putGold s (if b.stwUp (buddy s) then b.gold.get [] (buddy s) else os.foldl (fun (m : SMap Gold) o => m.set o (b.tablesOf o)) [])

/-- An owner's golden copy, of the primary or else of its buddy. -/
def Block.goldOf (b : Block) (o : Nat) : Option Gold :=
  ((b.keepers o).filter b.stwUp).findSome? (fun s => SMap.find (b.gold.get [] s) o)

/-- The tables of an owner are loaded from its golden copy (12 R348; 10 R304; 11 R322). -/
def Block.loadGold (b : Block) (o : Nat) : Block :=
  match b.goldOf o with
  | none => b
  | some g =>
    if 8192 ≤ o then b.modRegion (o - 8192) (fun r => { r with budget := g.budget, ret := g.budgetRet })
    else if isRouter o then b.modElem o (fun el => { el with tab := g.tab })
    else (b.modNi o (fun x => { x with part := g.part, mask := g.mask, inc := g.inc })).modGate o (fun x => { x with
      active := g.active, shadow := g.shadow, base := g.base, pend := if x.pendMsg.isSome then x.pend else g.pend, conf := g.conf,
      rate := g.rate, ret := g.ret, pin := g.pin })

/-- Region whose bank an NI fills from: the other plane's while the bank is out of lookup service (01 R27, 11 R322). -/
def Block.fillRegion (b : Block) (n : Nat) : Nat :=
  let g := b.homeRegion n
  if isDual n && (b.region g).bankOut then peerRegion g else g

/-- NodeID at which the bank of a region answers (01 R19, R29). -/
def Block.bankNode (b : Block) (g : Nat) : BitVec 16 :=
  if g < 24 then nodeId b.pkgid (g / 2) (if g % 2 == 0 then 0 else 7) 1
  else stwNode b.pkgid (b.server g)

/-- Send a lookup for a granule, or leave it waiting for a reserved tag (06 R188, R190). -/
def Block.sendLookup (b : Block) (n granule : Nat) (addr : BitVec 46) (second : Bool) : Block :=
  let (t, b) := b.allocTag n ownTags 0
  match t with
  | none => b.modNi n (fun x => { x with lookups := x.lookups.set (2048 + granule) ⟨granule, second, b.now, addr⟩ })
  | some t =>
    let g := b.fillRegion n
    let h := mkHdr (b.bankNode (if second then peerRegion g else g)) (niNode b.pkgid n) MGT 5 (BitVec.ofNat 10 t) 0 addr 2 false false
    (b.sendMgt n h [0]).modNi n (fun x => { x with
      lookups := SMap.set (x.lookups.erase (2048 + granule)) t ⟨granule, second, b.now, addr⟩ })

/-- What resolving a map-addressed request gives (06 R184-R186). -/
inductive Resolve where
  | dest (d : BitVec 16)
  | refused
  | unreachable
  | miss
deriving DecidableEq, Repr

/-- Resolve an address through the map cache. -/
def Block.lookupMap (b : Block) (n opc : Nat) (addr : BitVec 46) : Resolve :=
  if !inMap b.lead.gran addr then .refused
  else
    match (b.ni n).cache.find? (fun e => e.granule == granuleOf b.lead.gran addr && e.epoch == (b.ni n).mapEpoch) with
    | none => .miss
    | some e =>
      if !entryPermits e.entry opc then .refused
      else match slotNode (e.slots.getD (mapHash e.h addr % 2 ^ e.w) 0) with
        | none => .unreachable
        | some d => if b.reachable n (b.ni n).epoch d then .dest d else .unreachable

/-- Move the cache entry of a granule to the front: least recently used replacement (06 R188). -/
def Block.touchCache (b : Block) (n granule : Nat) : Block :=
  b.modNi n (fun x => { x with
    cache := x.cache.filter (fun e => e.granule == granule) ++ x.cache.filter (fun e => e.granule != granule) })

/-- Resolve the queue of one tier in order, up to a packet that waits for a lookup (06 R188). -/
def Block.resolveTier (b : Block) (n t : Nat) : Nat → Block
  | 0 => b
  | fuel + 1 =>
    match ((b.gate n).q t).find? (fun p => !p.resolved) with
    | none => b
    | some p =>
      let addr := hAddr p.hdr
      let granule := granuleOf b.lead.gran addr
      let hit := b.lookupMap n (hOpc p.hdr) addr
      let b := if hit == .miss || !inMap b.lead.gran addr then b else b.touchCache n granule
      match hit with
      | .dest d =>
        let p' := { p with hdr := setF p.hdr 112 16 d.toNat, resolved := true }
        Block.resolveTier (b.modGate n (fun g => { g with
          queue := g.queue.set t ((g.q t).map (fun x => if x == p then p' else x)) })) n t fuel
      | .refused =>
        Block.resolveTier ((b.refuseQueued n t p 0x10 0x10).niEvent n 0x10 ms (some p.hdr) (detNi p.hdr)) n t fuel
      | .unreachable => Block.resolveTier (b.refuseQueued n t p 0x10 0) n t fuel
      | .miss =>
        let open_ := (b.ni n).lookups.any (fun kv => kv.2.granule == granule)
        if open_ then b else (b.bump n 6 1).sendLookup n granule addr false

/-- Send the oldest LOCK_RELEASE of a stray grant that waits, if a reserved tag is free (06 R204). -/
def Block.releaseStray (b : Block) (n : Nat) : Block :=
  match (b.ni n).rels with
  | [] => b
  | (h, inc) :: rest =>
    match b.allocTag n ownTags 0 with
    | (some t, b) =>
      (b.modNi n (fun x => { x with rels := rest })).sendOwn n
        (mkHdr (hSrc h) (niNode b.pkgid n) REQ 0x1D (BitVec.ofNat 10 t) 0 (hAddr h) (hTier h) false false)
        [mkPay [(0, 1, inc), (56, 8, 6 * 2 ^ 56)]]
    | (none, b) => b

/-- Resolve what can be resolved at an NI, after sending the releases and lookups that waited for a tag (06 R188, R204). -/
def Block.resolveNi (b : Block) (n : Nat) : Block :=
  let b := b.releaseStray n
  let b := ((b.ni n).lookups.filter (fun kv => 2048 ≤ kv.1)).foldl (fun b kv =>
    if ((b.ni n).free ownTags).isEmpty then b else b.sendLookup n kv.2.granule kv.2.addr kv.2.second) b
  (List.range 4).foldl (fun b t => b.resolveTier n t (((b.gate n).q t).length + 1)) b

/-- A lookup has failed: it goes to the alternate bank, or its requests are refused (06 R190). Its tag is the caller's. -/
def Block.lookupFailed (b : Block) (n t : Nat) : Block :=
  match (b.ni n).lookups.find t with
  | none => b
  | some l =>
    let b := b.modNi n (fun x => { x with lookups := x.lookups.erase t })
    if !l.second then b.sendLookup n l.granule l.addr true
    else
      let b := (List.range 4).foldl (fun b t =>
        (((b.gate n).q t).filter (fun p => !p.resolved && granuleOf b.lead.gran (hAddr p.hdr) == l.granule)).foldl
          (fun b p => b.refuseQueued n t p 0x10 0x11) b) b
      (b.event n 0x11 none (detP 0 0 0 0 0 t)).resolveNi n

/-! ### The lock keeper (06 R198-R204) -/

/-- Index of the entry that names an address. -/
def Ni.lockAt (x : Ni) (addr : BitVec 46) : Option (Nat × Lock) := x.locks.find? (fun kv => kv.2.addr == addr)

/-- Break a HELD entry, keeping its address and last holder, and report it (06 R200). Cause: 0 lease, 1 reset notice, 2 fence
notice, 3 `LOCK_BREAK` (11 R327). -/
def Block.breakLock (b : Block) (n i cause : Nat) : Block :=
  match (b.ni n).locks.find i with
  | some l =>
    if l.broken then b
    else (b.modNi n (fun x => { x with locks := x.locks.set i { l with broken := true } })).event n 0x12 none
      (detK l.owner.toNat l.inc.toNat i cause)
  | none => b

/-- Break every HELD entry that satisfies a test. -/
def Block.breakLocks (b : Block) (n cause : Nat) (p : Lock → Bool) : Block :=
  ((b.ni n).locks.filter (fun kv => !kv.2.broken && p kv.2)).foldl (fun b kv => b.breakLock n kv.1 cause) b

/-- Grant payload: lease expiry and incarnation (06 R199, 02 R63). -/
def grantPay (expiry : Nat) (inc : BitVec 8) : BitVec 512 := mkPay [(0, 8, expiry), (8, 1, inc.toNat)]

/-- The keeper answers a lock operation whose head arrived at Fabric Time `arr` (06 R199, R201, R203). -/
def Block.lockOp (b : Block) (n : Nat) (h : BitVec 128) (pay : BitVec 512) (arr : Nat) : Block :=
  let x := b.ni n
  let inc := BitVec.ofNat 8 (pByte pay 0)
  let owner := hSrc h
  let expiry := arr + aLease (attr pay) * us
  let opc := hOpc h
  let set (i : Nat) (l : Lock) (b : Block) : Block := b.modNi n (fun x => { x with locks := x.locks.set i l })
  let held : Lock := ⟨false, hAddr h, owner, inc, expiry⟩
  let grant (code : Nat) : Nat := if b.now < x.amnesiaTo then 7 else code
  let stale : Block := b.replyAbort n h 0x13 0
  match x.lockAt (hAddr h) with
  | none =>
    if opc == 0x1C then
      match (List.range 16).find? (fun i => (x.locks.find i).isNone) with
      | some i => (set i held b).reply n h (grant 6) (grantPay expiry inc)
      | none => b.reply n h 9 0
    else stale
  | some (i, l) =>
    let me := l.owner == owner && l.inc == inc
    if opc == 0x1C then
      if !l.broken then
        if me then (set i held b).reply n h (grant 6) (grantPay expiry inc)
        else if l.owner == owner then (set i held b).reply n h 7 (grantPay expiry inc)
        else b.reply n h 8 0
      else if me then stale
      else (set i held b).reply n h 7 (grantPay expiry inc)
    else if opc == 0x1E then
      if !l.broken && me && arr < l.expiry then (set i held b).reply n h 6 (grantPay expiry inc) else stale
    else
      if !l.broken && me then (b.modNi n (fun x => { x with locks := x.locks.erase i })).reply n h 0 0 else stale

/-! ### Fords (07 R226-R228) -/

def Block.ford (b : Block) (f : FordId) : Ford := b.fords.get {} f.key
def Block.modFord (b : Block) (f : FordId) (g : Ford → Ford) : Block := { b with fords := b.fords.mod {} f.key g }

/-- Depth of a Ford's data path: flits each way, of an adapter's link side frames, of a telemetry agent records (07 R226). -/
def fordDepth : FordId → Nat
  | .unitPort _ => 8
  | .adapterDie _ => 8
  | .adapterLink _ => 4
  | .passPort _ => 32
  | .steward _ => 8
  | .alwaysOn _ => 0
  | .telemetry _ => 16

/-- FCLKs per cycle of the slower clock of a Ford, a unit's or a recovered clock taken as FCLK (07 R209, R226; DESIGN CHOICE,
notes/assumptions/88.md). -/
def fordCycle : FordId → Nat
  | .unitPort _ => 1
  | .adapterDie _ => 2
  | .adapterLink _ => 2
  | .passPort _ => 1
  | .steward _ => 4
  | .alwaysOn _ => 32
  | .telemetry _ => 16

/-- HCLK of an adapter stands still: the die-side Ford of its own, or the link-side Ford of the far one, has lost its far clock (07 R226, R228). -/
def Block.hclkOff (b : Block) (a : Nat) : Bool :=
  isDieAdp a && ((b.ford (.adapterDie a)).stopped || (b.ford (.adapterLink (farAdp a))).stopped)

/-! ### The flush of an NI (06 R207; 11 R335) -/

/-- Why an NI is flushed: its unit is reset, the NI is fenced, or its domain rests by a command with FORCE. -/
inductive FlushWhy where
  | unitReset | fence | power
deriving DecidableEq, Repr

/-- What a fenced NI is sending, and the answers that it had yet to send, are discarded as in the fabric (02 R67; 11 R334, R335); a reserved
tag of what was not injected yet is free (06 R178). -/
def Block.flushOut (b : Block) (n kind : Nat) : Block :=
  let g := b.gate n
  let b := ((g.cur.toList ++ g.pre.toList).foldl (fun b p => b.dropPacket n kind (p.hdr, p.copy) false) b)
  let b := (g.mgtq ++ g.ownq).foldl (fun b p =>
    if holdsTag (hCls p.hdr) (hOpc p.hdr) then b.freeTag n (hTag p.hdr).toNat else b.discard n kind p.hdr false) b
  b.modGate n (fun g => { g with cur := none, pre := none, mgtq := [], ownq := [] })

/-- Answer and discard what an NI holds (06 R207; 10 R308; 11 R335). Unless its unit is reset the stewards send its aborts and its unit is
answered for what it had sent; a fence clears its lock keeper, which a domain that rests keeps (06 R203); `kind`: kind code of the fault
(02 R62). A partly received MGT packet is the NI's own: a unit reset leaves it. -/
def Block.flushNi (b : Block) (n kind : Nat) (why : FlushWhy) : Block :=
  let fence := why != .unitReset
  let b := if fence then b.flushOut n kind else b
  let x := b.ni n
  let mgtPart (p : RPkt) : Bool := !fence && p.key.isSome && hCls p.hdr == MGT
  let abort (h : BitVec 128) (opc : Nat) (b : Block) : Block :=
    if fence then { b with aborts := b.aborts ++ [b.sealed n (b.abortPkt n h opc kind).1 (b.abortPkt n h opc kind).2] }
    else b.replyAbort n h opc kind
  -- packets not handed over; RSP and DAT are discarded, answers for the own unit stay
  let b := x.rx.foldl (fun b p =>
    if p.key.isNone then b
    else if hCls p.hdr == REQ || hCls p.hdr == SNP || (fence && hCls p.hdr == MGT && !isMgtAnswer MGT (hOpc p.hdr)) then abort p.hdr 0x10 b
    else b) b
  let b := x.ledger.foldl (fun b h => abort h 0x11 b) b
  let whole := (x.msgq.filter (·.whole)).length
  let b := if whole = 0 then b else b.event n 0x13 none (detN whole)
  let b := x.msgq.foldl (fun b p => if p.whole then b else abort p.hdr 0x10 b) b
  let parts := (x.rx ++ x.msgq).filterMap (fun p => if p.whole || mgtPart p then none else p.key)
  -- the Tollgate's packets from the unit
  let b := (List.range 4).foldl (fun b t =>
    ((b.gate n).q t).foldl (fun b p =>
      let b := if holdsTag (hCls p.hdr) (hOpc p.hdr) then b.freeTag n (hTag p.hdr).toNat else b
      if fence then b.tellUnit n p.hdr 0x10 kind p.uid else b) b) b
  let b := b.modGate n (fun g => { g with queue := [] })
  -- tags of the answers that are discarded: out of use, unless issued again (06 R207)
  let b := if fence then b else
    (x.rx.filter (fun p => p.key.isSome && (hCls p.hdr == RSP || hCls p.hdr == DAT) && !isSettle (hCls p.hdr) (hOpc p.hdr))).foldl
      (fun b p => if ((b.ni n).tags.find (hTag p.hdr).toNat).isSome then b else b.quarTag n (hTag p.hdr).toNat) b
  -- outstanding unit tags
  let b := ((b.ni n).tags.filter (fun kv => kv.1 < 1016 && !kv.2.quar && kv.2.since.isSome)).foldl (fun b kv =>
    (if fence then b.tellUnit n kv.2.hdr 0x11 kind kv.2.uid else b).quarTag n kv.1) b
  -- lookups and releases of a fenced NI end with their tags
  let b := if fence then (b.endOwnTags n).modNi n (fun x => { x with lookups := [], rels := [] }) else b
  b.modNi n (fun x => { x with
    rx := x.rx.filter (fun p => mgtPart p || (p.key.isNone && (fence || holdsTag (hCls p.hdr) (hOpc p.hdr)))), ledger := [], msgq := [],
    dropRx := x.dropRx ++ parts, txTaken := [], locks := if why = .fence then [] else x.locks })

/-- The stewards hold no golden copy for a domain: both of its region's pair are out of service (10 R305). -/
def Block.goldless (b : Block) (d : Nat) : Bool :=
  !b.stwUp (regionPair (domRegion d)) && !b.stwUp (buddy (regionPair (domRegion d)))

/-- The retained tables of an element go back to the values of a reset: its SRAM is cleared at RESETTING, and lost in Off (10 R290, R310; 12 R347).
The incarnation is the stewards' to give back (06 R202). -/
def Block.loseTables (b : Block) (e : Nat) : Block :=
  if isRouter e then b.modElem e (fun el => { el with tab := [] })
  else if isNi e then
    (b.modNi e (fun x => { x with part := 0, mask := 1, cache := [], dupf := [], locks := [] })).modGate e (fun g => { g with
      credit := [], rate := [], oldRate := [], conf := [], ret := [], pin := [], active := {}, shadow := {}, base := 0, pend := none, quiet := none })
  else b

/-- A steward's SRAM is lost: it runs its boot ROM and holds no golden copy (10 R290; 12 R347; 14 R389). `fetched`: the lead has fetched its copies
first, which are given back to it (12 R341, R357 step 8). -/
def Block.clearSteward (b : Block) (s : Nat) (fetched : Bool := false) : Block :=
  { b.modStw s (fun x => { x with
      image := false, build := none, iram := [], dram := [], missed := 0, crcDiff := 0, segFails := 0, announced := none, hbSent := [], hbGot := none }) with
    gold := if fetched && !(b.stw s).lost then b.gold else b.gold.erase s }

/-- A steward loads its role's segments of the image into its SRAMs (14 R387, R389): those of bit 0 on a compute die, of bit 1 on the I/O die, and
the lead those of bit 2 too. -/
def Block.loadSegs (b : Block) (s : Nat) (bd : Option (BitVec 64)) : Block :=
  let mask := if dieOf s < 12 then 1 else if s == b.leadSrc then 6 else 2
  let of (t : Nat) : List (Nat × Nat) :=
    (b.lead.segs.filter (fun x => x.2.1.land mask != 0 && x.2.2 == t)).map (fun x => (x.1, x.2.1))
  b.modStw s (fun x => { x with image := true, build := bd, iram := of 0, dram := of 1, announced := none, segFails := 0, missed := 0 })

/-- A steward that has passed its self-test loads the image that the lead runs, and its golden copies (12 R348, R359). -/
def Block.bootSteward (b : Block) (s : Nat) : Block :=
  let l := b.stw b.leadSrc
  let b := b.modStw s (fun x => { x with self := 1 })
  (if l.image then b.loadSegs s l.build else b).fetchGold s

/-- A die agent that is fenced answers the lookups it holds (11 R335). -/
def Block.flushAgent (b : Block) (e kind : Nat) : Block :=
  let g := agentRegion e
  let hs := (b.region g).lookq
  let b := { b with aborts := b.aborts ++ hs.map (fun h => b.sealed e (b.abortPkt e h 0x10 kind).1 (b.abortPkt e h 0x10 kind).2) }
  b.modRegion g (fun r => { r with lookq := [] })

/-- The incarnation increases, and the stewards send RESET_NOTICE to every NI and every reachable package (06 R202). -/
def Block.newIncarnation (b : Block) (n : Nat) : Block :=
  let inc := (b.ni n).inc + 1
  let b := (b.modNi n (fun x => { x with inc := inc })).keepGold [n]
  let b := b.modLead (fun l => { l with resetN := l.resetN ++ [(niNode b.pkgid n, inc, allNis)] })
  b.factsNow.pass.foldl (fun b kv => { b with farOut := .notice kv.1 0xA (niNode b.pkgid n).toNat inc.toNat :: b.farOut }) b

end Sys2Proof.Machine
end

