-- ==== Sys2Proof/Machine/Delivery.lean ====
section
/-! DEFINITION. What a network interface does with what arrives (spec/06, 02 R65-R71, 13 R370, R371): packets for its unit,
answers, map fills, notices and the timers of tags, locks, lookups and filters. -/

namespace Sys2Proof.Machine

/-- The end of the filters of 03 R95 and 13 R370: the watchdog interval plus 100 us. -/
def Block.filterLife (b : Block) : Nat := (b.lead.watchdog + 100) * us

/-- STRAY_RESPONSE; a stray grant is released, once a reserved tag is free (02 R69, 06 R204). An endpoint without a unit holds no lock and
discards it (01 R515). -/
def Block.stray (b : Block) (n : Nat) (h : BitVec 128) (pay : BitVec 512) (k : Nat := 0) : Block :=
  if !isNi n then b
  else if noUnit n then b.niEvent n 0x0A ms (some h) (detNi h k)
  else
    let b := b.niEvent n 0x0A ms (some h) (detNi h k)
    if hCls h == RSP && (hOpc h == 6 || hOpc h == 7) then
      (b.modNi n (fun x => { x with rels := x.rels ++ [(h, pByte pay 8)] })).releaseStray n
    else b

/-- Hand a received packet on to wait for the unit (06 R175). -/
def Block.toRx (b : Block) (n : Nat) (e : RPkt) (uid : BitVec 12) : Block :=
  b.modNi n (fun x => { x with rx := x.rx ++ [{ e with whole := true, uid := uid, seq := x.seq }], seq := x.seq + 1 })

/-- A whole RSP or DAT packet at its destination NI (02 R65-R71, 13 R371). -/
def Block.answerArrive (b : Block) (n : Nat) (e : RPkt) : Block :=
  let h := e.hdr
  let pay := e.pays.headD 0
  let t := (hTag h).toNat
  let x := b.ni n
  let ab := isAbort (hCls h) (hOpc h)
  let forSettle := ab && hOpc h == 0x11 && pWord pay 11 2 == RSP * 64 + 1
  if !opKnown (hCls h) (hOpc h) then
    let b := b.event n 0x0D (some h) (detNi h (e.key.getD 0))
    match x.tags.find t with
    | some g =>
      if !x.outstanding t then b
      else if t < 1016 then (b.tellUnit n g.hdr 0x11 0x0D g.uid).quarTag n t
      else (b.quarTag n t).lookupFailed n t
    | none => b
  else if noUnit n then b.stray n h pay (e.key.getD 0)
  else if isSettle (hCls h) (hOpc h) || forSettle then b.toRx n e 0
  else match x.tags.find t with
    | none => b.stray n h pay (e.key.getD 0)
    | some g =>
      if !x.outstanding t then b.stray n h pay (e.key.getD 0)
      else if 1016 ≤ t then
        let b := if ab && hOpc h == 0x11 then b.quarTag n t else b.freeTag n t
        if (x.lookups.find t).isSome then b.lookupFailed n t else b.resolveNi n
      else
        if ab then
          match g.heldAbort with
          | some hp => (b.toRx n { e with hdr := setF h 87 6 0x11, pays := [hp] } g.uid).quarTag n t
          | none =>
            if hOpc h == 0x11 then
              if g.dup then b.modNi n (fun x => { x with tags := x.tags.set t { g with heldAbort := some pay } })
              else (b.toRx n e g.uid).quarTag n t
            else (b.toRx n e g.uid).freeTag n t
        else (b.toRx n e g.uid).freeTag n t

/-- A MAP_FILL for a lookup (06 R188, R191). -/
def Block.fill (b : Block) (n t : Nat) (pay : BitVec 512) : Block :=
  match (b.ni n).lookups.find t with
  | none => b
  | some l =>
    let b := (b.modNi n (fun x => { x with lookups := x.lookups.erase t })).freeTag n t
    let ep := (pByte pay 51).testBit 0
    if ep != (b.ni n).mapEpoch then b.sendLookup n l.granule l.addr l.second
    else
      let ent : MapEnt := {
        granule := l.granule, epoch := ep, entry := pWord pay 48 2,
        slots := (List.range 32).map (fun s => pay.toNat / 2 ^ (12 * s) % 4096), w := pByte pay 50 / 32, h := pByte pay 50 / 8 % 4 }
      (b.modNi n (fun x => { x with
        cache := (ent :: x.cache.filter (fun c => c.granule != l.granule)).take 64 })).resolveNi n

/-- An answer of class MGT reaches the NI that asked (02 R49, R65; 06 R190). The first INDETERMINATE one to a duplicated request is held until the
other copy is answered (13 R371). -/
def Block.mgtAnswer (b : Block) (n : Nat) (h : BitVec 128) (pay : BitVec 512) : Block :=
  let t := (hTag h).toNat
  if !(b.ni n).outstanding t then b
  else if hOpc h == 6 then b.fill n t pay
  else if hOpc h == 4 then
    let look := ((b.ni n).lookups.find t).isSome
    let g := (b.ni n).tags.get {} t
    let indet := pByte pay 13 == 0x11
    if g.dup && indet && g.heldAbort.isNone then
      b.modNi n (fun x => { x with tags := x.tags.set t { g with heldAbort := some pay } })
    else
    let b := if indet || g.heldAbort.isSome then b.quarTag n t else b.freeTag n t
    if look then b.lookupFailed n t else b.resolveNi n
  else (b.freeTag n t).resolveNi n

/-- Packets that the region counts under an epoch, for a drain report (03 R104): those with a flit in a buffer or frame. -/
def Block.drainCount (b : Block) (g : Nat) (ep : Bool) : Nat :=
  let elems := b.elems.filter (fun kv =>
    (isRouter kv.1 && regionOf kv.1 == g) || (isAdp kv.1 && attachedTo kv.1 g))
  let hs := elems.flatMap (fun kv => (b.packetsAt kv.1) ++
    (b.link kv.1).replay.flatMap (fun fr => fr.slots.map (fun s => pkOf s.2.2)))
  (pksOf (hs.filter (fun k => hEpoch k.1 == ep))).length

/-- The steward behind a compute-die NI is out of ACTIVE, lost, or Off: the NI has no unit to hand anything to (12 R340; 10 R309). -/
def Block.stwOut (b : Block) (n : Nat) : Bool :=
  isStwNi n && dieOf n < 12 && (List.range 4).any (fun i =>
    let s := stwSrc (dieOf n) i
    stwNi s == n && ((b.stw s).lost || (b.scope 10 s).st != 0 || (b.scope 10 s).stopped || (b.dom (stwDom s)).st == 7))

/-- The die whose collector window an endpoint answers for: die agent East its own, the lead steward's NI the I/O die's (01 R19, R29). -/
def Block.windowOf (b : Block) (n : Nat) : Option Nat :=
  if isAgent n && locOf n == 143 then some (dieOf n) else if n == stwNi b.leadSrc then some 12 else none

/-- Scope `ty`, `id` lies in a plane of its package, which is ineligible for transit while it is out of service (03 R93; 12 R355). -/
def inPlane (ty id : Nat) : Bool := 6 ≤ ty && [0, 1].any (fun q => scopeIn ty id 8 q)

/-- What is known of package `p`: a scope of its planes goes out of service, or returns. -/
def Block.memberOut (b : Block) (p ty id : Nat) (back : Bool) : Block :=
  if !inPlane ty id then b
  else { b with members := b.members.map (fun kv => if kv.1 = p then
      (kv.1, { kv.2 with out := kv.2.out.filter (· != scKey ty id) ++ (if back then [] else [scKey ty id]) }) else kv) }

/-- A notice from the lead steward of another package: the own lead sends it on to every NI of this one, and a fence in a plane of that
package makes it ineligible for transit (03 R93; 06 R200, R202; 11 R318), as the notice of a plane's repair does until the one of its return
(12 R355). RESET_NOTICE's payload layout is not given: its owner, of that package, and incarnation are free values; nor does the spec say what
packet a notice of repair or return is (notes/assumptions/79.md). -/
def Block.farNotice (b : Block) (h : BitVec 128) : Block :=
  let p := nodePkg (hSrc h)
  if hOpc h == 0xA then
    let (o, b) := b.free 12
    let (i, b) := b.free 8
    b.modLead (fun l => { l with resetN := l.resetN ++ [(BitVec.ofNat 16 (p * 4096 + o.toNat), i, allNis)] })
  else
    let ty := (hAddr h).toNat / 65536 % 65536
    let id := (hAddr h).toNat % 65536
    if !scopeOk ty id then b
    else if hOpc h == 1 then b.memberOut p ty id ((hAddr h).getLsbD 32)
    else
      (b.modLead (fun l => { l with farFence := l.farFence ++ [(p, scKey ty id, allNis)] })).memberOut p ty id false

/-- The Ford of the steward behind an NI, while that steward's clock is stopped or its domain rests or wakes (07 R228; 10 R297). -/
def Block.stwHeld (b : Block) (n : Nat) : Option Nat :=
  match niStw n with
  | some s => if (b.ford (.steward s)).stopped || decide ((b.dom (stwDom s)).st ∈ [4, 5, 6]) then some s else none
  | none => none

/-- An endpoint takes an MGT request and serves it, or answers MGT_ABORT (03 R109; 01 R515; 02 R71). One for a steward whose clock is stopped, or
which rests, waits in its Ford, which has room for 8 (07 R226, R228); that wakes it (10 R297, by DOMAIN_WAKE). -/
def Block.mgtServe (b : Block) (n : Nat) (h : BitVec 128) (room : Bool) (k : Nat := 0) : Block :=
  let ans (opc : Nat) (pay : BitVec 512) (b : Block) : Block :=
    b.sendMgt n (mkHdr (hSrc h) (niNode b.pkgid n) MGT opc (hTag h) 0 (hAddr h) 2 false false) [pay]
  if !opKnown MGT (hOpc h) then (b.event n 0x0D (some h) (detNi h k)).replyAbort n h 0x10 0x0D
  else if !room then b.replyAbort n h 0x10 0
  else if hOpc h == 5 then
    if isAgent n then b.modRegion (agentRegion n) (fun r => { r with lookq := r.lookq ++ [h] })
    else match allStws.find? (fun s => stwNi s == n && 24 ≤ stwRegion s) with
      | some s => b.modRegion (stwRegion s) (fun r => { r with lookq := r.lookq ++ [h] })
      | none => b.replyAbort n h 0x10 0
  else if hOpc h == 0 && (b.windowOf n).isSome then
    let (v, b) := b.free 512
    ans 3 v b
  else if noUnit n || b.stwOut n then b.replyAbort n h 0x10 0
  else if let some s := b.stwHeld n then
    (if (b.ford (.steward s)).reqs.length < fordDepth (.steward s) then b.modFord (.steward s) (fun x => { x with reqs := x.reqs ++ [h] }) else b.replyAbort n h 0x10 0)
  else if (hOpc h == 0xA || hOpc h == 0xB || hOpc h == 1) && nodePkg (hSrc h) != b.pkgid && n == stwNi b.leadSrc then ans 2 0 (b.farNotice h)
  else match hOpc h with
    | 0 => let (v, b) := b.free 512; ans 3 v b
    | 8 => ans 9 (mkPay [(0, 2, b.drainCount (regionOf (src (dieOf n) (niR n))) (!b.lead.epoch))]) b
    | _ => ans 2 0 b

/-- A whole MGT packet at an NI, with the CRC flit of profile 8 (02 R55). The spec gives no depth for an endpoint's own queue of 03 R109:
a request that comes over the mesh always finds room (DESIGN CHOICE, notes/assumptions/80.md). -/
def Block.mgtArrive (b : Block) (n : Nat) (e : RPkt) : Block :=
  let h := e.hdr
  let crc := b.epProfile (hEpoch h) == 8
  let bad := crc && e.pays.getLast? != some (crcFlit e.pays.dropLast)
  let ans := isMgtAnswer MGT (hOpc h)
  if bad then
    let b := b.event n 0x0E (some h) (detNi h (e.key.getD 0))
    if ans then b.mgtAnswer n (setF h 87 6 4) (mkPay [(13, 1, 0x11)]) else b.replyAbort n h 0x10 0x0E
  else if ans then b.mgtAnswer n h (e.pays.headD 0)
  else b.mgtServe n h true (e.key.getD 0)

/-! ### Taking flits off the input VCs (06 R175) -/

/-- Room for a flit of a class behind the input VCs (06 R175). -/
def Ni.room (x : Ni) (cls : Nat) : Bool :=
  cls ≥ 4 || ((x.rx.filter (fun p => p.key.isSome && hCls p.hdr == cls)).map (fun p => p.pays.length)).sum < 16

/-- Discard the rest of the packet on VC `k`. -/
def Block.dropRest (b : Block) (n k : Nat) (h : BitVec 128) : Block :=
  if hLen h = 0 then b else b.modNi n (fun x => { x with dropRx := x.dropRx ++ [k] })

/-- A new packet at the receive side. -/
def Block.rxHead (b : Block) (n k : Nat) (f : Flit) : Block :=
  let e (x : Ni) : RPkt := { hdr := f.hdr, pays := [f.pay], whole := false, seq := x.seq, key := some k, arr := f.arr }
  b.modNi n (fun x =>
    if hCls f.hdr == MSG then { x with msgq := x.msgq ++ [e x], seq := x.seq + 1 }
    else { x with rx := x.rx ++ [e x], seq := x.seq + 1 })

/-- A later flit of the packet on VC `k`. -/
def Block.rxBody (b : Block) (n k : Nat) (f : Flit) : Block :=
  let add (l : List RPkt) : List RPkt :=
    l.map (fun p => if p.key == some k && !p.whole then { p with pays := p.pays ++ [f.pay] } else p)
  b.modNi n (fun x => { x with rx := add x.rx, msgq := add x.msgq })

/-- The tail of the packet on VC `k` has been written. -/
def Block.rxTail (b : Block) (n k : Nat) : Block :=
  let cur (p : RPkt) : Bool := p.key == some k && !p.whole
  match (b.ni n).msgq.find? cur with
  | some e =>
    (b.modNi n (fun x => { x with
      msgq := x.msgq.map (fun p => if cur p then { p with whole := true, seq := x.seq } else p), seq := x.seq + 1 })).reply n e.hdr 0 0
  | none =>
    match (b.ni n).rx.find? cur with
    | none => b
    | some e =>
      if hCls e.hdr == REQ || hCls e.hdr == SNP then
        b.modNi n (fun x => { x with rx := x.rx.map (fun p => if cur p then { p with whole := true } else p) })
      else
        let b := b.modNi n (fun x => { x with rx := x.rx.filter (fun p => !cur p) })
        if hCls e.hdr == MGT then b.mgtArrive n e else b.answerArrive n e

/-- A copy of a duplicated packet at its target: `none` where it is the second one, which is dropped (13 R370). A packet of another package may
come twice as well, by an exit filter that retired early (03 R95); one of this package only where it has been copied. -/
def Block.filterDup (b : Block) (n : Nat) (f : Flit) : Option Block :=
  let h := f.hdr
  let dup := b.epProfile (hEpoch h) == 8 && (hCls h == MGT || (hCls h == REQ && hOrd h)) && (f.copy != 0 || nodePkg (hSrc h) != b.pkgid)
  if !dup then some b
  else
    let l := (b.ni n).dupf
    if l.any (fun e => e.1 == hSrc h && e.2.1 == hTag h) then none
    else
      let early := 1024 ≤ l.length
      let b := if early then b.bump n 14 1 else b
      some (b.modNi n (fun x => { x with dupf := (if early then l.drop 1 else l) ++ [(hSrc h, hTag h, b.now)] }))

/-- The head of a packet at its target NI: the checks of 02 R70 in their order. An endpoint without a unit refuses REQ, SNP and MSG with kind
0x00, whatever the opcode (01 R515). -/
def Block.headArrive (b : Block) (n k : Nat) (f : Flit) : Block :=
  let h := f.hdr
  let cls := hCls h
  let guarded := cls == REQ || cls == SNP || cls == MSG
  if cls ≥ 6 then b.dropRest n k h
  else match b.filterDup n f with
  | none =>
    (b.modNi n (fun x => { x with dupf := x.dupf.filter (fun e => !(e.1 == hSrc h && e.2.1 == hTag h)) })).dropRest n k h
  | some b =>
  if guarded && !opKnown cls (hOpc h) then
    ((b.event n 0x0D (some h) (detNi h k)).replyAbort n h 0x10 (if noUnit n then 0 else 0x0D)).dropRest n k h
  else if (noUnit n || b.stwOut n) && guarded then (b.replyAbort n h 0x10 0).dropRest n k h
  else if guarded && f.barred then (b.replyAbort n h 0x12 0).dropRest n k h
  else if isLockOp cls (hOpc h) then (b.lockOp n h f.pay f.arr).dropRest n k h
  else if cls == MSG && 64 ≤ (b.ni n).msgq.length then ((b.reply n h 5 0).bump n 10 1).dropRest n k h
  else
    let b := b.rxHead n k f
    if hLen h = 0 then b.rxTail n k else b

/-- Take the front flit off input VC `k` of an NI, if its class has room (06 R175); the NI of a Pass port takes what is for it off the port's
(01 R515). -/
def Block.takeFlit (b : Block) (n k : Nat) : Option Block :=
  let e := rxElem n
  let v := (b.elem e).ins.get {} k
  match v.q with
  | [] => none
  | f :: rest =>
    if !(b.ni n).room (hCls f.hdr) || (isPassNi n && !b.forPassNi e f.hdr) then none
    else
      let tail := v.sent + 1 = hFlits f.hdr
      let b := b.modElem e (fun el => { el with ins := el.ins.set k { v with q := rest, sent := if tail then 0 else v.sent + 1 } })
      let b := b.freeSlot e (k / 32) (k % 32) f
      if v.sent = 0 then some (b.headArrive n k f)
      else if (b.ni n).dropRx.contains k then
        some (if tail then b.modNi n (fun x => { x with dropRx := x.dropRx.filter (· != k) }) else b)
      else
        let b := b.rxBody n k f
        some (if tail then b.rxTail n k else b)

def Block.pumpVc (b : Block) (n k : Nat) : Nat → Block
  | 0 => b
  | fuel + 1 => match b.takeFlit n k with
    | some b' => Block.pumpVc b' n k fuel
    | none => b

/-- Take every flit that an NI has room for off its input VCs. -/
def Block.pump (b : Block) (n : Nat) : Block :=
  ((b.elem (rxElem n)).ins.map (fun kv => kv.1)).foldl (fun b k => b.pumpVc n k 4) b

/-- Which arrival at a port of an NI a flit is: 0 a packet for the target, 1 an answer, 2 a MAP_FILL. -/
def arrivalKind (h : BitVec 128) : Nat :=
  if hCls h == MGT && hOpc h == 6 then 2 else if isAnswer (hCls h) (hOpc h) then 1 else 0

/-- The flit at the front of a wire, if it is of an arrival kind, comes off it with error pattern `err`, and the NI takes
what it can. -/
def Block.niArrival (b : Block) (n p kind : Nat) (err : BitVec 672) : Block :=
  match (b.wires.get [] (wkey n p)).head? with
  | some (_, f) => if arrivalKind f.hdr == kind then (b.arrive n p err false).pump n else b
  | none => b

/-- FLIT_RECEIVE (02 R77; 04 R113): at a router or adapter; at an NI or die agent, whatever the flit is, with what it takes of it. -/
def execFlitReceive (e p : Nat) (err : BitVec 672) (par : Bool) (s : State) : Host.Outcome State Fault Refusal :=
  s.on (.flitReceive e p err par) (fun b => if isEndpoint e then (b.arrive e p err par).pump e else b.arrive e p err par)

/-- NI_PACKET_ARRIVAL (02 R70): one flit of a packet for this target. -/
def execNiPacketArrival (n p : Nat) (err : BitVec 672) (s : State) : Host.Outcome State Fault Refusal :=
  s.on (.niPacketArrival n p err) (fun b => b.niArrival n p 0 err)

/-- An abort that the fabric originated reaches the NI it is for (02 R66; notes/assumptions/9.md). The NI decides by the packet's EPOCH whether a
CRC flit belongs to one of class MGT (02 R56). -/
def Block.abortArrive (b : Block) (n : Nat) : Option Block :=
  match b.aborts.find? (fun a => nodePkg (hDest a.hdr) == b.pkgid && nodeNi (hDest a.hdr) == n) with
  | none => none
  | some a =>
    let b := { b with aborts := b.aborts.erase a }
    let e : RPkt := { hdr := a.hdr, pays := [a.pay], whole := true, seq := 0 }
    let bad := b.epProfile (hEpoch a.hdr) == 8 && a.crc != some (crcFlit [a.pay])
    some (if hCls a.hdr == MGT then
        (if bad then (b.event n 0x0E (some a.hdr) (detNi a.hdr)).mgtAnswer n (setF a.hdr 87 6 4) (mkPay [(13, 1, 0x11)])
         else b.mgtAnswer n a.hdr a.pay)
      else b.answerArrive n e)

/-- One flit of an answer off the wire, or an abort that the fabric sent (02 R66). -/
def Block.answerIn (b : Block) (n p : Nat) (err : BitVec 672) : Block :=
  match (b.wires.get [] (wkey n p)).head? with
  | some (_, f) => if arrivalKind f.hdr == 1 then b.niArrival n p 1 err else (b.abortArrive n).getD b
  | none => (b.abortArrive n).getD b

/-- MAP_FILL_RECEIPT (06 R188, R191). -/
def execMapFillReceipt (n p : Nat) (err : BitVec 672) (s : State) : Host.Outcome State Fault Refusal :=
  s.on (.mapFillReceipt n p err) (fun b => b.niArrival n p 2 err)

/-- The endpoint that a NodeID of the own package names, and MGT_REQUEST there (03 R109, 01 R515). -/
def Block.mgtRequest (b : Block) (dest srcN : BitVec 16) (opc : Nat) (tag : BitVec 10) (addr : BitVec 46) (room : Bool) : Block :=
  b.mgtServe (nodeNi dest) (mkHdr (canon dest) srcN MGT opc tag 0 addr 2 false false) room

/-- MGT_REQUEST (03 R109). -/
def execMgtRequest (dest srcN : BitVec 16) (opc : Nat) (tag : BitVec 10) (addr : BitVec 46) (room : Bool) (s : State) :
    Host.Outcome State Fault Refusal :=
  s.on (.mgtRequest dest srcN opc tag addr room) (fun b => b.mgtRequest dest srcN opc tag addr room)

/-! ### Timers of tags, lookups, locks and filters -/

/-- 200 ms in FCLK (02 R68). -/
def orphanTime : Nat := 640000000

/-- A tag without answer for 200 ms is ended (02 R68; 13 R371). -/
def Block.tagOrphan (b : Block) (n t : Nat) : Block :=
  match (b.ni n).tags.find t with
  | some g =>
    (match g.since with
     | some t0 =>
       if g.quar then b
       else
         let b := b.elapseTo (t0 + orphanTime)
         let b := match g.heldAbort with
           | some hp =>
             if 1016 ≤ t then b else b.forUnit n (mkHdr (niNode b.pkgid n) (canon (hDest g.hdr)) RSP 0x11 (hTag g.hdr) 0 (hAddr g.hdr) (hTier g.hdr) false false)
               [hp] g.uid
           | none =>
             let b := if t < 1016 then b.tellUnit n g.hdr 0x11 0x0B g.uid else b
             b.event n 0x0B (some g.hdr) (detNi g.hdr)
         (b.quarTag n t).lookupFailed n t
     | none => b)
  | none => b

/-- TAG_ORPHAN (02 R68). -/
def execTagOrphan (n t : Nat) (s : State) : Host.Outcome State Fault Refusal :=
  s.on (.tagOrphan n t) (fun b => b.tagOrphan n t)

/-- The quarantine of a tag ends; a lookup may have waited for it (02 R69, 06 R188). -/
def Block.quarantineEnd (b : Block) (n t : Nat) : Block :=
  match (b.ni n).tags.find t with
  | some g =>
    if g.quar then (((b.elapseTo (g.since.getD 0 + orphanTime)).freeTag n t).resolveNi n) else b
  | none => b

/-- TAG_QUARANTINE_END (02 R69). -/
def execTagQuarantineEnd (n t : Nat) (s : State) : Host.Outcome State Fault Refusal :=
  s.on (.tagQuarantineEnd n t) (fun b => b.quarantineEnd n t)

/-- The 1 us comparison of lease expiries (06 R201); a keeper that rests makes none (06 R203). -/
def Block.lockSweep (b : Block) (n : Nat) : Block :=
  if b.domSt n = 4 || b.domSt n = 7 then b else
  let b := b.elapseTo ((b.now + 3199) / 3200 * 3200)
  b.breakLocks n 0 (fun l => l.expiry ≤ b.ftOf n)

/-- LOCK_SWEEP (06 R201). -/
def execLockSweep (n : Nat) (s : State) : Host.Outcome State Fault Refusal :=
  s.on (.lockSweep n) (fun b => b.lockSweep n)

/-- LOCK_AMNESIA_END (06 R203). -/
def execLockAmnesiaEnd (n : Nat) (s : State) : Host.Outcome State Fault Refusal :=
  s.on (.lockAmnesiaEnd n) (fun b =>
    if (b.ni n).amnesiaTo = 0 then b
    else (b.elapseTo (b.ni n).amnesiaTo).modNi n (fun x => { x with amnesiaTo := 0 }))

/-- MAP_LOOKUP_TIMEOUT (06 R190): 20 us without a fill. -/
def execMapLookupTimeout (n t : Nat) (s : State) : Host.Outcome State Fault Refusal :=
  s.on (.mapLookupTimeout n t) (fun b =>
    match (b.ni n).lookups.find t with
    | some l => ((b.elapseTo (l.at_ + 64000)).quarTag n t).lookupFailed n t
    | none => b)

/-- DUPLICATE_FILTER_RETIRE (13 R370): the oldest entry of the filter. -/
def execDuplicateFilterRetire (n : Nat) (s : State) : Host.Outcome State Fault Refusal :=
  s.on (.duplicateFilterRetire n) (fun b =>
    match (b.ni n).dupf with
    | [] => b
    | (_, _, t) :: rest => (b.elapseTo (t + b.filterLife)).modNi n (fun x => { x with dupf := rest }))

/-- EXIT_FILTER_RETIRE (03 R95): the oldest entry of the filter. -/
def execExitFilterRetire (k : Nat) (s : State) : Host.Outcome State Fault Refusal :=
  s.on (.exitFilterRetire k) (fun b =>
    match (b.port k).exitf with
    | [] => b
    | (_, _, t) :: rest => (b.elapseTo (t + b.filterLife)).modPort k (fun x => { x with exitf := rest }))

/-! ### Map banks (06 R187, R189; 11 R322; 16 R430) -/

/-- Row of the bank's table that holds a granule entry, or a group (12 R354). -/
def groupRow (g : Nat) : Nat := 65536 + g

/-- MAP_FILL's payload from a copy of the map (06 R189). -/
def Block.fillPay (b : Block) (ep : Bool) (granule : Nat) : BitVec 512 :=
  let e := if ep then 1 else 0
  let entry := b.map.get 0 (e * 65536 + granule)
  let (w, h, slots) := b.groups.get (0, 0, List.replicate 32 0) (e * 1024 + entry / 64)
  BitVec.ofNat 512 ((List.range 32).foldl (fun a s => a + slots.getD s 0 % 4096 * 2 ^ (12 * s)) 0)
    ||| mkPay [(48, 2, entry), (50, 1, w * 32 + h * 8), (51, 1, e)]

/-- The bank of a region answers its oldest lookup (06 R189); a die agent needs its router's credits, and its link, which carries one flit in an
FCLK, or in two at half width (05 R139; 13 R367). -/
def Block.mapServe (b : Block) (g : Nat) : Block :=
  let r := b.region g
  match r.lookq with
  | [] => b
  | h :: rest =>
    let bank := bankSrc g
    let granule := granuleOf b.lead.gran (hAddr h)
    let entry := b.map.get 0 ((if r.bankEpoch then 65536 else 0) + granule)
    let bad := r.bankOut || (b.elem bank).badRows.any (fun x => x == rowKey 5 granule || x == rowKey 5 (groupRow (entry / 64)))
    let from_ := b.bankNode g
    let opc := if bad then 4 else 6
    let pay := if bad then abortDetail (b.ftOf bank) bank 0 MGT 5 0x10 else b.fillPay r.bankEpoch granule
    let ah := mkHdr (hSrc h) (canon from_) MGT opc (hTag h) 0 (hAddr h) 2 false false
    let done (b : Block) : Block := b.modRegion g (fun r => { r with lookq := rest })
    if g < 24 then
      let a := nodeNi from_
      let ep := b.lead.epoch
      let crc := b.epProfile ep == 8
      let ft := b.ftOf a
      let hd := setF (setF (setF ah 62 12 (ft / 16)) 61 1 (if ep then 1 else 0)) 74 3 (if crc then 1 else 0)
      let pays := if crc then [pay, crcFlit [pay]] else [pay]
      let vc := if b.mustEscape hd then b.escVc 2 hd else adVc 2 hd
      if b.freeCr a 0 vc < pays.length || b.outClosed a 0 || b.outFenced a 0 || !b.outReady a 0 then
        b.modElem a (fun el => { el with headFrom := el.headFrom.or (some b.now) })
      else
        done (((pays.zipIdx).foldl (fun b p =>
          (if p.2 = 0 then b else b.elapse (if b.outReady a 0 then 1 else 2)).sendFlit a 0 vc 0 0 p.2 { hdr := hd, pay := p.1 }) b).modElem a
            (fun el => { el with headFrom := none }))
    else done (b.sendMgt (nodeNi from_) ah [pay])

/-- MAP_LOOKUP_SERVE (06 R189). -/
def execMapLookupServe (g : Nat) (s : State) : Host.Outcome State Fault Refusal :=
  s.on (.mapLookupServe g) (fun b => b.mapServe g)

/-! ### Notices (06 R200, R202; 11 R318) -/

/-- RESET_NOTICE (06 R200): the NI breaks the locks of the owner's other incarnations. -/
def execResetNotice (n : Nat) (owner : BitVec 16) (inc : BitVec 8) (s : State) : Host.Outcome State Fault Refusal :=
  s.on (.resetNotice n owner inc) (fun b =>
    (b.modLead (fun l => { l with resetN := (l.resetN.map (fun e =>
      if e.1 == owner && e.2.1 == inc then (e.1, e.2.1, e.2.2.filter (· != n)) else e)).filter (fun e => !e.2.2.isEmpty) })).breakLocks
      n 1 (fun l => l.owner == canon owner && l.inc != inc))

/-- A FENCE_NOTICE that NI `n` has received is no longer waited for. -/
def Lead.fenceSeen (l : Lead) (own : Bool) (pkg key n : Nat) : Lead :=
  if own then { l with fenceN := (l.fenceN.map (fun e => if e.1 == key then (e.1, e.2.filter (· != n)) else e)).filter (fun e => !e.2.isEmpty) }
  else { l with farFence := (l.farFence.map (fun e =>
    if e.1 == pkg && e.2.1 == key then (e.1, e.2.1, e.2.2.filter (· != n)) else e)).filter (fun e => !e.2.2.isEmpty) }

/-- FENCE_NOTICE (06 R200): the NI breaks the locks owned within the scope of a package. -/
def execFenceNotice (n pkg ty id : Nat) (s : State) : Host.Outcome State Fault Refusal :=
  s.on (.fenceNotice n pkg ty id) (fun b =>
    (b.modLead (fun l => l.fenceSeen (pkg == b.pkgid) pkg (scKey ty id) n)).breakLocks
      n 2 (fun l => nodePkg l.owner == pkg && (elemScopes (nodeNi l.owner)).contains (ty, id)))

end Sys2Proof.Machine
end

