-- ==== Sys2Proof/Machine/UnitPort.lean ====
section
/-! DEFINITION. The unit port and the Tollgate (spec/05, 06 R171-R180, R205-R207; 07 R230): packets from the unit, injection and
delivery to the unit. -/

namespace Sys2Proof.Machine

/-! ### Packets from the unit (06 R173-R181, 02 R70) -/

/-- The packet passes the checks of 02 R70 at the unit port, with 06 R173, R176 and R181. -/
def unitChecks (p : UnitPkt) : Bool :=
  !p.hparErr && p.pays.length == p.len + 1 && unitMay p.cls p.opc && opKnown p.cls p.opc && lenOk p.cls p.opc p.len false
  && (p.cls != REQ || !hasAttr p.opc || attrOk p.opc (attrOf p.opc p.pays))
  && (if p.dsel then nodeOk (canon p.dest) else p.cls == REQ)

/-- Header as the NI forms it: AGE, EPOCH, PART and CAIRN follow at injection (02 R40). -/
def unitHdr (pkg n : Nat) (p : UnitPkt) (tag : BitVec 10) : BitVec 128 :=
  mkHdr (if p.dsel then canon p.dest else 0) (niNode pkg n) p.cls p.opc tag p.len p.addr p.tier p.ord
    (p.poison || p.dparErr || p.bufErr)

/-- A refusal at the unit port (06 R208): UNIT_REFUSED, ABORT_NOT_DELIVERED to the unit. -/
def Block.refuseUnit (b : Block) (n : Nat) (p : UnitPkt) : Block :=
  let h := unitHdr b.pkgid n p p.tag
  (b.tellUnit n h 0x10 0x09 p.uid).niEvent n 0x09 ms (some h) (detNi h)

/-- The oldest entry of the answer ledger that an answer of the unit closes leaves it (06 R206). -/
def clearLedger (l : List (BitVec 128)) (dest : BitVec 16) (tag : BitVec 10) : List (BitVec 128) :=
  match l.find? (fun h => hSrc h == dest && hTag h == tag) with
  | some h => l.erase h
  | none => l

/-- A checked packet takes a tag, if it holds one, and enters its tier queue (06 R178, R188; 05 R140, R159). Any RSP or DAT
closes the ledger entry with its DEST and TAG, a SETTLE among them (06 R206). -/
def Block.queueUnit (b : Block) (n : Nat) (p : UnitPkt) : Block :=
  let holds := holdsTag p.cls p.opc
  let (tag, b) : Option Nat × Block := if holds then b.allocTag n unitTags p.uid else (some p.tag.toNat, b)
  match tag with
  | none => b.refuseUnit n p
  | some t =>
    let h := unitHdr b.pkgid n p (BitVec.ofNat 10 t)
    let pays := if isLockOp p.cls p.opc then
        p.pays.map (fun x => (x &&& ~~~ (0xFF#512)) ||| BitVec.ofNat 512 (b.ni n).inc.toNat) else p.pays
    let b := if p.dparErr || p.bufErr then b.event n 0x0C (some h) (detNi h) else b
    let b := if p.cls == RSP || p.cls == DAT then
        b.modNi n (fun x => { x with ledger := clearLedger x.ledger (canon p.dest) p.tag }) else b
    let q : QPkt := { hdr := h, pays := pays, resolved := p.dsel, uid := p.uid }
    let b := b.modNi n (fun x => { x with txTaken := x.txTaken.mod 0 p.tier (· + pays.length) })
    let b := b.modGate n (fun g => { g with queue := g.queue.set p.tier (g.q p.tier ++ [q]) })
    if b.oversize n (b.gate n).active p.tier pays.length then
      (b.refuseQueued n p.tier q 0x14 0x0F).niEvent n 0x0F ms (some h) (detNi h)
    else if p.dsel && !b.reachable n (b.ni n).epoch (canon p.dest) then b.refuseQueued n p.tier q 0x10 0
    else b.resolveNi n

/-- A whole packet has crossed the unit port of an NI. -/
def Block.unitTake (b : Block) (n : Nat) (p : UnitPkt) : Block :=
  let b := b.txSync n
  let x := b.ni n
  if b.txHeld n p.tier < p.pays.length then
    let h := unitHdr b.pkgid n p p.tag
    b.linkFault n 0 0x06 (some h) (detNi h)
  else if x.fenced then b.tellUnit n (unitHdr b.pkgid n p p.tag) 0x10 (b.fenceKind (elemScopes n)) p.uid
  else if !unitChecks p then b.refuseUnit n p
  else b.queueUnit n p

/-- A whole packet arrives at the unit port of an NI. While the NI's domain is not On the Ford holds it, as far as its 8 flits reach; beyond
that the unit does (07 R226, R229). -/
def Block.unitPacket (b : Block) (n : Nat) (p : UnitPkt) : Block :=
  if b.fatal || !(b.ni n).portUp || noUnit n || (b.ford (.unitPort n)).stopped then b
  else
    let b := b.touch n
    if b.carries n then b.unitTake n p
    else if (((b.ford (.unitPort n)).up ++ [p]).map (fun q => q.pays.length)).sum ≤ fordDepth (.unitPort n) then
      b.modFord (.unitPort n) (fun x => { x with up := x.up ++ [p] })
    else b

/-- The NI takes what its unit-port Ford holds, its domain being On again (07 R229). -/
def Block.fordTake (b : Block) (n : Nat) : Block :=
  (b.ford (.unitPort n)).up.foldl (fun b p => b.unitTake n p) (b.modFord (.unitPort n) (fun x => { x with up := [] }))

/-- UNIT_RECEIVE_CREDIT (06 R175). -/
def execUnitReceiveCredit (n cls : Nat) (s : State) : Host.Outcome State Fault Refusal :=
  s.on (.unitReceiveCredit n cls) (fun b =>
    if (b.ni n).portUp && !(b.ford (.unitPort n)).stopped then b.modNi n (fun x => { x with rxCred := x.rxCred.mod 0 cls (· + 1) }) else b)

/-! ### Delivery (06 R175, R196, R205, R206) -/

/-- The packet that is delivered next. Where an ordered INTR follows an ordered MSG_SHORT or MSG_LONG of its source and tier, 02 R72 has them in
the order of injection and 06 R196 the INTR first: the NI follows R196 (DESIGN CHOICE, notes/assumptions/81.md). A REQ or SNP is delivered
when its tail has arrived, in the order in which the heads arrived, so that one that is whole waits behind one that is not: the spec says of
neither (DESIGN CHOICE, notes/assumptions/99.md). -/
def Ni.nextDelivery (x : Ni) : Option RPkt :=
  let can (p : RPkt) : Bool := p.whole && p.pays.length ≤ x.rxCred.get 0 (hCls p.hdr)
  let first (cls : Nat) : Option RPkt := (x.rx.find? (fun p => hCls p.hdr == cls)).filter can
  let led := x.ledger.length < 1024
  let ans : Option RPkt := match first RSP, first DAT with
    | some r, some d => if r.seq ≤ d.seq then some r else some d
    | some r, none => some r
    | none, d => d
  let low (l : List RPkt) : Option RPkt :=
    l.foldl (fun (m : Option RPkt) p => match m with | some q => if p.seq < q.seq then some p else m | none => some p) none
  let msgs := x.msgq.filter (·.whole)
  let nextMsg := (low (msgs.filter (fun p => hOpc p.hdr == 2))).or (low (msgs.filter (fun p => hOpc p.hdr != 2)))
  ((ans.or (if led then first SNP else none)).or (if led then first REQ else none)).or (nextMsg.filter can)

/-- What is handed to the unit-port Ford reaches the unit, or waits in the Ford for the unit's clock (07 R228). -/
def Block.handOver (b : Block) (n : Nat) (o : UnitOut) : Block :=
  if (b.ford (.unitPort n)).stopped then b.modFord (.unitPort n) (fun x => { x with down := x.down ++ [o] })
  else b.modNi n (fun x => { x with toUnit := o :: x.toUnit })

/-- The unit-port Ford has room for `k` flits towards the unit: 8 while the unit's clock is stopped (07 R226, R228). -/
def Block.fordRoom (b : Block) (n k : Nat) : Bool :=
  let f := b.ford (.unitPort n)
  !f.stopped || decide ((f.down.map (fun o => o.pays.length)).sum + k ≤ fordDepth (.unitPort n))

/-- One packet is handed to the unit: beyond the ingress fence (06 R205). -/
def Block.deliver (b : Block) (n : Nat) : Block :=
  let x := b.ni n
  if !x.portUp then b
  else match x.nextDelivery.filter (fun p => b.fordRoom n p.pays.length) with
  | none => b
  | some p =>
    let cls := hCls p.hdr
    let b := b.modNi n (fun x => { x with
      rx := x.rx.erase p, msgq := x.msgq.erase p,
      rxCred := x.rxCred.mod 0 cls (· - p.pays.length),
      ledger := if cls == REQ || cls == SNP then x.ledger ++ [p.hdr] else x.ledger })
    let b := (b.touch n).handOver n ⟨p.hdr, p.pays, p.uid⟩
    let b := (b.bump n 5 p.pays.length).modElem n (fun el => { el with
      tel := { el.tel with counts := el.tel.counts.mod 0 6 (· + p.pays.length) } })
    b.pump n

/-- UNIT_DELIVERY (06 R175). -/
def execUnitDelivery (n : Nat) (s : State) : Host.Outcome State Fault Refusal :=
  s.on (.unitDelivery n) (fun b => b.deliver n)

/-! ### The Tollgate (05 R139-R159) -/

/-- Copies and stamps of a packet at injection (02 R40, R41, R55; 13 R370; 18 R477). `tier` is none for an ungoverned packet.
Ports it leaves by, and its VC; none where no plane's link is open. -/
def Block.injPlan (b : Block) (n : Nat) (h : BitVec 128) : Option (List Nat × Nat) :=
  let vc := if b.mustEscape h then b.escVc (perOf n) h else adVc (perOf n) h
  if isDual n then
    let openp (p : Nat) : Bool := !b.linkFenced n p
    let both := (List.range 2).filter (fun p => openp p && (b.facts (hEpoch h)).plane p)
    if b.isDup h && both.length == 2 then some (both, vc)
    else
      let pl := (b.planeFor h (b.freeCr n 0 vc) (b.freeCr n 1 vc)).getD 1
      if openp pl then some ([pl], vc) else if openp (1 - pl) then some ([1 - pl], vc) else none
  else if b.linkFenced n 0 then none
  else some ([0], vc)

/-- Every port has a credit on the VC, and no other packet of this NI holds it (05 R141). -/
def Block.portsReady (b : Block) (n : Nat) (ports : List Nat) (vc : Nat) (mine : Bool) : Bool :=
  ports.all (fun p => b.freeCr n p vc > 0 && !b.outShut n p (!mine) && (mine || (((b.elem n).out p).held.find vc).isNone))

/-- Stamp AGE, EPOCH and PART (02 R40, R45). -/
def Block.stamp (b : Block) (n : Nat) (h : BitVec 128) : BitVec 128 :=
  setF (setF (setF h 62 12 (b.ftOf n / 16)) 61 1 (if (b.ni n).epoch then 1 else 0)) 58 3 (b.ni n).part

/-- K and CLASSMASK in force: profile 11 samples with K = 8 (13 R374). -/
def Block.cairnCfg (b : Block) (n : Nat) : Nat × Nat :=
  if b.immProfile == 11 then (8, 0x3F) else ((b.ni n).cairnK, (b.ni n).cairnMask)

/-- The cairn turn of a packet injected for the unit (18 R477). -/
def Block.cairnTurn (b : Block) (n : Nat) (h : BitVec 128) : BitVec 128 × Block :=
  let (k, mask) := b.cairnCfg n
  if k = 0 || !mask.testBit (hCls h) then (h, b)
  else if (b.ni n).cairnCnt + 1 < 2 ^ k then (h, b.modNi n (fun x => { x with cairnCnt := x.cairnCnt + 1 }))
  else
    let b := b.modNi n (fun x => { x with cairnCnt := 0 })
    let g := b.homeRegion n
    if (b.region g).cairns.length < 8 then
      (setF h 57 1 1, b.modRegion g (fun r => { r with cairns := r.cairns ++ [b.now] }))
    else (h, b.bump n 13 1)

/-- Send the next flit of the packet in progress (05 R141). -/
def Block.injFlit (b : Block) (n : Nat) (p : Prog) : Block :=
  let f (q : Nat) : Flit := { hdr := p.hdr, pay := p.pkt.pays.getD p.sent 0, ovd := decide (2000 ≤ ageOf (b.ftOf n) p.hdr), copy := if p.ports.length = 2 then q + 1 else p.copy }
  let b := p.ports.foldl (fun b q => b.sendFlit n q p.vc 0 0 p.sent (f q)) b
  let ctr := p.tier.getD 4
  let b := (b.bump n ctr 1).modElem n (fun el => { el with
    tel := { el.tel with counts := el.tel.counts.mod 0 ctr (· + 1) } })
  let b := match p.tier with
    | some t => b.txReturn n t 1
    | none => b
  let tail := p.sent + 1 = p.pkt.pays.length
  b.modGate n (fun g => { g with
    cur := if tail then none else some { p with sent := p.sent + 1 }, sentTier := p.tier, lastSend := some b.now })

/-- The packet begins: it is stamped, its tag becomes outstanding, and its first flit leaves. -/
def Block.startPkt (b : Block) (n : Nat) (q : QPkt) (tier : Option Nat) : Option Block :=
  let h := b.stamp n q.hdr
  let crc := hCls h == MGT && b.epProfile (b.ni n).epoch == 8
  let pays := if crc then q.pays ++ [crcFlit q.pays] else q.pays
  let h := setF h 74 3 (pays.length - 1)
  match b.injPlan n h with
  | none => none
  | some (ports, vc) =>
    if !b.portsReady n ports vc false then none
    else
      let (h, b) := if tier.isSome then b.cairnTurn n h else (h, b)
      let t := (hTag h).toNat
      let b := if holdsTag (hCls h) (hOpc h) then
          b.modNi n (fun x => { x with tags := x.tags.mod {} t (fun g => { g with since := some b.now, hdr := h }) }) else b
      let b := if ports.length = 2 then b.markDup h else b
      some ((b.touch n).injFlit n ⟨{ q with hdr := h, pays := pays }, h, 0, tier, false, ports, vc, 0⟩)

/-- The packet of a tier queue that may go first: in profile 10 the first one that Drain does not hold back (05 R140, R143;
13 R372). -/
def Block.headOf (b : Block) (n t : Nat) : Option QPkt :=
  let q := (b.gate n).q t
  if b.immProfile == 10 then q.find? (fun p => !(hCls p.hdr == REQ || hCls p.hdr == MSG)) else q.head?

/-- The head of a tier is eligible, its router's credit apart (05 R141; 02 R74). -/
def Block.eligible (b : Block) (n t : Nat) (p : QPkt) : Bool :=
  p.resolved && 0 ≤ (b.gate n).credit.get 0 t && b.mayStart n t p.pays.length
  && !(b.ordered (setF p.hdr 61 1 (if (b.ni n).epoch then 1 else 0)) && !(b.ni n).oldOrdered.isEmpty)

/-- Start the head of a tier, if it is eligible and has its credit; a destination that has become unreachable refuses it
(01 R36). -/
def Block.startTier (b : Block) (n t : Nat) : Option Block :=
  match b.headOf n t with
  | none => none
  | some p =>
    if p.resolved && !b.reachable n (b.ni n).epoch (hDest p.hdr) then some (b.refuseQueued n t p 0x10 0)
    else if !b.eligible n t p then none
    else (b.startPkt n p (some t)).map (fun b => b.modGate n (fun g => { g with queue := g.queue.set t ((g.q t).erase p) }))

/-- While its domain drains for a change of power by command, an NI starts MGT packets only (10 R307 step 3). -/
def Block.pickMgt (b : Block) (n : Nat) : Block :=
  match (b.gate n).mgtq with
  | p :: rest => (match b.startPkt n p none with
    | some b => b.modGate n (fun g => { g with mgtq := rest })
    | none => b)
  | [] => b

/-- Start the first packet of the tiers, Scheduled first (05 R141). -/
def Block.pickTier (b : Block) (n : Nat) : Block :=
  (((b.startTier n 3).or (b.startTier n 2)).or (b.startTier n 1)).or (b.startTier n 0) |>.getD b

/-- Pick the packet to start (05 R141): MGT first, then what the NI itself originates, which Drain holds back if it is a request (13 R372). An MGT
packet that lacks a credit holds the steps after it back, a packet of the NI's own lets the tiers go: R141 does not say
(DESIGN CHOICE, notes/assumptions/100.md). -/
def Block.pick (b : Block) (n : Nat) : Block :=
  let g := b.gate n
  if !g.mgtq.isEmpty then b.pickMgt n
  else match g.ownq.find? (fun p => !(b.immProfile == 10 && (hCls p.hdr == REQ || hCls p.hdr == MSG))) with
    | some p => (match b.startPkt n p none with
      | some b => b.modGate n (fun g => { g with ownq := g.ownq.erase p })
      | none => b.pickTier n)
    | none => b.pickTier n

/-- A packet in progress on a port whose link is fenced is discarded; a duplicated one goes on with the copy on the other plane
(04 R138; 13 R370). -/
def Block.cutFenced (b : Block) (n : Nat) : Block :=
  ((b.gate n).cur.toList ++ (b.gate n).pre.toList).foldl (fun b p =>
    let out := p.ports.filter (fun q => b.outFenced n q)
    let kind := b.fenceKind (linkScopes n (out.headD 0))
    if out.isEmpty then b
    else if out.length < p.ports.length then out.foldl (fun b q => b.dropPacket n kind (p.hdr, q + 1) false) b
    else
      let b := b.dropPacket n kind (p.hdr, p.copy) false
      match p.tier with
      | some t => b.txReturn n t (p.pkt.pays.length - p.sent)
      | none => b) b

/-- A Scheduled head whose destination has become unreachable is refused before it could preempt anything (01 R36; 05 R158). -/
def Block.shedHead (b : Block) (n t : Nat) : Block :=
  match b.headOf n t with
  | some q => if q.resolved && !b.reachable n (b.ni n).epoch (hDest q.hdr) then b.refuseQueued n t q 0x10 0 else b
  | none => b

/-- A head that has not left in this FCLK waits at the NI's link: an MGT packet, one of the NI's own, or the eligible head of a tier
(13 R367). -/
def Block.noteHead (b : Block) (n : Nat) : Block :=
  let g := b.gate n
  let waits := !g.mgtq.isEmpty || !g.ownq.isEmpty || (List.range 4).any (fun t => (b.headOf n t).any (b.eligible n t))
  let sent := g.lastSend == some b.now
  b.modElem n (fun el => { el with headFrom := if !waits then none else if sent then some b.now else el.headFrom.or (some b.now) })

/-- One FCLK of the Tollgate: it continues the packet in progress, preempts it, or starts the next (05 R141, R158). -/
def Block.tollgate (b : Block) (n : Nat) : Block :=
  let b := if (b.ni n).fenced then b else b.cutFenced n
  let g := b.gate n
  let wait := if b.niNarrow n then 2 else 1
  let busy := match g.lastSend with | some t => decide (b.now < t + wait) | none => false
  if b.fatal || (b.ni n).fenced || !b.carries n || busy then b
  else match g.cur with
  | some p =>
    let b := b.shedHead n 3
    let pre : Option Block :=
      if b.gateGoverns n && !b.closed n && p.tier.isSome && p.tier != some 3 && !p.wasPre && g.pre.isNone then
        (match b.headOf n 3 with
         | some q => if b.eligible n 3 q && b.reachable n (b.ni n).epoch (hDest q.hdr) then
             (b.startTier n 3).map (fun b => b.modGate n (fun g => { g with pre := some { p with wasPre := true } })) else none
         | none => none)
      else none
    (match pre with
     | some b => b
     | none => if b.portsReady n p.ports p.vc true then b.injFlit n p else b)
  | none => match g.pre with
    | some p => if b.portsReady n p.ports p.vc true then (b.modGate n (fun g => { g with pre := none })).injFlit n p else b
    | none => (if b.carries n && b.closed n then b.pickMgt n else b.pick n).noteHead n

/-- TOLLGATE_START (05 R141). -/
def execTollgateStart (n : Nat) (s : State) : Host.Outcome State Fault Refusal :=
  s.on (.tollgateStart n) (fun b => b.tollgate n)

end Sys2Proof.Machine
end

