-- ==== Sys2Proof/Machine/Adapters.lean ====
section
/-! DEFINITION. The adapters between a mesh and a link (spec/03 R82, R87, R90, R92-R97; 08 R235-R246; 09 R266, R267): the way
from a link's receive buffers into the mesh, and the building of frames from what waits for the link. -/

namespace Sys2Proof.Machine

/-! ### Into the mesh -/

/-- The local port, of some, whose downstream VC has most free credits, the first on a tie, never one whose link is fenced
(03 R87). -/
def Block.bestPort (b : Block) (a vc : Nat) (ps : List Nat) : Option Nat :=
  (ps.filter (fun p => !b.outFenced a p)).foldl (fun (m : Option Nat) p =>
    match m with
    | none => some p
    | some q => if b.freeCr a p vc > b.freeCr a q vc then some p else some q) none

/-- Free credits of a router entered by two local ports, on a VC: those of its unfenced ports together, which R87 does not say
(DESIGN CHOICE, notes/assumptions/101.md). -/
def Block.rowCredits (b : Block) (a vc p : Nat) : Nat :=
  ((([p, p + 1].filter (fun q => !b.outFenced a q)).map (fun q => b.freeCr a q vc))).sum

/-- Row at which an escape packet enters a compute die (03 R87). -/
def Block.entryRow (b : Block) (d : Nat) (h : BitVec 128) : Nat :=
  let o := (b.facts (hEpoch h)).orders.get 0 d
  let y := if nodePkg (hDest h) == b.pkgid && nodeDie (hDest h) == d then nodeR (hDest h) / 8 else 0
  if o ≠ 0 then o else if y < 2 then 1 else 2

/-- Mesh VC on which a packet starts the mesh behind an adapter (03 R80, R82). -/
def Block.meshVc (b : Block) (a : Nat) (h : BitVec 128) : Nat :=
  let per := match peer a 0 with | some (r, _) => perOf r | none => 2
  if b.mustEscape h then b.escVc per h else adVc per h

/-- A packet that profile 8 sends on both planes from a Col adapter (03 R94). -/
def Block.adpCopies (b : Block) (a : Nat) (h : BitVec 128) : Bool :=
  isColI a && b.isDup h && (b.facts (hEpoch h)).plane 0 && (b.facts (hEpoch h)).plane 1

/-- What an adapter does with the packet at the front of a receive buffer (03 R87, R92-R94). Where profile 3 compares the planes at a Col adapter,
which has two ports on each, the better port of each counts (DESIGN CHOICE, notes/assumptions/102.md). A packet that goes on both planes goes on the
one that is left when its home plane's ports are fenced. -/
def Block.adpRoute (b : Block) (a : Nat) (h : BitVec 128) : RouteTo :=
  let vc := b.meshVc a h
  let go (ps : List Nat) : RouteTo :=
    match b.bestPort a vc ps with
    | some p => if b.freeCr a p vc > 0 then .go p vc else .wait
    | none => .drop (b.fenceKind (linkScopes a (ps.headD 0)))
  if isColC a then
    if b.mustEscape h then (if b.entryRow (dieOf a) h == 1 then go [0, 1] else go [2, 3])
    else if b.rowCredits a vc 2 > b.rowCredits a vc 0 || (b.bestPort a vc [0, 1]).isNone then go [2, 3] else go [0, 1]
  else if isRidge a then go [0]
  else
    let both (p : Nat) : List Nat := if isPass a then [p] else [2 * p, 2 * p + 1]
    let best (p : Nat) : Nat := ((both p).map (fun q => b.freeCr a q vc)).foldl max 0
    match b.planeFor h (best 0) (best 1) with
    | some p => go (both (if b.adpCopies a h && (b.bestPort a vc (both p)).isNone then 1 - p else p))
    | none => .drop 0

/-- Local ports of an I/O-die Col adapter on the plane that port `o` is not of. -/
def otherPlane (o : Nat) : List Nat := if o < 2 then [2, 3] else [0, 1]

/-- Output ports a packet leaves the adapter by: one, or, for a packet that is sent on both planes, also the better unfenced port of the
other plane (03 R87, R94). -/
def Block.adpOuts (b : Block) (a o d : Nat) (h : BitVec 128) : List Nat :=
  if b.adpCopies a h then o :: (b.bestPort a d (otherPlane o)).toList else [o]

/-- Ports on which a packet in progress holds a mesh VC. -/
def Block.heldPorts (b : Block) (a key : Nat) : List Nat :=
  (List.range 4).filter (fun p => ((b.elem a).out p).held.any (fun kv => kv.2.inPort == 7 && kv.2.inVc == key))

/-- Send the front flit of one receive buffer into the mesh, or discard its packet (03 R86). -/
def Block.adpSend (b : Block) (a vc : Nat) (usedOuts : List Nat) : Block × List Nat :=
  let v := (b.elem a).vc 7 vc
  match v.q.head? with
  | none => (b, usedOuts)
  | some f =>
    let send (outs : List Nat) (d : Nat) : Block × List Nat :=
      if outs.any (fun p => usedOuts.contains p || b.freeCr a p d = 0 || !b.outReady a p ||
          (v.sent = 0 && (((b.elem a).out p).held.find d).isSome)) then
        -- a head that waits for the link is counted (13 R367)
        (if v.sent = 0 then b.modElem a (fun el => el.setVc 7 vc { v with out := outs.head? }) else b, usedOuts)
      else if outs.any (fun p => b.outShut a p (v.sent = 0)) then
        (outs.foldl (fun b p => match peer a p with | some (r, _) => b.touch r | none => b) b, usedOuts)
      else
        let tail := v.sent + 1 = hFlits f.hdr
        let f' (p : Nat) : Flit := { f with
          ovd := effAge (b.ftOf a) f == 4095, pool := false,
          copy := if v.sent = 0 then (if outs.length = 2 then p / 2 + 1 else f.copy)
            else (match ((b.elem a).out p).held.find d with | some h => h.copy | none => f.copy) }
        let b := b.modElem a (fun el => el.setVc 7 vc { v with
          q := v.q.drop 1, sent := if tail then 0 else v.sent + 1, dvc := if tail then none else some d, out := none, wait := 0 })
        let b := b.freeSlot a 7 vc f
        let b := if v.sent = 0 && outs.length = 2 then b.markDup f.hdr else b
        (outs.foldl (fun b p => b.sendFlit a p d 7 vc v.sent (f' p)) b, usedOuts ++ outs)
    if v.sent > 0 then
      let outs := b.heldPorts a vc
      let fenced := outs.filter (fun p => b.outFenced a p)
      if fenced.length == outs.length then (b.dropPacket a (b.fenceKind (linkScopes a (outs.headD 0))) (pkOf f) false, usedOuts)
      else if !fenced.isEmpty then
        (fenced.foldl (fun b p => b.dropPacket a (b.fenceKind (linkScopes a p)) (f.hdr, p / 2 + 1) false) b, usedOuts)
      else send outs (v.dvc.getD 0)
    else match b.adpRoute a f.hdr with
      | .go o d =>
      let outs := b.adpOuts a o d f.hdr
      let (b', used) := send outs d
      -- the copy for a plane whose ports are all fenced is discarded and answered (03 R86, R94)
      if b.adpCopies a f.hdr && outs.length = 1 && usedOuts.length < used.length then
        ((b'.markDup f.hdr).discard a (b.fenceKind (linkScopes a ((otherPlane o).headD 0))) f.hdr true, used)
      else (b', used)
      | .wait => (b, usedOuts)
      | .drop k => (b.dropPacket a k (pkOf f) false, usedOuts)

/-- VCs of a port with a flit at the front, highest key first (04 R124); what is for the port's own NI goes no further. -/
def Block.ranked (b : Block) (a : Nat) (port : Nat → Bool) : List (Nat × Nat) :=
  let l := (b.elem a).ins.filterMap (fun kv =>
    if port (kv.1 / 32) then
      match kv.2.q.head? with
      | some f =>
        if b.forPassNi a f.hdr then none
        else some (⟨kv.1 / 32, kv.1 % 32, 0, 0, rankKey (b.ftOf a) f (kv.1 / 32) (kv.1 % 32), f, kv.2.sent⟩ : Req)
      | none => none
    else none)
  (l.foldl (fun acc r => insertReq r acc) []).map (fun r => (r.inPort, r.vc))

/-- One FCLK of an adapter's outputs into the mesh. -/
def Block.adpIngress (b : Block) (a : Nat) : Block :=
  ((b.ranked a (· == 7)).foldl (fun (x : Block × List Nat) k => x.1.adpSend a k.2 x.2) (b, [])).1

/-! ### Frames -/

/-- Shared pool of a receiver (08 R233, 09 R263). -/
def ownPool (a : Nat) : Nat := if isRidge a then 64 else if isPass a then 4096 else 128
/-- VCs of a link (08 R233). -/
def linkVcs (a : Nat) : Nat := if isRidge a then 14 else 21
/-- Replay buffer in frames (08 R233, 09 R263). -/
def replayMax (a : Nat) : Nat := if isPass a then 256 else 64
/-- Credit entries a frame (08 R236, 09 R265). -/
def credSlots (a : Nat) : Nat := credCount (isPass a)

/-- Dedicated depth the far side advertised (08 R247). -/
def Link.depth (l : Link) (a vc : Nat) : Nat := l.depths.get (vcDepth a vc) vc

/-- The link carries frames with flits. -/
def Link.runs (l : Link) : Bool := l.st == .active || l.st == .quiet

/-- The link behind an adapter is fenced (08 R259). -/
def Block.linkStopped (b : Block) (a : Nat) : Bool := b.fatal || b.scFenced (linkScope a 7).1 (linkScope a 7).2

/-- Merge pending returns, oldest first, at most `n` entries of at most 15 (08 R246): the entries and what is left. -/
def mergeReturns : Nat → List Nat → List (Nat × Nat) × List Nat
  | 0, l => ([], l)
  | _ + 1, [] => ([], [])
  | n + 1, v :: l =>
    let k := min 15 ((v :: l).count v)
    let left := ((v :: l).foldl (fun (x : Nat × List Nat) w => if w == v && x.1 < k then (x.1 + 1, x.2) else (x.1, x.2 ++ [w])) (0, [])).2
    let (es, rest) := mergeReturns n left
    ((v, k) :: es, rest)

/-- The exit filter of a Pass port (03 R95): `none` where the copy is the second one. -/
def Block.exitFilter (b : Block) (k : Nat) (h : BitVec 128) : Option Block :=
  if !b.isDup h then some b
  else
    let l := (b.port k).exitf
    if l.any (fun e => e.1 == hSrc h && e.2.1 == hTag h) then none
    else
      let early := 256 ≤ l.length
      let b := if early then b.bump (passAdp k) 15 1 else b
      some (b.modPort k (fun p => { p with exitf := (if early then l.drop 1 else l) ++ [(hSrc h, hTag h, b.now)] }))

/-- A flit as it leaves over the link: a Ridge or Pass adapter raises ESC (02 R42; 03 R91, R97). -/
def onLink (a : Nat) (f : Flit) : Flit :=
  if isRidge a || isPass a then { f with hdr := setF f.hdr 55 2 (hEsc f.hdr + 1) } else f

/-- Take one flit of input (p, vc) for slot `i` of a frame, if a credit is free and no other packet holds the link's VC (08 R245,
04 R119). -/
def Block.takeForLink (b : Block) (a p vc i : Nat) : Option (Block × List (Nat × Nat × Flit)) :=
  let v := (b.elem a).vc p vc
  let l := b.link a
  match v.q.head? with
  | none => none
  | some f =>
    let holder := ((b.elem a).out 7).held.find vc
    let mine := match holder with
      | some x => x.inPort == p && v.sent > 0
      | none => v.sent == 0
    let ded := l.used.get 0 vc < l.depth a vc
    let pool := l.poolUsed < l.pool
    let filt := if isPass a && v.sent = 0 then b.exitFilter (locOf a - 408) f.hdr else some b
    match filt with
    | none =>
      let k := locOf a - 408
      some ((b.modPort k (fun x => { x with exitf := x.exitf.filter (fun e => !(e.1 == hSrc f.hdr && e.2.1 == hTag f.hdr)) })).purge
        (pkOf f), [])
    | some b' =>
      if !mine || !(ded || pool) then none
      else
        let b := b'
        let tail := v.sent + 1 = hFlits f.hdr
        let f' := onLink a { f with ovd := effAge (b.ftOf a) f == 4095, pool := !ded, copy := if isPass a then 0 else f.copy }
        let b := b.modElem a (fun el =>
          let el := el.setVc p vc { v with q := v.q.drop 1, sent := if tail then 0 else v.sent + 1, wait := 0 }
          let o := el.out 7
          el.setOut 7 { o with held := if tail then o.held.erase vc else o.held.set vc ⟨p, vc, v.sent + 1, hFlits f.hdr, f.hdr, f.copy⟩ })
        let b := b.freeSlot a p vc f
        let b := b.modLink a (fun l => if ded then { l with used := l.used.mod 0 vc (· + 1) } else { l with poolUsed := l.poolUsed + 1 })
        some (b, [(i, vc, f')])

/-- Fill the slots of a frame, highest key first, one flit at a time. -/
def Block.fillSlots (b : Block) (a : Nat) : Nat → List (Nat × Nat × Flit) → Block × List (Nat × Nat × Flit)
  | 0, acc => (b, acc)
  | fuel + 1, acc =>
    if 15 ≤ acc.length then (b, acc)
    else
      let c := (b.ranked a (· < 7)).foldl (fun (m : Option (Block × List (Nat × Nat × Flit))) k =>
        match m with | some x => some x | none => b.takeForLink a k.1 k.2 acc.length) none
      match c with
      | some (b', s) => Block.fillSlots b' a fuel (acc ++ s)
      | none => (b, acc)

/-- An abort that the fabric originated for another package leaves by a Pass port that leads there (02 R66), with its CRC flit behind it
where it has one (02 R55). -/
def Block.abortSlot (b : Block) (a : Nat) (acc : List (Nat × Nat × Flit)) : Block × List (Nat × Nat × Flit) :=
  let k := locOf a - 408
  if !isPass a then (b, acc)
  else
    match b.aborts.find? (fun x => nodePkg (hDest x.hdr) != b.pkgid &&
        (match b.factsNow.pass.find (nodePkg (hDest x.hdr)) with | some (ps, _) => ps.contains k | none => false)) with
    | none => (b, acc)
    | some x =>
      let vc := b.escVc 3 x.hdr
      let l := b.link a
      let pays := x.pay :: x.crc.toList
      let ded := min pays.length (l.depth a vc - l.used.get 0 vc)
      let pool := pays.length - ded
      if 15 < acc.length + pays.length || (((b.elem a).out 7).held.find vc).isSome || l.pool - l.poolUsed < pool then (b, acc)
      else
        let b := { b with aborts := b.aborts.erase x }
        (b.modLink a (fun l => { l with used := l.used.mod 0 vc (· + ded), poolUsed := l.poolUsed + pool }),
          acc ++ pays.zipIdx.map (fun p => (acc.length + p.2, vc, onLink a { hdr := x.hdr, pay := p.1, pool := decide (ded ≤ p.2) })))

/-- A frame leaves towards the far side: a Pass port's leaves the block, and counts towards its next ALIGN (09 R263). -/
def Block.putFrame (b : Block) (a : Nat) (fr : Frame) : Block :=
  let b := b.bump a 2 1
  if isPass a then
    let b := b.modPort (locOf a - 408) (fun p => { p with sinceAlign := min 27 (p.sinceAlign + 1) })
    { b with farOut := .frame (locOf a - 408) fr :: b.farOut }
  else b.modLink (farAdp a) (fun l => { l with inbox := l.inbox ++ [fr] })

/-- ACK of a frame (08 R236, R242). -/
def Link.ackNo (l : Link) : Nat := if l.accepted then (l.expect + 4095) % 4096 else 0xFFF

/-- PM field of an IDLE frame: a side that has anything else to send is not idle (08 R257). -/
def Link.pmField (l : Link) : Nat := if l.pmAck then 2 else if l.pmReq then 1 else 0

def Block.tx (b : Block) (a : Nat) : TimeX := b.timeX.get {} a
def Block.modTx (b : Block) (a : Nat) (f : TimeX → TimeX) : Block := { b with timeX := b.timeX.mod {} a f }

/-- The exchange with the parent is in progress over a Pass port (09 R285). -/
def Block.exchOn (b : Block) (a : Nat) : Bool := isPass a && b.time.parent == some (locOf a - 408) && b.time.exch.isSome

/-- Nothing is on its way over the link from this side (08 R257). -/
def Block.linkIdle (b : Block) (a : Nat) : Bool :=
  let l := b.link a
  (b.elem a).ins.all (fun kv => kv.1 / 32 == 7 || kv.2.q.isEmpty) && l.replay.isEmpty && l.returns.isEmpty
    && !(b.tx a).busy && !(isDieAdp a && (b.tx (farAdp a)).busy) && !b.exchOn a

/-- Flits of a packet that side `a` has sent. -/
def Block.sentOf (b : Block) (a : Nat) (k : Pk) : Nat :=
  match ((b.elem a).out 7).held.find? (fun x => k.covers (x.2.hdr, x.2.copy)) with | some x => x.2.prog | none => hFlits k.1

/-- Flits of a packet in some frames. -/
def flitsIn (k : Pk) (frs : List Frame) : Nat := ((frs.flatMap (·.slots)).filter (fun s => k.covers (pkOf s.2.2))).length

/-- Flits of a packet in the frames of side `a` that no ACK covers. -/
def Block.unackedOf (b : Block) (a : Nat) (k : Pk) : Nat := flitsIn k (b.link a).replay

/-- A packet has crossed a die link whole: the far side has accepted every flit. -/
def Block.crossedWhole (b : Block) (a : Nat) (k : Pk) : Bool :=
  !isPass a &&
  b.sentOf a k - flitsIn k ((b.link a).replay.filter (fun fr => (fr.seq + 4096 - (b.link (farAdp a)).expect) % 4096 < 2048)) == hFlits k.1

/-- A packet with a flit in a frame of side `a` that no ACK covers, when the link stops (08 R259). Where its head is in such a frame, the sending
side answers ABORT_INDETERMINATE. A packet that has crossed whole, and been accepted, goes on. Of any other the rest is lost: whoever holds its
head on the receiving side answers NOT_DELIVERED; beyond a Pass link that is another package. -/
def Block.cutSent (b : Block) (a kind : Nat) (k : Pk) : Block :=
  let b := if b.unackedOf a k = b.sentOf a k then b.discard a kind k.1 true else b
  if isPass a then b.purge k
  else if b.crossedWhole a k then b
  else if b.headHeld k then b.dropPacket a kind k false
  else b.purge k

/-- Packets with a flit in a frame of side `a` that no ACK covers. -/
def Block.sentPks (b : Block) (a : Nat) : List Pk := pksOf ((b.link a).replay.flatMap (fun fr => fr.slots.map (fun s => pkOf s.2.2)))

/-- The sides named of links stop (08 R259; 09 R281, R286; 10 R307): each answers for the frames that may have been accepted. -/
def Block.linksDown (b : Block) (as : List Nat) (kind : Nat) : Block :=
  let b := as.foldl (fun b a => (b.sentPks a).foldl (fun b k => b.cutSent a kind k) b) b
  as.foldl (fun b a => b.modLink a (fun l => { l with
    st := .down, since := b.now, replay := [], resend := 0, inbox := [], returns := [], quietAt := none, attempts := 0 })) b

/-- The link enters Retention at this side, from ACTIVE: the main band stops and the domain runs SIGNING to its commit (08 R257, 10 R294). -/
def Block.linkRest (b : Block) (a : Nat) : Block :=
  if (b.link a).st != .active then b else
  let b := b.modLink a (fun l => { l with st := .retained, since := b.now, pmReq := false, pmAck := false, pmOut := false, wakeFrom := none })
  match domOf a with
  | some d => b.modDom d (fun x => if x.st ≤ 2 then { x with st := 3, since := b.now } else x)
  | none => b

/-- Send one frame: a NAK that is due, a frame of the replay, new flits and credits, or an IDLE (08 R241-R246, R256). -/
def Block.adpEgress (b : Block) (a : Nat) : Block :=
  if b.hclkOff a then b else
  let l := b.link a
  if b.linkStopped a || !b.carries a || !l.runs then b
  else
    let base : Frame := { ty := .idle, seq := l.next, ack := l.ackNo, slots := [], cred := [], rply := false, pm := 0 }
    if l.nakDue then ((b.modLink a (fun l => { l with nakDue := false })).putFrame a { base with ty := .nak }).bump a 10 1
    else if 0 < l.resend && l.st != .quiet then
      match l.replay[l.replay.length - l.resend]? with
      | some fr =>
        ((b.modLink a (fun l => { l with resend := l.resend - 1 })).putFrame a
          { fr with ack := l.ackNo, rply := true }).bump a 5 1
      | none => b.modLink a (fun l => { l with resend := 0 })
    else
      let quiet := l.st == .quiet
      let room := l.replay.length < replayMax a
      let (b, slots) := if quiet || !room then (b, []) else b.fillSlots a 16 []
      let (b, slots) := if quiet || !room then (b, slots) else b.abortSlot a slots
      let (cred, rest) := if quiet || !room then ([], (b.link a).returns) else mergeReturns (credSlots a) (b.link a).returns
      if slots.isEmpty && cred.isEmpty then
        let b := (b.putFrame a { base with pm := l.pmField }).modLink a (fun l => { l with pmOut := l.pmOut || l.pmField == 1 })
        if l.pmAck then b.linkRest a else b
      else
        let fr : Frame := { base with ty := .data, slots := slots, cred := cred }
        let b := b.modLink a (fun l => { l with
          returns := rest, next := (l.next + 1) % 4096, replay := l.replay ++ [fr],
          ackFrom := if l.replay.isEmpty then b.now else l.ackFrom, pmReq := false, pmAck := false })
        let b := ((b.bump a 0 slots.length).telCount a 0 slots.length).bump a 3 (if slots.isEmpty then 1 else 0)
        let b := b.touch a
        b.putFrame a fr

/-- Packets for the Pass port's own NI, from the mesh or from the link, come off at the port: the NI takes what it has room for (01 R515; 03 R109). -/
def Block.passNiServe (b : Block) (a : Nat) : Block := if isPass a then b.pump (passNi (locOf a - 408)) else b

/-- One FCLK of an adapter or Pass port: its outputs into the mesh, and one frame towards the link. -/
def Block.adpTurn (b : Block) (a : Nat) : Block :=
  if b.elemFenced a then b
  else if !b.carries a then b
  else ((b.passNiServe a).adpIngress a).adpEgress a

end Sys2Proof.Machine
end

