-- ==== Sys2Proof/Machine/RingOps.lean ====
section
/-! DEFINITION. Rings (spec/15): pointers, entries, interrupts, and the completion of commands in flight. -/

namespace Sys2Proof.Machine

/-! ### Pointers (15 R401) -/

/-- Entries of a ring (15 R398). -/
def Ring.size (r : Ring) : Nat := 2 ^ r.log2
/-- Position of a pointer in its two laps: bit 16 is the wrap bit (15 R401). -/
def Ring.pos (r : Ring) (p : Nat) : Nat := p / 65536 % 2 * r.size + p % 65536
/-- Pointer of a position. -/
def Ring.ptr (r : Ring) (x : Nat) : Nat := x / r.size % 2 * 65536 + x % r.size
/-- A pointer advanced by one. -/
def Ring.next (r : Ring) (p : Nat) : Nat := r.ptr (r.pos p + 1)
/-- Distance in ring order. -/
def Ring.dist (r : Ring) (a z : Nat) : Nat := (r.pos z + 2 * r.size - r.pos a) % (2 * r.size)
/-- A pointer value that the ring can hold. -/
def Ring.isPtr (r : Ring) (p : Nat) : Bool := p < 131072 && p % 65536 < r.size
/-- Unread entries (15 R411). -/
def Ring.unread (r : Ring) : Nat := r.dist r.cons r.prod
/-- PHASE of an entry written at a pointer (15 R403). -/
def phaseAt (p : Nat) : Nat := 1 - p / 65536 % 2

/-! ### Kinds of ring (15 R397) -/

def isCmd (r : Nat) : Bool := r < 8
def isCpl (r : Nat) : Bool := 8 ≤ r && r < 16
def isEvt (r : Nat) : Bool := 16 ≤ r && r < 20
/-- Event, telemetry and trace rings: the non-command rings of 15 R411. -/
def isRec (r : Nat) : Bool := 16 ≤ r && r < 23
def entrySize (r : Nat) : Nat := if isCpl r then 32 else 64

/-! ### Writing entries -/

/-- Send the ring's vector if it is armed and `due` (15 R415). -/
def Block.ringIrq (b : Block) (r : Nat) (due : Bool) : Block :=
  let x := b.ring r
  if x.armed && (due || x.coalesce + 1 ≤ x.unread) then
    (b.irq x.vector).modRing r (fun x => { x with armed := false })
  else b

/-- A non-command ring takes a record: the oldest held entry is overwritten when it is full (15 R413). -/
def Ring.push (x : Ring) : Ring :=
  if x.dist x.rel x.prod = x.size then
    let prod := x.next x.prod
    let rel := x.next x.rel
    let gone := x.markValid && x.mark == x.rel
    { x with prod := prod, rel := rel, cons := if x.cons = x.rel then rel else x.cons,
             markValid := x.markValid && !gone, markLost := x.markLost || gone, lost := min 0xFFFFFFFF (x.lost + 1) }
  else { x with prod := x.next x.prod }

/-- Count a loss, saturating (15 R401). -/
def Block.ringLost (b : Block) (r n : Nat) : Block :=
  b.modRing r (fun x => { x with lost := min 0xFFFFFFFF (x.lost + n) })

/-- Write a record into an event, telemetry or trace ring: `mk` gives its bytes for a PHASE. A stopped ring counts it lost
(15 R413, R415, R418). -/
def Block.pushRec (b : Block) (r : Nat) (mk : Nat → List Byte) (due : Bool) : Block :=
  let x := b.ring r
  if !x.en then b
  else if x.err then b.ringLost r 1
  else
    let b := b.hostWrite (.entry r (x.prod % 65536) (mk (phaseAt x.prod)))
    (b.modRing r Ring.push).ringIrq r due

/-! ### Completions (15 R405, R407) -/

/-- Bytes of a completion: its RESULT as fields (byte, width, value) from byte 16 on. -/
def cplBytes (index tag phase status opc field time : Nat) (res : List (Nat × Nat × Nat)) : List Byte :=
  leBytes ((index % 65536) + tag % 65536 * 2 ^ 16 + phase * 2 ^ 39 + status % 256 * 2 ^ 40 + opc % 256 * 2 ^ 48
    + field % 256 * 2 ^ 56 + time % 2 ^ 64 * 2 ^ 64
    + res.foldl (fun a f => a + f.2.2 % 2 ^ (8 * f.2.1) * 2 ^ (8 * f.1)) 0) 32

/-- Write a completion for a command of ring `ring` into the entry reserved for it (15 R405, R418). -/
def Block.writeCpl (b : Block) (ring index tag opc status field : Nat) (notify : Bool) (res : List (Nat × Nat × Nat)) : Block :=
  let c := ring + 8
  let x := b.ring c
  let b := b.modRing c (fun x => { x with reserved := x.reserved - 1 })
  if !x.en || x.err then b.ringLost c 1
  else
    let b := b.hostWrite (.entry c (x.prod % 65536) (cplBytes index tag (phaseAt x.prod) status opc field (b.ft 12) res))
    (b.modRing c (fun x => { x with prod := x.next x.prod })).ringIrq c notify

/-! ### Status codes (16 R424) -/

def stOk : Nat := 0
def stLate : Nat := 1
def stBusy : Nat := 2
def stTimeout : Nat := 3
def stDiscarded : Nat := 4
def stNoPath : Nat := 5
def stOversize : Nat := 6
def stTestFailed : Nat := 7
def stIdConflict : Nat := 8
def stIdExhausted : Nat := 9
def stRange : Nat := 0x10
def stState : Nat := 0x11
def stScope : Nat := 0x12
def stBudget : Nat := 0x13
def stSignature : Nat := 0x14

/-- Complete a command in flight (15 R406, R407). -/
def Block.finish (b : Block) (f : Flight) (status : Nat) (res : List (Nat × Nat × Nat)) : Block :=
  (b.modLead (fun l => { l with flights := l.flights.erase f })).writeCpl f.ring f.index f.tag f.opc status 0 f.notify res

/-- Complete every command in flight that satisfies a test. -/
def Block.finishAll (b : Block) (p : Flight → Bool) (status : Nat) (res : Flight → List (Nat × Nat × Nat)) : Block :=
  (b.lead.flights.filter p).foldl (fun b f => b.finish f status (res f)) b

/-- RESULT of a struck command: SEQ of the record, and the granule (15 R407). -/
def discRes (seq ty id : Nat) : List (Nat × Nat × Nat) := [(16, 4, seq), (20, 2, id), (22, 1, ty)]

end Sys2Proof.Machine
end

