-- ==== Sys2Proof/Machine/GateOps.lean ====
section
/-! DEFINITION. The NIs of a command's scope, the switch of a Tollgate to a new list (spec/05 R160-R164), and the settings,
samples and records of telemetry as shared operations (spec/18). -/

namespace Sys2Proof.Machine

/-! ### The NIs of a scope (16 R422; 01 R27) -/

/-- NIs of a compute die. -/
def dieNis (d : Nat) : List Nat := ((List.range 64).map (fun i => src d (128 + i))).filter isNi
/-- NIs of a die, the I/O die among them. -/
def dieNisAll (d : Nat) : List Nat := ((List.range (if d = 12 then 128 else 64)).map (fun i => src d (128 + i))).filter isNi
/-- NIs that draw on a region (01 R27). -/
def Block.drawers (b : Block) (g : Nat) : List Nat :=
  (if g < 24 then dieNis (g / 2) else dieNisAll 12).filter (fun n => b.homeRegion n == g)
/-- NIs that a command's scope names (16 R422). -/
def Block.cmdNis (b : Block) (ty id : Nat) : List Nat :=
  match ty with
  | 7 => b.drawers id
  | 11 => allNis
  | 12 => [nodeNi (BitVec.ofNat 16 id)]
  | 13 => dieNisAll id
  | _ => []

/-! ### The switch of a Tollgate (05 R155, R161-R164) -/

/-- A domain rests or is Off: its elements take up settings when it wakes (10 R297). -/
def Block.rests (b : Block) (e : Nat) : Bool := b.domSt e == 4 || b.domSt e == 7 || b.elemFenced e

/-- The Tollgate switches: the shadow becomes the active list with its base, and queued packets that no window fits are refused
(05 R155, R159, R160). -/
def Block.switchGate (b : Block) (n base : Nat) : Block :=
  let b := b.modGate n (fun g => { g with active := g.shadow, base := base, pend := none, pendMsg := none }) |>.keepGold [n]
  b.refuseOversize n (b.gate n).active

/-- GATE_ACTIVATE completes when every Tollgate of its scope has switched; one that rests when its die's Fabric Time reaches S is not
waited for beyond it (05 R161, R163). -/
def Block.gatesDone (b : Block) : Block :=
  let waits (f : Flight) : Bool := (b.cmdNis f.scTy f.scId).any (fun n =>
    ((b.gate n).pend.isSome || (b.gate n).pendMsg.isSome) && (!b.rests n || b.ftOf n < f.a))
  (b.lead.flights.filter (fun f => f.opc == 0x0C && !waits f)).foldl (fun b f =>
    b.finish f (if f.b % 2 = 1 then stLate else stOk) [(16, 8, f.a), (24, 4, f.b / 2)]) b

/-- S reaches a Tollgate (05 R163): it waits for S, or, where S has passed, switches late. -/
def Block.switchIn (b : Block) (n : Nat) (late : Bool) : Block :=
  match (b.gate n).pendMsg with
  | none => b
  | some (s, base) =>
    if b.ftOf n ≤ s then b.modGate n (fun g => { g with pend := some (s, base), pendMsg := none })
    else
      let gap := b.ftOf n - s
      let b := b.switchGate n base
      if !late then b
      else
        let b := b.event n 0x14 none (detT gap)
        b.modLead (fun l => { l with flights := l.flights.map (fun f =>
          if f.opc == 0x0C && f.a == s && (b.cmdNis f.scTy f.scId).contains n then { f with b := f.b + 2 } else f) })

/-- A Tollgate that wakes or is readmitted takes up a list whose S has passed, before its first injection (05 R163, R169). -/
def Block.gateWake (b : Block) (n : Nat) : Block :=
  let b := b.switchIn n false
  match (b.gate n).pend with
  | some (s, base) => if s ≤ b.ftOf n then b.switchGate n base else b
  | none => b

/-! ### Telemetry (18 R469-R476; 13 R374) -/

/-- ENABLE in force: profile 11 samples and records everything (13 R374). -/
def Block.telEnable (b : Block) (e : Nat) : Nat := if b.immProfile == 11 then 3 else (b.elem e).tel.enable
/-- WINDOW in force, in us. -/
def Block.telWindow (b : Block) (e : Nat) : Nat := if b.immProfile == 11 then 1 else (b.elem e).tel.window
/-- Ring of an element's telemetry records. -/
def Block.telRing (b : Block) (e : Nat) : Nat := 20 + (b.elem e).tel.ring

/-- Emit the first 12, or all, of the samples that a router holds (18 R475). -/
def Block.emitSamples (b : Block) (r : Nat) : Block :=
  let t := (b.elem r).tel
  let now := t.samples.take 12
  if now.isEmpty then b
  else
    let b := b.emit r (b.telRing r) 1 0 ([(4, 8, t.start), (12, 1, now.length), (13, 1, t.periods)] ++
      now.zipIdx.map (fun x => (16 + 4 * x.2, 4, x.1)))
    b.modElem r (fun el => { el with tel := { el.tel with samples := el.tel.samples.drop 12 } })

/-- ENABLE cleared, or a profile change: what a router holds is emitted (18 R475). -/
def Block.flushSamples (b : Block) (r : Nat) : Block := (b.emitSamples r).emitSamples r

end Sys2Proof.Machine
end

