-- ==== Sys2Proof/Machine/DieLinks.lean ====
section
/-! DEFINITION. Col, Ridge and Pass link layers (spec/08; 09 R263-R273): frames received, replay, training, the time exchange
within the package, lanes, quiet windows and the wake of a link. -/

namespace Sys2Proof.Machine

/-! ### Lane maps (08 R254; 09 R268) -/

/-- Physical lane of a logical lane (08 R254). -/
def Link.phys (l : Link) (lane : Nat) : Nat := l.laneMap.get lane lane
/-- Lane-map byte of physical lane `p` of a Pass direction. -/
def laneCode (m : SMap Nat) (p : Nat) : Nat := m.get (if p < 16 then p else 0x10) p
/-- The 18 bytes of a lane map. -/
def laneBytes (m : SMap Nat) : List Nat := (List.range 18).map (laneCode m)
/-- A lane map from its bytes. -/
def ofLaneBytes (l : List Nat) : SMap Nat := (List.range 18).map (fun p => (p, l.getD p 0))
/-- Failed lanes of a map. -/
def failedLanes (m : SMap Nat) : Nat := ((laneBytes m).filter (· == 0x11)).length
/-- Physical lane that carries a logical lane. -/
def physOf (m : SMap Nat) (lane : Nat) : Nat := ((List.range 18).find? (fun p => laneCode m p == lane)).getD lane

/-- The port whose link layer an adapter is. -/
def portOf (a : Nat) : Nat := locOf a - 408

/-- Physical lane of a logical lane on which an adapter receives (08 R255; 09 R271). -/
def Block.rxLane (b : Block) (a lane : Nat) : Nat := if isPass a then physOf (b.port (portOf a)).mapRx lane else (b.link a).phys lane

/-- Both sides of a link, or the own side of a Pass link. -/
def sides (a : Nat) : List Nat := if isPass a then [a] else [a, farAdp a]

/-! ### Frames received (08 R241-R246, R257, R260; 09 R266, R267) -/

/-- DETAIL L of an adapter's link. -/
def detLink (a dir lane count : Nat) : BitVec 32 := detL (linkKind a 7) dir lane count

/-- A replay starts; LINK_REPLAY is raised at most once per 1 ms for the link (08 R243). -/
def Block.replayLink (b : Block) (a : Nat) : Block :=
  let l := b.link a
  if l.replay.isEmpty then b
  else
    let b := (b.modLink a (fun l => { l with resend := l.replay.length, replays := l.replays + 1, ackFrom := b.now })).bump a 4 1
    let soon := match l.lastReplayEv with | some t => decide (b.now < t + ms) | none => false
    if soon then b.suppress a 0x20
    else (sides a).foldl (fun (b : Block) x => b.modLink x (fun l => { l with lastReplayEv := some b.now }))
      (b.event a 0x20 none (detLink a 1 255 l.replay.length))

/-- Apply an ACK: the replay entries up to it are freed (08 R242). -/
def Block.ackLink (b : Block) (a ack : Nat) : Block :=
  match (b.link a).replay.findIdx? (fun f => f.seq == ack) with
  | none => b
  | some i => b.modLink a (fun l =>
      let left := l.replay.drop (i + 1)
      { l with replay := left, resend := min l.resend left.length, replays := 0, ackFrom := b.now })

/-- A NAK falls due, unless one is outstanding (08 R243). -/
def Block.nakLink (b : Block) (a : Nat) : Block :=
  b.modLink a (fun l => if l.nakOut then l else { l with nakOut := true, nakDue := true })

/-- The VC of the first credit entry that lifts a counter above what was advertised. -/
def Link.badCredit (l : Link) : List (Nat × Nat) → Nat
  | [] => 31
  | (vc, n) :: es =>
    if vc = 31 then (if l.poolUsed < n then 31 else Link.badCredit { l with poolUsed := l.poolUsed - n } es)
    else if l.used.get 0 vc < n then vc
    else Link.badCredit { l with used := l.used.set vc (l.used.get 0 vc - n) } es

/-- Credits returned by a frame (08 R245, R246): `none` where one lifts a counter above what was advertised. -/
def Link.credits (l : Link) : List (Nat × Nat) → Option Link
  | [] => some l
  | (vc, n) :: es =>
    if vc = 31 then (if l.poolUsed < n then none else Link.credits { l with poolUsed := l.poolUsed - n } es)
    else if l.used.get 0 vc < n then none
    else Link.credits { l with used := l.used.set vc (l.used.get 0 vc - n) } es

/-- LEN is permitted for the opcode, where the opcode is listed (02 R52, R55, R70). -/
def Block.lenLegal (b : Block) (h : BitVec 128) : Bool :=
  !opKnown (hCls h) (hOpc h) || lenOk (hCls h) (hOpc h) (hLen h) (b.epProfile (hEpoch h) == 8)

/-- The header checks of 02 R70 at an adapter ingress from a link. A reserved opcode passes: its target NI answers it (02 R71). -/
def Block.ingressOk (b : Block) (a : Nat) (h : BitVec 128) : Bool :=
  headLegal h &&
  (if isColC a then true
   else if isPass a then hRsv h == 0 && nodePkg (hSrc h) != b.pkgid
   else hRsv h == 0 && b.lenLegal h &&
     (if isColI a then
        let d := colOfAdp a / 2
        nodeDie (hSrc h) == d || nodeDie (hSrc h) == (d + 1) % 12 || nodeDie (hSrc h) == (d + 11) % 12
      else true))

/-- What follows a head that was discarded at a link's receiving side is discarded as it comes, up to its tail. -/
def Block.dropTail (b : Block) (a vc : Nat) (f : Flit) : Block :=
  b.modElem a (fun el => el.setVc 7 vc { el.vc 7 vc with rem := hLen f.hdr, rhdr := f.hdr, rcopy := f.copy, drop := hLen f.hdr != 0 })

/-- What an adapter advertises of its own accord: the depths of 03 R79 and its pool (08 R233, R247; 09 R263). -/
def ownCredits (a : Nat) : List Nat × Nat := ((List.range 21).map (fun v => if v < linkVcs a then vcDepth a v else 0), ownPool a)

/-- What the far side was told at CREDIT_INIT of the receive buffers of an adapter (08 R245, R247). -/
def Block.advertised (b : Block) (a : Nat) : List Nat × Nat :=
  if isPass a then ownCredits a
  else
    let l := b.link (farAdp a)
    ((List.range (linkVcs a)).map (fun v => l.depth a v), l.pool)

/-- One flit of an accepted frame enters the receive buffers (08 R245, R260; 09 R267; 01 R515). -/
def Block.linkFlit (b : Block) (a vc : Nat) (f : Flit) : Block :=
  let v := (b.elem a).vc 7 vc
  let head := v.rem = 0
  let f := if isPass a then
      { f with hdr := setF f.hdr 61 1 (if (if head then (b.ni a).epoch else hEpoch v.rhdr) then 1 else 0) } else f
  let inPool := ((b.elem a).ins.map (fun kv => if kv.1 / 32 = 7 then (kv.2.q.filter (·.pool)).length else 0)).sum
  let full := if f.pool then decide ((b.advertised a).2 ≤ inPool)
    else decide ((b.advertised a).1.getD vc 0 ≤ (v.q.filter (fun x => !x.pool)).length)
  let b := (b.bump a 1 1).telCount a 6 1
  if b.linkStopped a then b
  else if full then (b.linkFault a 7 0x05 (some f.hdr) (detPk 7 vc (some f.hdr))).dropPacket a 0x05 (pkOf f) false
  else if !head && v.drop then
    (b.freeSlot a 7 vc f).modElem a (fun el => el.setVc 7 vc { v with rem := v.rem - 1, drop := v.rem - 1 != 0 })
  else if head && !b.ingressOk a f.hdr then
    ((b.linkFault a 7 0x03 (some f.hdr) (detPk 7 vc (some f.hdr)) (some f.hdr)).dropPacket a 0x03 (pkOf f) false).dropTail a vc f
  else if head && (b.link a).dropEpoch == some (hEpoch f.hdr) then
    ((b.freeSlot a 7 vc f).dropTail a vc f).discard a 0x15 f.hdr (f.copy != 0)
  else b.store a 7 vc f

/-- The link enters Retention after a PM handshake, or a request is answered, or ignored, when the requester's idle timer restarts
(08 R257, R262). A request of the own side counts once a frame has carried it, and stays open until the far side has answered or ignored it: the far
side that has acknowledged rests, so that what was queued meanwhile waits and wakes the link. -/
def Block.pmLink (b : Block) (a pm : Nat) : Block :=
  let l := b.link a
  if l.st != .active then b
  else if pm = 1 then
    if l.pmOut then b.linkRest a
    else if b.linkIdle a then b.modLink a (fun l => { l with pmAck := true })
    else if isPass a then b
    else (b.modLink (farAdp a) (fun l => { l with pmReq := false, pmOut := false })).touch (farAdp a)
  else if pm = 2 then (if l.pmOut then b.linkRest a else b)
  else b

/-- A link takes frames: it is past PHY_TRAIN and does not rest. Training runs in a fenced scope too (12 R348). -/
def Block.takesFrames (b : Block) (a : Nat) : Bool :=
  match (b.link a).st with
  | .down | .phyTrain | .retained => false
  | .ready | .active | .quiet | .retrain => !(b.linkStopped a || b.elemFenced a) || (b.scope (linkScope a 7).1 (linkScope a 7).2).st == 5
  | _ => true

/-- What a receiver makes of a frame: on a Pass link after the FEC, which corrects all of `err` and `par` or rejects the frame (09 R263, R271);
else bit by bit. `bad` are the bits that a far package has wrong before its FEC. -/
def seenFrame (a : Nat) (fr : Frame) (err : BitVec 10280) (par : BitVec 600) (bad : BitVec 10280) : Seen :=
  if isPass a then
    let x := Frame.seen true false fr bad
    if fecCorrects err par then { x with lanes := symLanes err par } else { x with crcOk := true, slotsOk := false, fixed := [], lanes := [] }
  else Frame.seen false (isRidge a) fr err

/-- A descriptor or the PM field is illegal, or the TYPE reserved (08 R237, R241, R262); the PM field of ALIGN and CLOSE is ignored (09 R266). -/
def frameIllegal (a : Nat) (fr : Frame) : Bool :=
  (fr.pm == 3 && !(fr.ty == .align || fr.ty == .close)) || fr.ty.code ≥ (if isPass a then 10 else 8) ||
  fr.slots.any (fun s => linkVcs a ≤ s.2.1 || s.2.1 / perOf a != hCls s.2.2.hdr || 15 ≤ s.1)

/-- Corrections of a frame are counted: by lane, in the counter, and as events of the ingress (02 R77; 08 R241, R255; 09 R271; 18 R468). -/
def Block.countFixed (b : Block) (a : Nat) (x : Seen) : Block :=
  let ls := x.lanes.map (b.rxLane a)
  let b := if ls.isEmpty then b else b.modLink a (fun l => { l with laneCorr := ls.foldl (fun m y => m.mod 0 y (· + 1)) l.laneCorr })
  let b := b.bump a 7 (if isPass a then x.lanes.length else x.fixed.length)
  x.fixed.foldl (fun b i =>
    let s := x.frame.slots.find? (fun s => s.1 == i)
    b.corrected a 7 ((s.map (·.2.1)).getD 0) (s.map (·.2.2.hdr))) b

/-- The fields of a good frame are used: ACK, NAK, PM, and, of a DATA frame in order, its credits and flits (08 R242, R243). -/
def Block.goodFrame (b : Block) (a : Nat) (fr : Frame) : Block :=
  let expect := (b.link a).expect
  let b := b.ackLink a fr.ack
  let b := if fr.ty == .nak then b.replayLink a else b
  let b := b.pmLink a fr.pm
  let ahead := (fr.seq + 4096 - expect) % 4096
  if fr.ty != .data then (if ahead != 0 && ahead < 2048 then b.nakLink a else b)
  else if ahead != 0 then
    let b := b.bump a 9 1
    if ahead < 2048 then b.nakLink a else b
  else
    let b := b.modLink a (fun l => { l with expect := (expect + 1) % 4096, accepted := true, nakOut := false, nakDue := false })
    match (b.link a).credits fr.cred with
    | none => b.linkFault a 7 0x05 none (detPk 7 ((b.link a).badCredit fr.cred) none)
    | some l =>
      let b := b.modLink a (fun _ => l)
      let b := if fr.slots.isEmpty then b else b.touch a
      fr.slots.foldl (fun b s => b.linkFlit a s.2.1 s.2.2) b

/-- A frame is received whole (08 R241-R243; 09 R266): the block, and the frame where it is good. -/
def Block.frameIn (b : Block) (a : Nat) (fr : Frame) (err : BitVec 10280) (par : BitVec 600) (bad : BitVec 10280) : Block × Option Frame :=
  if !b.takesFrames a then (b, none)
  else
    let runs := match (b.link a).st with | .ready | .active | .quiet => true | .retrain => fr.ty == .ready | _ => false
    let lane := fr.ty == .align || fr.ty == .close
    let x := seenFrame a fr err par bad
    let b := b.countFixed a x
    if !x.crcOk || !x.slotsOk || frameIllegal a x.frame then
      let b := if x.crcOk then b else b.bump a 6 1
      let b := if x.slotsOk then b else b.bump a 8 1
      (if runs && !lane then b.nakLink a else b, none)
    else
      (if runs && !lane && x.frame.ty != .param && x.frame.ty != .creditInit then b.goodFrame a x.frame else b, some x.frame)

/-- REPLAY_TIMER (08 R243; 09 R266): the oldest unacknowledged frame has waited 500 ns, on a Pass port 2 us. -/
def execReplayTimer (a : Nat) (s : State) : Host.Outcome State Fault Refusal :=
  s.on (.replayTimer a) (fun b =>
    let l := b.link a
    if l.replay.isEmpty || !l.runs || b.linkStopped a then b
    else (b.elapseTo (l.ackFrom + (if isPass a then 6400 else 1600))).replayLink a)

/-! ### Retrain and failure (08 R244; 09 R266) -/

/-- The link enters RETRAIN after 16 replays; a second time within 1 s it fails. -/
def Block.retrain (b : Block) (a : Nat) : Block :=
  let l := b.link a
  if l.replays < 16 || l.st != .active || b.linkStopped a then b
  else
    let b := (b.event a 0x21 none (detLink a 1 255 0)).bump a 11 1
    let again := match l.lastRetrain with | some t => decide (b.now < t + second) | none => false
    let b := (sides a).foldl (fun b x => b.modLink x (fun l => { l with
      st := .retrain, since := b.now, resend := 0, replays := 0, lastRetrain := some b.now, quietAt := none, retrained := false,
      pmOut := false, inbox := [] })) b
    if again then b.linkFault a 7 0x22 none (detLink a 1 255 0) else b

/-- LINK_RETRAIN (08 R244). -/
def execLinkRetrain (a : Nat) (s : State) : Host.Outcome State Fault Refusal :=
  s.on (.linkRetrain a) (fun b => b.retrain a)

/-- LINK_FAIL (08 R244; 09 R266): RETRAIN has not reached READY within 100 us, on a Pass port 10 ms. -/
def execLinkFail (a : Nat) (s : State) : Host.Outcome State Fault Refusal :=
  s.on (.linkFail a) (fun b =>
    let l := b.link a
    if l.st != .retrain || l.retrained || b.linkStopped a then b
    else (b.elapseTo (l.since + (if isPass a then 32000000 else 320000))).linkFault a 7 0x22 none (detLink a 1 255 0))

/-! ### Training (08 R248-R250; 09 R273) -/

/-- RESULT of TEST_FAILED (16 R437). -/
def Block.testRes (b : Block) (code source : Nat) (retired widened : Bool) (wid : Nat) : List (Nat × Nat × Nat) :=
  [(16, 1, code), (17, 1, 3), (18, 2, source), (20, 1, (if retired then 1 else 0) + (if widened then 2 else 0)), (22, 2, wid), (24, 8, b.ft 12)]

/-- What a link layer starts a step of training with: nothing received at PHY_TRAIN; SEQ, E and ACK at 0, 0 and 0xFFF at READY (08 R242,
R248). -/
def Link.enter (l : Link) (st : LinkSt) : Link :=
  match st with
  | .phyTrain => { l with far := none, ciGot := false, ciEcho := false, ciTurn := false, inbox := [] }
  | .ready => { l with
      next := 0, expect := 0, accepted := false, replay := [], resend := 0, nakOut := false, nakDue := false, replays := 0, returns := [] }
  | _ => l

/-- The module of a die link has trained, over its sideband: a die whose Watershed path was lost has one again, over a Ridge where its neighbour has
one (11 R313; 08 R234; DEDUCED, notes/assumptions/110.md). -/
def Block.pathBack (b : Block) (a : Nat) : Block :=
  let far := dieOf (farAdp a)
  if !isDieAdp a || (isRidge a && b.wsh.pathLost.contains far) then b
  else b.modWsh (fun w => { w with pathLost := w.pathLost.filter (· != dieOf a) })

/-- A step of training begins; a Pass port's step follows (09 R273). -/
def Block.linkStep (b : Block) (a : Nat) (st : LinkSt) : Block :=
  let b := if st == .param then b.pathBack a else b
  let b := b.modLink a (fun l => { l.enter st with st := st, since := b.now })
  if isPass a then
    let n (o : Nat) : Nat := match st with
      | .phyTrain => 2 | .param => 3 | .creditInit => 4 | .ready => 5 | .active => 6 | _ => o
    b.modPort (portOf a) (fun p => { p with since := b.now, step := n p.step })
  else b

/-- A compute die that has no Ridges lies at the end of a Ridge adapter (08 R261). -/
def Block.ridgelessAt (b : Block) (a : Nat) : Bool :=
  isRidge a && (b.ridgeless.contains (dieOf a) || b.ridgeless.contains (dieOf (farAdp a)))

/-- A stage of training has failed (08 R248; 09 R273): the link goes back to PHY_TRAIN, or, after its third attempt, the side that failed raises
LINK_TRAIN_FAIL. -/
def Block.stageFail (b : Block) (a : Nat) : Block :=
  let n := ((sides a).foldl (fun m x => max m (b.link x).attempts) 0) + 1
  if n < 3 then (sides a).foldl (fun b x => (b.modLink x (fun l => { l with attempts := n })).linkStep x .phyTrain) b
  else
    let b := (sides a).foldl (fun (b : Block) x => b.modLink x (fun l => { l with attempts := 0, st := .down, since := b.now })) b
    let (ty, id) := linkScope a 7
    let b := if isPass a then b.finishAll (fun f => f.opc == 0x13 && f.scId == id) stTestFailed (fun _ => b.testRes 2 a false false 0) else b
    if b.ridgelessAt a || 3 ≤ (b.scope ty id).st then b
    else b.linkFault a 7 0x23 none (detLink a 0 255 n)

/-- Redundant lanes of a direction (08 R233). -/
def redundant (a : Nat) : Nat := if isRidge a then 2 else 4

/-- Redundant lanes of a direction that are idle: neither in use nor retired (08 R254; 13 R374). -/
def Link.idleLanes (l : Link) (a : Nat) : List Nat :=
  (List.range' (linkLanes (isRidge a)) (redundant a)).filter (fun p => !l.badSpares.contains p && !l.laneMap.any (fun kv => kv.2 == p))

/-- A logical lane moves from physical lane `lane` onto the next redundant one, for good; LANE_REPAIRED. False where none is left (08 R254,
R256). -/
def Block.moveLane (b : Block) (a lane : Nat) : Block × Bool :=
  let l := b.link a
  match l.idleLanes a with
  | [] => (b, false)
  | sp :: _ =>
    let log := match (List.range (linkLanes (isRidge a))).find? (fun i => l.phys i == lane) with | some i => i | none => lane
    ((b.modLink a (fun l => { l with laneMap := l.laneMap.set log sp, badSpares := if linkLanes (isRidge a) ≤ lane then l.badSpares ++ [lane] else l.badSpares })).event a 0x26 none (detLink a 0 lane 0), true)

/-- Self-test of the idle redundant lanes in profile 11 (13 R374): what it finds the spec leaves to the silicon, a free value (DESIGN CHOICE,
notes/assumptions/95.md). A failing one is retired, and raises LANE_SUSPECT. -/
def Block.testIdleLanes (b : Block) (a : Nat) : Block :=
  if b.effProfile != 11 || isPass a then b
  else ((b.link a).idleLanes a).foldl (fun b p =>
    let (x, b) := b.free 1
    if x == 0 then b
    else (b.modLink a (fun l => { l with badSpares := l.badSpares ++ [p] })).event a 0x25 none (detLink a 0 p 0)) b

/-- The lanes that are suspect are repaired, or reported where no redundant lane is left (08 R256). -/
def Block.moveSuspects (b : Block) (a : Nat) : Block :=
  (b.link a).suspects.foldl (fun b lane =>
    let (b, ok) := (b.modLink a (fun l => { l with suspects := l.suspects.filter (· != lane) })).moveLane a lane
    if ok then b else b.event a 0x27 none (detLink a 0 lane 0)) b

/-- Training-time lane repair (08 R244, R248, R256): each lane that does not work and carries a logical lane moves, and in RETRAIN the suspect
lanes as well (R262). False where a lane that does not work finds no redundant one. A Pass port keeps its lane map (09 R266): there the training
fails where a lane that does not work carries a logical one. -/
def Block.trainRepair (b : Block) (a : Nat) (lanes : List Nat) : Block × Bool :=
  if isPass a then (b, lanes.all (fun p => 0x10 ≤ laneCode (b.port (portOf a)).mapRx p)) else
  let n := linkLanes (isRidge a)
  let (b, ok) := lanes.foldl (fun (x : Block × Bool) lane =>
    if (List.range n).any (fun i => (x.1.link a).phys i == lane) then
      (let y := (x.1.modLink a (fun l => { l with suspects := l.suspects.filter (· != lane) })).moveLane a lane
       (y.1, x.2 && y.2))
    else x) (b, true)
  (if (b.link a).st == .retrain then b.moveSuspects a else b, ok)

/-- The module of an adapter has trained, with the physical lanes that do not work (08 R244, R248). -/
def Block.trained (b : Block) (a : Nat) (lanes : List Nat) : Block :=
  match (b.link a).st with
  | .phyTrain =>
    if b.ridgelessAt a || (isPass a && (b.port (portOf a)).step != 2) then b
    else
      let (b, ok) := b.trainRepair a lanes
      if ok then b.linkStep a .param else b.stageFail a
  | .retrain =>
    if b.linkStopped a then b
    else
      let (b, ok) := b.trainRepair a lanes
      if ok then b.modLink a (fun l => { l with retrained := true }) else b.linkFault a 7 0x22 none (detLink a 1 255 0)
  | _ => b

/-- PHY_TRAIN_DONE (08 R244, R248): in RETRAIN the link waits for READY. -/
def execPhyTrainDone (t : Trained) (s : State) : Host.Outcome State Fault Refusal :=
  s.on (.phyTrainDone t) (fun b => b.trained t.adp t.lanes)

/-- The identity that a compute die has adopted, from either of its Cols (08 R250). -/
def Block.dieIdent (b : Block) (d : Nat) : Option (Nat × Nat × Nat) :=
  ((b.link (colAdp (2 * d))).ident).or (b.link (colAdp (2 * d + 1))).ident

/-- Source side of a compute die's time link (07 R214): its Ridge on a detouring die, else its escape Col, which is Col 1 from the
fence of Col 0 on (03 R87; 19 worked example). -/
def Block.timeSrc (b : Block) (d : Nat) : Nat :=
  match b.factsNow.detour.find d with
  | some n => if n == (d + 1) % 12 then ridgeW n else ridgeE n
  | none => colIo (2 * d + (if b.scFenced 3 (2 * d) then 1 else b.factsNow.escCol d))

/-- An adapter is the source side of a time link. -/
def Block.isTimeSrc (b : Block) (a : Nat) : Bool := (List.range 12).any (fun d => b.timeSrc d == a)

/-- What a side of a Col or Ridge says of itself in PARAM (08 R249, R250): a compute die that does not know its identity says so. -/
def Block.ownParam (b : Block) (a : Nat) : Param :=
  let rx := (b.link a).far.isSome
  let say (kind side die link pkg : Nat) : Param :=
    { version := 1, kind := kind, side := side, die := die, link := link, pkg := pkg, vcs := linkVcs a, rxok := rx, tsrc := isColI a || (isRidge a && b.isTimeSrc a),
      ridgeless := isColC a && b.ridgeless.contains (dieOf a), design := if isColI a then 0 else b.design % 2 ^ 31, leader := false,
      members := 0, leaderPkg := 0, serial := 0 }
  if isColI a then say 0 0 12 (colOfAdp a) b.pkgid
  else
    let id := b.dieIdent (dieOf a)
    if isColC a then
      let n := locOf a - 384
      match id with
      | some (d, _, k) => say 0 (1 + n) d (2 * d + n) k
      | none => say 0 (1 + n) 15 255 15
    else
      let east := locOf a == 387
      match id with
      | some (d, _, k) => say 1 (if east then 2 else 1) d (if east then d else (d + 11) % 12) k
      | none => say 1 (if east then 2 else 1) 15 255 15

/-- Identity checks of 08 R250 and 09 R273: only a compute die whose other Col has said nothing yet may leave its identity open. -/
def Block.paramOk (b : Block) (a : Nat) (p : Param) : Bool :=
  if isPass a then p.version == 1 && p.kind == 2
  else if isColI a then
    let n := colOfAdp a
    let first := match (b.link (colIo (n / 2 * 2 + (1 - n % 2)))).far with | some q => q.die == 15 | none => true
    let known (v unknown want : Nat) : Bool := (first && v == unknown) || v == want
    p.version == 1 && p.kind == 0 && p.vcs == 21 && p.side == 1 + n % 2 && known p.die 15 (n / 2) && known p.link 255 n && known p.pkg 15 b.pkgid
  else if isColC a then
    let other := (b.link (if locOf a == 384 then a + 1 else a - 1)).ident
    p.version == 1 && p.kind == 0 && p.vcs == 21 && p.side == 0 && p.die == 12 && p.link % 2 == locOf a - 384 &&
    (match (b.link a).ident with
     | some (d, n, k) => p.link / 2 == d && p.link == n && p.pkg == k
     | none => (match other with | some (d, _, k) => p.link / 2 == d && p.pkg == k | none => true) &&
       ((b.scope 9 (dieOf a)).st == 0 || p.link / 2 == dieOf a))
  else
    p.version == 1 && p.kind == 1 && p.vcs == 14 && p.side == (if locOf a == 387 then 1 else 2) &&
    p.die == dieOf (farAdp a) && p.link == ridgeOfAdp a && p.pkg == b.pkgid

/-- A die of a Ridge does not know its identity yet, so that nothing can be checked: the side waits for a later PARAM (DESIGN CHOICE,
notes/assumptions/90.md). -/
def paramEarly (a : Nat) (p : Param) : Bool := isRidge a && p.version == 1 && p.kind == 1 && p.die == 15

/-- Ridge adapters at a compute die and at the far ends of its Ridges. -/
def ridgesAt (d : Nat) : List Nat := [ridgeE d, farAdp (ridgeE d), ridgeW d, farAdp (ridgeW d)]

/-- A PARAM frame is received (08 R250): identity is adopted and checked. A die without Ridges has its neighbours' towards it held DOWN
(R261). -/
def Block.paramIn (b : Block) (a : Nat) (p : Param) : Block :=
  if (b.link a).st != .param || b.ridgelessAt a || paramEarly a p then b
  else if !b.paramOk a p then
    -- a compute die in TESTING that adopts another identity stays FENCED (12 R357)
    (if isColC a && (b.scope 9 (dieOf a)).st == 5 then b.modScope 9 (dieOf a) (fun sc => { sc with retired := true }) else b).linkFault
      a 7 0x24 none (detLink a 0 255 0)
  else
    let b := b.modLink a (fun l => { l with
      far := some p,
      ident := if isColC a && l.ident.isNone then some (p.link / 2, p.link, p.pkg) else l.ident })
    let d := colOfAdp a / 2
    let b := if isColI a && p.ridgeless && !b.ridgeless.contains d then
        (ridgesAt d).foldl (fun (b : Block) x => b.modLink x (fun l => { l with st := .down, since := b.now, attempts := 0, inbox := [] }))
          { b with ridgeless := b.ridgeless ++ [d] } else b
    let b := if isPass a then b.modPort (portOf a) (fun x => { x with
        far := some (p.pkg, p.serial), fenceCause := if x.fenceCause = 2 && x.far.any (fun f => f.2 != p.serial) then 3 else x.fenceCause }) else b
    if p.rxok then b.linkStep a .creditInit else b

/-- PARAM_RECEIPT (08 R250): what the far side of the link says of itself, or another content that a die of another maker sends. -/
def execParamReceipt (a : Nat) (p : Option Param) (s : State) : Host.Outcome State Fault Refusal :=
  s.on (.paramReceipt a p) (fun b => b.paramIn a (p.getD (b.ownParam (farAdp a))))

/-- A link runs the time exchange at TIME_ALIGN (08 R248, R253): a time link, a Col that is tested (12 R350), or a Ridge that only
measures. -/
def Block.aligns (b : Block) (a : Nat) : Bool :=
  isRidge a || (!isPass a && (b.isTimeSrc a || b.isTimeSrc (farAdp a) || (b.scope 3 (colOfAdp a)).st == 5))

/-- CREDIT_INIT is done at a side when it holds the far content and its own has been echoed (08 R248 step 3). -/
def Block.creditNext (b : Block) (a : Nat) : Block :=
  let l := b.link a
  if l.st != .creditInit || !l.ciGot || !l.ciEcho then b
  else if b.aligns a then
    let b := b.linkStep a .timeAlign
    if isColI a || isColC a then { b with colTrained := true } else b
  else b.linkStep a .ready

/-- CREDIT_INIT content is received (08 R247; 09 R266). -/
def Block.creditInitIn (b : Block) (a : Nat) (depths : List Nat) (pool : Nat) : Block :=
  if (b.link a).st != .creditInit || (b.link a).ciGot then b
  else
    let ok := (List.range 21).all (fun v =>
      let d := depths.getD v 0
      if v < linkVcs a then vcDepth a v ≤ d && d ≤ 15 else d == 0) && pool ≤ (if isPass a then 4096 else 1024)
    if !ok then b.stageFail a
    else
      (b.modLink a (fun l => { l with
        depths := (List.range (linkVcs a)).map (fun v => (v, depths.getD v 0)), pool := pool, used := [], poolUsed := 0,
        ciGot := true })).creditNext a

/-- CREDIT_INIT_RECEIPT (08 R247): what the far side of the link advertises, or another content that a die of another maker sends. -/
def execCreditInitReceipt (a : Nat) (depths : Option (List Nat)) (pool : Nat) (s : State) : Host.Outcome State Fault Refusal :=
  s.on (.creditInitReceipt a depths pool) (fun b =>
    let x := match depths with | some l => (l, pool) | none => ownCredits (farAdp a)
    b.creditInitIn a x.1 x.2)

/-- An IDLE frame, or READY, of a far side that holds the own CREDIT_INIT content (08 R248 step 3). -/
def Block.echoIn (b : Block) (a : Nat) : Block :=
  if (b.link a).st == .creditInit then (b.modLink a (fun l => { l with ciEcho := true })).creditNext a else b

/-- A READY frame is received (08 R244, R248): at CREDIT_INIT it is the echo of the own content. -/
def Block.readyIn (b : Block) (a : Nat) : Block :=
  let l := b.link a
  if b.linkStopped a && (b.scope (linkScope a 7).1 (linkScope a 7).2).st != 5 then b
  else match l.st with
    | .creditInit => b.echoIn a
    | .ready => (b.modLink a (fun l => { l with attempts := 0 })).linkStep a .active
    | .retrain =>
      let b := if l.retrained || isPass a then b else b.moveSuspects a
      (b.modLink a (fun l => { l with
        st := .active, since := b.now, nakOut := false, nakDue := false, retrained := false })).replayLink a
    | _ => b

/-- Limit of a training step in FCLK (08 R248; 09 R273). -/
def stepLimit (a : Nat) (st : LinkSt) : Option Nat :=
  match st with
  | .phyTrain => some (if isPass a then 1600000000 else 25600000)
  | .param | .creditInit | .ready => some (if isPass a then 320000 else 32000)
  | .timeAlign => some 320000
  | _ => none

/-- TRAINING_LIMIT (08 R248; 09 R273): the step's limit passes; a Pass port may also miss the 10 ms of
JOIN, which do not run while the lead has no image (19 R490) or PASS_REACH holds the port. -/
def execTrainingLimit (a : Nat) (s : State) : Host.Outcome State Fault Refusal :=
  s.on (.trainingLimit a) (fun b =>
    let l := b.link a
    match (if isPass a && (b.port (portOf a)).step < 2 then none else stepLimit a l.st) with
    | some n => (b.elapseTo (l.since + n)).stageFail a
    | none =>
      let p := b.port (portOf a)
      if isPass a && l.st == .active && p.step = 6 && (p.st = 1 || (p.st = 10 && (b.scope 5 (portOf a)).st = 5)) && p.refusal != 0x54
          && !b.lead.bootRom then
        (b.elapseTo (p.since + 32000000)).stageFail a
      else b)

/-! ### The time exchange (08 R251-R253; 07 R213, R214) -/

/-- The next Fabric Time above `ft` whose low 22 bits are `x` (07 R213). -/
def nextMark (ft x : Nat) : Nat :=
  let base := ft / 4194304 * 4194304 + x
  if ft < base then base else base + 4194304

/-- The mark of low bits `x` at which an event falls due: the present one, which Fabric Time has just reached, unless it was served already; else the
next (07 R213, R214). -/
def markFrom (ft x served : Nat) : Nat :=
  let m := nextMark ft x - 4194304
  if 4194304 ≤ nextMark ft x && ft < m + 2 && m != served then m else nextMark ft x

/-- Clamp to a magnitude. -/
def clampTo (m v : Int) : Int := max (-m) (min m v)

/-- A step of the package is due at the next apply boundary: what is not slewed (07 R225). -/
def TimeSys.steps (t : TimeSys) : Bool := t.loopStep || t.pendStep != 0 || 320 < t.pendAdj.natAbs || t.pendSet.isSome

/-- The k of the I/O-die base that is due at the apply boundary `bd` (07 R213, R221): the one loaded for it, else f where no exchange has
been accepted since the last boundary, and where one has, whose k is due later, the f of the k in force, since a slew stands for one interval
only; with the slew of adjustments for one interval. -/
def Block.kDue (b : Block) (bd : Nat) : Int :=
  let t := b.time
  let kept : Int := if t.accSince then t.fOld else t.f
  let base : Int := match (b.tb 12).kNext with
    | some (x, k) => if x ≤ bd then k else kept
    | none => kept
  clampTo 2147484 (base + (if t.steps then 0 else t.pendAdj) * 1024)

/-- A TIME frame of a die link leaves adapter `a`, with the number and TRAIN of its exchange (08 R251). -/
def Block.putTime (b : Block) (a : Nat) (x : TimeX) (kind : Nat) (rest : List Nat) : Block :=
  let l := b.link a
  b.putFrame a (plainFrame .time l.next l.ackNo (timeCont kind x.num x.train rest))

/-- TIME_REQ leaves: T1 is recorded, with the k due at the next apply boundary (07 R214; 08 R251). -/
def Block.timeSend (b : Block) (a : Nat) : Block :=
  let d := dieOf a
  let bd := nextMark (b.ft d) 0
  let k := if d = 12 then b.kDue bd
    else match (b.tb d).kNext with | some (t, k) => if t ≤ bd then k else (b.tb d).k | none => (b.tb d).k
  let b := (b.modTx a (fun x => { x with
    num := (x.num + 1) % 256, busy := true, phase := 1, at_ := b.now, t1 := b.ft d, boundary := bd, k := k,
    train := (b.link a).st == .timeAlign && (isColI a || b.isTimeSrc a) })).touch a
  b.putTime a (b.tx a) 1 (leNats (b.ft d) 8 ++ leInts k 4 ++ [0, 0, 0, 0] ++ leNats bd 8)

/-- A domain takes a wake event (10 R297, R299, R302). -/
def Block.wakeDom (b : Block) (d code detail : Nat) : Block :=
  let x := b.dom d
  b.modDom d (fun _ => { x with
    st := 5, since := b.now, unarmed := false, wakeTime := b.ft (if d < 128 then (if d < 96 then d / 8 else 12) else
      match domAdp d with | some a => dieOf a | none => dieOf (domStw d)),
    wakeSrc := code, wakeDetail := detail, wakeFrom := x.st })

/-- Of two wake events in one FCLK the record names the lower code (10 R302, R311). -/
def Block.sameWake (b : Block) (d code detail : Nat) : Block :=
  if (b.dom d).st = 5 && (b.dom d).since = b.now && code < (b.dom d).wakeSrc && ((b.dom d).wakeFrom = 4 || code = 6) then
    b.modDom d (fun x => { x with wakeSrc := code, wakeDetail := detail })
  else b

/-- Lanes of the wake pattern of a Pass port: the first two active physical ones (09 R285). A die link's message goes over the sideband. -/
def Block.wakeLanes (b : Block) (a : Nat) : List Nat :=
  if isPass a then ((List.range 18).filter (fun p => laneCode (b.port (portOf a)).mapTx p < 0x10)).take 2 else []

/-- The waking side sends its first wake message (08 R258). -/
def Block.sendWake (b : Block) (a : Nat) : Block :=
  if (b.link a).st == .retained && (b.link a).wakeFrom.isNone then
    let b := b.modLink a (fun l => { l with wakeFrom := some b.now })
    { b with farOut := .wake a (b.wakeLanes a) :: b.farOut }
  else b

/-- The main band of a link runs again when both adapters are On; the far side of a Pass link wakes by itself (08 R257, R258). -/
def Block.linkBack (b : Block) (a : Nat) : Block :=
  if isPass a || b.carries (farAdp a) then
    (sides a).foldl (fun (b : Block) x => b.modLink x (fun l =>
      if l.st == .retained then { l with st := .active, since := b.now, wakeFrom := none } else l)) b
  else b

/-- An entry is aborted (10 R295); an adapter whose far side rests already wakes it (08 R257, R258). -/
def Block.abortEntry (b : Block) (d : Nat) : Block :=
  let b := b.dropEntry d
  match domAdp d with
  | some a => ((b.modLink a (fun l => { l with pmReq := false, pmAck := false, pmOut := false })).sendWake a).linkBack a
  | none => b

/-- A time exchange is due on a link that rests: it wakes the source's side (07 R214; 08 R262; 10 R295, R298). -/
def Block.timeWake (b : Block) (a : Nat) : Block :=
  match domOf a with
  | none => b
  | some d =>
    let x := b.dom d
    if x.st = 4 then
      let b := if x.unarmed then (b.elapseTo (x.since + 192)).modDom d (fun x => { x with unarmed := false }) else b
      (b.wakeDom d 5 (if isRidge a then ridgeOfAdp a else if isPass a then portOf a else colOfAdp a)).sendWake a
    else if 1 ≤ x.st && x.st ≤ 3 then b.abortEntry d
    else b

/-- An exchange that could not be sent before the apply boundary counts as lost (08 R253, R262). -/
def Block.dueLost (b : Block) (a : Nat) : Block :=
  (b.event a 0x33 none (detT (b.tx a).theta)).modTx a (fun x => { x with due := none })

/-- The exchange of a midpoint on a time link (08 R252, R262; 07 R214): sent if the link is ACTIVE; in QUIET and RETRAIN it waits,
a resting link wakes. -/
def Block.midExchange (b : Block) (a : Nat) : Block :=
  let late := match (b.tx a).due with | some m => decide (m + 0x200000 ≤ b.ftOf a) | none => false
  let b := if late then b.dueLost a else b
  let m := match (b.tx a).due with | some m => m | none => markFrom (b.ftOf a) 0x200000 (b.tx a).mark
  let b := b.elapseFt (dieOf a) m
  match (b.link a).st with
  | .active => (b.modTx a (fun x => { x with tries := 1, due := none, mark := m })).timeSend a
  | .quiet | .retrain => b.modTx a (fun x => { x with due := some m, mark := m })
  | .retained => (b.modTx a (fun x => { x with due := some m, mark := m })).timeWake a
  | _ => b

/-- TIME_EXCHANGE_START (08 R252): at a midpoint, or in TIME_ALIGN. A time link in Retention wakes first (07 R214). On a Ridge that only measures,
of which neither side is a time source, the East adapter of die k sends: R253 names no side (DESIGN CHOICE, notes/assumptions/106.md). -/
def execTimeExchangeStart (a : Nat) (s : State) : Host.Outcome State Fault Refusal :=
  s.on (.timeExchangeStart a) (fun b =>
    let l := b.link a
    let src := b.isTimeSrc a
    if (b.tx a).busy || b.linkStopped a && l.st != .timeAlign then b
    else if l.st == .timeAlign && (src || isColI a || (isRidge a && locOf a == 387 && !b.isTimeSrc (farAdp a))) then (b.modTx a (fun x => { x with tries := 1 })).timeSend a
    else if src then b.midExchange a else b)

/-- Source side of the exchange that an adapter takes part in. -/
def Block.txKey (b : Block) (a : Nat) : Nat := if (b.tx a).busy then a else farAdp a

/-- A side of a link sends and takes TIME frames: in TIME_ALIGN, and while it is ACTIVE (08 R248, R262). -/
def Block.timeRuns (b : Block) (a : Nat) : Bool := (b.link a).st == .active || (b.link a).st == .timeAlign

/-- TIME_REQ is received: the follower records T2 and answers at T3 (08 R252). -/
def Block.timeReqIn (b : Block) (k : Nat) : Block :=
  if (b.tx k).busy && (b.tx k).phase = 1 && b.timeRuns (farAdp k) then
    let f := farAdp k
    let b := (b.modTx k (fun x => { x with phase := 2, t2 := b.ftOf f, t3 := b.ftOf f })).touch f
    b.putTime f (b.tx k) 2 (leNats (b.tx k).t2 8 ++ leNats (b.tx k).t3 8)
  else b

/-- TIME_REQ (08 R252). -/
def execTimeReq (a : Nat) (s : State) : Host.Outcome State Fault Refusal :=
  s.on (.timeReq a) (fun b => b.timeReqIn (b.txKey a))

/-- TIME_EXCHANGE_LOST, and in TIME_ALIGN the step fails (08 R253). -/
def Block.timeLost (b : Block) (a : Nat) : Block :=
  let x := b.tx a
  let b := (b.event a 0x33 none (detT x.theta)).modTx a (fun x => { x with busy := false, phase := 0 })
  if (b.link a).st == .timeAlign then b.stageFail a else b

/-- theta and d of an exchange (08 R252). -/
def TimeX.thetaOf (x : TimeX) : Int := (((x.t2 : Int) - x.t1) - ((x.t4 : Int) - x.t3)).tdiv 2
def TimeX.dOf (x : TimeX) : Int := (((x.t2 : Int) - x.t1) + ((x.t4 : Int) - x.t3)).tdiv 2

/-- TIME_RSP is received: the source records T4, computes theta and d, and sends TIME_RES or rejects (08 R252, R253). -/
def Block.timeRspIn (b : Block) (k : Nat) : Block :=
  if (b.tx k).busy && (b.tx k).phase = 2 && b.timeRuns k then
    let b := b.modTx k (fun x => { x with t4 := b.ftOf k })
    let x := b.tx k
    let b := b.modTx k (fun x => { x with theta := x.thetaOf })
    if x.dOf > (if isRidge k then 64 else 48) then
      let b := b.bump k 14 1
      if 3 ≤ x.tries then b.timeLost k else b.modTx k (fun x => { x with phase := 0 })
    else (b.modTx k (fun x => { x with phase := 3 })).putTime k x 3 (leInts x.thetaOf 8 ++ leInts x.dOf 8)
  else b

/-- TIME_RSP (08 R252). -/
def execTimeRsp (a : Nat) (s : State) : Host.Outcome State Fault Refusal :=
  s.on (.timeRsp a) (fun b => b.timeRspIn (b.txKey a))

/-- The follower receives TIME_RES (08 R252, R253). -/
def Block.timeResIn (b : Block) (k : Nat) : Block :=
  let x := b.tx k
  let f := farAdp k
  let d := dieOf f
  let measure := isRidge k && !b.isTimeSrc k
  let b := b.modTx k (fun x => { x with busy := false, phase := 0 })
  let b :=
    if measure then (if x.theta.natAbs > 2 then (b.event k 0x33 none (detT x.theta)).bump k 14 1 else b)
    else if x.train then b.modTb d (fun t => { t with frac := 0, k := x.k, kNext := none }.put ((t.ft : Int) - x.theta).toNat)
    else b.modTb d (fun t => { t with kNext := some (x.boundary, x.k), step := if x.theta.natAbs > 1 then -x.theta else 0 })
  let b := b.touch f
  if (b.link k).st == .timeAlign then (sides k).foldl (fun b y => if (b.link y).st == .timeAlign then b.linkStep y .ready else b) b else b

/-- TIME_RES (08 R252). -/
def execTimeRes (a : Nat) (s : State) : Host.Outcome State Fault Refusal :=
  s.on (.timeRes a) (fun b =>
    let k := b.txKey a
    if (b.tx k).busy && (b.tx k).phase = 3 && b.timeRuns (farAdp k) then b.timeResIn k else b)

/-- A TIME frame of a die link is received: it counts where it echoes the number and TRAIN of the exchange that runs (08 R251). -/
def Block.timeFrame (b : Block) (a : Nat) (c : BitVec 640) : Block :=
  let k := b.txKey a
  let x := b.tx k
  if isPass a || !x.busy || contByte c 1 != x.num || (contByte c 2).testBit 0 != x.train then b
  else match contByte c 0 with
    | 1 => if a = farAdp k then b.timeReqIn k else b
    | 2 => if a = k then b.timeRspIn k else b
    | 3 => if a = farAdp k && x.phase = 3 && b.timeRuns a then b.timeResIn k else b
    | _ => b

/-- TIME_EXCHANGE_RETRY (08 R253): 10 us without TIME_RES, up to three times in all. A repeat that falls into QUIET or RETRAIN is sent once the link
is ACTIVE; an exchange still waiting for its link at the apply boundary is lost (R262). -/
def execTimeExchangeRetry (a : Nat) (s : State) : Host.Outcome State Fault Refusal :=
  s.on (.timeExchangeRetry a) (fun b =>
    let x := b.tx a
    if !x.busy then
      (match x.due with
       | some m => (b.elapseFt (dieOf a) (m + 0x200000)).dueLost a
       | none => b)
    else
      let b := b.elapseTo (x.at_ + 32000)
      let b := if x.phase = 0 then b else b.bump a 14 1
      if 3 ≤ x.tries then b.timeLost a
      else if !b.timeRuns a then
        (if x.boundary ≤ b.ftOf a then b.timeLost a else b.modTx a (fun x => { x with phase := 0 }))
      else (b.modTx a (fun x => { x with tries := x.tries + 1 })).timeSend a)

/-! ### Lanes (08 R254-R256; 09 R271) -/

/-- The end of a 1 ms window: suspect lanes are declared. -/
def Block.laneWindow (b : Block) (a : Nat) : Block :=
  let b := b.elapseTo ((b.now / ms + 1) * ms)
  let l := b.link a
  let b := b.testIdleLanes a
  let bad := l.laneCorr.filter (fun kv =>
    (if isPass a then decide (8192 < kv.2) else decide (32 ≤ kv.2)) && !l.suspects.contains kv.1)
  let b := b.modLink a (fun l => { l with laneCorr := [], suspects := l.suspects ++ bad.map (·.1) })
  let b := bad.foldl (fun b kv => b.event a 0x25 none (detLink a 0 kv.1 kv.2)) b
  if bad.isEmpty || isPass a || l.st == .retrain then b
  else b.modLead (fun x => { x with quietDue := if x.quietDue.contains a then x.quietDue else x.quietDue ++ [a] })

/-- A lane is declared suspect by `FAULT_FORCE` (08 R255; 09 R271; 11 R325): which one, the command does not say. -/
def Block.forceSuspect (b : Block) (a : Nat) : Block :=
  let (v, b) := b.free 8
  let b := b.modLink a (fun l => { l with suspects := l.suspects ++ [v.toNat % 16] })
  if isPass a then b
  else b.modLead (fun x => { x with quietDue := if x.quietDue.contains a then x.quietDue else x.quietDue ++ [a] })

/-- LANE_WINDOW (08 R255; 09 R271). -/
def execLaneWindow (a : Nat) (s : State) : Host.Outcome State Fault Refusal :=
  s.on (.laneWindow a) (fun b => b.laneWindow a)

/-! ### Waking (08 R258; 10 R297-R299) -/

/-- WAKE_MESSAGE (08 R258; 10 R295, R298): it reaches a retained side, wakes it, aborts an entry, or is lost before arming. -/
def execWakeMessage (a : Nat) (s : State) : Host.Outcome State Fault Refusal :=
  s.on (.wakeMessage a) (fun b =>
    match domOf a with
    | none => b
    | some d =>
      let x := b.dom d
      let (code, det) := if isPass a then (4, portOf a) else (3, if isRidge a then ridgeOfAdp a else colOfAdp a)
      if x.st = 4 && !x.unarmed && !b.elemFenced a then b.wakeDom d code det
      else if 1 ≤ x.st && x.st ≤ 3 then (b.dropEntry d).linkBack a
      else b.sameWake d code det)

/-- WAKE_REPEAT (08 R258): every 200 ns until the link is up. -/
def execWakeRepeat (a : Nat) (s : State) : Host.Outcome State Fault Refusal :=
  s.on (.wakeRepeat a) (fun b =>
    match (b.link a).wakeFrom with
    | some t =>
      if (b.link a).st != .retained then b
      else
        let b := b.elapseTo (t + ((b.now - t) / 640 + 1) * 640)
        { b with farOut := .wake a (b.wakeLanes a) :: b.farOut }
    | none => b)

/-- WAKE_TIMEOUT (08 R258): the link is not up 1 ms after the first wake message. -/
def execWakeTimeout (a : Nat) (s : State) : Host.Outcome State Fault Refusal :=
  s.on (.wakeTimeout a) (fun b =>
    match (b.link a).wakeFrom with
    | some t =>
      if (b.link a).st != .retained then b
      else ((b.elapseTo (t + ms)).modLink a (fun l => { l with wakeFrom := none })).linkFault a 7 0x2A none (detLink a 1 255 0)
    | none => b)

/-! ### Quiet windows (05 R166-R168; 08 R256) -/

/-- The end of the last Scheduled window that meets the stretch of 300 units from Fabric Time `t` on; `t` where none does (05 R168). -/
def GateList.nextFree (l : GateList) (base t : Nat) : Nat :=
  let p := l.pos base t
  let ends := [0, 1].flatMap (fun c => (List.range l.entries).filterMap (fun i =>
    let a := c * l.cycle + l.startOf i
    let z := a + 16 * l.interval i
    if l.opens 3 i && a < p + 4800 && p < z then some (t + (z - p)) else none))
  ends.foldl max t

/-- The first start, up to `limit`, of a stretch in which Scheduled is closed under every list. -/
def quietSearch (lists : List (GateList × Nat)) (limit : Nat) : Nat → Nat → Option Nat
  | 0, _ => none
  | fuel + 1, t =>
    if limit < t then none
    else
      let t' := lists.foldl (fun m x => max m (x.1.nextFree x.2 t)) t
      if t' = t then some t else quietSearch lists limit fuel t'

/-- Start time of a quiet window and its mask (05 R167, R168). Where the lists of the die differ in cycle time, the search runs over ten of the
longest cycle, and it looks at the lists active at arming, not at a pending activation (DESIGN CHOICE, notes/assumptions/83.md). -/
def Block.quietPlan (b : Block) (dies : List Nat) : Nat × Nat × Bool :=
  let t0 := b.ft 12 + 6400
  let nis := dies.flatMap dieNis
  if !detProfile (b.epProfile b.lead.epoch) then (t0, 15, false)
  else
    let lists := (nis.map (fun n => ((b.gate n).active, (b.gate n).base))).dedup
    let span := 10 * ((lists.map (fun x => x.1.cycle)).foldl max 0)
    match quietSearch lists (t0 + span) (span + 1) t0 with
    | some t => (t, 7, false)
    | none => (t0, 15, true)

/-- The two adapters of a Col or Ridge link. -/
def linkAdps (ridge : Bool) (n : Nat) : List Nat := if ridge then [ridgeE n, ridgeW ((n + 1) % 12)] else [colIo n, colAdp n]

/-- The stewards arm a quiet window (05 R167, R168), if one is due, the link runs, and no Tollgate of its dies holds an overlay yet: each
holds one (05 R166), so that a second link of the die waits. Fences, and the rebalancing of the dies' regions, go first (14 R390). -/
def Block.quietArm (b : Block) (ridge : Bool) (n : Nat) : Block :=
  let as := linkAdps ridge n
  let due := as.any (fun a => b.lead.quietDue.contains a)
  if !due || as.any (fun a => (b.link a).st != .active || (b.link a).quietAt.isSome) then b
  else
    let dies := linkDies ridge n
    let gs := dies.flatMap (fun d => [2 * d, 2 * d + 1])
    if (dies.flatMap dieNis).any (fun x => (b.gate x).quiet.isSome) || gs.any (fun g => b.fencesFirst (b.server g)) ||
       b.wsh.starveInt.any (fun x => gs.contains x.1 && b.stwUp (b.server x.1)) then b else
    let (t, mask, allTiers) := b.quietPlan dies
    let b := b.modLead (fun l => { l with quietDue := l.quietDue.filter (fun a => !as.contains a) })
    let b := as.foldl (fun b a => b.modLink a (fun l => { l with quietAt := some t, calDone := false })) b
    let b := (dies.flatMap dieNis).foldl (fun b x => b.modGate x (fun g => { g with quiet := some (t, 300, mask) })) b
    if allTiers then b.event (b.server (2 * dies.headD 0)) 0x16 none (detS (if ridge then 4 else 3) n 0) else b

/-- QUIET_WINDOW_ARM (05 R167). -/
def execQuietWindowArm (ridge : Bool) (n : Nat) (s : State) : Host.Outcome State Fault Refusal :=
  s.on (.quietWindowArm ridge n) (fun b => b.quietArm ridge n)

/-- QUIET_OVERLAY_START (05 R166): from the start time on the masked tiers are closed (`Gate.quietCloses`). -/
def execQuietOverlayStart (n : Nat) (s : State) : Host.Outcome State Fault Refusal :=
  s.on (.quietOverlayStart n) (fun b =>
    match (b.gate n).quiet with
    | some (t, _, _) => b.elapseFt (dieOf n) t
    | none => b)

/-- QUIET_OVERLAY_END (05 R166). -/
def execQuietOverlayEnd (n : Nat) (s : State) : Host.Outcome State Fault Refusal :=
  s.on (.quietOverlayEnd n) (fun b =>
    match (b.gate n).quiet with
    | some (t, len, _) => (b.elapseFt (dieOf n) (t + 16 * len)).modGate n (fun g => { g with quiet := none })
    | none => b)

/-- LINK_QUIET (05 R167 step 2; 08 R256): the adapter has sent its queued flits and both replay buffers are empty, or 500 ns have passed; it
sends QUIET. -/
def execLinkQuiet (a : Nat) (s : State) : Host.Outcome State Fault Refusal :=
  s.on (.linkQuiet a) (fun b =>
    match (b.link a).quietAt with
    | some t =>
      if (b.link a).st != .active || b.linkStopped a then b
      else
        let b := b.elapseFt (dieOf a) t
        let queued := (b.elem a).ins.any (fun kv => kv.1 / 32 != 7 && !kv.2.q.isEmpty) || !(b.link a).replay.isEmpty ||
          !(b.link (farAdp a)).replay.isEmpty
        let b := if queued then b.elapseFt (dieOf a) (t + 1600) else b
        let l := b.link a
        let b := b.putFrame a (plainFrame .quiet l.next l.ackNo 0)
        b.modLink a (fun l => { l with st := .quiet, since := b.now, calDone := false, pmReq := false, pmAck := false, pmOut := false })
    | none => b)

/-- Calibration is complete, and pending suspect lanes are repaired (08 R256). -/
def Block.calDone (b : Block) (a : Nat) : Block :=
  if (b.link a).st != .quiet then b else (b.modLink a (fun l => { l with calDone := true })).moveSuspects a

/-- LINK_CALIBRATION_DONE (08 R256). -/
def execLinkCalibrationDone (a : Nat) (s : State) : Host.Outcome State Fault Refusal :=
  s.on (.linkCalibrationDone a) (fun b => b.calDone a)

/-- A `CALIBRATE` of the link goes on after a window: complete, tried again, or given up after three retries (12 R360). -/
def Block.calWindow (b : Block) (a : Nat) (ok : Bool) : Block :=
  let (ty, id) := linkScope a 7
  let key := scKey ty id
  match b.lead.flights.find? (fun f => f.opc == 0x15 && f.scTy == ty && f.scId == id) with
  | none => if ok then b else b.modLead (fun l => { l with quietDue := if l.quietDue.contains a then l.quietDue else l.quietDue ++ [a] })
  | some f =>
    let n := b.lead.calShort.get 0 key
    if ok then (b.finish f stOk [(16, 2, f.a), (18, 1, n)]).modLead (fun l => { l with calShort := l.calShort.erase key })
    else if n < 3 && b.now < f.at_ + 100 * ms then
      b.modLead (fun l => { l with calShort := l.calShort.set key (n + 1), quietDue := l.quietDue ++ [a] })
    else (b.finish f stTimeout [(16, 2, 0), (18, 1, n + 1)]).modLead (fun l => { l with calShort := l.calShort.erase key })

/-- QUIET_RESUME (05 R167 step 4): the adapter resumes at T + 1.5 us; an unfinished calibration is abandoned. -/
def execQuietResume (a : Nat) (s : State) : Host.Outcome State Fault Refusal :=
  s.on (.quietResume a) (fun b =>
    match (b.link a).quietAt with
    | some t =>
      let b := b.elapseFt (dieOf a) (t + 4800)
      let done := (b.link a).calDone
      let b := b.modLink a (fun l => { l with quietAt := none, st := if l.st == .quiet then .active else l.st, since := b.now })
      let b := if done then b.bump a 13 1 else b.event a 0x29 none (detLink a 1 255 0)
      if (b.link (farAdp a)).quietAt.isNone then b.calWindow a (done && (b.link (farAdp a)).calDone) else b
    | none => b)

end Sys2Proof.Machine
end

