-- ==== Sys2Proof/Machine/PassOps.lean ====
section
/-! DEFINITION. Pass ports as shared operations (spec/09): state and indicators, lane maps, the membership table, the election of
the time leader, the parent port, and the opening of ports at a commit. -/

namespace Sys2Proof.Machine

/-! ### State and indicators (09 R281) -/

/-- ATTN_LED and ACT_LED of a state. -/
def ledsOf (st : Nat) : Led × Led :=
  match st with
  | 1 => (.off, .fast) | 2 => (.off, .on) | 3 => (.on, .on) | 4 => (.slow, .on) | 5 => (.slow, .fast)
  | 6 => (.slow, .off) | 7 => (.off, .slow) | 8 => (.fast, .off) | 9 => (.fast, .on) | 10 => (.on, .off) | _ => (.off, .off)

/-- A port enters a state; after a loss of REFCLK the states of ports stay as they are until reset (21 R514). -/
def Block.portTo (b : Block) (k st : Nat) : Block :=
  if b.wsh.refLost then b
  else b.modPort k (fun p => { p with st := st, since := b.now, attn := (ledsOf st).1, act := (ledsOf st).2 })

/-- A Corrected or Deferred event of a port, with DETAIL S. -/
def Block.portEvent (b : Block) (k kind cause : Nat) : Block := b.event (passAdp k) kind none (detS 5 k cause)

/-! ### The advisory (09 R271, R281) -/

/-- Spare lanes left in the direction with fewer (17 R459). -/
def Pass.sparesLeft (p : Pass) : Nat := 2 - max (failedLanes p.mapTx) (failedLanes p.mapRx)

/-- Service is advised: the spares are exhausted, or a CABLE_ALERT has stood for 1 min (09 R281). -/
def Block.advised (b : Block) (k : Nat) : Bool :=
  let p := b.port k
  p.sparesLeft == 0 || (match p.alertAt with | some t => decide (t + 60 * second ≤ b.now) | none => false)

/-- Code of an open port. -/
def Block.openCode (b : Block) (k : Nat) : Nat := if b.advised k then 3 else 2

/-- The port shows the advisory, if it is due. -/
def Block.advise (b : Block) (k : Nat) : Block := if (b.port k).st = 2 && b.advised k then b.portTo k 3 else b

/-! ### Members and the time leader (09 R272, R276; 07 R218) -/

/-- Members that the election counts: priority, package ID. -/
def Block.electors (b : Block) : List (Nat × Nat) :=
  (b.time.prio, b.pkgid) :: (b.members.filter (fun kv => kv.1 != b.pkgid && kv.2.reach)).map (fun kv => (kv.2.prio, kv.1))

/-- The time leader: lowest PRIO, then lowest package ID (09 R276). -/
def Block.leaderPkg (b : Block) : Nat :=
  (b.electors.foldl (fun m e => if e.1 < m.1 || (e.1 == m.1 && e.2 < m.2) then e else m) (b.time.prio, b.pkgid)).2

/-- An exchange of port `k` enters the window of its last 16, with its d if it is accepted (07 R220). -/
def TimeSys.note (t : TimeSys) (k : Nat) (d : Option Nat) : TimeSys := { t with ds := t.ds.mod [] k (fun l => (d :: l).take 16) }

/-- A rejected or lost exchange is counted; eight in a row raise TIME_SYNC_DEGRADED (07 R220). -/
def Block.exchangeBad (b : Block) (k : Nat) : Block :=
  let run := b.time.badRun + 1
  let b := b.bump (passAdp k) 14 1
  let b := b.modTime (fun t => { t.note k none with bad := t.bad + 1, badRun := if run = 8 then 0 else run, exch := none })
  if run = 8 then b.event (passAdp k) 0x34 none (detN 8) else b

/-- The parent port is chosen afresh: the lowest-numbered port in service that leads to a package nearer the leader (07 R218). -/
def Block.chooseParent (b : Block) : Block :=
  let l := b.leaderPkg
  let far := !b.directTo none none l
  let near (q : Nat) : Bool := q == l || (far && (match b.members.find q with | some m => m.nbrs.contains l | none => false))
  let p := if l == b.pkgid then none
    else (List.range 8).find? (fun k => match (b.port k).far with
      | some (q, _) => near q && (b.port k).st ∈ [2, 3, 4, 9] && (b.portsTo none none q).contains k
      | none => false)
  if p == b.time.parent then b
  else
    let b := match b.time.exch, b.time.parent with | some _, some k => b.exchangeBad k | _, _ => b
    b.modTime (fun t => { t with parent := p, fresh := true, exch := none })

/-- The election (09 R276), and the parent that follows it. A package that is not leader forgets the last accepted pulse: its discipline resumes
at the next edge after it leads again (09 R277; DEDUCED, notes/assumptions/87.md). -/
def Block.elect (b : Block) : Block :=
  let me := b.leaderPkg == b.pkgid
  (b.modTime (fun t => { t with leader := me, ppsLast := if me then t.ppsLast else none })).chooseParent

/-- Reachability by the routes in force (09 R272, R276). -/
def Block.reachMembers (b : Block) : Block :=
  let up (i : Nat) : Bool := i == b.pkgid || (b.factsNow.pass.find i).isSome
  { b with members := b.members.mapVals (fun i m =>
      if up i then { m with reach := true } else if m.reach then { m with reach := false, since := b.now } else m) }

/-! ### Opening (09 R273 step 7, R282 step 8; 19 R490) -/

/-- A port that waits for the next commit of the stewards. -/
def Pass.awaits (p : Pass) : Bool := p.openNext && p.step == 7 && (p.st == 1 || p.st == 7)

/-- Result of `LINK_RETURN` (16 R438). -/
def Block.returnRes (b : Block) (k : Nat) : List (Nat × Nat × Nat) :=
  [(16, 1, (b.port k).st), (24, 8, match (b.port k).far with | some (_, s) => s | none => 0)]

/-- Two packages share neither row nor column (01 R35). -/
def rookApart (p q : Nat) : Bool := p / 4 != q / 4 && p % 4 != q % 4

/-- A port's link may not be in routing: the system holds ten or more packages, and the two ends lie apart (01 R35). -/
def Block.rookBarred (b : Block) (k : Nat) : Bool :=
  decide (10 ≤ b.members.length) && (match (b.port k).far with | some (q, _) => rookApart b.pkgid q | none => false)

/-- Such a port is HELD, with an event of its own (01 R35; 09 R275); a `LINK_RETURN` for it fails. -/
def Block.rookHold (b : Block) (k : Nat) : Block :=
  let b := ((b.portTo k 8).modPort k (fun p => { p with rook := true, refusal := 0x55, openNext := false })).portEvent k 0x55 0
  b.finishAll (fun f => f.opc == 0x13 && f.scId == k) stTestFailed (fun _ => b.testRes 3 (passAdp k) false false 0)

/-- The port enters OPEN, if it may be in routing; the return of a serviced cable is recorded (09 R282 step 8). -/
def Block.openPort (b : Block) (k : Nat) : Block :=
  if b.rookBarred k then b.rookHold k else
  let ret := (b.port k).returning
  let b := (b.portTo k (b.openCode k)).modPort k (fun p => { p with
    openNext := false, returning := false, byCmd := false, fenceCause := 0, step := 7, refusal := 0 })
  let b := if ret then b.portEvent k 0x50 0 else b
  b.finishAll (fun f => f.opc == 0x13 && f.scId == k) stOk (fun _ => b.returnRes k)

/-- At a commit point the ports that the new routes use open. -/
def Block.openPorts (b : Block) : Block :=
  ((List.range 8).filter (fun k => (b.port k).awaits && b.factsNow.pass.any (fun kv => kv.2.1.contains k))).foldl (fun b k => b.openPort k) b

/-! ### Lane maps in change, and ALIGN (09 R263, R268, R270) -/

/-- A lane map is proposed, from an ALIGN number at least 4 patterns ahead (09 R270). -/
def Block.propose (b : Block) (k : Nat) (m : SMap Nat) : Block :=
  b.modPort k (fun p => { p with prop := some (laneBytes m, (p.alignTx + 5) % 65536), mapAck := false })

/-- First idle spare. -/
def idleSpare (m : SMap Nat) : Option Nat := (List.range 18).find? (fun p => laneCode m p == 0x10)

/-- The map proposed at a step of a rotation of logical lane `k` from physical lane `p` with spare `s` (09 R270). -/
def rotMap (m : SMap Nat) (step lane p s : Nat) : SMap Nat :=
  match step with
  | 1 => (ofLaneBytes (laneBytes m)).set s (0x20 + lane)
  | 3 => ((ofLaneBytes (laneBytes m)).set s lane).set p 0x12
  | 5 => (ofLaneBytes (laneBytes m)).set p (0x20 + lane)
  | _ => ((ofLaneBytes (laneBytes m)).set p lane).set s 0x10

/-- The two physical lanes of a rotation: the lane and the spare. -/
def Pass.rotLanes (p : Pass) : Nat × Nat :=
  let m := p.mapTx
  let a := physOf m p.rotLane
  let codes := laneBytes m
  match codes.findIdx? (· == 0x20 + p.rotLane), codes.findIdx? (· == 0x12) with
  | some c, _ => (a, c)
  | none, some c => (c, a)
  | none, none => (a, (idleSpare m).getD 16)

/-- The next step of a rotation begins. -/
def Block.rotStepTo (b : Block) (k st : Nat) : Block :=
  let p := b.port k
  let (x, y) := p.rotLanes
  let b := b.modPort k (fun p => { p with rotStep := some (st, b.now) })
  match st with
  | 1 => b.propose k (rotMap p.mapTx 1 p.rotLane x y)
  | 3 => b.propose k (rotMap p.mapTx 3 p.rotLane x y)
  | 5 => b.propose k (rotMap p.mapTx 5 p.rotLane x y)
  | 6 => b.propose k (rotMap p.mapTx 6 p.rotLane y x)
  | _ => b

/-- A rotation is over; one of a `CALIBRATE` is followed by the next, or the command completes (12 R360). -/
def Block.rotEnd (b : Block) (k : Nat) (ok : Bool) : Block :=
  let p := b.port k
  let b := b.modPort k (fun p => { p with rotStep := none, prop := none, mapAck := false, rotLane := (p.rotLane + 1) % 16, calLeft := p.calLeft - 1 })
  let b := if ok then b.bump (passAdp k) 13 1 else b.event (passAdp k) 0x28 none (detLink (passAdp k) 1 p.rotLane 0)
  if p.calLeft = 0 then b
  else
    let key := scKey 5 k
    let b := if ok then b else b.modLead (fun l => { l with calShort := l.calShort.mod 0 key (· + 1) })
    if p.calLeft = 1 then
      let bad := b.lead.calShort.get 0 key
      (b.finishAll (fun f => f.opc == 0x15 && f.scTy == 5 && f.scId == k) stOk (fun f => [(16, 2, f.a - bad), (18, 1, 0)])).modLead
        (fun l => { l with calShort := l.calShort.erase key })
    else b

/-- The map before step 1 of the rotation that runs (09 R270). -/
def Pass.restMap (p : Pass) : SMap Nat :=
  match p.rotStep with
  | none | some (1, _) | some (8, _) => p.mapTx
  | some (7, _) => (match p.prop with | some (m, _) => ofLaneBytes m | none => p.mapTx)
  | some (st, _) =>
    let (x, y) := p.rotLanes
    if st = 6 || (st = 5 && p.prop.isNone) then rotMap p.mapTx 6 p.rotLane y x else rotMap p.mapTx 6 p.rotLane x y

/-- The rotation has failed: the map that was in force before step 1 is proposed, where it is not in force still (09 R270). -/
def Block.rotFail (b : Block) (k : Nat) : Block :=
  let p := b.port k
  match p.rotStep with
  | none | some (7, _) | some (8, _) => b
  | some _ =>
    let b := b.rotEnd k false
    if laneBytes p.restMap == laneBytes p.mapTx then b
    else (b.modPort k (fun p => { p with rotStep := some (7, b.now) })).propose k p.restMap

/-- A proposed map comes into force, and what waited for it goes on. -/
def Block.mapApplies (b : Block) (k : Nat) : Block :=
  let p := b.port k
  match p.prop with
  | none => b
  | some (m, _) =>
    let lost := failedLanes (ofLaneBytes m) - failedLanes p.mapTx
    let b := b.modPort k (fun p => { p with mapTx := ofLaneBytes m, prop := none, mapAck := false })
    match p.rotStep with
    | some (1, _) => b.rotStepTo k 2
    | some (3, _) => b.rotStepTo k 4
    | some (6, _) => b.rotEnd k true
    | some (7, _) => b.modPort k (fun p => { p with rotStep := none })
    | some (8, _) =>
      let moved := (List.range 18).any (fun i => m.getD i 0 == 0x11 && laneCode p.mapTx i != 0x11 && laneCode p.mapTx i != 0x10)
      let b := b.modPort k (fun p => { p with rotStep := none, laneRepairs := p.laneRepairs + (if moved then lost else 0) })
      let lane := ((List.range 18).find? (fun i => m.getD i 0 == 0x11 && laneCode p.mapTx i != 0x11)).getD 0
      let b := if laneCode p.mapTx lane == 0x10 then b else b.event (passAdp k) 0x26 none (detLink (passAdp k) 1 lane 0)
      if 2 ≤ failedLanes (b.port k).mapTx then (b.event (passAdp k) 0x27 none (detLink (passAdp k) 1 lane 0)).advise k else b
    | _ => b

/-- An ALIGN frame leaves (09 R263, R268). A proposal whose number it has comes into force, if MAPACK has come back; else it lapses and is made
again (R270). With no map proposed, bytes 20 to 37 repeat the map in force: R268 does not say what they hold (DESIGN CHOICE,
notes/assumptions/107.md). -/
def Block.sendAlign (b : Block) (k : Nat) : Block :=
  let b := b.modPort k (fun p => { p with alignTx := (p.alignTx + 1) % 65536 })
  let b := match (b.port k).prop with
    | some (m, n) =>
      if n != (b.port k).alignTx then b
      else if (b.port k).mapAck then b.mapApplies k
      else b.propose k (ofLaneBytes m)
    | none => b
  let p := b.port k
  let m := laneBytes p.mapTx
  let (pr, n) := p.prop.getD (m, 0xFFFF)
  (b.putFrame (passAdp k) (plainFrame .align 0 0xFFF (alignCont p.alignTx m pr n p.ackDue p.shadowOk
    (b.link (passAdp k)).suspects.head?))).modPort k (fun p => { p with sinceAlign := 0 })

/-- A frame other than ALIGN leaves a Pass port: where 27 have left since the last ALIGN, the next one goes first (09 R263). -/
def Block.putPass (b : Block) (k : Nat) (fr : Frame) : Block :=
  (if 27 ≤ (b.port k).sinceAlign then b.sendAlign k else b).putFrame (passAdp k) fr

end Sys2Proof.Machine
end

