-- ==== Sys2Proof/Machine/Reconf.lean ====
section
/-! DEFINITION. Package-wide reconfiguration as shared operations (spec/03 R102-R108, 05 R149, R150, 12 R350-R353, 13, 16 R430,
R431): a profile's immediate settings, the scaling of budgets, partition layouts, and the start, commit point and retirement of a
route commit. -/

namespace Sys2Proof.Machine

/-! ### Immediate settings (13 R365; 10 R290, R293; 21 R502, R503) -/

/-- VDD_FAB_REQ code of a profile (21 R502). -/
def vddCode (p : Nat) : Nat := if p == 2 || p == 3 then 30 else if p == 4 then 12 else if p == 10 then 15 else 20
/-- Body bias of an On domain (10 R290). -/
def onBias (p : Nat) : Int := if p == 2 || p == 3 then 100 else 0
/-- Body bias in Retention (10 R290; 13 R365). -/
def restBias (p : Nat) : Int := if p == 4 then -400 else -200
/-- Idle timer of a profile in us; none where automatic entry is off (10 R293; 13 R365). -/
def profTimer (p : Nat) : Option Nat :=
  if p == 0 || p == 2 || p == 3 || p == 11 then none else if p == 4 then some 2 else some 20

/-- Domains of a region that are On, on their way out of it too, take the bias of the profile in place (10 R290). -/
def Block.rebias (b : Block) (g p : Nat) : Block :=
  (List.range 272).foldl (fun b d =>
    if domRegion d = g && decide ((b.dom d).st ∈ [0, 1, 2, 3, 8]) && (b.dom d).bias != onBias p then b.modDom d (fun x => { x with bias := onBias p }) else b) b

/-- The immediate settings of a profile reach every region (13 R365, R376 step 2; 21 R503; 18 R477; 10 R293). -/
def Block.applyProfile (b : Block) (p : Nat) : Block :=
  let old := b.lead.applied
  let b := b.modLead (fun l => { l with applied := p })
  let b := (List.range 32).foldl (fun b g =>
    let rise := (b.region g).vreq < vddCode p
    let b := if (b.region g).vreq = vddCode p then b
      else b.modRegion g (fun r => { r with vreq := vddCode p, vok := !rise && r.vok, applying := rise })
    if rise && onBias p != 0 then b else b.rebias g p) b
  let b := if old != p && (profTimer p).isSome then
      (List.range 272).foldl (fun b d => b.modDom d (fun x => { x with idleFrom := b.now })) b else b
  let b := if old != 4 && p == 4 then
      { b with elems := b.elems.mapVals (fun _ el => { el with outs := el.outs.mapVals (fun _ o => { o with winFlits := 0 }) }) }.modLead
        (fun l => { l with winFrom := b.now }) else b
  let b := if old == 4 && p != 4 then
      { b with elems := b.elems.mapVals (fun _ el => { el with outs := el.outs.mapVals (fun _ o => o.setWidth false b.now) }) } else b
  let b := if old == p then b
    else (b.elems.filter (fun kv => !kv.2.tel.samples.isEmpty)).foldl (fun b kv => b.flushSamples kv.1) b
  if old == 11 && p != 11 then
    { b with
      elems := b.elems.mapVals (fun _ el => match el.tel.nextRing with
        | some r => { el with tel := { el.tel with ring := r, nextRing := none } }
        | none => el),
      nis := b.nis.mapVals (fun _ n => match n.cairnNext with
        | some (k, m) => { n with cairnK := k, cairnMask := m, cairnNext := none, cairnCnt := 0 }
        | none => n) }
  else b

/-! ### Degraded budgets (05 R149, R150) -/

/-- The greatest budget of a region (05 R146). -/
def budgetMax (g : Nat) : Nat := if g < 24 then 106496 else 81920
def Block.budgetOf (b : Block) (g t : Nat) : Nat := (b.region g).budget.get (budgetMax g) t
/-- Sum of a tier's rates in a region (05 R147): of the configured ones, which the stewards may have lowered for a while (14 R391); R147 does
not say which (DESIGN CHOICE, notes/assumptions/104.md). -/
def Block.rateSum (b : Block) (g t : Nat) : Nat := ((b.drawers g).map (fun n => (b.gate n).confOf t)).sum

/-- Out of ACTIVE, the scope puts the package into profile 9 without a fault (12 R352). -/
def degrades (ty id : Nat) : Bool := ty == 8 || (ty == 7 && 24 ≤ id && id < 28)

/-- A scope is out of service in a way that scales budgets: one that the driver holds fenced does not, unless it is of 12 R352 (12 R353). -/
def Block.scalesFor (b : Block) (ty id : Nat) : Bool :=
  let sc := b.scope ty id
  (sc.st != 0 || sc.stopped) && !(sc.hold && !degrades ty id)

/-- The fraction f of a region, numerator over 4 (05 R149; 12 R353). -/
def Block.degFrac (b : Block) (g : Nat) : Nat :=
  let out := b.scalesFor
  let around := if g < 24 then out 9 (g / 2) else out 8 ((g - 24) / 4)
  let cl := ((regionClusters g).filter (fun c => !(out 6 c || out 7 g || around))).length
  let planeIn (p : Nat) : Bool := !out 8 p && (List.range 16).all (fun c => !out 6 (96 + 16 * p + c)) && (List.range 4).all (fun r => !out 7 (24 + 4 * p + r))
  let other := if g < 24 then 2 * ([2 * (g / 2), 2 * (g / 2) + 1].filter (fun n => !(out 3 n || out 9 (g / 2)))).length
    else 2 * ([0, 1].filter planeIn).length
  min cl other

/-- Scale one region when its fraction has changed, or when NIs that have moved to it do not fit (05 R149, R150): the values before the first scaling are kept as return values, and each
later scaling starts from them; a value set in profile 9 has become one and is scaled with the next change (DESIGN CHOICE,
notes/assumptions/82.md). Where the least rate of 1 leaves the sum above the scaled budget, that sum stands: R149 gives both and not what
then holds (DESIGN CHOICE, notes/assumptions/105.md). -/
def Block.scaleRegion (b : Block) (g : Nat) : Block :=
  let f := b.degFrac g
  if f = (b.region g).frac && (List.range 4).all (fun t => b.rateSum g t ≤ b.budgetOf g t) then b
  else
    (List.range 4).foldl (fun b t =>
      let r := b.region g
      let base := r.ret.get (b.budgetOf g t) t
      let bud := base * f / 4
      let b := b.modRegion g (fun r => { r with ret := r.ret.set t base, budget := r.budget.set t bud })
      let ns := b.drawers g
      let conf (n : Nat) : Nat := (b.gate n).ret.get ((b.gate n).confOf t) t
      let rate (n : Nat) : Nat := (b.gate n).ret.get ((b.gate n).rateOf t) (4 + t)
      let sum := (ns.map conf).sum
      let cut (v : Nat) : Nat := if sum ≤ bud then v else max 1 (v * bud / sum)
      ns.foldl (fun b n =>
        let c := conf n
        let k := rate n
        if cut c = (b.gate n).confOf t && cut k = (b.gate n).rateOf t then b
        else b.modGate n (fun x =>
          { x with ret := (x.ret.set t c).set (4 + t) k, conf := x.conf.set t (cut c) }.putRate t (cut k))) b)
      ((b.modRegion g (fun r => { r with frac := f })).keepGold (regKey g :: b.drawers g))

/-- Scale every region for the package's present fences. -/
def Block.scaleAll (b : Block) : Block := (List.range 32).foldl Block.scaleRegion b

/-- Restore budgets and rates on leaving profile 9 (12 R353). -/
def Block.restoreBudgets (b : Block) : Block :=
  let old := b
  let b : Block := { b with
    regions := b.regions.mapVals (fun _ r => { r with
      budget := r.ret.foldl (fun m kv => m.set kv.1 kv.2) r.budget, ret := [], frac := 4 }),
    gates := b.gates.mapVals (fun _ x =>
      { x.ret.foldl (fun x kv => if kv.1 < 4 then { x with conf := x.conf.set kv.1 kv.2 } else x.putRate (kv.1 - 4) kv.2) x with ret := [] }) }
  b.keepGold (((List.range 32).filter (fun g => !(old.region g).ret.isEmpty)).map regKey ++ (old.gates.filter (fun (kv : Nat × Gate) => !kv.2.ret.isEmpty)).map (·.1))

/-- Enter profile 9, if the package is not in it (12 R352): the profile in force becomes the return profile. -/
def Block.enterDegraded (b : Block) : Block :=
  let b := if b.lead.profile == 9 then b else b.modLead (fun l => { l with ret := some l.profile, profile := 9 })
  b.scaleAll

/-- A scope keeps the package in profile 9 (12 R353); `but`: one about to be ACTIVE. -/
def Block.mustStay (b : Block) (but : Option Nat) : Bool :=
  b.scopes.any (fun kv => some kv.1 != but && (((kv.2.st != 0 || kv.2.stopped) && (kv.2.fault || kv.2.retired) && !kv.2.hold) || kv.2.degr))

/-! ### Partition layouts (13 R368, R369) -/

/-- Granule mask of a scope. -/
def Block.gmask (b : Block) (key : Nat) : Nat := b.lead.masks.get 0xFF key

/-- Clusters and links that the escape path of a packet crosses, from element `e` on. -/
def Block.escWalk (b : Block) (h : BitVec 128) : Nat → Nat → List Nat
  | 0, _ => []
  | n + 1, e =>
    if isRouter e then
      scKey 6 (clusterOf e) :: (match b.routeOf e 4 h with
        | some (_, o) => (match peer e o with | some (a, _) => b.escWalk h n a | none => [])
        | none => [])
    else if isAdp e then
      scKey (linkScope e 7).1 (linkScope e 7).2 :: (if isPass e then [] else
        let f := farAdp e
        let p := if isColC f then (if b.entryRow (dieOf f) h == 1 then 0 else 2) else if isRidge f then 0
          else 2 * (b.planeFor h 0 0).getD 0
        match peer f p with | some (r, _) => b.escWalk h n r | none => [])
    else []

/-- The layout passes R369. -/
def Block.layoutOk (b : Block) : Bool :=
  b.lead.masks.isEmpty ||
  (b.lead.masks.all (fun kv => kv.2 == 0xFF || (List.range 8).any (fun n => kv.2 == 2 ^ n)) &&
   allNis.all (fun n =>
     let rs := if isDual n then [src 12 (niR n), src 12 (64 + niR n)] else [src (dieOf n) (niR n)]
     rs.all (fun r => (b.gmask (scKey 6 (clusterOf r))).testBit (b.ni n).part)) &&
   allNis.all (fun n => allNis.all (fun m =>
     !(b.ni m).mask.testBit (b.ni n).part ||
     (let h := mkHdr (niNode b.pkgid m) (niNode b.pkgid n) REQ 0 0 0 0 0 true false
      let h := setF h 61 1 (if b.lead.epoch then 1 else 0)
      let p := if isDual n then (b.planeFor h 0 0).getD 0 else 0
      match peer n p with
      | some (r, _) => (b.escWalk h 64 r).all (fun k => (b.gmask k).testBit (b.ni n).part)
      | none => true))))

/-! ### Route commits (03 R102-R108) -/

/-- Receivers of EPOCH_COMMIT (03 R103 step 2). -/
def receivers : List Nat := allNis ++ allAdps

/-- A receiver that rests or is fenced takes an epoch when it wakes or is readmitted (03 R108). -/
def Block.asleep (b : Block) (e : Nat) : Bool :=
  b.elemFenced e || (match domOf e with | some d => decide ((b.dom d).st ∈ [4, 5, 6, 7]) | none => false)

/-- The package may leave profile 9: no scope keeps it there, and the layout suits the return profile (12 R353; 13 R369). `but`: a scope about to
be ACTIVE. -/
def Block.leavable (b : Block) (but : Option Nat) : Bool := !b.mustStay but && !(partProfile b.effProfile && !b.layoutOk)

/-- The profile that a new epoch carries: in profile 9, the settings of its entry (13 R364, R366, R377). -/
def Block.commitProfile (b : Block) (why : Nat) (scope : Option Nat) : Nat :=
  if b.lead.profile == 9 then
    (if (why = 3 || why = 2) && b.leavable (if why = 2 then scope else none) then b.effProfile else b.lead.applied)
  else b.lead.profile

/-- Write an epoch's facts. -/
def Block.setFacts (b : Block) (ep : Bool) (f : Facts) : Block :=
  b.modLead (fun l => if ep then { l with facts1 := f } else { l with facts0 := f })

/-- Take the written entries of an epoch out of every router, or copy them from the other epoch (03 R103 step 6, R107). -/
def Block.resetTabs (b : Block) (ep copy : Bool) : Block :=
  let lo := if ep then 256 else 0
  let oth := if ep then 0 else 256
  let rs := (b.elems.filter (fun (kv : Nat × Elem) => !kv.2.tab.isEmpty)).map (·.1)
  let b : Block := { b with elems := b.elems.mapVals (fun _ el => if el.tab.isEmpty then el else
      let kept := el.tab.filter (fun kv => !(lo ≤ kv.1 && kv.1 < lo + 256))
      { el with tab := if copy then
          (kept.filter (fun kv => oth ≤ kv.1 && kv.1 < oth + 256)).foldl (fun (m : SMap Nat) kv => m.set (kv.1 - oth + lo) kv.2) kept else kept }) }
  b.keepGold rs

/-- Stewards that load the image, mirrors before primaries, the lead apart (14 R389; 19 R488). -/
def Block.loadOrder (b : Block) : List Nat :=
  let ok (s : Nat) : Bool := s != b.leadSrc && b.stwUp s
  (allStws.filter (fun s => stwNo s % 2 == 1 && ok s)) ++ (allStws.filter (fun s => stwNo s % 2 == 0 && ok s))

/-- At the first commit after which the effective profile is not 0, the other stewards load the image first (19 R488). -/
def Block.loadOthers (b : Block) : Block :=
  let rest := b.loadOrder.filter (fun s => !(b.stw s).image)
  if b.effProfile = 0 || !(b.stw b.leadSrc).image || b.lead.load.isSome || rest.isEmpty then b
  else b.modLead (fun l => { l with load := some ((b.stw b.leadSrc).build.getD 0, rest) })

/-- A commit starts (03 R103 steps 1 and 2): the idle tables hold the new routes, and EPOCH_COMMIT goes to every receiver. -/
def Block.startCommit (b : Block) (why : Nat) (scope : Option Nat) : Block :=
  let ep := !b.lead.epoch
  let p := b.commitProfile why scope
  let incl := if why = 2 then scope else none
  let excl := if why = 5 || why = 6 then scope else none
  let b := if why = 0 then b.setFacts ep { b.facts ep with profile := p }
    else (b.resetTabs ep false).setFacts ep (b.mkFacts incl excl p)
  let rs := receivers.filter (fun e => !b.asleep e)
  let b := b.loadOthers
  let ds := if why = 0 then [] else (b.doms.filter (fun (kv : Nat × Dom) =>
    (kv.2.offRoute && kv.2.st == 0) || ((kv.2.st == 8 || kv.2.st == 4) && kv.2.target == some 7 && !kv.2.excl))).map (·.1)
  b.modLead (fun l => { l with
    commit := some { doms := ds, why := why, epoch := ep, waitAck := rs, waitRcv := rs, point := none, waitDrain := [], discarded := 0,
                     scope := scope, profile := p },
    sleepers := (l.sleepers ++ receivers.filter b.asleep).dedup })

/-- The stewards want a commit: it starts, or waits for the one in flight (03 R107, 12 R361, 14 R393). -/
def Block.wantCommit (b : Block) (why : Nat) (scope : Option Nat) : Block :=
  match b.lead.commit.isSome || b.lead.bootRom || b.lead.restarting with
  | false => b.startCommit why scope
  | true => b.modLead (fun l => { l with commitQ := if l.commitQ.contains (why, scope) then l.commitQ else l.commitQ ++ [(why, scope)] })

/-- No scope keeps the package in profile 9 any more: the stewards want the leaving commit, unless one is in flight or the layout of the
return profile fails its check (12 R353; 13 R369). -/
def Block.mayLeave (b : Block) : Block :=
  if b.lead.profile != 9 || !b.leavable none || b.lead.commit.any (fun c => c.why == 3 && c.point.isNone) then b
  else b.wantCommit 3 none

/-- A Col or Ridge link that is up on both sides lies outside the routes last committed, though they could use it. -/
def Block.leftOut (b : Block) (a : Nat) : Bool :=
  let now := match b.lead.commit with | some c => b.facts c.epoch | none => b.factsNow
  let then_ := b.mkFacts none none 0
  let up := (b.link a).st == .active && (b.link (farAdp a)).st == .active
  if isColC a || isColI a then up && now.colsOut.contains (colOfAdp a) && !then_.colsOut.contains (colOfAdp a)
  else isRidge a && up && now.ridgesOut.contains (ridgeOfAdp a) && !then_.ridgesOut.contains (ridgeOfAdp a)

/-- The stewards admit to routing a link that reaches ACTIVE after the first route commit (08 R248 step 6; 19 R494). -/
def Block.admitLink (b : Block) (a : Nat) : Block :=
  if b.leftOut a && b.lead.commitQ.isEmpty then b.wantCommit 7 none else b

/-- A READY frame, and what it lets the stewards do (08 R248). -/
def Block.readyTake (b : Block) (a : Nat) : Block :=
  if (b.link a).st == .ready then (b.readyIn a).admitLink a else b.readyIn a

/-- READY_RECEIPT (08 R248). -/
def execReadyReceipt (a : Nat) (s : State) : Host.Outcome State Fault Refusal :=
  s.on (.readyReceipt a) (fun b => b.readyTake a)

/-- A receiver takes an epoch (03 R103 step 3, R108; 02 R74; 05 R154, R159; 08 R260). -/
def Block.takeEpoch (b : Block) (rcv : Nat) (ep : Bool) : Block :=
  let det := b.gateGoverns rcv
  let x := b.ni rcv
  let old := (x.tags.filter (fun kv => !kv.2.quar && kv.2.since.isSome && b.ordered kv.2.hdr)).map (·.1)
  let b := b.modNi rcv (fun x => { x with epoch := ep, oldOrdered := if x.epoch == ep then x.oldOrdered else old })
  let b := if isAdp rcv then b.modLink rcv (fun l => { l with dropEpoch := none }) else b
  if isNi rcv && !det && b.gateGoverns rcv then b.refuseOversize rcv (b.gate rcv).active else b

/-! ### Readmission (12 R350) -/

/-- Elements of a scope (12 R340). -/
def scopeElems (ty id : Nat) : List Nat :=
  if ty = 2 then (if isEndpoint (id % 8192) && dieOf (id % 8192) < 12 then [id % 8192] else [])
  else (scopeDoms ty id).flatMap domElems

/-- NIs whose fabric side lies in a scope. -/
def scopeNis (ty id : Nat) : List Nat := (scopeElems ty id).filter isNi

/-- Buffers and credits of a scope start empty, on both sides of its boundary (04 R115; 12 R347); a packet that still waits in an end buffer is
discarded and answered by the element that holds it (00 R4; 11 R335). -/
def Block.clearScope (b : Block) (ty id : Nat) : Block :=
  let wipe (b : Block) (e p : Nat) : Block :=
    { (b.modElem e (fun el => el.setOut p { el.out p with used := [], held := [], wdog := 0, fc := [] })) with
      wires := b.wires.filter (fun kv => some (kv.1 / 8, kv.1 % 8) != peer e p), crWires := b.crWires.erase (wkey e p),
      fcWires := b.fcWires.erase (wkey e p) }
  let ends (b : Block) (e p : Nat) : Block :=
    match peer e p with
    | none => b
    | some (a, q) =>
      let b := (pksOf (b.portPackets a q ++ b.portPackets e p)).foldl (fun b k => b.dropPacket a (b.scope ty id).kind k false) b
      let b := (wipe b e p)
      let b := (wipe b a q)
      let clr (b : Block) (x r : Nat) : Block :=
        let b := b.modElem x (fun el => { el with ins := el.ins.filter (fun kv => kv.1 / 32 != r) })
        if isNi x then b.modNi x (fun y =>
          let keep (p : RPkt) : Bool := p.whole || (match p.key with | some k => k / 32 != r | none => true)
          { y with rx := y.rx.filter keep, msgq := y.msgq.filter keep, dropRx := y.dropRx.filter (fun k => k / 32 != r) }) else b
      clr (clr b e p) a q
  let b := match ty with
    | 1 => ends b (id / 2) (if id % 2 = 0 then 1 else 0)
    | 2 => ends b (id % 8192) (if isColC (id % 8192) || isColI (id % 8192) then id / 16384 % 2 * 2 + id / 32768 * 2 + id / 8192 % 2 else id / 32768)
    | _ => b
  (scopeElems ty id).foldl (fun b e =>
    let b := (List.range 6).foldl (fun b p => ends b e p) b
    let b := b.modElem e (fun el => { el with ins := [], outs := [], fcSent := [], fcDue := [], lastStarve := none })
    if isAdp e then b.modLink e (fun l => { l with
      replay := [], resend := 0, inbox := [], returns := [], used := [], poolUsed := 0, nakOut := false, nakDue := false,
      pmReq := false, pmAck := false, quietAt := none, wakeFrom := none }) else b) b

/-- Commands that end at ACTIVE (12 R345; 16 R435). -/
def Block.scopeDone (b : Block) (ty id status : Nat) : Block :=
  let sc := b.scope ty id
  b.finishAll (fun f => f.scTy == ty && f.scId == id && (f.opc == 0x0F || f.opc == 0x11 || f.opc == 0x14)) status
    (fun f => [(16, 1, sc.st), (20, 4, sc.discarded)] ++ (if f.opc == 0x14 then [(24, 4, sc.passed)] else []))

/-- The routes exclude the scope: it enters CLOSING, and a power change in it ends (12 R343; 10 R310). The SEQ that its completion
carries is no record's: a free value. -/
def Block.closing (b : Block) (ty id : Nat) : Block :=
  if (b.scope ty id).st != 0 then b
  else
    let b := b.modScope ty id (fun sc => { sc with st := 1, since := b.now })
    (scopeDoms ty id).foldl (fun (b : Block) d =>
      if (b.dom d).target.isSome then
        let (v, b) := b.free 32
        (b.modDom d (fun x => { x with st := if x.st = 8 then 0 else x.st, target := none, excl := false })).finishAll (fun f => f.opc == 0x0D && f.scId == d) stDiscarded
          (fun _ => discRes v.toNat ty id)
      else b) b

/-- A scope becomes ACTIVE at the commit point (12 R350; 06 R203). -/
def Block.makeActive (b : Block) (key : Nat) : Block :=
  let ty := key / 65536
  let id := key % 65536
  let b := b.clearScope ty id
  let b := b.modScope ty id (fun sc => { sc with
    st := 0, fault := false, hold := false, retired := false, offlined := false, force := false, stopped := false, since := b.now, swept := false,
    widened := false, selfTest := false, degr := false })
  let b := (scopeDoms ty id).foldl (fun b d => b.modDom d (fun x => { x with idleFrom := b.now, offRoute := false })) b
  let b := (scopeNis ty id).foldl (fun b n => b.modNi n (fun x => { x with
    fenced := false, cache := [], amnesiaTo := b.now + 10 * ms, epoch := match b.lead.commit with | some c => c.epoch | none => b.lead.epoch })) b
  let b := (scopeNis ty id).foldl (fun b n => b.gateWake n) b
  let b := (scopeElems ty id).foldl (fun b e => if isAdp e then
      b.modNi e (fun x => { x with epoch := match b.lead.commit with | some c => c.epoch | none => b.lead.epoch }) else b) b
  let b := b.modLead (fun l => { l with sleepers := l.sleepers.filter (fun e => !(scopeElems ty id).contains e) })
  let b := (allStws.filter (fun s => (scopeDoms ty id).contains (stwDom s))).foldl
    (fun b s => b.modStw s (fun x => { x with lost := false, missed := 0, announced := none })) b
  let b := if ty = 9 then (b.modWsh (fun w => { w with pathLost := w.pathLost.filter (· != id) })).flushForced id else b
  let b := if ty = 5 then b.openPort id else b
  let b := if inPlane ty id then b.factsNow.pass.foldl (fun (b : Block) kv => { b with farOut := .notice kv.1 1 (65536 + ty) id :: b.farOut }) b else b
  b.scopeDone ty id stOk

/-- The package leaves profile 9 (12 R353). -/
def Block.leaveDegraded (b : Block) : Block :=
  if b.lead.profile != 9 then b
  else
    let p := b.effProfile
    ((b.restoreBudgets).modLead (fun l => { l with profile := p, ret := none })).applyProfile p

/-! ### Commit point and retirement (03 R103 steps 4, 6, 7) -/

/-- PROFILE_SET ends (13 R376, 16 R426). -/
def Block.profileRes (b : Block) (busy : Nat) : List (Nat × Nat × Nat) :=
  [(16, 1, b.lead.profile), (17, 1, b.lead.ret.getD 0xFF), (20, 4, busy)]

/-- RESULT of `ROUTE_COMMIT` (16 R428). -/
def Block.routeRes (b : Block) (discarded : Nat) : List (Nat × Nat × Nat) :=
  [(16, 1, if b.lead.epoch then 1 else 0), (20, 4, discarded)]

/-- RESULT of `MAP_COMMIT` (16 R428). -/
def Block.mapRes (b : Block) (acks : Nat) : List (Nat × Nat × Nat) :=
  [(16, 1, if b.lead.mapEpoch then 1 else 0), (17, 1, b.lead.gran), (20, 4, acks)]

/-- Domains that return from Off enter routing with a commit of the stewards (10 R300, R309). -/
def Block.routeDoms (b : Block) (ds : List Nat) : Block :=
  (ds.filter (fun d => (b.dom d).offRoute && (b.dom d).st == 0)).foldl (fun b d =>
    (b.modDom d (fun x => { x with offRoute := false })).finishAll (fun f => f.opc == 0x0D && f.scId == d && f.a == 0) stOk
      (fun _ => [(16, 4, 0), (20, 1, 0)])) b

/-- The domain is power-gated and its contents are lost: Off by command, which completes with the count of packets discarded (10 R290, R307 step 4,
R311). Both sides of a link of it stop. -/
def Block.gateOff (b : Block) (d discarded : Nat) : Block :=
  let b := match domAdp d with
    | some a => b.linksDown (sides a) 0
    | none => b
  let b := if 208 ≤ d then b.clearSteward (domStw d) else b
  (b.modDom d (fun x => { x with
    st := 7, since := b.now, unarmed := false, target := none, excl := false, stale := [] })).finishAll (fun f => f.opc == 0x0D && f.scId == d) stOk
    (fun _ => [(16, 4, discarded), (20, 1, 7)])

/-- Every receiver has acknowledged: the commit point is reached (03 R103 step 4). -/
def Block.commitPoint (b : Block) (c : Commit) : Block :=
  let b := b.modLead (fun l => { l with
    epoch := c.epoch, commit := some { c with waitAck := [], waitRcv := [], point := some b.now, round := none, waitDrain := List.range 32 } })
  let b := { b with regions := b.regions.mapVals (fun _ r => { r with report := none }) }
  let b := if c.why = 0 then b else b.openPorts
  let b := b.routeDoms c.doms
  let leave := b.lead.profile == 9 && b.leavable c.scope && c.profile == b.effProfile
  let b := match c.why with
    | 2 =>
      let b := match c.scope with | some k => b.makeActive k | none => b
      if leave then b.leaveDegraded else b
    | 3 => if leave then b.leaveDegraded else b
    | 6 => match c.scope with
      | some k => b.closing (k / 65536) (k % 65536)
      | none => b
    | _ => b
  let b := b.reachMembers.elect
  if b.lead.profile == 9 then b.scaleAll.mayLeave else b

/-- CLOSE in three consecutive frames (09 R269). -/
def Block.sendClose (b : Block) (k cause : Nat) : Block :=
  (List.range 3).foldl (fun b _ => b.putPass k (closeFrame cause)) b

/-- A Pass port whose steering commit has retired closes (09 R282 step 5, R286). A rotation that still runs lapses. -/
def Block.closePort (b : Block) (k cause : Nat) : Block :=
  let b := b.sendClose k cause
  let b := (b.portTo k 6).modPort k (fun p => { p with rotStep := none, prop := none, ackDue := false })
  let b := b.modLink (passAdp k) (fun l => { l with st := .down, since := b.now, replay := [], resend := 0, inbox := [], returns := [] })
  let b := (b.modLead (fun l => { l with steerQ := l.steerQ.filter (· != k) })).chooseParent
  b.finishAll (fun f => f.opc == 0x12 && f.scId == k) stOk (fun _ => [])

/-- The next commit that waits starts; one that was to leave profile 9, which the package may no longer leave, is dropped (12 R353; 13 R378). -/
def Block.nextCommit (b : Block) : Block :=
  let stays := !(b.lead.profile == 9 && b.leavable none)
  match b.lead.commitQ.dropWhile (fun c => stays && c.1 == 3) with
  | [] => b.modLead (fun l => { l with commitQ := l.commitQ.filter (fun c => !(stays && c.1 == 3)) })
  | (w, s) :: rest => if b.lead.commit.isSome then b else (b.modLead (fun l => { l with commitQ := rest })).startCommit w s

/-- An abort that the fabric holds for delivery goes as one of the epoch in force once its own retires (02 R56; notes/assumptions/9.md). -/
def Block.resealAborts (b : Block) (old : Bool) : Block :=
  { b with aborts := b.aborts.map (fun a => if hEpoch a.hdr == old then a.epochIs (b.epProfile (!old) == 8) (!old) else a) }

/-- The old epoch retires (03 R103 step 6): the idle tables take a copy of those in force, and the command completes. -/
def Block.retire (b : Block) : Block :=
  match b.lead.commit with
  | none => b
  | some c =>
    let ep := c.epoch
    let b := ((b.setFacts (!ep) (b.facts ep)).resetTabs (!ep) true).resealAborts (!ep)
    let b := b.modLead (fun l => { l with commit := none })
    let b := c.doms.foldl (fun b d => b.modDom d (fun x =>
        if x.st = 8 && x.target == some 7 && !x.excl then { x with excl := true, since := b.now } else x)) b
    let b := (c.doms.filter (fun d => (b.dom d).st == 4 && (b.dom d).target == some 7)).foldl (fun b d => b.gateOff d 0) b
    let b := match c.why with
      | 0 => (b.modLead (fun l => { l with routeOk := true })).finishAll (fun f => f.opc == 8) stOk
          (fun _ => [(16, 1, if ep then 1 else 0), (20, 4, c.discarded)])
      | 4 => if b.lead.profile == 10 then b.modLead (fun l => { l with switchFrom := none })
        else (b.modLead (fun l => { l with switchFrom := none })).finishAll (fun f => f.opc == 3) stOk (fun _ => b.profileRes 0)
      | 5 => (match c.scope with
        | some k => if (b.port (k % 65536)).st = 5 then b.closePort (k % 65536) (if (b.port (k % 65536)).byCmd then 2 else 1) else b
        | none => b)
      | _ => b
    let b := if c.why = 0 && (List.range 8).any (fun k => (b.port k).awaits) then b.wantCommit 7 none else b
    let b := match b.lead.steerQ with
      | k :: _ => if c.why = 5 && (b.port k).st = 5 then b.wantCommit 5 (some (scKey 5 k)) else b
      | [] => b
    b.nextCommit

/-- Packet `k` has been sent in part over the cable of Pass port `a`. -/
def Block.onCable (b : Block) (a : Nat) (k : Pk) : Bool := ((b.elem a).out 7).held.any (fun kv => k.covers (kv.2.hdr, kv.2.copy))

/-- Old-epoch packets are discarded at the drain timeout (03 R103 step 7, R105; 08 R260), those of which only a part is left at a router or
adapter among them (04 R138); one that has started onto a cable goes on to the far package. The block and their number. -/
def Block.dropOld (b : Block) (old : Bool) : Block × Nat :=
  let es := (b.elems.map (·.1)).filter (fun e => isRouter e || isAdp e)
  let (b, n) := es.foldl (fun (x : Block × Nat) e =>
    ((x.1.packetsAt e).filter (fun h => hEpoch h.1 == old && !(isPass e && x.1.onCable e h))).foldl (fun (y : Block × Nat) h =>
      let b := y.1
      let b := match (b.elem e).ins.find? (fun (kv : Nat × Vc) => kv.2.q.any (fun (f : Flit) => h.covers (pkOf f))) with
        | some kv => (match (kv.2.q.find? (fun (f : Flit) => h.covers (pkOf f))) with
          | some f => b.hop e (kv.1 / 32) (kv.1 % 32) 0 0 f false true
          | none => b)
        | none => b
      let b := b.dropPacket e 0x15 h false
      (if isRouter e then b.bump e 47 1 else b, y.2 + 1)) x) (b, 0)
  ({ b with links := allAdps.foldl (fun m a => m.mod {} a (fun l => { l with dropEpoch := some old })) b.links }, n)

end Sys2Proof.Machine
end

