-- ==== Sys2Proof/Machine/Epochs.lean ====
section
/-! DEFINITION. The steps of route and map commits (spec/03 R103-R108; 06 R191; 16 R430). -/

namespace Sys2Proof.Machine

/-- A receiver gets EPOCH_COMMIT for routes (03 R103 step 3, R108), once the stewards run the image (19 R488). -/
def Block.epochIn (b : Block) (rcv : Nat) : Block :=
  match b.lead.commit with
  | none => b
  | some c =>
    if !c.waitRcv.contains rcv || b.lead.load.isSome then b
    else
      let b := b.modLead (fun l => { l with commit := some { c with waitRcv := c.waitRcv.filter (· != rcv) } })
      if b.asleep rcv then
        b.modLead (fun l => { l with
          commit := l.commit.map (fun c => { c with waitAck := c.waitAck.filter (· != rcv) }),
          sleepers := if l.sleepers.contains rcv then l.sleepers else l.sleepers ++ [rcv] })
      else b.takeEpoch rcv c.epoch

/-- An NI gets EPOCH_COMMIT for the map (06 R191): entries of the old epoch fill nothing any more, and what waits is looked up. -/
def Block.mapEpochIn (b : Block) (n : Nat) : Block :=
  if !b.lead.mapRcv.contains n || b.lead.mapGran.isNone then b
  else
    let b := b.modLead (fun l => { l with mapRcv := l.mapRcv.filter (· != n) })
    (b.modNi n (fun x => { x with mapEpoch := !b.lead.mapEpoch, cache := [] })).resolveNi n

/-- EPOCH_COMMIT (03 R103; 06 R191). -/
def execEpochCommit (rcv : Nat) (map : Bool) (s : State) : Host.Outcome State Fault Refusal :=
  s.on (.epochCommit rcv map) (fun b => if map then b.mapEpochIn rcv else b.epochIn rcv)

/-- The lead receives a route acknowledgement (03 R103 step 4). -/
def Block.epochAck (b : Block) (rcv : Nat) : Block :=
  match b.lead.commit with
  | none => b
  | some c =>
    if c.waitRcv.contains rcv || c.point.isSome then b
    else
      let c := { c with waitAck := c.waitAck.filter (· != rcv) }
      let b := b.modLead (fun l => { l with commit := some c })
      if c.waitAck.isEmpty && c.waitRcv.isEmpty then b.commitPoint c else b

/-- The lead receives a map acknowledgement: with the last, the commit point, and GRANULE takes effect (16 R430 step 4). -/
def Block.mapAckIn (b : Block) (n : Nat) : Block :=
  match b.lead.mapGran with
  | none => b
  | some g =>
    if !b.lead.mapAck.contains n || b.lead.mapRcv.contains n || b.lead.mapPoint.isSome then b
    else
      let b := b.modLead (fun l => { l with mapAck := l.mapAck.filter (· != n) })
      if b.lead.mapAck.isEmpty then
        b.modLead (fun l => { l with mapPoint := some b.now, mapEpoch := !l.mapEpoch, gran := g })
      else b

/-- EPOCH_COMMIT_ACK (03 R103; 16 R430). -/
def execEpochCommitAck (rcv : Nat) (map : Bool) (s : State) : Host.Outcome State Fault Refusal :=
  s.on (.epochCommitAck rcv map) (fun b => if map then b.mapAckIn rcv else b.epochAck rcv)

/-- A region is fenced, or all its domains rest, those of its adapters and Pass ports among them: it reports zero (03 R104). -/
def Block.regionQuiet (b : Block) (g : Nat) : Bool :=
  let rest (d : Nat) : Bool := (b.dom d).st == 4 || (b.dom d).st == 7
  b.fatal || b.scFenced 7 g ||
    ((regionClusters g).all rest && (allAdps.filter (fun a => attachedTo a g)).all (fun a => (domOf a).all rest))

/-- A round of drain queries, `k` us after the commit point: every region's counter is read in it (03 R103 step 5, R104). -/
def Block.drainRound (b : Block) (c : Commit) (k : Nat) : Commit :=
  if c.round == some k then c
  else
    let read (g : Nat) : Nat := if b.regionQuiet g then 0 else min 65535 (b.drainCount g (!c.epoch))
    { c with round := some k, counts := (List.range 32).foldl (fun (m : SMap Nat) g => m.set g (read g)) [], waitDrain := List.range 32 }

/-- DRAIN_QUERY_TICK (03 R103 step 5): each 1 us after the commit point the region's counter is read. -/
def execDrainQueryTick (g : Nat) (s : State) : Host.Outcome State Fault Refusal :=
  s.on (.drainQueryTick g) (fun b =>
    match b.lead.commit with
    | some c =>
      (match c.point with
       | some t =>
         let k := (b.now - t + us - 1) / us
         let b := b.elapseTo (t + k * us)
         let c := b.drainRound c k
         (b.modLead (fun l => { l with commit := some c })).modRegion g (fun r => { r with report := some (k, c.counts.get 0 g) })
       | none => b)
    | none => b)

/-- EPOCH_DRAIN_REPORT (03 R103 step 6): the report reaches the lead. The old epoch retires when every region has reported zero in one round: what
a region still counts can enter another, so that reports of different rounds do not add up. -/
def execEpochDrainReport (g : Nat) (s : State) : Host.Outcome State Fault Refusal :=
  s.on (.epochDrainReport g) (fun b =>
    match b.lead.commit, (b.region g).report with
    | some c, some (k, n) =>
      let b := b.modRegion g (fun r => { r with report := none })
      if c.point.isNone || c.round != some k || n != 0 then b
      else
        let c := { c with waitDrain := c.waitDrain.filter (· != g) }
        let b := b.modLead (fun l => { l with commit := some c })
        if c.waitDrain.isEmpty then b.retire else b
    | _, _ => b)

/-- EPOCH_DRAIN_TIMEOUT (03 R103 step 7, R105): 100 us after the commit point. -/
def execEpochDrainTimeout (s : State) : Host.Outcome State Fault Refusal :=
  s.on .epochDrainTimeout (fun b =>
    match b.lead.commit with
    | some c =>
      (match c.point with
       | some t =>
         let (b, n) := (b.elapseTo (t + 320000)).dropOld (!c.epoch)
         let b := b.event b.leadSrc 0x15 none (detN n)
         (b.modLead (fun l => { l with commit := some { c with waitDrain := [], discarded := n } })).retire
       | none => b)
    | none => b)

/-- Lookups sent before the commit point are outstanding (16 R430 step 5). -/
def Block.oldLookups (b : Block) (t : Nat) : Bool := b.nis.any (fun kv => kv.2.lookups.any (fun l => l.1 < 1024 && l.2.at_ ≤ t && l.2.at_ + 128000 > b.now))

/-- MAP_EPOCH_RETIRE (16 R430 step 5; 06 R191): the banks in service start to copy. -/
def execMapEpochRetire (s : State) : Host.Outcome State Fault Refusal :=
  s.on .mapEpochRetire (fun b =>
    match b.lead.mapPoint with
    | some t =>
      if !b.lead.mapCopy.isEmpty || b.oldLookups t then b
      else
        let banks := (List.range 32).filter (fun g => !(b.region g).bankOut && !b.regionQuiet g)
        let b := b.modLead (fun l => { l with mapCopy := banks })
        banks.foldl (fun b g => b.modRegion g (fun r => { r with bankCopied := false })) b
    | none => b)

/-- The idle copy of the map takes the copy in force (16 R430 step 6). -/
def Block.copyMap (b : Block) : Block :=
  let new := if b.lead.mapEpoch then 1 else 0
  let old := 1 - new
  { b with
    map := (b.map.filter (fun kv => kv.1 / 65536 == new)).foldl (fun (m : SMap Nat) kv => m.set (old * 65536 + kv.1 % 65536) kv.2)
      (b.map.filter (fun kv => kv.1 / 65536 == new)),
    groups := (b.groups.filter (fun kv => kv.1 / 1024 == new)).foldl (fun (m : SMap (Nat × Nat × List Nat)) kv =>
      m.set (old * 1024 + kv.1 % 1024) kv.2) (b.groups.filter (fun kv => kv.1 / 1024 == new)) }

/-- MAP_BANK_COPY_DONE (16 R430 step 6): with the last bank MAP_COMMIT completes. -/
def execMapBankCopyDone (g : Nat) (s : State) : Host.Outcome State Fault Refusal :=
  s.on (.mapBankCopyDone g) (fun b =>
    if !b.lead.mapCopy.contains g then b
    else
      let b := (b.modLead (fun l => { l with mapCopy := l.mapCopy.filter (· != g) })).modRegion g (fun r => { r with bankCopied := true })
      if !b.lead.mapCopy.isEmpty then b
      else
        let b := b.copyMap.modLead (fun l => { l with mapPoint := none, mapGran := none, mapOk := true })
        b.finishAll (fun f => f.opc == 6) stOk
          (fun f => b.mapRes f.a))

end Sys2Proof.Machine
end

