-- ==== Sys2Proof/Machine/Stewards.lean ====
section
/-! DEFINITION. Stewards (spec/14; 12 R358, R359; 19 R483-R488): heartbeats, the loss of a steward, the steward image, rates under
starvation; and start-up: reset release, straps, self-tests and clocks. -/

namespace Sys2Proof.Machine

/-! ### Rings of commands in flight and faults (15 R408, R410) -/

/-- Messages that are not yet records, second copies left out. -/
def Wsh.waiting (w : Wsh) : Nat :=
  (w.die.map (fun kv => kv.2.length)).sum + (w.late.map (fun kv => kv.2.length)).sum + ((w.up.filter (fun m => !w.seen.contains (m.src, m.kind, m.time))).dedup).length + w.held.length
/-- SEQ that the record of the message just sent will carry. -/
def Block.nextSeq (b : Block) : Nat := (b.wsh.seq + b.wsh.waiting - 1) % 2 ^ 32

/-- Repair commands (12 R345). -/
def isRepairOp (opc : Nat) : Bool := opc == 0x0F || opc == 0x10 || opc == 0x11 || opc == 0x14

/-! ### Heartbeats (14 R382; 12 R358) -/

/-- HEARTBEAT_SEND (12 R358): each 10 us by a hardware timer. A heartbeat carries the next sequence number and the CRC of the steward's golden
copies, and needs a tag at its NI (14 R382; 02 R65). -/
def execHeartbeatSend (s : Nat) (st : State) : Host.Outcome State Fault Refusal :=
  st.on (.heartbeatSend s) (fun b =>
    let b := b.elapseTo ((b.now / 32000 + 1) * 32000)
    if b.stwUp s && 0 < b.freeUnitTags (stwNi s) then
      b.modStw s (fun x => { x with hbSeq := (x.hbSeq + 1) % 65536, hbSent := x.hbSent ++ [(x.hbSeq, x.crc)] })
    else b)

/-- A steward gets a heartbeat of its buddy: differing CRCs in two heartbeats that follow each other make a mirror fetch the primary's copies
(14 R382). -/
def Block.heartbeatIn (b : Block) (s seq : Nat) (crc : BitVec 32) : Block :=
  let next := (b.stw s).hbGot.map (·.1) == some ((seq + 65535) % 65536)
  let b := b.modStw s (fun x => { x with missed := 0, hbGot := some (seq, crc) })
  let b := b.modStw (buddy s) (fun x => { x with announced := none })
  if b.primary (stwRegion s) = s then b
  else if (b.stw s).crc = crc then b.modStw s (fun x => { x with crcDiff := 0 })
  else if !next || (b.stw s).crcDiff = 0 then b.modStw s (fun x => { x with crcDiff := 1 })
  else (b.modStw s (fun x => { x with crcDiff := 0, fetched := x.fetched + 1 })).fetchGold s

/-- HEARTBEAT_RECEIPT (14 R382): of the heartbeats on their way from the buddy the one behind the first `skip`, which are lost. -/
def execHeartbeatReceipt (s skip : Nat) (st : State) : Host.Outcome State Fault Refusal :=
  st.on (.heartbeatReceipt s skip) (fun b =>
    match (b.stw (buddy s)).hbSent[skip]? with
    | some (seq, crc) =>
      let b := b.modStw (buddy s) (fun x => { x with hbSent := x.hbSent.drop (skip + 1) })
      if b.stwUp s then b.heartbeatIn s seq crc else b
    | none => b)

/-- The lead is lost: another takes over the rings, and what it had in flight ends (12 R358; 15 R410; 14 R396). -/
def Block.newLead (b : Block) (old seq : Nat) : Block :=
  let who := (List.range 16).find? (fun n => b.stwServes (stwSrc 12 n) && (b.stw (stwSrc 12 n)).self = 1)
  let b := b.modLead (fun l => { l with
    who := who, bootRom := match who with | some n => !(b.stw (stwSrc 12 n)).image | none => true, restarting := false,
    load := none, turn := 0,
    commitQ := match l.commit with
      | some c => if c.point.isNone && c.why != 0 && c.why != 4 then (c.why, c.scope) :: l.commitQ else l.commitQ
      | none => l.commitQ,
    commit := match l.commit with | some c => if c.point.isSome then some { c with why := if c.why = 0 then 7 else c.why } else none | none => none })
  let b := b.finishAll (fun f => !isRepairOp f.opc) stDiscarded (fun _ => discRes seq 10 old)
  if b.lead.bootRom || b.lead.commit.isSome then b else b.nextCommit

/-- Domains held for a reload by a pair of stewards of which the serving one is gone: the other starts it from its beginning (14 R384), and with none
left they are held without a golden copy (10 R305). -/
def Block.reloadAnew (b : Block) (s : Nat) (served : Bool) : Block :=
  let ds := (b.doms.filter (fun (kv : Nat × Dom) => kv.2.st == 6 && !kv.2.noGold && domRegion kv.1 == stwRegion s)).map (·.1)
  let b := if served then ds.foldl (fun b d => b.modDom d (fun x => { x with stale := x.found })) b else b
  let none_ := ds.filter b.goldless
  if none_.isEmpty then b
  else (none_.foldl (fun b d => b.modDom d (fun x => { x with noGold := true })) b).wantCommit 7 none

/-- A steward is declared lost by its buddy (12 R358; 14 R384): its scope is fenced, and the buddy takes over from its golden copies and the record
of the last heartbeat that it has got. -/
def Block.stewardLost (b : Block) (s : Nat) (forced : Bool) : Block :=
  let lead := b.leadSrc == s && b.lead.who.isSome
  let served := b.primary (stwRegion s) == s
  let b := b.fault (buddy s) 0x60 10 s none (detS 10 s 0) none forced
  let seq := b.nextSeq
  let b := b.modStw s (fun x => { x with lost := true, lostAt := some (b.ft 12), wasLead := lead, missed := 0, hbSent := [], hbGot := none, crcDiff := 0 })
  let b := b.modStw (buddy s) (fun x => { x with missed := 0, hbSent := [] })
  let b := b.modRegion (stwRegion s) (fun r => { r with report := none })
  let b := (b.modLead (fun l => { l with commit := l.commit.map (fun c => { c with round := none }) })).reloadAnew s served
  if lead then b.newLead s seq else b

/-- HEARTBEAT_MISS (12 R358; 14 R389, R396): a steward has missed three heartbeats of its buddy in a row; not counted while the
buddy's restart is announced. A steward that its buddy has declared lost within the last 100 us raises it as well (14 R383). -/
def execHeartbeatMiss (s : Nat) (st : State) : Host.Outcome State Fault Refusal :=
  st.on (.heartbeatMiss s) (fun b =>
    if !b.stwUp (buddy s) || (b.stw (buddy s)).announced.isSome then b
    else if b.stwUp s then b.stewardLost (buddy s) false
    else if (b.stw s).lost && (b.stw s).lostAt.any (fun t => b.ft 12 ≤ t + 320000) then
      b.fault s 0x60 10 (buddy s) none (detS 10 (buddy s) 0)
    else b)

/-- RESTART_ANNOUNCE_EXPIRY (14 R389): 100 ms after a steward announced its restart the count of its buddy resumes. -/
def execRestartAnnounceExpiry (s : Nat) (st : State) : Host.Outcome State Fault Refusal :=
  st.on (.restartAnnounceExpiry s) (fun b =>
    match (b.stw s).announced with
    | some t => (b.elapseTo (t + 100 * ms)).modStw s (fun x => { x with announced := none })
    | none => b)

/-! ### The steward image (14 R387-R389) -/

/-- The load has no steward left to serve: the lead restarts on its own segments, or the waiting commit proceeds. -/
def Block.loadStep (b : Block) : Block :=
  match b.lead.load with
  | some (_, []) =>
    let loading := b.lead.flights.any (fun f => f.opc == 4)
    b.modLead (fun l => { l with load := if loading then l.load else none, restarting := loading })
  | _ => b

/-- A steward gets an IMAGE_BLOCK of its segments (14 R389). -/
def Block.imageBlock (b : Block) (s : Nat) (last crcOk : Bool) : Block :=
  match b.lead.load with
  | none => b
  | some (bd, todo) =>
    if !todo.contains s then b
    else if !last then b.modStw s (fun x => { x with announced := some (x.announced.getD b.now) })
    else
      let out (b : Block) : Block := (b.modLead (fun l => { l with load := some (bd, todo.filter (· != s)) })).loadStep
      if crcOk then
        out ((b.loadSegs s (some bd)).fetchGold s)
      else if (b.stw s).segFails + 1 < 3 then b.modStw s (fun x => { x with segFails := x.segFails + 1 })
      else
        let b := b.modStw s (fun x => { x with segFails := 0, lost := true, announced := none })
        let b := (b.flushNi (stwNi s) 0 (if dieOf s == 12 then .fence else .unitReset)).modNi (stwNi s) (fun x => { x with fenced := x.fenced || dieOf s == 12 })
        let b := b.event b.leadSrc 0x61 none 0
        let b := b.modScope 10 s (fun sc => { sc with st := 3, retired := true, swept := true, since := b.now })
        out (b.modLead (fun l => { l with loadRetired := l.loadRetired + 1 }))

/-- IMAGE_BLOCK_RECEIPT (14 R389). -/
def execImageBlockReceipt (s : Nat) (last crcOk : Bool) (st : State) : Host.Outcome State Fault Refusal :=
  st.on (.imageBlockReceipt s last crcOk) (fun b => b.imageBlock s last crcOk)

/-- The lead restarts on the image (14 R389 steps 4, 5; 19 R486, R487): in the first start the idle tables take the routes of
the links that are ACTIVE. -/
def Block.leadRestart (b : Block) : Block :=
  if !b.lead.restarting then b
  else
    let first := b.lead.bootRom
    let bd := match b.lead.load with | some (x, _) => x | none => 0
    let b := b.loadSegs b.leadSrc (some bd)
    let b := b.modLead (fun l => { l with restarting := false, bootRom := false, load := none })
    let b := if first then b.setFacts (!b.lead.epoch) (b.mkFacts none none 0) else b
    let b := b.finishAll (fun f => f.opc == 4) stOk (fun _ => [(16, 4, b.lead.loadRetired), (24, 8, bd.toNat)])
    if b.lead.commit.isNone then b.nextCommit else b

/-! ### Rates under starvation (14 R391, R392; 04 R131) -/

/-- A STARVE interrupt is served by the region's primary, after the fences that wait for it (14 R390). -/
def Block.rebalance (b : Block) (g : Nat) (from_ : BitVec 16) : Block :=
  if b.fencesFirst (b.server g) then b else
  let b := b.modWsh (fun w => { w with starveInt := w.starveInt.erase (g, from_) })
  if b.lead.bootRom || !(b.stw (b.server g)).image then b
  else
    let recent := match (b.region g).lastLower with | some t => decide (b.now < t + 320000) | none => false
    let b := b.modRegion g (fun r => { r with lastStarve := some b.now })
    if recent then b
    else
      let lower (x : Gate) : Gate := (List.range 4).foldl (fun x t =>
        if x.pin.get false t then x
        else
          let cur := x.rateOf t
          x.putRate t (max (max 1 (x.confOf t / 16)) (cur - max 1 (cur / 8)))) x
      let b := ((b.drawers g).filter (fun n => niNode b.pkgid n != canon from_)).foldl (fun b n => (b.modGate n lower).keepGold [n]) b
      b.modRegion g (fun r => { r with lastLower := some b.now })

/-- STARVE_REBALANCE (14 R391). -/
def execStarveRebalance (g : Nat) (from_ : BitVec 16) (s : State) : Host.Outcome State Fault Refusal :=
  s.on (.starveRebalance g from_) (fun b => b.rebalance g from_)

/-- 1 ms has passed without a STARVE: lowered rates rise (14 R392). -/
def Block.recover (b : Block) (g : Nat) : Block :=
  match (b.region g).lastStarve with
  | none => b
  | some t =>
    let b := b.elapseTo (max t (b.region g).lastRise + ms)
    let rise (x : Gate) : Gate := (List.range 4).foldl (fun x t =>
      if x.rateOf t < x.confOf t then
        x.putRate t (min (x.confOf t) (x.rateOf t + max 1 (x.confOf t / 8)))
      else x) x
    let b := (b.drawers g).foldl (fun b n => if (b.gate n).rate == (b.gate n).conf then b else (b.modGate n rise).keepGold [n]) b
    b.modRegion g (fun r => { r with lastRise := b.now })

/-- RATE_RECOVERY (14 R392). -/
def execRateRecovery (g : Nat) (s : State) : Host.Outcome State Fault Refusal :=
  s.on (.rateRecovery g) (fun b => b.recover g)

/-! ### Start-up (19) -/

/-- RESET_RELEASE (19 R481, R482, R494): everything starts over; the fuses and the pins of the chip stay as they are. -/
def execResetRelease (s : State) : Host.Outcome State Fault Refusal :=
  s.on .resetRelease (fun b =>
    { Block.reset with
      fuseSerial := b.fuseSerial, fuseKey := b.fuseKey, fuseMinSec := b.fuseMinSec, design := b.design, freeCtr := b.freeCtr,
      members := [(0, { serial := b.fuseSerial, prio := 8, reach := true })] })

/-- Source index of a die-wide source of the I/O die. -/
def ioSrc (loc : Nat) : Nat := src 12 loc

/-- The strap sampler has eight samples (19 R483). -/
def Block.straps (b : Block) (l : List Nat) : Block :=
  let b := b.elapseTo 3200000
  if b.strapOk then b
  else match l with
  | [] => b
  | v :: rest =>
    if rest.all (· == v) then
      { (b.modLead (fun x => { x with facts0 := { x.facts0 with pkg := v }, facts1 := { x.facts1 with pkg := v } })) with
        pkgid := v, strapOk := true, members := (b.members.erase b.pkgid).set v { serial := b.fuseSerial, prio := b.time.prio, reach := true } }
    else b.fault (ioSrc 479) 0x72 11 b.pkgid none 0

/-- STRAP_SAMPLING (19 R483). -/
def execStrapSampling (l : List Nat) (s : State) : Host.Outcome State Fault Refusal :=
  s.on (.strapSampling l) (fun b => b.straps l)

/-- The lead is the I/O-die steward with the lowest NodeID that passes (14 R381; 19 R485). -/
def Block.chooseLead (b : Block) : Block :=
  if b.lead.who.isSome then b
  else
    let self (n : Nat) : Nat := (b.stw (stwSrc 12 n)).self
    match (List.range 16).find? (fun n => self n != 2) with
    | some n => if self n = 1 then b.modLead (fun l => { l with who := some n }) else b
    | none => b

/-- A steward's boot self-test is over (19 R485). -/
def Block.selftestDone (b : Block) (s : Nat) (pass : Bool) : Block :=
  if (b.stw s).self != 0 then b
  else if pass then (b.modStw s (fun x => { x with self := 1 })).chooseLead
  else
    let b := b.modStw s (fun x => { x with self := 2, lost := true })
    ((b.fault s 0x60 10 s none (detS 10 s 1)).modScope 10 s (fun sc => { sc with retired := true })).chooseLead

/-- BOOT_SELFTEST_DONE (19 R485). -/
def execBootSelftestDone (n : Nat) (pass : Bool) (s : State) : Host.Outcome State Fault Refusal :=
  s.on (.bootSelftestDone n pass) (fun b => b.selftestDone n pass)

/-- STEWARD_ALL_LOST (19 R485; 12 R358): no I/O-die steward has passed 50 ms after release, or none is left. -/
def execStewardAllLost (s : State) : Host.Outcome State Fault Refusal :=
  s.on .stewardAllLost (fun b =>
    let any := (List.range 16).any (fun n => b.stwUp (stwSrc 12 n) && (b.stw (stwSrc 12 n)).self = 1)
    if any then b else (b.elapseTo 160000000).fault (ioSrc 480) 0x66 11 b.pkgid none 0)

/-- RIDGE_IDENTITY_TIMEOUT (19 R484): the die has no identity 100 ms after reset release. -/
def execRidgeIdentityTimeout (a : Nat) (s : State) : Host.Outcome State Fault Refusal :=
  s.on (.ridgeIdentityTimeout a) (fun b =>
    let d := dieOf a
    if (b.link (src d 384)).ident.isSome || (b.link (src d 385)).ident.isSome || b.ridgelessAt a || (b.link a).st == .active
      || b.linkStopped a then b
    else ((b.elapseTo 320000000).modLink a (fun l => { l with st := .down })).linkFault a 7 0x23 none (detLink a 0 255 0))

/-- REFCLK_LOSS (21 R506): the clocks stop, and FAULT_N is driven to 0b00. -/
def execRefclkLoss (s : State) : Host.Outcome State Fault Refusal :=
  s.on .refclkLoss (fun b => (if b.refclk then b.elapse (2 * us) else b).modWsh (fun w => { w with refLost := true }) |> fun b => { b with refclk := false })

/-- A fault of a die's clock root or time base: it fences the die, or the package on the I/O die (07 R211, R215). -/
def Block.dieFault (b : Block) (d loc kind : Nat) : Block :=
  if d = 12 then b.fault (src 12 loc) kind 11 b.pkgid none 0 else b.fault (src d loc) kind 9 d none 0

/-- CLOCK_UNLOCK (07 R211); after a loss of REFCLK it is what the collector sees when REFCLK returns (21 R506). -/
def execClockUnlock (d : Nat) (s : State) : Host.Outcome State Fault Refusal :=
  s.on (.clockUnlock d) (fun b => { b with refclk := true }.dieFault d 465 0x30)

/-- TIME_BASE_ERROR (07 R215): the two copies of a die's time base differ; what the second holds is free. -/
def execTimeBaseError (d : Nat) (s : State) : Host.Outcome State Fault Refusal :=
  s.on (.timeBaseError d) (fun b =>
    let (v, b) := b.free 64
    (b.modTb d (fun t => { t with ft2 := v.toNat })).dieFault d 466 0x31)

end Sys2Proof.Machine
end

