-- ==== Sys2Proof/Machine/Flags.lean ====
section
/-! DEFINITION. Pins and status words computed from the state (spec/11 R332, R333; 17): FAULT_N, FAB_ALERT_N and the words of the
control block's status registers. -/

namespace Sys2Proof.Machine

/-- Severities of the unacknowledged messages: those arrived and not written, and the records not acknowledged (11 R332). -/
def Block.openSevs (b : Block) : List Nat := b.wsh.held.map (·.sev) ++ b.wsh.unack.map (fun r => r.msg.sev)

/-- FAULT_N[1:0]: 0b11 minus the highest severity, Corrected counting as none (11 R332); 0b00 while REFCLK is lost (21 R506). -/
def Block.faultN (b : Block) : Nat :=
  if b.wsh.refLost || b.fatal then 0
  else
    let m := b.openSevs.foldl max 0
    if m ≤ 0 then 3 else 3 - min 3 m

/-- An event ring is set up. -/
def Block.evtOn (b : Block) : Bool := (List.range 4).any (fun i => (b.ring (16 + i)).en)

/-- FAB_ALERT_N is driven low (11 R333). -/
def Block.alertLow (b : Block) : Bool :=
  (List.range 4).any (fun i => (b.ring (16 + i)).lost != 0) || b.wsh.lost != 0 ||
  (!b.evtOn && (b.wsh.held.any (fun m => 1 ≤ m.sev) || b.wsh.wait.any (fun r => 1 ≤ r.msg.sev)))

/-- Bytes of an event record (11 R326). -/
def recBytes (r : Rec) (phase : Nat) : List Byte :=
  let m := r.msg
  let late := m.time + 6400 < m.arrival
  let flags := phase * 128 + (if r.wrap then 64 else 0) + (if late then 32 else 0) + (if m.forced then 16 else 0)
    + (if m.escalated then 8 else 0) + (if m.ext.isSome then 4 else 0) + m.sev % 4
  leBytes r.seq 4 ++ leBytes flags 1 ++ leBytes m.kind 1 ++ leBytes (m.src % 8192) 2 ++ leBytes m.nodeid.toNat 2 ++ leBytes m.count 2
    ++ leBytes 0 4 ++ leBytes m.time 8 ++ leBytes m.arrival 8 ++ leBytes m.addr.toNat 8 ++ leBytes m.detail.toNat 4 ++ leBytes m.scId 2
    ++ leBytes (m.scTy * 16 + m.profile) 1 ++ leBytes 0 1 ++ leBytes (m.ext.getD 0).toNat 16

end Sys2Proof.Machine
end

