-- ==== Sys2Proof/Machine/Pass.lean ====
section
/-! DEFINITION. Pass ports (spec/09): cable and button, the service sequence, joining, lane rotation and repair, CLOSE, and the
membership table. -/

namespace Sys2Proof.Machine

/-! ### Cable (09 R273 step 1, R278, R280, R284) -/

/-- The cable is gone from a port that carries no traffic, or the cable of a closed one (09 R284). -/
def Block.emptyPort (b : Block) (k : Nat) (blink : Bool) : Block :=
  let b := (b.portTo k 0).modPort k (fun p => { p with
    step := 0, pwr := false, refusal := 0, alertAt := none, openNext := false, wake := false, module := false, flagRead := false, attn := if blink then .slow else .off })
  b.modLink (passAdp k) (fun l => { l with st := .down, attempts := 0 })

/-- A cable is powered and read (09 R273 step 1), at an empty or serviced port, or at a fenced one, which stays so. -/
def Block.cableIn (b : Block) (k : Nat) : Block :=
  let b := (if (b.port k).st = 10 then b else b.portTo k 1).modPort k (fun p => { p with
    step := 1, since := b.now, pwr := true, cmisFails := 0, laneRepairs := 0, mapTx := [], mapRx := [], prop := none, rotStep := none,
    shadowOk := false, mapAck := false, ackDue := false, alertAt := none, rook := false, module := false, flagRead := false, wake := false })
  b.modLink (passAdp k) (fun l => { l with st := .down, attempts := 0, laneCorr := [], suspects := [] })

/-- PRESENT_N changes, which its filter takes once every sample, one a millisecond, has agreed for PASS_FILTER.PRESENT (09 R278; 17 R458).
CBL_PWR_EN goes low with the cable where the port goes to EMPTY, and stays as it is on a port that CABLE_PULLED fences: R284 names no level
(DESIGN CHOICE, notes/assumptions/108.md). -/
def Block.presence (b : Block) (k : Nat) (present : Bool) : Block :=
  if (b.port k).present == present then b
  else
    let b := b.elapseTo ((b.now / ms + (b.port k).filter.toNat / 2 ^ 22) * ms)
    let p := b.port k
    let b := b.modPort k (fun p => { p with present := present })
    if present then (if p.st = 0 || p.st = 10 then b.cableIn k else b)
    else if p.st ∈ [2, 3, 4, 5, 9] then
      let b := b.modLead (fun l => { l with steerQ := l.steerQ.filter (· != k) })
      (b.modPort k (fun p => { p with fenceCause := 1, alertAt := none })).fault (passAdp k) 0x58 5 k none (detS 5 k 0)
    else if p.st = 6 then (b.emptyPort k true).modPort k (fun p => { p with returning := true })
    else if p.st = 7 then (b.emptyPort k true).modPort k (fun p => { p with returning := true })
    else if p.st = 1 || p.st = 8 then b.emptyPort k false
    else b.modPort k (fun p => { p with step := if p.step = 7 then 7 else 0, module := false })

/-- PRESENCE_CHANGE (09 R278, R284). -/
def execPresenceChange (k : Nat) (present : Bool) (s : State) : Host.Outcome State Fault Refusal :=
  s.on (.presenceChange k present) (fun b => b.presence k present)

/-- The cable is invalid: HELD, its power low (09 R280). A link that runs loses its module and fails by itself (R286). -/
def Block.cableInvalid (b : Block) (k : Nat) : Block :=
  let up := (b.link (passAdp k)).runs
  let b := b.portTo k 8
  let b := b.modPort k (fun p => { p with pwr := false, step := 0, refusal := 0x56, module := false, flagRead := false })
  let b := if up then b else b.modLink (passAdp k) (fun l => { l with st := .down })
  let b := b.portEvent k 0x56 0x56
  b.finishAll (fun f => f.opc == 0x13 && f.scId == k) stTestFailed (fun _ => b.testRes 2 (passAdp k) false false 0)

/-- The module is ready: training starts, of a fenced port with its test (09 R273 step 2; 12 R348). -/
def Block.moduleReady (b : Block) (k : Nat) : Block :=
  let b := b.modPort k (fun p => { p with module := true })
  if (b.port k).st = 10 && (b.scope 5 k).st != 5 then b.modPort k (fun p => { p with step := 0 }) else b.linkStep (passAdp k) .phyTrain

/-- CMIS_READ_DONE (09 R280): a read of the bring-up, or of the flags. -/
def execCmisReadDone (k : Nat) (accepted ready : Bool) (lanes : Nat) (s : State) : Host.Outcome State Fault Refusal :=
  s.on (.cmisReadDone k accepted ready lanes) (fun b =>
    if (b.port k).step != 1 then (if (b.port k).flagRead then b.modPort k (fun p => { p with flagRead := false, cmisFails := 0 }) else b)
    else if !accepted || lanes != 18 then b.cableInvalid k
    else
      let b := b.modPort k (fun p => { p with cmisFails := 0 })
      if ready then b.moduleReady k else b)

/-- CMIS_READ_TIMEOUT (09 R280): a read has not completed in 10 ms; the third in a row makes the cable invalid. -/
def execCmisReadTimeout (k : Nat) (s : State) : Host.Outcome State Fault Refusal :=
  s.on (.cmisReadTimeout k) (fun b =>
    if (b.port k).step != 1 && !(b.port k).flagRead then b
    else
      let b := (b.elapse (10 * ms)).modPort k (fun p => { p with cmisFails := p.cmisFails + 1 })
      if 3 ≤ (b.port k).cmisFails then b.cableInvalid k else b)

/-- MODULE_READY_LIMIT (09 R273 step 1, R280): the module is not ready after 2 s. -/
def execModuleReadyLimit (k : Nat) (s : State) : Host.Outcome State Fault Refusal :=
  s.on (.moduleReadyLimit k) (fun b =>
    if (b.port k).step != 1 then b else (b.elapseTo ((b.port k).since + 2 * second)).cableInvalid k)

/-- What the module's flags say: an alarm is an event and stands; without one the advisory for it ends (09 R280, R281). -/
def Block.moduleFlags (b : Block) (k : Nat) (alarm : Bool) : Block :=
  let b := b.modPort k (fun p => { p with
    flagRead := false, cmisFails := 0, alertAt := if alarm then some (p.alertAt.getD b.now) else none })
  let b := if (b.port k).st = 3 && !b.advised k then b.portTo k 2 else b
  if alarm then b.portEvent k 0x57 0 else b

/-- CABLE_WAKE (09 R278, R280): filtered WAKE_N changes. When it is asserted the module's flags are read: with an answer, or with none yet, so that
CMIS_READ_TIMEOUT may follow. -/
def execCableWake (k : Nat) (w : WakePin) (s : State) : Host.Outcome State Fault Refusal :=
  s.on (.cableWake k w) (fun b =>
    if !(b.port k).present then b
    else
      -- ten samples of 10 us agree (09 R278)
      let b := if (b.port k).wake == (w != .high) then b else b.elapseTo ((b.now / 32000 + 10) * 32000)
      match w with
      | .high => b.modPort k (fun p => { p with wake := false })
      | .low (some x) => (b.modPort k (fun p => { p with wake := true })).moduleFlags k x
      | .low none => b.modPort k (fun p => { p with wake := true, flagRead := true, cmisFails := 0 }))

/-! ### The button and the service sequence (09 R279, R282, R283, R286) -/

/-- The button's filter, and the longest valid press, in ms (17 R458). -/
def Pass.buttonMs (p : Pass) : Nat := p.filter.toNat / 2 ^ 15 % 128
def Pass.maxPress (p : Pass) : Nat := p.filter.toNat / 1024 % 32 * 1000

/-- Training starts from step 1 with the cable that is present (09 R283). -/
def Block.retrainPort (b : Block) (k : Nat) : Block :=
  (b.cableIn k).modPort k (fun p => { p with returning := true, openNext := true })

/-- A press reaches a fenced port: one that waits for it to be reset, or to be readmitted with another far package. -/
def Block.pressable (b : Block) (k : Nat) : Bool :=
  (b.port k).present && ((b.scope 5 k).st == 3 || (b.port k).fenceCause == 3)

/-- A fenced port is reset and tested, one that the stewards had given up too (09 R283; 12 R347, R348); after the join it opens. -/
def Block.repairPort (b : Block) (k : Nat) : Block :=
  let sc := b.scope 5 k
  let b := b.modPort k (fun p => { p with returning := true, openNext := true, fenceCause := 0 })
  if sc.st = 3 then
    b.modScope 5 k (fun sc =>
      if !b.lead.bootRom && sc.swept then { sc with st := 4, retired := false, since := b.now } else { sc with retired := false })
  else b

/-- A port waits for routes with it to be committed (09 R282 step 8; 19 R490). -/
def Block.wantOpen (b : Block) (k : Nat) : Block :=
  let b := b.modPort k (fun p => { p with openNext := true })
  if b.lead.routeOk then b.wantCommit 7 none else b

/-- Step 3 of R282: every member stays reachable without the port, ports in STEERING counted as closed. -/
def Block.serviceOk (b : Block) (k : Nat) : Bool :=
  let f := b.mkFacts none (some (scKey 5 k)) b.lead.profile
  b.members.all (fun kv => kv.1 == b.pkgid || !kv.2.reach || (f.pass.find kv.1).isSome)

/-- Service is refused (09 R282 step 3). -/
def Block.refuseService (b : Block) (k : Nat) : Block :=
  ((b.portTo k 9).modPort k (fun p => { p with refusal := 0x51 })).portEvent k 0x51 0x51

/-- STEERING: routes without the port are committed, one port at a time (09 R282 step 4, R286). -/
def Block.steer (b : Block) (k : Nat) (byCmd : Bool) : Block :=
  let b := (b.portTo k 5).modPort k (fun p => { p with byCmd := byCmd })
  let first := b.lead.steerQ.isEmpty
  let b := b.modLead (fun l => { l with steerQ := l.steerQ ++ [k] })
  if first then b.wantCommit 5 (some (scKey 5 k)) else b

/-- The far end is told of a service that begins here, or of a press that readmits (09 R282 steps 4 and 8). -/
def Block.tellFar (b : Block) (k : Nat) (readmit : Bool) : Block := { b with farOut := .service k readmit :: b.farOut }

/-- A press without effect is counted (09 R279). -/
def Block.ignorePress (b : Block) (k : Nat) : Block := b.modPort k (fun p => { p with ignored := min 65535 (p.ignored + 1) })

/-- A press that counts. -/
def Block.press (b : Block) (k : Nat) : Block :=
  let p := b.port k
  match p.st with
  | 2 | 3 => (b.portTo k 4).portEvent k 0x50 0
  | 4 => b.portTo k (b.openCode k)
  | 7 => (b.tellFar k true).wantOpen k
  | 6 => if p.present then b.retrainPort k else b.ignorePress k
  | 10 => if b.pressable k then b.repairPort k else b.ignorePress k
  | 8 => if (b.link (passAdp k)).st == .active then (b.portTo k 1).modPort k (fun p => { p with step := 6 }) else b.ignorePress k
  | _ => b.ignorePress k

/-- The filtered button is pressed: every sample has agreed for PASS_FILTER.BUTTON (09 R278). -/
def Block.buttonDown (b : Block) (k : Nat) : Block :=
  if (b.port k).button then b
  else
    let b := b.elapseTo ((b.now / ms + (b.port k).buttonMs) * ms)
    b.modPort k (fun p => { p with button := true, pressAt := b.now })

/-- The button is released after it was held for `held` ms: the filter sees no press that is shorter than itself (09 R278, R279). -/
def Block.buttonUp (b : Block) (k held : Nat) : Block :=
  if !(b.port k).button && held < (b.port k).buttonMs then b else
  let b := b.buttonDown k
  let b := b.elapseTo ((b.port k).pressAt + held * ms)
  let p := b.port k
  let b := b.modPort k (fun p => { p with button := false, stuck := false })
  if p.stuck || held < 20 then b
  else if p.maxPress < held then b.portEvent k 0x5A 0
  else b.press k

/-- The port follows the far end's service into STEERING; a press of its own is counted and ignored (09 R282 step 4, R286). -/
def Block.follow (b : Block) (k : Nat) (byCmd : Bool) : Block :=
  let b := if (b.port k).st = 4 then b.ignorePress k else b.portEvent k 0x50 0
  b.steer k byCmd

/-- The far end's service begins, or a press there readmits the cable (09 R282 steps 4 and 8). -/
def Block.farPress (b : Block) (k : Nat) : Block :=
  if (b.port k).st = 7 then b.wantOpen k
  else if (b.port k).st ∈ [2, 3, 4, 9] then b.follow k false
  else b

/-- BUTTON_PRESS (09 R279, R282): the filtered button is pressed, or released after a time; or the far package reports one of its end that
counts. -/
def execButtonPress (k : Nat) (p : Press) (s : State) : Host.Outcome State Fault Refusal :=
  s.on (.buttonPress k p) (fun b =>
    match p with
    | .up t => b.buttonUp k t
    | .far => b.farPress k
    | .down => b.buttonDown k)

/-- BUTTON_STUCK (09 R279): the button is still held at the longest valid press. -/
def execButtonStuck (k : Nat) (s : State) : Host.Outcome State Fault Refusal :=
  s.on (.buttonStuck k) (fun b =>
    if (b.port k).stuck then b
    else
      let b := b.buttonDown k
      ((b.elapseTo ((b.port k).pressAt + (b.port k).maxPress * ms)).modPort k (fun p => { p with stuck := true })).portEvent k 0x5A 0)

/-- ABORT_WINDOW_END (09 R282 steps 2 to 4): 5 s after the press. -/
def execAbortWindowEnd (k : Nat) (s : State) : Host.Outcome State Fault Refusal :=
  s.on (.abortWindowEnd k) (fun b =>
    if (b.port k).st != 4 then b
    else
      let b := b.elapseTo ((b.port k).since + 5 * second)
      if b.serviceOk k then (b.tellFar k false).steer k false else b.refuseService k)

/-- STEERING_LIMIT (09 R282 step 4): 1 s in STEERING; the port closes anyway, and the commit is retried. -/
def execSteeringLimit (k : Nat) (s : State) : Host.Outcome State Fault Refusal :=
  s.on (.steeringLimit k) (fun b =>
    if (b.port k).st != 5 then b
    else
      let b := b.elapseTo ((b.port k).since + second)
      (b.closePort k (if (b.port k).byCmd then 2 else 1)).wantCommit 5 (some (scKey 5 k)))

/-- CABLE_POWER_OFF (09 R282 step 5): 100 ms after the port closed. -/
def execCablePowerOff (k : Nat) (s : State) : Host.Outcome State Fault Refusal :=
  s.on (.cablePowerOff k) (fun b =>
    if (b.port k).st != 6 || !(b.port k).pwr then b
    else (b.elapseTo ((b.port k).since + 100 * ms)).modPort k (fun p => { p with pwr := false }))

/-- INDICATOR_TIMER (09 R281): 10 s of a shown refusal, 60 min of blinking, or 1 min of an alert. -/
def execIndicatorTimer (k : Nat) (s : State) : Host.Outcome State Fault Refusal :=
  s.on (.indicatorTimer k) (fun b =>
    let p := b.port k
    if p.st = 9 then (let b := b.elapseTo (p.since + 10 * second); b.portTo k (b.openCode k))
    else if p.st = 0 && p.attn == .slow then
      (b.elapseTo (p.since + 3600 * second)).modPort k (fun p => { p with attn := .off })
    else match p.alertAt with
      | some t => if p.st = 2 then (b.elapseTo (t + 60 * second)).advise k else b
      | none => b)

/-- A CLOSE frame is received (09 R269, R284, R286): cause 3 fences the port; else the port follows into STEERING. -/
def Block.closeIn (b : Block) (k cause : Nat) : Block :=
  let p := b.port k
  if cause = 3 && p.st ∈ [1, 2, 3, 4, 5, 7, 8, 9] then
    let b := b.modLead (fun l => { l with steerQ := l.steerQ.filter (· != k) })
    (b.modPort k (fun p => { p with fenceCause := 2 })).fault (passAdp k) 0x59 5 k none (detS 5 k 0)
  else if (cause = 1 || cause = 2) && p.st ∈ [2, 3, 4, 9] then b.follow k (cause == 2)
  else b

/-- CLOSE_RECEIPT (09 R269). -/
def execCloseReceipt (k cause : Nat) (s : State) : Host.Outcome State Fault Refusal :=
  s.on (.closeReceipt k cause) (fun b => b.closeIn k cause)

/-! ### Joining (09 R272-R276; 01 R35; 19 R490) -/

/-- The kind with which a join is refused (09 R274): none where the tables agree. A cable whose two ends are on one package is a conflict,
however many members there are. -/
def Block.joinRefusal (b : Block) (k : Nat) (far : List FarMember) : Option Nat :=
  let own (i : Nat) : Option Nat := (b.members.find i).map (·.serial)
  let q := (b.port k).far
  let loop := match q with | some (_, ser) => ser == b.fuseSerial | none => true
  let same := match q with | some (q, _) => q == b.pkgid | none => true
  let clash := far.any (fun m => (match own m.id with | some x => x != m.serial | none => false)
    || far.any (fun m' => m'.id == m.id && m'.serial != m.serial))
  if loop then some 0x52
  else if !same && !clash then none
  else if 16 ≤ b.members.length || 16 ≤ (far.map (·.id)).dedup.length then some 0x53 else some 0x52

/-- A row of another package's table, over what is known of that member. -/
def rowOver (x : FarMember) (m : Option Member) : Member :=
  match m with
  | some m => { m with serial := x.serial, prio := x.prio, nbrs := x.nbrs }
  | none => { serial := x.serial, prio := x.prio, reach := true, nbrs := x.nbrs }

/-- Another table is taken over, but for the row of this package; `whole`: it is the leader's, and what it does not list is gone (09 R272). -/
def Block.takeTable (b : Block) (far : List FarMember) (whole : Bool) : Block :=
  let kept := b.members.filter (fun kv => !whole || kv.1 = b.pkgid || far.any (fun x => x.id == kv.1))
  { b with members := far.foldl (fun (m : SMap Member) x => if x.id = b.pkgid then m else m.set x.id (rowOver x (m.find x.id))) kept }

/-- The far table is merged (09 R274); the way to its members leads over this port. -/
def Block.mergeMembers (b : Block) (far : List FarMember) (q : Nat) : Block :=
  let b := b.takeTable far false
  { b with members := b.members.mapVals (fun i m =>
      let m := if far.any (fun x => x.id == i) then { m with reach := true } else m
      if i = b.pkgid && !m.nbrs.contains q then { m with nbrs := m.nbrs ++ [q] } else m) }

/-- The membership table as it is sent: ID, SERIAL, PRIO (09 R272). -/
def Block.tableRows (b : Block) : List (Nat × Nat × Nat) := b.members.map (fun kv => (kv.1, kv.2.serial, kv.2.prio))

/-- The lead steward of the time leader distributes a change of the table to every member it reaches (09 R272); that of another package passes
a change of its own, `own`, on to it. -/
def Block.spreadTable (b : Block) (own : Bool) : Block :=
  let to_ := if b.time.leader then (b.members.filter (fun kv => kv.1 != b.pkgid && kv.2.reach)).map (·.1)
    else if own then [b.leaderPkg] else []
  to_.foldl (fun (b : Block) q => { b with farOut := .table q b.tableRows :: b.farOut }) b

/-- The number of members has changed: ports that 01 R35 now bars leave routing, and ports that it barred may enter it. -/
def Block.watchRook (b : Block) : Block :=
  (List.range 8).foldl (fun b k =>
    let p := b.port k
    if b.rookBarred k && p.st ∈ [2, 3, 4, 7, 9] then (b.rookHold k).wantCommit 7 none
    else if !b.rookBarred k && p.rook && p.st = 8 then
      ((b.portTo k 1).modPort k (fun p => { p with rook := false, refusal := 0, step := 7 })).wantOpen k
    else b) b

/-- The table has changed: election, distribution, and the ports that the size of the system bars (01 R35; 09 R272, R276). -/
def Block.tableChanged (b : Block) (own : Bool) : Block := (b.elect.spreadTable own).watchRook

/-- A join is accepted or refused. On a port that carries traffic, a table comes from the leader as it distributes it, or to the leader with a change
that another package made (09 R272). -/
def Block.join (b : Block) (k d : Nat) (far : List FarMember) : Block :=
  let p := b.port k
  if p.st ∈ [2, 3, 4, 5, 9] && !b.lead.bootRom && !b.lead.restarting then
    (b.takeTable far (!b.time.leader)).tableChanged false
  else if !(p.st = 1 || p.st = 10) || p.step != 6 || (b.link (passAdp k)).st != .active || b.lead.bootRom || b.lead.restarting then b
  else
    let q := match p.far with | some (q, _) => q | none => 0
    let b := { b with farOut := .table q b.tableRows :: b.farOut }
    if 1920 < d then
      let b := (b.modPort k (fun p => { p with refusal := 0x54 })).event (passAdp k) 0x54 none (detT d)
      b.finishAll (fun f => f.opc == 0x13 && f.scId == k) stTestFailed (fun _ => b.testRes 3 (passAdp k) false false 0)
    else match b.joinRefusal k far with
    | some kind =>
      let b := ((b.portTo k 8).modPort k (fun p => { p with refusal := kind })).portEvent k kind kind
      b.finishAll (fun f => f.opc == 0x13 && f.scId == k) (if kind = 0x53 then stIdExhausted else stIdConflict) (fun _ => b.returnRes k)
    | none =>
      let b := (b.mergeMembers far q).modPort k (fun p => { p with step := 7, refusal := 0, rook := false })
      let b := b.tableChanged true
      if b.rookBarred k then b.rookHold k
      else if p.st = 10 then b
      else if p.returning && !p.openNext then b.portTo k 7
      else b.wantOpen k

/-- JOIN (09 R274): the first exchange measured `d`, and the far table is `far`. -/
def execJoin (k d : Nat) (far : List FarMember) (s : State) : Host.Outcome State Fault Refusal :=
  s.on (.join k d far) (fun b => b.join k d far)

/-- MEMBER_TIMEOUT (09 R272): no path has reached the package for 10 s. -/
def execMemberTimeout (i : Nat) (s : State) : Host.Outcome State Fault Refusal :=
  s.on (.memberTimeout i) (fun b =>
    match b.members.find i with
    | some m =>
      if m.reach || i = b.pkgid then b
      else
        let b := b.elapseTo (m.since + 10 * second)
        ({ b with members := b.members.erase i }).tableChanged true
    | none => b)

/-! ### Lane rotation and repair (09 R268, R270, R271; 12 R360) -/

/-- A rotation may start: the port carries traffic, a spare is idle, none runs (09 R270, R271, R286). -/
def Block.rotReady (b : Block) (k : Nat) : Bool :=
  let p := b.port k
  p.st ∈ [2, 3, 4, 9] && (b.link (passAdp k)).runs && (idleSpare p.mapTx).isSome && p.rotStep.isNone && p.prop.isNone

/-- LANE_ROTATION_START (09 R270): each 625 ms; the rotations of a `CALIBRATE` follow one another. A rotation whose compare has
not been confirmed by then has failed. -/
def execLaneRotationStart (k : Nat) (s : State) : Host.Outcome State Fault Refusal :=
  s.on (.laneRotationStart k) (fun b =>
    let b := if (b.port k).calLeft = 0 then b.elapseTo ((b.now / (625 * ms) + 1) * (625 * ms)) else b
    let b := b.rotFail k
    if b.rotReady k then b.rotStepTo k 1 else b)

/-- A suspect physical lane of the sending direction is replaced for good, at the next map change (09 R271). -/
def Block.laneRepair (b : Block) (k lane : Nat) : Block :=
  let m := (b.port k).restMap
  let b := b.rotFail k
  let code := laneCode m lane
  if code == 0x10 then
    -- an idle spare that has failed its pattern test is retired (13 R374)
    (if b.effProfile != 11 || (b.port k).rotStep.isSome then b
     else (b.modPort k (fun x => { x with rotStep := some (8, b.now) })).propose k ((ofLaneBytes (laneBytes m)).set lane 0x11))
  else
  match idleSpare m with
  | some s =>
    if code < 16 && !(b.port k).rotStep.any (fun x => x.1 == 8) then
      (b.modPort k (fun x => { x with rotStep := some (8, b.now) })).propose k (((ofLaneBytes (laneBytes m)).set s code).set lane 0x11)
    else b
  | none => b

/-- SHADOWOK of the far side: the compare has passed. -/
def Block.shadowPassed (b : Block) (k : Nat) : Block :=
  let p := b.port k
  match p.rotStep, p.prop with
  | some (2, _), none => b.rotStepTo k 3
  | some (5, _), none => b.rotStepTo k 6
  | _, _ => b

/-- An ALIGN frame is received (09 R268, R270, R271): the far map in force, its proposal, which MAPACK answers, its acknowledgement and compare of
the own direction, and a lane of it that is suspect. A suspect lane that the far side has taken out is no longer reported. -/
def Block.alignIn (b : Block) (k num at_ : Nat) (m pr : List Nat) (ack shadow : Bool) (suspect : Option Nat) : Block :=
  if !(b.link (passAdp k)).runs || b.linkStopped (passAdp k) then b
  else
    let due := at_ != 0xFFFF && pr != m
    let b := b.modPort k (fun p => { p with
      alignRx := num, mapRx := ofLaneBytes m, ackDue := due, shadowOk := p.shadowOk && !due, mapAck := p.mapAck || (ack && p.prop.isSome) })
    let b := b.modLink (passAdp k) (fun l => { l with suspects := l.suspects.filter (fun x => m.getD x 0 != 0x11) })
    let b := b.advise k
    let b := if shadow then b.shadowPassed k else b
    match suspect with
    | some l => if laneCode (b.port k).mapTx l ≤ 0x10 || laneCode (b.port k).mapTx l ≥ 0x20 then b.laneRepair k l else b
    | none => b

/-- ALIGN_RECEIPT (09 R268). -/
def execAlignReceipt (k num at_ : Nat) (m pr : List Nat) (ack shadow : Bool) (suspect : Option Nat) (s : State) :
    Host.Outcome State Fault Refusal :=
  s.on (.alignReceipt k num at_ m pr ack shadow suspect) (fun b => b.alignIn k num at_ m pr ack shadow suspect)

/-- SHADOW_COMPARE_DONE (09 R270 step 2): the receiver has compared a lane with its copy over 8 patterns. With no copy on its way it is the pattern
test of an idle spare in profile 11, which has no row of its own: one that fails is suspect (13 R374; DESIGN CHOICE, notes/assumptions/95.md). -/
def execShadowCompareDone (k : Nat) (ok : Bool) (s : State) : Host.Outcome State Fault Refusal :=
  s.on (.shadowCompareDone k ok) (fun b =>
    match (laneBytes (b.port k).mapRx).find? (fun c => 0x20 ≤ c) with
    | none => (match idleSpare (b.port k).mapRx with
      | some p => if ok || b.effProfile != 11 || (b.link (passAdp k)).suspects.contains p then b
        else (b.modLink (passAdp k) (fun l => { l with suspects := l.suspects ++ [p] })).event (passAdp k) 0x25 none (detLink (passAdp k) 0 p 0)
      | none => b)
    | some c =>
      if ok then b.modPort k (fun p => { p with shadowOk := true })
      else b.event (passAdp k) 0x28 none (detLink (passAdp k) 0 (c - 0x20) 0))

/-- PASS_LANE_CALIBRATION_DONE (09 R270 step 4). -/
def execPassLaneCalibrationDone (k : Nat) (s : State) : Host.Outcome State Fault Refusal :=
  s.on (.passLaneCalibrationDone k) (fun b =>
    match (b.port k).rotStep with
    | some (4, _) => b.rotStepTo k 5
    | _ => b)

/-- PASS_LANE_CALIBRATION_LIMIT (09 R270 step 4): 2 ms. -/
def execPassLaneCalibrationLimit (k : Nat) (s : State) : Host.Outcome State Fault Refusal :=
  s.on (.passLaneCalibrationLimit k) (fun b =>
    match (b.port k).rotStep with
    | some (4, t) => (b.elapseTo (t + 2 * ms)).rotFail k
    | _ => b)

end Sys2Proof.Machine
end

