-- ==== Sys2Proof/Machine/Time.lean ====
section
/-! DEFINITION. Fabric Time across packages and outside (spec/07): apply boundaries, the exchange with the parent, the loop, PPS and
the time stamp pins. -/

namespace Sys2Proof.Machine

/-! ### Steps and apply boundaries (07 R213, R221, R225; 16 R442) -/

/-- The apply boundary at which a k loaded at `ft` takes effect (07 R213). -/
def applyAt (ft : Nat) : Nat := if ft % 4194304 < 0x200000 then nextMark ft 0 else nextMark ft 0 + 4194304

/-- k is loaded into the I/O-die time base for the next apply boundary; one for an earlier boundary still applies there (07 R213, R232). -/
def Block.loadK (b : Block) (k : Int) : Block :=
  b.modTb 12 (fun t =>
    let x := applyAt t.ft
    match t.kNext with
    | some (y, _) => if y < x then { t with kLater := some (x, k) } else { t with kNext := some (x, k) }
    | none => { t with kNext := some (x, k) })

/-- Step every time base of the package by `n`, which may make packets in flight overdue, and raise TIME_STEP (04 R123; 07 R225). -/
def Block.stepAll (b : Block) (n : Int) : Block :=
  let b := ((List.range 13).foldl (fun b d => b.modTb d (fun t =>
      let t := t.put (((t.ft : Int) + n).toNat % 2 ^ 64)
      { t with applied := t.ft / 4194304 * 4194304 })) b).ageAll
  b.event b.leadSrc 0x32 none (detT n)

/-- The loop of 07 R221 on an offset theta. -/
def Block.timeLoop (b : Block) (theta : Int) : Block :=
  let t := b.time
  if !t.locked || 320 < theta.natAbs then b.modTime (fun t => { t with pendStep := -theta, loopStep := true, locked := true })
  else
    let f := clampTo 858993 (t.f - theta * 256)
    let k := clampTo 2147484 (f - theta * 1024)
    let b := (b.modTime (fun t => { t with f := f })).loadK k
    let soon := match t.rateLimAt with | some x => decide (b.now < x + second) | none => false
    if f.natAbs = 858993 then
      (if soon then b.suppress b.leadSrc 0x35
       else (b.event b.leadSrc 0x35 none (detT f)).modTime (fun t => { t with rateLimAt := some b.now }))
    else b

/-- The apply boundary of a compute die, by Fabric Time `at_`: the k of its exchange, and a step of more than 1 FCLK (07 R213, R214). -/
def Block.dieApply (b : Block) (d at_ : Nat) : Block :=
  let t := b.tb d
  match t.kNext with
  | some (x, k) =>
    if at_ < x then b
    else
      let b := b.modTb d (fun t => { t with k := k, kNext := none, step := 0 }.put ((t.ft : Int) + t.step).toNat)
      if t.step = 0 then b else b.ageAll.event (src d 466) 0x32 none (detT t.step)
  | none => b

/-- The apply boundary of the I/O die: k, a pending set or step, and adjustments (07 R213, R225, R232; 16 R441, R442). A
step answers the first value under the new time, a slew its boundary. Before a step the compute dies, which stand at the same boundary,
take their k. -/
def Block.packageBoundary (b : Block) : Block :=
  let t := b.time
  let ft := b.ft 12
  let total := t.pendStep + t.pendAdj
  let stepped := t.steps
  let k := b.kDue ft
  let b := b.modTb 12 (fun x =>
    let due := match x.kNext with | some (y, _) => decide (y ≤ ft) | none => true
    { x with k := k, kNext := if due then x.kLater else x.kNext, kLater := if due then none else x.kLater })
  let b := if stepped then (List.range 12).foldl (fun b d => b.dieApply d ft) b else b
  let b := b.modTime (fun t => { t with pendStep := 0, loopStep := false, pendSet := none, pendAdj := t.adjLater, adjLater := 0, accSince := false, fOld := t.f })
  let b := match t.pendSet with
    | some v => b.stepAll ((v : Int) - ft + t.pendAdj)
    | none => if stepped then b.stepAll total else b
  let b := b.finishAll (fun f => (f.opc == 0x1C && f.a == 0) || (f.opc == 0x1D && f.b == 0)) stOk
    (fun _ => [(16, 8, if stepped then b.ft 12 else ft / 4194304 * 4194304)])
  b.modLead (fun l => { l with flights := l.flights.map (fun f => if f.opc == 0x1D then { f with b := 0 } else f) })

/-- TIME_APPLY_BOUNDARY (07 R213): the next Fabric Time of the die whose bits 21:0 are zero. -/
def execTimeApplyBoundary (d : Nat) (s : State) : Host.Outcome State Fault Refusal :=
  s.on (.timeApplyBoundary d) (fun b =>
    let x := markFrom (b.ft d) 0 (b.tb d).applied
    let b := (b.elapseFt d x).modTb d (fun t => { t with applied := x })
    if d = 12 then b.packageBoundary else b.dieApply d (b.ft d))

/-! ### The exchange with the parent (07 R219-R221) -/

/-- A TIME frame leaves a Pass port: a request with t1, or a reply with t2 and t3 (09 R269). -/
def Block.putPassTime (b : Block) (k kind n t2 t3 : Nat) : Block :=
  let l := b.link (passAdp k)
  b.putPass k (plainFrame .time l.next l.ackNo (passTimeCont kind n t2 t3))

/-- The follower sends its request each millisecond (07 R219 step 1), once its parent port is up: a resting one wakes for it, an entry that runs is
aborted (09 R285; 10 R295, R297). -/
def Block.passExchange (b : Block) : Block :=
  match b.time.parent with
  | none => b
  | some k =>
    let a := passAdp k
    if b.time.leader || b.time.exch.isSome then b
    else
      let b := if b.time.exchDue then b else b.elapseTo ((b.now / ms + 1) * ms)
      let b := (b.modTime (fun t => { t with exchDue := true })).timeWake a
      if (b.link a).st != .active || !b.carries a then b
      else
        let n := b.time.exchNum
        let b := (b.modTime (fun t => { t with exch := some ⟨n, b.ft 12, b.now⟩, exchNum := (n + 1) % 256, exchDue := false })).touch a
        b.putPassTime k 0x11 n (b.ft 12) 0

/-- PASS_TIME_EXCHANGE (07 R219): each 1 ms. -/
def execPassTimeExchange (s : State) : Host.Outcome State Fault Refusal :=
  s.on .passTimeExchange (fun b => b.passExchange)

/-- A request is received: the parent records t2 and t3 and replies (07 R219 steps 2, 3). -/
def Block.passRequest (b : Block) (k n : Nat) : Block :=
  if !(b.link (passAdp k)).runs || b.linkStopped (passAdp k) then b
  else (b.touch (passAdp k)).putPassTime k 0x12 n (b.ft 12) (b.ft 12)

/-- PASS_TIME_REQUEST (07 R219). -/
def execPassTimeRequest (k n t1 : Nat) (s : State) : Host.Outcome State Fault Refusal :=
  s.on (.passTimeRequest k n t1) (fun b => b.passRequest k n)

/-- The smallest d accepted in the last 16 exchanges of a port (07 R220); none where none of them was accepted. -/
def TimeSys.leastD (t : TimeSys) (k : Nat) : Option Nat :=
  ((t.ds.get [] k).filterMap id).foldl (fun m d => some (match m with | some x => min x d | none => d)) none

/-- The reply is received (07 R219 step 4, R220, R221). R219 states no rounding of an odd sum, and no d below zero: theta and d round toward
zero, and d is at least 0 (DESIGN CHOICE, notes/assumptions/84.md). With no exchange accepted in the last 16 nothing bounds d, and the exchange is
accepted (DESIGN CHOICE, notes/assumptions/86.md). -/
def Block.passReply (b : Block) (n t2 t3 : Nat) : Block :=
  match b.time.exch, b.time.parent with
  | some x, some k =>
    if x.num != n then b
    else
      let t4 := b.ft 12
      let theta := (((t4 : Int) - t3) - ((t2 : Int) - x.t1)).tdiv 2
      let d := ((((t2 : Int) - x.t1) + ((t4 : Int) - t3)).tdiv 2).toNat
      let t := b.time
      let ok := t.fresh || (match t.leastD k with | some y => decide (d ≤ y + 32) | none => true)
      if !ok then b.exchangeBad k
      else
        (b.modTime (fun t => { t.note k (some d) with
          exch := none, fresh := false, d := d, theta := theta, badRun := 0, lastAcc := b.now, accSince := true,
          holdover := false })).timeLoop theta
  | _, _ => b

/-- PASS_TIME_REPLY (07 R221). -/
def execPassTimeReply (n t2 t3 : Nat) (s : State) : Host.Outcome State Fault Refusal :=
  s.on (.passTimeReply n t2 t3) (fun b => b.passReply n t2 t3)

/-- PASS_TIME_LOSS (07 R220): 100 us without a reply. -/
def execPassTimeLoss (s : State) : Host.Outcome State Fault Refusal :=
  s.on .passTimeLoss (fun b =>
    match b.time.exch, b.time.parent with
    | some x, some k => (b.elapseTo (x.at_ + 320000)).exchangeBad k
    | _, _ => b)

/-- TIME_HOLDOVER (07 R221): a follower has had no accepted exchange for 100 ms. -/
def execTimeHoldover (s : State) : Host.Outcome State Fault Refusal :=
  s.on .timeHoldover (fun b =>
    if b.time.leader || b.time.holdover then b
    else
      let b := (b.elapseTo (b.time.lastAcc + 100 * ms)).modTime (fun t => { t with holdover := true })
      b.event b.leadSrc 0x36 none (detT b.time.f))

/-! ### PPS and time stamps (07 R223, R224; 17 R453; 21 R507) -/

/-- PPS_REJECTED, at most once per second (07 R223). -/
def Block.ppsReject (b : Block) (gap : Nat) : Block :=
  let soon := match b.time.ppsRejAt with | some x => decide (b.now < x + second) | none => false
  if soon then b.suppress (ioSrc 478) 0x37
  else (b.event (ioSrc 478) 0x37 none (detT gap)).modTime (fun t => { t with ppsRejAt := some b.now })

/-- A PPS_IN edge at the time leader. -/
def Block.ppsEdge (b : Block) : Block :=
  let t := b.time
  if !t.leader || !(t.ppsArmed || t.ppsWait.isSome) then b
  else
    let gap := match t.ppsLast with | some x => some (b.now - x) | none => none
    let bad := match gap with | some g => decide (g < 900 * ms ∨ 1100 * ms < g) | none => false
    if bad then b.ppsReject (gap.getD 0)
    else
      let b := b.modTime (fun t => { t with ppsLast := some b.now })
      match t.ppsWait with
      | some (v, _) =>
        let b := b.stepAll ((v : Int) - b.ft 12)
        let b := b.modTime (fun t => { t with ppsWait := none, ppsArmed := true, ppsV := v })
        b.finishAll (fun f => f.opc == 0x1C && f.a == 1) stOk (fun _ => [(16, 8, v)])
      | none =>
        let ft := b.ft 12
        let n := (((ft : Int) - t.ppsV) + second / 2) / second
        let theta := (ft : Int) - (t.ppsV + n * second)
        (b.modTime (fun t => { t with theta := theta, accSince := true })).timeLoop theta

/-- PPS_IN_EDGE (07 R223). -/
def execPpsInEdge (s : State) : Host.Outcome State Fault Refusal :=
  s.on .ppsInEdge (fun b => b.ppsEdge)

/-- PPS_OUT_SECOND (07 R224): Fabric Time reaches a multiple of a second, or stands at one for which PPS_OUT has not been driven. -/
def execPpsOutSecond (s : State) : Host.Outcome State Fault Refusal :=
  s.on .ppsOutSecond (fun b =>
    let m := b.ft 12 / second * second
    let x := if b.ft 12 < m + 2 && b.ts.ppsAt != some m then m else m + second
    let b := b.elapseFt 12 x
    { b with ts := { b.ts with ppsOutTo := b.ft 12 + us, ppsAt := some x } })

/-- One more in TIME_TS_COUNT, saturating (17 R452). -/
def TsPins.more (t : TsPins) : TsPins := { t with count := min 0xFFFFFFFF (t.count + 1) }

/-- A TS_CAPTURE event for a capture: its record carries the capture's time (07 R224). -/
def Block.captureEvent (b : Block) (cap : Nat) : Block :=
  let b := b.send { b.mkMsg (ioSrc 478) 0x38 0 none 0 with time := cap }
  { b with ts := { b.ts with waiting := none, lastEv := some (b.ft 12) } }

/-- A rising edge on TS_IN. -/
def Block.tsEdge (b : Block) : Block :=
  let near := match b.ts.lastEdge with | some x => decide (b.now < x + 160) | none => false
  let b := { b with ts := { b.ts with lastEdge := some b.now } }
  if near then { b with ts := b.ts.more }
  else
    let ft := b.ft 12
    let b := { b with ts := { b.ts with capture := ft } }
    let soon := match b.ts.lastEv with | some x => decide (ft < x + ms) | none => false
    if !soon then b.captureEvent ft
    else { b with ts := { (if b.ts.waiting.isSome then b.ts.more else b.ts) with waiting := some ft } }

/-- TS_IN_EDGE (07 R224). -/
def execTsInEdge (s : State) : Host.Outcome State Fault Refusal :=
  s.on .tsInEdge (fun b => b.tsEdge)

/-- TS_CAPTURE (07 R224): the waiting capture's event is raised 1 ms after the last. -/
def execTsCapture (s : State) : Host.Outcome State Fault Refusal :=
  s.on .tsCapture (fun b =>
    match b.ts.waiting with
    | some cap => (b.elapseFt 12 (b.ts.lastEv.getD 0 + ms)).captureEvent cap
    | none => b)

/-- TS_COMPARE_MATCH (07 R224; 17 R453): Fabric Time reaches TIME_TS_COMPARE, and TS_OUT pulses once. -/
def execTsCompareMatch (s : State) : Host.Outcome State Fault Refusal :=
  s.on .tsCompareMatch (fun b =>
    if !b.ts.armed then b
    else
      let b := b.elapseFt 12 b.ts.compare
      { b with ts := { b.ts with armed := false, tsOutTo := b.ft 12 + 320 } })

/-- TIME_SET_PPS_TIMEOUT (07 R232): 2 s without a pulse. -/
def execTimeSetPpsTimeout (s : State) : Host.Outcome State Fault Refusal :=
  s.on .timeSetPpsTimeout (fun b =>
    match b.time.ppsWait with
    | some (_, t) =>
      let b := (b.elapseTo (t + 2 * second)).modTime (fun t => { t with ppsWait := none })
      b.finishAll (fun f => f.opc == 0x1C && f.a == 1) stTimeout (fun _ => [])
    | none => b)

end Sys2Proof.Machine
end

