-- ==== Sys2Proof/Machine/Observe.lean ====
section
/-! DEFINITION. The switch of Tollgates, telemetry, cairn slots and the timers of rings (spec/05 R161-R163, 15 R416, R418,
18). -/

namespace Sys2Proof.Machine

/-! ### Gate lists (05 R161-R163) -/

/-- GATE_SWITCH (05 R161): the die's Fabric Time reaches S. -/
def execGateSwitch (n : Nat) (s : State) : Host.Outcome State Fault Refusal :=
  s.on (.gateSwitch n) (fun b =>
    match (b.gate n).pend with
    | some (t, base) =>
      let b := b.elapseFt (dieOf n) t
      (if b.rests n then b else b.switchGate n base).gatesDone
    | none => b)

/-- SWITCH_INSTANT_RECEIPT (05 R163). -/
def execSwitchInstantReceipt (n : Nat) (s : State) : Host.Outcome State Fault Refusal :=
  s.on (.switchInstantReceipt n) (fun b => (if b.rests n then b else b.switchIn n true).gatesDone)

/-! ### Telemetry (18) -/

/-- The bandwidth record of an element (18 R473). -/
def Block.bandwidth (b : Block) (e : Nat) : Block :=
  let d := dieOf e
  let w := b.telWindow e * us
  let b := b.elapseFt d ((b.ft d / w + 1) * w)
  let t := (b.elem e).tel
  let word (i at_ : Nat) : Nat × Nat × Nat := (at_, 4, t.counts.get 0 i)
  let b := if b.telEnable e / 2 % 2 = 1 && b.carries e && !b.elemFenced e then
      b.emit e (b.telRing e) 2 0 ((4, 8, b.ft d) :: (List.range 6).map (fun i => word i (12 + 4 * i)) ++
        (List.range 6).map (fun i => word (6 + i) (36 + 4 * i)) ++ [(60, 4, b.telWindow e)]) else b
  b.modElem e (fun el => { el with tel := { el.tel with
    counts := [], window := el.tel.nextWindow.getD el.tel.window, nextWindow := none } })

/-- BANDWIDTH_WINDOW_END (18 R473). -/
def execBandwidthWindowEnd (e : Nat) (s : State) : Host.Outcome State Fault Refusal :=
  s.on (.bandwidthWindowEnd e) (fun b => b.bandwidth e)

/-- One step of the LFSR x^16 + x^14 + x^13 + x^11 + 1 (18 R474). -/
def lfsrStep (v : Nat) : Nat :=
  let bit := (v ^^^ (v / 4) ^^^ (v / 8) ^^^ (v / 32)) % 2
  v / 2 + bit * 32768

/-- A sample of an input VC (18 R475). -/
def Block.sampleOf (b : Block) (r p vc o : Nat) : Nat :=
  let v := (b.elem r).vc p vc
  let front := v.q.head?
  p * 2 ^ 29 + vc * 2 ^ 24 + min 7 v.q.length * 2 ^ 21
    + (match front with | some f => if effAge (b.ftOf r) f == 4095 then 2 ^ 20 else 0 | none => 0)
    + (if front.isNone then 0 else min 4095 (v.wait / 16)) * 256 + o

/-- The sample of the next period (18 R474, R475); a router that takes none steps its LFSR all the same. -/
def Block.queueSample (b : Block) (r : Nat) : Block :=
  let t := (b.elem r).tel
  let l := lfsrStep (t.lfsr.getD ((r + 1) % 65536))
  if !b.carries r then b
  else if b.telEnable r % 2 = 0 || b.elemFenced r then
    (b.elapseFt (dieOf r) ((b.ftOf r / 1024 + 1) * 1024)).modElem r (fun el => { el with tel := { el.tel with lfsr := some l } })
  else
    let o := l % 256
    let start := (b.ftOf r / 1024 + 1) * 1024
    let b := b.elapseFt (dieOf r) (start + 4 * o)
    let nvc := vcCount r
    let all := b.immProfile == 11
    let ports := match t.onlyPort with | some p => if all then List.range 6 else [p] | none => List.range 6
    let vcs := if all then (let p := ports.getD (t.rot % ports.length) 0; (List.range nvc).map (fun v => (p, v)))
      else (let i := t.rot % (ports.length * nvc); [(ports.getD (i / nvc) 0, i % nvc)])
    let new := vcs.map (fun x => b.sampleOf r x.1 x.2 o)
    let b := if !t.samples.isEmpty && 12 < t.samples.length + new.length then b.emitSamples r else b
    let b := b.modElem r (fun el =>
      let x := el.tel
      { el with tel := { x with
        lfsr := some l, rot := x.rot + 1, start := if x.samples.isEmpty then start else x.start,
        periods := if x.samples.isEmpty then 1 else x.periods + 1, samples := x.samples ++ new } })
    let b := if 12 ≤ (b.elem r).tel.samples.length then b.emitSamples r else b
    if 12 ≤ (b.elem r).tel.samples.length then b.emitSamples r else b

/-- QUEUE_SAMPLE (18 R474). -/
def execQueueSample (r : Nat) (s : State) : Host.Outcome State Fault Refusal :=
  s.on (.queueSample r) (fun b => b.queueSample r)

/-- FCLKs that counters 62 and 63 of a router hold together (18 R463). -/
def Block.onCount (b : Block) (r : Nat) : Nat :=
  let f := (b.elem r).onFrom
  if b.domSt r = 4 || b.domSt r = 7 then f else b.now - f

/-- A wrap record (18 R476), sent while ENABLE is not zero. -/
def Block.wrapRecord (b : Block) (e c n : Nat) : Block :=
  if b.telEnable e = 0 then b
  else b.emit e (b.telRing e) 3 0 [(4, 8, b.ftOf e), (12, 1, c), (16, 4, min 0xFFFFFFFF n)]

/-- A counter wraps: one that has counted past 2^48 is reported; counter 62 of a router carries into 63 (18 R463, R476). -/
def Block.counterWrap (b : Block) (e c : Nat) : Block :=
  if isRouter e && 62 ≤ c then
    let w := if c = 62 then 2 ^ 48 else 2 ^ 96
    if !b.carries e then b
    else
      let b := b.elapseTo ((b.elem e).onFrom + (b.onCount e / w + 1) * w)
      if c = 62 then b
      else
        let b := b.modElem e (fun el => { el with ovf := el.ovf.set 63 true, wraps := el.wraps.mod 0 63 (· + 1) })
        b.wrapRecord e 63 ((b.elem e).wraps.get 0 63)
  else
    let n := (b.elem e).wraps.get 0 c
    if n ≤ (b.elem e).wrapRep.get 0 c then b
    else (b.modElem e (fun el => { el with wrapRep := el.wrapRep.set c n })).wrapRecord e c n

/-- COUNTER_WRAP (18 R463). -/
def execCounterWrap (e c : Nat) (s : State) : Host.Outcome State Fault Refusal :=
  s.on (.counterWrap e c) (fun b => b.counterWrap e c)

/-- CAIRN_SLOT_RELEASE (18 R477): the oldest slot of a region, 20 us after injection. -/
def execCairnSlotRelease (g : Nat) (s : State) : Host.Outcome State Fault Refusal :=
  s.on (.cairnSlotRelease g) (fun b =>
    match (b.region g).cairns with
    | t :: rest => (b.elapseTo (t + 64000)).modRegion g (fun r => { r with cairns := rest })
    | [] => b)

/-- A telemetry agent takes a TRC packet; its full queue overwrites its oldest record (18 R469, R471). -/
def Block.agentTake (b : Block) (d : Nat) (x : TrcPkt) : Block :=
  let a := b.agents.get [] d
  match a with
  | o :: rest => if 256 ≤ a.length then ({ b with agents := b.agents.set d (rest ++ [x]) }).ringLost o.ring 1
    else { b with agents := b.agents.set d (a ++ [x]) }
  | [] => { b with agents := b.agents.set d [x] }

/-- The TRC packets of a die's emitters reach its telemetry agent (18 R469 steps 1 and 2), or, while that agent's clock is stopped, its Ford as far as
its 16 records reach (07 R226, R228). -/
def Block.collectTel (b : Block) (d : Nat) : Block :=
  let es := (b.elems.filter (fun kv => dieOf kv.1 == d && !kv.2.tel.queue.isEmpty)).map (·.1)
  es.foldl (fun b e =>
    let q := (b.elem e).tel.queue
    let f := b.ford (.telemetry d)
    let k := if f.stopped then fordDepth (.telemetry d) - f.recs.length else q.length
    let b := b.modElem e (fun el => { el with tel := { el.tel with queue := q.drop k } })
    if f.stopped then b.modFord (.telemetry d) (fun x => { x with recs := x.recs ++ q.take k })
    else q.foldl (fun b x => b.agentTake d x) b) b

/-- The way from a die's agent to the lead steward is open: a compute die's over its escape Col; the I/O die's is the lead's NI
(01 R29; 18 R469 steps 3 and 4). -/
def Block.telPath (b : Block) (d : Nat) : Bool :=
  let n := 2 * d + (b.factsNow).escCol d
  (d == 12 || (b.colUp n && b.linkUp (colAdp n))) && !b.elemFenced (stwNi b.leadSrc) && !(b.ni (stwNi b.leadSrc)).fenced

/-- The oldest record of an agent whose ring is enabled goes on to the lead steward, which writes it into that ring (18 R469 steps 3 to
5; 15 R412): the packet is addressed to the I/O die's agent. -/
def Block.writeTel (b : Block) (d : Nat) : Block :=
  if b.lead.who.isNone || b.lead.restarting || !b.telPath d then b
  else
    let a := b.agents.get [] d
    match a.find? (fun x => (b.ring x.ring).en) with
    | none => b
    | some x =>
      let b := { b with agents := b.agents.set d (a.erase x) }
      b.pushRec x.ring (fun ph => leBytes (x.pay.toNat + ph * 2 ^ 15) 64) false

/-- TELEMETRY_RECORD_WRITE (18 R469). -/
def execTelemetryRecordWrite (d : Nat) (s : State) : Host.Outcome State Fault Refusal :=
  s.on (.telemetryRecordWrite d) (fun b => (b.collectTel d).writeTel d)

/-! ### Rings (15 R416, R418) -/

/-- RING_STALE_TIMEOUT (15 R416). -/
def execRingStaleTimeout (r : Nat) (s : State) : Host.Outcome State Fault Refusal :=
  s.on (.ringStaleTimeout r) (fun b =>
    let x := b.ring r
    if !x.en || x.err || x.stale = 0 || x.unread = 0 then b
    else
      let b := b.elapseTo (x.staleFrom + x.stale * us)
      (b.irq x.vector).modRing r (fun y => { y with staleFrom := b.now }))

/-- HOST_PORT_ERROR (15 R418): the ring stops, and its vector, or that of the paired completion ring, is sent. -/
def execHostPortError (r : Nat) (s : State) : Host.Outcome State Fault Refusal :=
  s.on (.hostPortError r) (fun b =>
    if !(b.ring r).en then b
    else (b.modRing r (fun y => { y with err := true })).irq (b.ring (if isCmd r then r + 8 else r)).vector)

end Sys2Proof.Machine
end

