-- ==== Sys2Proof/Machine/Power.lean ====
section
/-! DEFINITION. Power domains (spec/10): idleness, entry into Retention, wakes, the retention check, and power changes by command. -/

namespace Sys2Proof.Machine

/-! ### Idle (10 R292) -/

/-- Die on which a domain lies. -/
def domDie (d : Nat) : Nat :=
  if d < 96 then d / 8 else if d < 128 then 12
  else match domAdp d with
    | some a => dieOf a
    | none => dieOf (domStw d)
/-- Watershed source of a domain controller (11 R321). -/
def domSrc (d : Nat) : Nat := src (domDie d) 477

/-- No flit, credit or held VC at an element (10 R292). -/
def Block.elemIdle (b : Block) (e : Nat) : Bool :=
  let el := b.elem e
  el.ins.all (fun kv => kv.2.q.isEmpty) && el.outs.all (fun kv => kv.2.held.isEmpty && kv.2.used.all (fun u => u.2 == 0)) &&
  (List.range 8).all (fun p => (b.wires.get [] (wkey e p)).isEmpty)

/-- A Tollgate holds no packet: while it does, its domain does not rest (05 R142). -/
def Gate.idle (g : Gate) : Bool :=
  g.queue.all (fun kv => kv.2.isEmpty) && g.mgtq.isEmpty && g.ownq.isEmpty && g.cur.isNone && g.pre.isNone

/-- A compute-die NI holds no work (10 R292). -/
def Block.niIdle (b : Block) (n : Nat) : Bool :=
  let x := b.ni n
  let g := b.gate n
  x.tags.all (fun kv => kv.2.quar) && b.mgtHeld n = 0 && x.ledger.isEmpty && x.msgq.isEmpty && x.rx.isEmpty && x.lookups.isEmpty && x.rels.isEmpty &&
  (b.ford (.unitPort n)).up.isEmpty && (b.ford (.unitPort n)).down.isEmpty && g.idle

/-- Plane-side ports of dual-homed NIs, which an I/O-die cluster holds: NI and port (10 R287). -/
def domPorts (d : Nat) : List (Nat × Nat) :=
  if 96 ≤ d && d < 128 then (domElems d).flatMap (fun r => [4, 5].filterMap (fun q => (peer r q).bind (fun x => if isEndpoint x.1 && isDual x.1 then some x else none)))
  else []

/-- No flit, credit or held VC at one port of an element (10 R292). -/
def Block.portIdle (b : Block) (e p : Nat) : Bool :=
  let o := (b.elem e).out p
  (b.elem e).ins.all (fun kv => kv.1 / 32 != p || kv.2.q.isEmpty) && o.held.isEmpty && o.used.all (fun u => u.2 == 0) &&
  (b.wires.get [] (wkey e p)).isEmpty

/-- Stewards of a compute die whose NI's fabric side a cluster holds (10 R287). -/
def domStws (d : Nat) : List Nat := if d < 96 then allStws.filter (fun s => domOf (stwNi s) == some d) else []

/-- A domain is idle; that of an I/O-die steward holds its NI's Tollgate (10 R287), and the two sides of a steward's Ford each what crosses
towards them (07 R229). -/
def Block.domIdle (b : Block) (d : Nat) : Bool :=
  if d < 128 then
    (domPorts d).all (fun x => b.portIdle x.1 x.2) && (domStws d).all (fun s => (b.ford (.steward s)).reqs.isEmpty) &&
    (domElems d).all (fun e => b.elemIdle e && (!isNi e || dieOf e == 12 || b.niIdle e) &&
      (!isAgent e || (b.region (agentRegion e)).lookq.isEmpty))
  else match domAdp d with
    | some a => b.linkIdle a
    | none => (b.ford (.steward (domStw d))).reqs.isEmpty && (d < 256 || (b.gate (stwNi (domStw d))).idle)

/-- The domain's power state, CLOSING, DRAINING and SIGNING told apart by the time since the timer's expiry (10 R291, R294). -/
def Block.domCode (b : Block) (d : Nat) : Nat :=
  let x := b.dom d
  if x.st = 1 then
    (if b.now < x.since + 8 then 1 else if b.now < x.since + 32 || !b.domIdle d then 2 else 3)
  else x.st

/-- The idle timer in us: none where automatic entry is off (10 R293; 13 R365). -/
def Block.idleTimer (b : Block) (d : Nat) : Option Nat :=
  match profTimer b.immProfile with
  | none => none
  | some v => match (b.dom d).timer with
    | some 0 => none
    | some t => some t
    | none => some v

/-- A domain takes no wake event: a scope around it is FENCED or beyond, or is stopped (10 R310). -/
def Block.domFenced (b : Block) (d : Nat) : Bool :=
  b.fatal || b.scopes.any (fun kv => (3 ≤ kv.2.st || kv.2.stopped) && (scopeDoms (kv.1 / 65536) (kv.1 % 65536)).contains d)

/-- The scopes of a domain are ACTIVE: outside them its timer stands (10 R310). -/
def Block.domActive (b : Block) (d : Nat) : Bool :=
  !b.fatal && b.scopes.all (fun kv => (kv.2.st == 0 && !kv.2.stopped) || !(scopeDoms (kv.1 / 65536) (kv.1 % 65536)).contains d)

/-! ### Entry (10 R294, R295) -/

/-- The idle timer expires: a cluster closes, an adapter asks the far side, or, with the main band stopped already, rests (10 R294; 08 R257). -/
def Block.idleOut (b : Block) (d : Nat) : Block :=
  match b.idleTimer d with
  | none => b
  | some t =>
    if 208 ≤ d || (b.dom d).st != 0 || (b.dom d).target.isSome || !b.domActive d || !b.domIdle d then b
    else
      let b := b.elapseTo ((b.dom d).idleFrom + t * us)
      match domAdp d with
      | some a =>
        if (b.link a).st == .active then b.modLink a (fun l => { l with pmReq := true })
        else if (b.link a).st == .retained && (b.link a).wakeFrom.isNone then b.modDom d (fun x => { x with st := 3, since := b.now })
        else b
      | none => b.modDom d (fun x => { x with st := 1, since := b.now })

/-- The FCLKs counted On so far, kept while the routers rest (18 R466). -/
def Block.stopCount (b : Block) (d : Nat) : Block :=
  ((domElems d).filter isRouter).foldl (fun b r => b.modElem r (fun el => { el with onFrom := b.now - el.onFrom })) b
/-- The count of FCLKs On goes on. -/
def Block.resumeCount (b : Block) (d : Nat) : Block :=
  ((domElems d).filter isRouter).foldl (fun b r => b.modElem r (fun el => { el with onFrom := b.now - el.onFrom })) b

/-- Kinds of retained bank at an element, with the number of banks of each (10 R303, R304): 0 route tables, 1 gate lists and regulators, 2
partition, mask and incarnation, 3 map bank, 4 map cache, 5 lock keeper, 6 event counters, 7 regulator credits. The spec gives neither names nor
numbers (DESIGN CHOICE, notes/assumptions/21.md). -/
def bankKinds (e : Nat) : List (Nat × Nat) :=
  if isRouter e then [(0, 1), (6, 1)]
  else if isAgent e then [(3, 256)]
  else if isNi e then [(1, 3), (2, 1), (4, 4), (5, 1), (6, 1), (7, 1)]
  else [(6, 1)]

/-- Names of the retained banks of a domain: bank number + 256 x kind + 2,048 x the place of its element in the domain. -/
def domBanks (d : Nat) : List Nat :=
  (List.range (domElems d).length).flatMap (fun i => (bankKinds ((domElems d).getD i 0)).flatMap (fun k =>
    (List.range k.2).map (fun j => 2048 * i + 256 * k.1 + j)))

/-- Kind of a bank. -/
def bankKind (x : Nat) : Nat := x / 256 % 8

/-- Retention signature of a bank: the CRC over its contents, of which the spec gives no layout in bytes (10 R303; notes/assumptions/21.md). -/
def Block.bankSig (b : Block) (d x : Nat) : BitVec 32 :=
  let e := (domElems d).getD (x / 2048) 0
  let j := x % 256
  let el := b.elem e
  let n := b.ni e
  let g := b.gate e
  match bankKind x with
  | 0 => Config.crcOf el.tab
  | 1 => if j = 0 then Config.crcOf (g.active, g.base, g.pend) else if j = 1 then Config.crcOf g.shadow else Config.crcOf (g.rate, g.conf, g.pin, g.ret)
  | 2 => Config.crcOf (n.part, n.mask, n.inc)
  | 3 => Config.crcOf (b.map.filter (fun kv => kv.1 / 512 == j), b.groups.filter (fun kv => kv.1 / 8 == j))
  | 4 => Config.crcOf ((n.cache.drop (16 * j)).take 16)
  | 5 => Config.crcOf n.locks
  | 6 => Config.crcOf (el.ctr, el.ovf, el.wraps, el.wrapRep)
  | _ => Config.crcOf g.credit

/-- Commit to Retention (10 R294 steps 3 and 4): each bank's signature is held, and detectors are not armed yet. -/
def Block.retain (b : Block) (d : Nat) : Block :=
  (b.stopCount d).modDom d (fun x => { x with
    sigs := (domBanks d).map (fun y => (y, b.bankSig d y)), st := 4, since := b.now, unarmed := true, entries := (x.entries + 1) % 65536,
    bias := restBias b.immProfile })

/-- DETECTOR_ARMING (10 R294, R298): 6 AONCLK after commit. -/
def execDetectorArming (d : Nat) (s : State) : Host.Outcome State Fault Refusal :=
  s.on (.detectorArming d) (fun b =>
    if (b.dom d).st = 4 && (b.dom d).unarmed then
      (b.elapseTo ((b.dom d).since + 192)).modDom d (fun x => { x with unarmed := false })
    else b)

/-! ### Wakes (10 R297-R302, R309, R310) -/

/-- A wake event: `code` 3 and 4 are pulses, the others levels. A flit queued at a link in SIGNING waits for the entry (08 R262; notes/assumptions/62.md). -/
def Block.wakeEvent (b : Block) (d code detail : Nat) : Block :=
  let x := b.dom d
  let pulse := code = 3 || code = 4
  let go (b : Block) : Block :=
    let b := b.wakeDom d code detail
    match domAdp d with
    | some a => if pulse then b else b.sendWake a
    | none => b
  if code != 7 && b.domFenced d then b
  else if 1 ≤ x.st && x.st ≤ 3 then (if 128 ≤ d && code ≤ 1 then b else b.abortEntry d)
  else if x.st = 4 then
    (if !x.unarmed then go b else if pulse then b
     else go ((b.elapseTo (x.since + 192)).modDom d (fun x => { x with unarmed := false })))
  else if x.st = 7 && (code = 6 || code = 7) then go b
  else b.sameWake d code detail

/-- Receivers of a domain that rested take the epoch (03 R108), its Tollgates their lists (05 R163), quarantines that have run
out end (10 R292), and locks whose lease has expired break (06 R203). -/
def Block.takeUp (b : Block) (d : Nat) : Block :=
  let ep := match b.lead.commit with | some c => c.epoch | none => b.lead.epoch
  let es := (domElems d).filter (fun e => b.lead.sleepers.contains e)
  let b := es.foldl (fun b e => b.takeEpoch e ep) b
  let b := b.modLead (fun l => { l with sleepers := l.sleepers.filter (fun e => !es.contains e) })
  (domNis d).foldl (fun b n =>
    let b := b.gateWake n
    let b := b.modGate n (fun g => match g.quiet with
      | some (t, len, _) => if t + 16 * len ≤ b.ftOf n then { g with quiet := none } else g
      | none => g)
    let over_ := (b.ni n).tags.filter (fun kv => kv.2.quar && kv.2.qft + orphanTime ≤ b.ftOf n)
    let b := over_.foldl (fun b kv => b.freeTag n kv.1) b
    b.breakLocks n 0 (fun l => l.expiry ≤ b.ftOf n)) b

/-- What a domain has lost in Off: the retained contents of its elements and the tags, of which the stewards reload what they hold golden copies of
(06 R203; 10 R290, R300, R304; 14 R385; notes/assumptions/63.md). -/
def Block.loseDomain (b : Block) (d : Nat) : Block :=
  (domElems d).foldl (fun b e =>
    let b := b.loseTables e
    if isNi e then (b.modNi e (fun x => { x with tags := [], oldOrdered := [], amnesiaTo := b.now + 10 * ms })).loadGold e
    else if isRouter e then b.loadGold e else b) b

/-! ### The Fords of a domain (07 R229-R232) -/

/-- The Fords whose side in the fabric lies in a domain (07 R229): that of a compute-die steward's is in its NI's cluster, that of an I/O-die steward's
in its own domain (10 R287). -/
def domFords (d : Nat) : List FordId :=
  match domAdp d with
  | some a => if isPass a then [.passPort (d - 200)] else [.adapterDie a, .adapterLink a]
  | none => (domNis d).map .unitPort ++ (domStws d).map .steward ++ (if 256 ≤ d then [.steward (domStw d)] else [])

/-- The domain of the side in the fabric of a Ford, and the local index that a wake names (07 R229; 10 R287, R297). -/
def fordWake : FordId → Option (Nat × Nat)
  | .unitPort n => (domOf n).map (fun d => (d, locOf n))
  | .adapterDie a => (domOf a).map (fun d => (d, locOf a))
  | .adapterLink a => (domOf a).map (fun d => (d, locOf a))
  | .passPort k => some (200 + k, locOf (passAdp k))
  | .steward s => (domOf (stwNi s)).map (fun d => (d, locOf (stwNi s)))
  | .alwaysOn _ => none
  | .telemetry _ => none

/-- The domain of the far side, where that is a domain: a steward's. -/
def fordFar : FordId → Option (Nat × Nat)
  | .steward s => some (stwDom s, locOf (stwNi s))
  | _ => none

/-- The domain of one side of a Ford is On, or the side lies in none. -/
def Block.sideOn (b : Block) (side : Option (Nat × Nat)) : Bool :=
  match side with
  | some (d, _) => (b.dom d).st == 0 || (b.dom d).st == 8
  | none => true

/-- The frames that a Ford holds are discarded, and each packet with a flit in them is answered (07 R230 steps 2 and 3). -/
def Block.dropInbox (b : Block) (a : Nat) : Block :=
  let b := (pksOf ((b.link a).inbox.flatMap (fun fr => fr.slots.map (fun s => pkOf s.2.2)))).foldl (fun b k => b.dropPacket a 0 k false) b
  b.modLink a (fun l => { l with inbox := [] })

/-- What a reset of one side of a Ford makes the sides discard and answer (07 R230 steps 2 to 4). `fab`: the side in the fabric resets, and
the unit or steward beyond answers for what it holds (R231). -/
def Block.fordFlush (b : Block) (fab : Bool) : FordId → Block
  | .unitPort n =>
    let b := (b.modFord (.unitPort n) (fun x => { x with up := [], down := [] })).modNi n (fun x => { x with portUp := false, rxCred := [] })
    if fab then b else (b.flushNi n 0 .unitReset).newIncarnation n
  | .adapterDie a => (b.headsAt a).foldl (fun b h => b.dropPacket a 0 h false) b
  | .adapterLink a => b.dropInbox a
  | .passPort k => b.dropInbox (passAdp k)
  | .steward s =>
    let held := (b.ford (.steward s)).reqs
    let b := b.modFord (.steward s) (fun x => { x with reqs := [] })
    if fab then b else held.foldl (fun b h => b.replyAbort (stwNi s) h 0x10 0) b
  | .alwaysOn _ => b
  | .telemetry d => b.modFord (.telemetry d) (fun x => { x with recs := [] })

/-- A steward that runs serves what its Ford has held for it (07 R228, R229). -/
def Block.stwTake (b : Block) (s : Nat) : Block :=
  let x := b.ford (.steward s)
  if x.stopped || !b.sideOn (fordFar (.steward s)) then b
  else x.reqs.foldl (fun b h => b.mgtServe (stwNi s) h true) (b.modFord (.steward s) (fun x => { x with reqs := [] }))

/-- The side that sees RST_REQ, if its domain is On and its clock runs, flushes and raises RST_ACK (07 R229, R230). -/
def Block.fordSee (b : Block) (f : FordId) : Block :=
  let x := b.ford f
  let b := if x.req && !x.ack && b.sideOn (fordWake f) then (b.fordFlush false f).modFord f (fun x => { x with ack := true }) else b
  if x.reqF && !x.ackF && !x.stopped && b.sideOn (fordFar f) then (b.fordFlush true f).modFord f (fun x => { x with ackF := true }) else b

/-- The domain is On (10 R299 step 5): LATENCY is recorded and the idle timer restarts; a link runs when both sides are On. Its Fords hand on
what they held for it (07 R229). -/
def Block.domOn (b : Block) (d : Nat) : Block :=
  let off := (b.dom d).wakeFrom = 7
  let b := b.modDom d (fun x => { x with
    st := 0, idleFrom := b.now, bias := onBias b.immProfile, wakeLat := min 65535 ((b.now - x.since) / 16), stale := [], found := [], noGold := false,
    offRoute := off })
  let b := if off && 208 ≤ d then b.bootSteward (domStw d) else b
  let b := (b.resumeCount d).takeUp d
  let b := (domFords d ++ (if 208 ≤ d then [FordId.steward (domStw d)] else [])).foldl (fun (b : Block) f => b.fordSee f) b
  let b := if 208 ≤ d then b.stwTake (domStw d) else b
  let b := (domNis d).foldl (fun b n => b.fordTake n) b
  let b := match domAdp d with
    | some a =>
      if off then
        (if b.ridgelessAt a || b.linkFenced a 7 || (isPass a && !(b.port (portOf a)).module) then b
         else (sides a).foldl (fun (b : Block) x => (b.modLink x (fun l => { l with attempts := 0 })).linkStep x .phyTrain) b)
      else if isPass a || (b.carries (farAdp a) && b.linkUp (farAdp a)) then
        (sides a).foldl (fun (b : Block) x => b.modLink x (fun (l : Link) => if l.st == LinkSt.retained then { l with st := .active, since := b.now, wakeFrom := none } else l)) b
      else b
    | none => b
  let b := if off then b.wantCommit 7 none
    else b.finishAll (fun f => f.opc == 0x0D && f.scId == d && f.a == 0) stOk (fun _ => [(16, 4, 0), (20, 1, 0)])
  b.gatesDone

/-- A stale bank of which nothing is reloaded is recovered (10 R304; 18 R464, R480). -/
def Block.staleBank (b : Block) (d x : Nat) : Block :=
  let e := (domElems d).getD (x / 2048) 0
  match bankKind x with
  | 4 => b.modNi e (fun n => { n with cache := [] })
  | 5 => b.modNi e (fun n => { n with locks := [], amnesiaTo := b.now + 10 * ms })
  | 6 => b.modElem e (fun el => { el with
      ctr := [], ovf := (List.range 64).map (fun i => (i, true)), wraps := [], wrapRep := [], tel := { el.tel with lfsr := none }, onFrom := 0 })
  | 7 => b.modGate e (fun g => { g with credit := [] })
  | _ => b

/-- The signatures are checked, and the domain is On or held for reloads (10 R299 step 4, R304, R305). `sigs`: the signatures of the banks whose
contents have changed, as they are computed anew; the other banks agree. A fence of the domain meanwhile, WAKE_FAIL's too, leaves only the reports
(R311). A domain back from Off has lost every bank: with both stewards of its region out of service it is held as one whose banks have no golden
copy (DESIGN CHOICE, notes/assumptions/63.md). -/
def Block.wakeDone (b : Block) (d : Nat) (sigs : List (Nat × BitVec 32)) : Block :=
  let x := b.dom d
  if x.st != 5 then b
  else
    let off := x.wakeFrom = 7
    let b := b.elapseTo (x.since + (if off then 96000 else 480))
    let stale := if off then []
      else ((sigs.filter (fun y => match x.sigs.find y.1 with | some v => v != y.2 | none => false)).map (·.1)).dedup
    let b := stale.foldl (fun b y => b.event (domSrc d) 0x41 none (detD d (y % 256) 5)) b
    if b.domFenced d then b
    else
      let b := if off then b.loseDomain d else stale.foldl (fun b y => b.staleBank d y) b
      let reload := (if off && b.goldless d then domBanks d else stale).filter (fun y => decide (bankKind y < 4))
      if reload.isEmpty then b.domOn d
      else
        let b := b.modDom d (fun x => { x with st := 6, stale := reload, found := reload, noGold := b.goldless d })
        if b.goldless d then b.wantCommit 7 none else b

/-- Granule that a domain is fenced as (10 R301). -/
def domScope (d : Nat) : Nat × Nat :=
  if d < 128 then (6, d)
  else match domAdp d with
    | some a => linkScope a 7
    | none => (10, domStw d)

/-- WAKE_FAIL (10 R301): not On within 10 us, from Off 2 ms. -/
def execWakeFail (d : Nat) (s : State) : Host.Outcome State Fault Refusal :=
  s.on (.wakeFail d) (fun b =>
    let x := b.dom d
    if x.st = 5 || (x.st = 6 && !x.noGold) then
      let b := b.elapseTo (x.since + (if x.wakeFrom = 7 then 6400000 else 32000))
      b.fault (domSrc d) 0x40 (domScope d).1 (domScope d).2 none (detD d 0 x.st)
    else b)

/-! ### Power changes by command (10 R307, R308) -/

/-- DOMAIN_POWER in progress ends. -/
def Block.powerDone (b : Block) (d status n : Nat) : Block :=
  b.finishAll (fun f => f.opc == 0x0D && f.scId == d) status (fun _ => [(16, 4, n), (20, 1, b.domCode d)])

/-- The domain enters its target state (10 R307 step 4): SIGNING and commit, or power-gating. -/
def Block.powerOff (b : Block) (d discarded : Nat) : Block :=
  if (b.dom d).target = some 7 then (b.stopCount d).gateOff d discarded
  else ((b.elapse 128 |>.retain d).modDom d (fun x => { x with target := none })).powerDone d stOk discarded

/-- Packets of side `a` in frames that no ACK covers and that have not crossed whole. -/
def Block.inFrames (b : Block) (a : Nat) : List Pk := (b.sentPks a).filter (fun k => !b.crossedWhole a k)

/-- Discard every packet of a domain, those in the unacknowledged frames of its link among them (08 R259); unit tags outstanding at its NIs end
INDETERMINATE (10 R308). The main band of a link that is to rest stops on both sides, and its far side wakes it. -/
def Block.discardDom (b : Block) (d : Nat) : Block × Nat :=
  let (b, n) : Block × Nat := match domAdp d with
    | some a =>
      let ks := b.inFrames a
      let b := ks.foldl (fun (b : Block) k => b.cutSent a 0 k) b
      ((sides a).foldl (fun (b : Block) x => b.modLink x (fun (l : Link) =>
        if l.st == LinkSt.active then { l with st := .retained, since := b.now, inbox := [], pmReq := false, pmAck := false, pmOut := false, wakeFrom := none }
        else l)) b, ks.length)
    | none => (b, 0)
  let (b, n) := (domElems d).foldl (fun (x : Block × Nat) e =>
    (x.1.headsAt e).foldl (fun (y : Block × Nat) h => (y.1.dropPacket e 0 h false, y.2 + 1)) x) (b, n)
  let (b, n) := (domPorts d).foldl (fun (x : Block × Nat) np =>
    ((x.1.headsAt np.1).filter (fun h => (x.1.elem np.1).ins.any (fun kv => kv.1 / 32 == np.2 && kv.2.q.any (fun f => h.covers (pkOf f))))).foldl
      (fun (y : Block × Nat) h => (y.1.dropPacket np.1 0 h false, y.2 + 1)) x) (b, n)
  ((domNis d).foldl (fun b n => b.flushNi n 0 .power) b, n)

/-- A `DOMAIN_POWER` of the domain in progress carries FORCE. -/
def Block.powerForced (b : Block) (d : Nat) : Bool := b.lead.flights.any (fun f => f.opc == 0x0D && f.scId == d && f.b == 1)

/-- A commit that leaves the domain out is under way, or wanted. -/
def Block.offQueued (b : Block) (d : Nat) : Bool :=
  b.lead.commitQ.contains (7, none) || (match b.lead.commit with | some c => c.doms.contains d | none => false)

/-- A power change by command runs from the state that an automatic entry or a wake has left (10 R307, R309, R311). One to Off leaves a resting
domain at rest until the routes are committed; one from Off to Retention wakes it first (DESIGN CHOICE, notes/assumptions/109.md). -/
def Block.powerStart (b : Block) (d : Nat) : Block :=
  match (b.dom d).target with
  | none => b
  | some t =>
    let x := b.dom d
    let ring := match b.lead.flights.find? (fun f => f.opc == 0x0D && f.scId == d) with
      | some f => f.ring
      | none => 0
    let done := b.modDom d (fun x => { x with target := none, excl := false })
    if (1 ≤ x.st && x.st ≤ 3) || x.st = 5 || x.st = 6 || x.st = 8 || !b.domActive d then b
    else if t = 0 then
      (if x.st = 4 || x.st = 7 then done.wakeEvent d 6 ring else if x.offRoute then done else done.powerDone d stOk 0)
    else if x.st = t then done.powerDone d stOk 0
    else if x.st = 7 then b.wakeEvent d 6 ring
    else if x.st = 4 then (if b.offQueued d then b else b.wantCommit 7 none)
    else
      let b := b.modDom d (fun x => { x with st := 8, since := b.now, excl := false })
      if t = 7 then b.wantCommit 7 none
      else if b.powerForced d then (let (b, n) := b.discardDom d; b.powerOff d n)
      else b

/-- A power change that waited for an entry runs, when a flit has aborted the entry: each command for the domain begins with it (10 R311; DESIGN
CHOICE of the moment, notes/assumptions/109.md). -/
def Block.powerTurn (b : Block) (d : Nat) : Block := if (b.dom d).st = 0 then b.powerStart d else b

/-- DOMAIN_IDLE_TIMEOUT (10 R294). -/
def execDomainIdleTimeout (d : Nat) (s : State) : Host.Outcome State Fault Refusal :=
  s.on (.domainIdleTimeout d) (fun b => (b.powerTurn d).idleOut d)

/-- ENTRY_DRAIN_LIMIT (10 R294, R295): DRAINING runs past 1 us. -/
def execEntryDrainLimit (d : Nat) (s : State) : Host.Outcome State Fault Refusal :=
  s.on (.entryDrainLimit d) (fun b =>
    let b := b.powerTurn d
    if (b.dom d).st = 1 && !b.domIdle d then (b.elapseTo ((b.dom d).since + 8 + us)).abortEntry d |>.powerStart d else b)

/-- RETENTION_COMMIT (10 R294): 160 FCLK after the timer's expiry; for an adapter at the end of SIGNING. -/
def execRetentionCommit (d : Nat) (s : State) : Host.Outcome State Fault Refusal :=
  s.on (.retentionCommit d) (fun b =>
    let b := b.powerTurn d
    let x := b.dom d
    if x.st = 1 then
      (if b.domIdle d then (b.elapseTo (x.since + 160)).retain d |>.powerStart d else (b.abortEntry d).powerStart d)
    else if x.st = 3 then (b.elapseTo (x.since + 128)).retain d |>.powerStart d
    else b)

/-- DOMAIN_WAKE (10 R297). -/
def execDomainWake (d code detail : Nat) (s : State) : Host.Outcome State Fault Refusal :=
  s.on (.domainWake d code detail) (fun b => ((b.powerTurn d).wakeEvent d code detail).powerStart d)

/-- WAKE_COMPLETE (10 R299, R300). -/
def execWakeComplete (d : Nat) (sigs : List (Nat × BitVec 32)) (s : State) : Host.Outcome State Fault Refusal :=
  s.on (.wakeComplete d sigs) (fun b => (b.wakeDone d sigs).powerStart d)

/-- A domain of the same pair of stewards has woken before `d` and is still held for their reload: reloads are served in order of wake (10 R311),
two of one FCLK by domain ID. -/
def Block.reloadWaits (b : Block) (d : Nat) : Bool :=
  b.doms.any (fun kv => kv.1 != d && kv.2.st == 6 && !kv.2.noGold && !b.domFenced kv.1 && regionPair (domRegion kv.1) == regionPair (domRegion d) &&
    (kv.2.since < (b.dom d).since || (kv.2.since == (b.dom d).since && kv.1 < d)))

/-- GOLDEN_RELOAD_DONE (10 R304, R311): a stale bank is reloaded; with the last the domain is On. One whose turn has not come, or whose domain a
fence has taken, does not happen. -/
def execGoldenReloadDone (d bank : Nat) (s : State) : Host.Outcome State Fault Refusal :=
  s.on (.goldenReloadDone d bank) (fun b =>
    let x := b.dom d
    if x.st != 6 || x.noGold || !x.stale.contains bank || b.domFenced d || b.reloadWaits d then b
    else
      let b := (b.modDom d (fun x => { x with stale := x.stale.filter (· != bank) })).loadGold ((domElems d).getD (bank / 2048) 0)
      if (b.dom d).stale.isEmpty then (b.domOn d).powerStart d else b)

/-- Nothing holds back the entry by command: the domain is idle, and the main band of a link that is to rest has stopped (08 R257; 10 R307). -/
def Block.powerReady (b : Block) (d : Nat) : Bool :=
  b.domIdle d && (match domAdp d with
    | some a => (b.dom d).target == some 7 || (b.link a).st != .active
    | none => true)

/-- POWER_DOWN_DRAINED (10 R307, R308): the routes exclude a domain ordered Off, and the domain is idle, or FORCE skips its drain. An adapter that
is to rest asks the far side first (R294; 08 R257). -/
def execPowerDownDrained (d : Nat) (s : State) : Host.Outcome State Fault Refusal :=
  s.on (.powerDownDrained d) (fun b =>
    let b := b.powerTurn d
    let x := b.dom d
    if x.st != 8 || (x.target == some 7 && !x.excl) then b
    else if b.powerForced d then (let (b, n) := b.discardDom d; b.powerOff d n)
    else if b.powerReady d then b.powerOff d 0
    else match domAdp d with
      | some a => if b.domIdle d then b.modLink a (fun l => { l with pmReq := true }) else b
      | none => b)

/-- POWER_DOWN_TIMEOUT (10 R307 step 5): 100 us after the drain began; without FORCE the domain returns to ON. A domain that may enter its target
state has no timeout. -/
def execPowerDownTimeout (d : Nat) (s : State) : Host.Outcome State Fault Refusal :=
  s.on (.powerDownTimeout d) (fun b =>
    let b := b.powerTurn d
    let x := b.dom d
    if x.st != 8 || (x.target == some 7 && !x.excl) then b
    else if b.powerForced d then
      (let b := b.elapseTo (x.since + 320000)
       let (b, n) := b.discardDom d
       b.powerOff d n)
    else if b.powerReady d then b
    else
      let b := b.elapseTo (x.since + 320000)
      let off := x.target == some 7
      let b := b.modDom d (fun x => { x with st := 0, target := none, excl := false, idleFrom := b.now })
      let b := match domAdp d with
        | some a => b.modLink a (fun l => { l with pmReq := false, pmOut := false })
        | none => b
      let b := if off then b.wantCommit 7 none else b
      b.powerDone d stTimeout 0)

end Sys2Proof.Machine
end

