-- ==== Sys2Proof/Machine/Fords.lean ====
section
/-! DEFINITION. The crossings of Fords as commands (spec/07 R226-R232): packets from a unit, the reset notice, and the stall monitor. -/

namespace Sys2Proof.Machine

/-- A non-empty FIFO, or a raised request, wakes the domain of the side that it goes to (07 R229; 10 R297). -/
def Block.fordRouse (b : Block) (side : Option (Nat × Nat)) : Block :=
  match side with
  | some (d, l) => if b.sideOn side then b else b.wakeEvent d 2 l
  | none => b

/-- UNIT_PACKET (06 R173; 07 R229). -/
def execUnitPacket (n : Nat) (p : UnitPkt) (s : State) : Host.Outcome State Fault Refusal :=
  s.on (.unitPacket n p) (fun b =>
    let b := b.unitPacket n p
    if (b.ford (.unitPort n)).up.isEmpty then b else b.fordRouse (fordWake (.unitPort n)))

/-! ### The reset notice (07 R230, R232) -/

/-- FORD_RESET (07 R230): one side raises RST_REQ, and the other, as soon as its domain is On, flushes, answers and raises RST_ACK. Both sides may
do so (R232). `e.fab`: it is the side in the fabric that resets. A side whose clock stands still raises nothing. -/
def execFordReset (e : FordEnd) (s : State) : Host.Outcome State Fault Refusal :=
  s.on (.fordReset e) (fun b =>
    let f := e.ford
    let x := b.ford f
    if (if e.fab then x.reqF || x.ackF else x.req || x.ack || x.stopped) then b
    else
      let b := b.modFord f (fun x => if e.fab then { x with reqF := true } else { x with req := true })
      (b.fordSee f).fordRouse (if e.fab then fordFar f else fordWake f))

/-- FORD_RESET_ACK (07 R230): the resetting side sees RST_ACK and lowers RST_REQ, which waits while its clock stands still (07 R232). -/
def execFordResetAck (e : FordEnd) (s : State) : Host.Outcome State Fault Refusal :=
  s.on (.fordResetAck e) (fun b =>
    let f := e.ford
    let x := b.ford f
    if e.fab then (if x.ackF then b.modFord f (fun x => { x with reqF := false }) else b)
    else if x.ack && !x.stopped then b.modFord f (fun x => { x with req := false }) else b)

/-- No reset notice runs at a Ford. -/
def Ford.quietReset (x : Ford) : Bool := !x.req && !x.ack && !x.reqF && !x.ackF

/-- The crossing is up when no request stands: its credits start from zero (07 R230 steps 6 and 7, R232; 06 R174, R175). -/
def Block.fordUp (b : Block) (f : FordId) : Block :=
  if !(b.ford f).quietReset then b
  else match f with
    | .unitPort n => b.modNi n (fun x => { x with portUp := true, txTaken := [], txIn := [], portFrom := b.now, rxCred := [] })
    | _ => b

/-- FORD_RESET_DONE (07 R230): the fall of RST_REQ is seen and RST_ACK falls. -/
def execFordResetDone (e : FordEnd) (s : State) : Host.Outcome State Fault Refusal :=
  s.on (.fordResetDone e) (fun b =>
    let f := e.ford
    let x := b.ford f
    if e.fab then (if x.ackF && !x.reqF && !x.stopped then (b.modFord f (fun x => { x with ackF := false })).fordUp f else b)
    else if x.ack && !x.req then (b.modFord f (fun x => { x with ack := false })).fordUp f else b)

/-! ### The stall monitor (07 R227, R228) -/

/-- Watershed source of a Ford (11 R321): NI, adapter, steward, Pass port. R321 names none for a die's always-on logic or telemetry agent: the
die's power-domain controllers and its telemetry agent stand for them (DESIGN CHOICE, notes/assumptions/85.md). -/
def fordSrc : FordId → Nat
  | .unitPort n => n
  | .adapterDie a => a
  | .adapterLink a => a
  | .passPort k => passAdp k
  | .steward s => s
  | .alwaysOn d => src d 477
  | .telemetry d => src d 467

/-- The stopped side is in Retention or Off by its own power sequence (07 R228). -/
def Block.fordSilent (b : Block) (f : FordId) : Bool :=
  match f with
  | .steward s => (b.dom (stwDom s)).st == 4 || (b.dom (stwDom s)).st == 7 || b.domSt (stwNi s) == 4 || b.domSt (stwNi s) == 7
  | .adapterLink a => b.domSt (farAdp a) == 4 || b.domSt (farAdp a) == 7
  | .unitPort n => b.domSt n == 4 || b.domSt n == 7
  | .adapterDie a => b.domSt a == 4 || b.domSt a == 7
  | .passPort k => b.domSt (passAdp k) == 4 || b.domSt (passAdp k) == 7
  | _ => false

/-- A Ford holds data or an unacknowledged request (07 R228). -/
def Block.fordHolds (b : Block) (f : FordId) : Bool :=
  let x := b.ford f
  !x.quietReset || !x.up.isEmpty || !x.down.isEmpty || !x.reqs.isEmpty || !x.recs.isEmpty ||
  (match f with
   | .adapterDie a => (b.elem a).ins.any (fun kv => !kv.2.q.isEmpty)
   | .adapterLink a => !(b.link a).inbox.isEmpty
   | .passPort k => !(b.link (passAdp k)).inbox.isEmpty
   | _ => false)

/-- FORD_STALL (07 R228): 4 us after the far side's last clock edge, which the first of these commands brings with it; the event is raised
once, when the Ford holds something (notes/assumptions/88.md). -/
def execFordStall (f : FordId) (s : State) : Host.Outcome State Fault Refusal :=
  s.on (.fordStall f) (fun b =>
    if (b.ford f).stalled || b.fordSilent f then b
    else
      let b := if (b.ford f).stopped then b else (b.elapse (4 * us)).modFord f (fun x => { x with stopped := true })
      if b.fordHolds f then (b.modFord f (fun x => { x with stalled := true })).event (fordSrc f) 0x39 none 0 else b)

/-- FORD_UNSTABLE (07 R227): 1,024 receiving cycles without agreement. The last accepted value stands; no rule names a value that crosses so. -/
def execFordUnstable (f : FordId) (s : State) : Host.Outcome State Fault Refusal :=
  s.on (.fordUnstable f) (fun b => (b.elapse (1024 * fordCycle f)).event (fordSrc f) 0x3A none 0)

/-- What a Ford held goes on its way (07 R228). -/
def Block.fordResume (b : Block) (f : FordId) : Block :=
  let x := b.ford f
  let b := b.modFord f (fun x => { x with down := [], recs := [] })
  match f with
  | .unitPort n => (b.touch n).modNi n (fun y => { y with toUnit := x.down.reverse ++ y.toUnit })
  | .steward s => b.stwTake s
  | .telemetry d => x.recs.foldl (fun b r => b.agentTake d r) b
  | _ => b

/-- FORD_CLOCK_RETURN (07 R228): the Ford resumes without loss and counts the stall. -/
def execFordClockReturn (f : FordId) (s : State) : Host.Outcome State Fault Refusal :=
  s.on (.fordClockReturn f) (fun b =>
    let x := b.ford f
    if !x.stopped then b
    else ((b.modFord f (fun x => { x with
      stopped := false, stalled := false, stalls := x.stalls + (if x.stalled then 1 else 0) })).fordResume f).fordSee f)

end Sys2Proof.Machine
end

