-- ==== Sys2Proof/Machine/LinkTurn.lean ====
section
/-! DEFINITION. A turn of an adapter, and a frame received, of every type (spec/08 R238-R251; 09 R263-R273): what training sends, and where
the content of a good frame goes. -/

namespace Sys2Proof.Machine

/-! ### What is sent -/

/-- PARAM of a Pass port (09 R273). -/
def Block.passParam (b : Block) (k : Nat) : Param :=
  { version := 1, kind := 2, side := k, die := 0, link := 0, pkg := b.pkgid, vcs := 0, rxok := (b.link (passAdp k)).far.isSome, tsrc := false,
    ridgeless := false, design := b.design % 2 ^ 32, leader := b.time.leader, members := b.members.length, leaderPkg := b.leaderPkg,
    serial := b.fuseSerial }

/-- The PARAM content that a side sends (08 R249, R250; 09 R273). -/
def Block.paramOut (b : Block) (a : Nat) : BitVec 640 :=
  if isPass a then (b.passParam (portOf a)).cont true else (b.ownParam a).cont false

/-- The frame that a step of training sends (08 R244, R248): PARAM; CREDIT_INIT content, in turn with an IDLE once the far content is held;
READY. -/
def Block.trainFrame (b : Block) (a : Nat) : Option Frame :=
  let l := b.link a
  let idle (ty : FType) : Frame := plainFrame ty l.next l.ackNo 0
  match l.st with
  | .param => some (plainFrame .param 0 0xFFF (b.paramOut a))
  | .creditInit => some (if l.ciGot && l.ciTurn then idle .idle
      else plainFrame .creditInit 0 0xFFF (creditCont (ownCredits a).1 (ownCredits a).2))
  | .timeAlign => some (idle .idle)
  | .ready => some (idle .ready)
  | .retrain => if l.retrained then some (idle .ready) else none
  | _ => none

/-- One turn of an adapter: every 28th frame of a Pass link is an ALIGN (09 R263), training sends its own frames, and else the adapter moves
flits, while every clock of the link runs (07 R228). -/
def Block.linkTurn (b : Block) (a : Nat) : Block :=
  if b.hclkOff a || (isPass a && (b.ford (.passPort (portOf a))).stopped) then b
  else if isPass a && 27 ≤ (b.port (portOf a)).sinceAlign && b.takesFrames a && b.domSt a == 0 then
    (if b.elemFenced a then b else (b.passNiServe a).adpIngress a).sendAlign (portOf a)
  else match b.trainFrame a with
    | some fr => (b.putFrame a fr).modLink a (fun l => { l with ciTurn := !l.ciTurn })
    | none => b.adpTurn a

/-- ARBITRATION (04 R118; 08 R245, R246; 09 R266): one FCLK of a router, or one turn of an adapter. -/
def execArbitration (e : Nat) (s : State) : Host.Outcome State Fault Refusal :=
  s.on (.arbitration e) (fun b => if isRouter e then b.arbitrate e else b.linkTurn e)

/-! ### What is received -/

/-- The content of a good frame goes where its type says (08 R238, R248, R251; 09 R268, R269). -/
def Block.frameEffect (b : Block) (a : Nat) (fr : Frame) : Block :=
  let k := portOf a
  let c := fr.cont
  let bytes (lo n : Nat) : List Nat := (List.range n).map (fun i => contByte c (lo + i))
  match fr.ty with
  | .param => b.paramIn a (paramOf (isPass a) c)
  | .creditInit => b.creditInitIn a (bytes 0 21) (contWord c 21 2)
  | .idle => b.echoIn a
  | .ready => b.readyTake a
  | .time =>
    if !isPass a then b.timeFrame a c
    else if contByte c 0 = 0x11 then b.passRequest k (contByte c 1)
    else if contByte c 0 = 0x12 && b.time.parent == some k then b.passReply (contByte c 1) (contWord c 8 8) (contWord c 16 8)
    else b
  | .align =>
    let f := contByte c 40
    let s := contByte c 41
    b.alignIn k (contWord c 0 2) (contWord c 38 2) (bytes 2 18) (bytes 20 18) (f.testBit 0) (f.testBit 1)
      (if s.testBit 0 && s / 2 % 32 < 18 then some (s / 2 % 32) else none)
  | .close => b.closeIn k (contByte c 0)
  | _ => b

/-- A frame arrives whole, and is used where it is good. -/
def Block.frameTake (b : Block) (a : Nat) (fr : Frame) (err : BitVec 10280) (par : BitVec 600) (bad : BitVec 10280) : Block :=
  match b.frameIn a fr err par bad with
  | (b, some fr) => b.frameEffect a fr
  | (b, none) => b

/-- The Ford of a Pass port whose recovered clock has stopped holds the good frames that it has, up to 32 flits (07 R226, R228). -/
def Block.passHold (b : Block) (a : Nat) (fr : Frame) (good : Bool) : Block :=
  let held := (((b.link a).inbox ++ [fr]).map (fun x => x.slots.length)).sum
  if good && held ≤ fordDepth (.passPort (portOf a)) then b.modLink a (fun l => { l with inbox := l.inbox ++ [fr] }) else b

/-- FRAME_RECEIVE (08 R241): the oldest frame on its way to the adapter, or, at a Pass port, the frame off the cable, with the bits that are
wrong on arrival; `bad`: content bits that the far side itself sends wrong, which the FEC does not see. It waits while the Ford it crosses has lost a clock (07 R228). -/
def execFrameReceive (a : Nat) (err : BitVec 10280) (par : BitVec 600) (far : Option Frame) (bad : BitVec 10280) (s : State) :
    Host.Outcome State Fault Refusal :=
  s.on (.frameReceive a err par far bad) (fun b =>
    if b.hclkOff a then b
    else if isPass a && (b.ford (.passPort (portOf a))).stopped then
      (match far with
       | some fr => b.passHold a fr (err = 0 && par = 0 && bad = 0)
       | none => b)
    else match far with
    | some fr => b.frameTake a fr err par bad
    | none => match (b.link a).inbox with
      | [] => b
      | fr :: rest => (b.modLink a (fun l => { l with inbox := rest })).frameTake a fr err par 0)

end Sys2Proof.Machine
end

