-- ==== Sys2Proof/Machine/Watershed.lean ====
section
/-! DEFINITION. The Watershed and fault reactions (spec/11; 12 R343; 14 R383): messages through the collectors, fences, the lead's
reaction, the sweep, and event records. -/

namespace Sys2Proof.Machine

/-! ### Fences (11 R318, R335; 12 R343, R349, R361) -/

/-- A repair that ends because a larger one takes it in (12 R361); its fences stay counted (R349). -/
def Block.endInner (b : Block) (ty id : Nat) : Block :=
  { b with scopes := b.scopes.mapVals (fun k sc =>
      if k != scKey ty id && scopeIn (k / 65536) (k % 65536) ty id then { fences := sc.fences } else sc) }

/-- The links of a scope stop, on both sides, a neighbour's Ridge too (12 R357): each side answers for frames that may have been accepted (08 R259; 09 R281, R286). -/
def Block.stopLinks (b : Block) (ty id kind : Nat) : Block :=
  let as := ((scopeElems ty id).filter isAdp).flatMap sides |>.dedup
  (as.filter isPass).foldl (fun b a =>
    let k := portOf a
    let b := b.modLead (fun l => { l with steerQ := l.steerQ.filter (· != k) })
    ((b.portTo k 10).modPort k (fun p => { p with step := 0, rotStep := none, prop := none })).chooseParent) (b.linksDown as kind)

/-- Fords of a scope: those of its NIs, adapters, Pass ports and stewards (07 R226; 12 R340). -/
def scopeFords (ty id : Nat) : List FordId :=
  (scopeNis ty id).map .unitPort ++ ((scopeElems ty id).filter isDieAdp).flatMap (fun a => [.adapterDie a, .adapterLink a]) ++
  ((scopeElems ty id).filter isPass).map (fun a => .passPort (portOf a)) ++
  (allStws.filter (fun s => (scopeDoms ty id).contains (stwDom s))).map .steward

/-- A reset notice that waits for a stopped clock completes when the scope is fenced (07 R232). -/
def Block.endNotices (b : Block) (ty id : Nat) : Block :=
  ((scopeFords ty id).filter (fun f => (b.ford f).stopped && !(b.ford f).quietReset)).foldl (fun b f =>
    (b.modFord f (fun x => { x with req := false, ack := false, reqF := false, ackF := false })).fordUp f) b

/-- A scope is shut: its NIs answer what they hold, its links stop, and a `SCOPE_FENCE` of it completes (11 R335; 12 R340, R345). -/
def Block.shut (b : Block) (ty id kind : Nat) : Block :=
  let b := (scopeNis ty id).foldl (fun b n => (b.flushNi n kind .fence).modNi n (fun x => { x with fenced := true })) b
  let b := ((scopeElems ty id).filter isAgent).foldl (fun b e => b.flushAgent e kind) b
  let b := if ty = 10 && dieOf id < 12 then b.flushNi (stwNi id) kind .unitReset else b
  let b := (b.stopLinks ty id kind).endNotices ty id
  b.finishAll (fun f => f.opc == 0x10 && f.scTy == ty && f.scId == id) stOk
    (fun _ => [(16, 1, 3), (20, 4, (b.scope ty id).discarded)])

/-- A scope enters FENCED by a Containable fault of kind `kind`: FAULT is set, RETIRED on the third time in 24 h, its NIs answer their
units and what they hold, and its links stop (11 R335; 12 R343, R349). -/
def Block.enterFence (b : Block) (ty id kind : Nat) : Block :=
  let b := b.endInner ty id
  let ft := b.ft 12
  let b := b.modScope ty id (fun sc =>
    let fs := ft :: sc.fences.filter (fun t => ft < t + 276480000000000)
    { sc with st := 3, fault := true, kind := kind, since := b.now, stopped := true, swept := false, fences := fs,
              retired := sc.retired || 3 ≤ fs.length })
  let gone (why : Nat) (k : Option Nat) : Bool :=
    (why == 2 || why == 6) && k.any (fun k => scopeIn (k / 65536) (k % 65536) ty id)
  let b := b.modLead (fun l => { l with
    commit := l.commit.map (fun c => if gone c.why c.scope then { c with scope := none } else c),
    commitQ := l.commitQ.filter (fun x => !gone x.1 x.2),
    planeNotice := l.planeNotice.filter (fun p => !gone 6 (some (scKey 8 p.1))) })
  let b := (scopeDoms ty id).foldl (fun b d =>
    if (b.dom d).target.isSome then
      (b.modDom d (fun x => { x with st := if x.st = 8 then 0 else x.st, target := none, excl := false })).finishAll (fun f => f.opc == 0x0D && f.scId == d) stDiscarded
        (fun _ => discRes b.nextSeq ty id)
    else b) b
  b.shut ty id kind

/-- A scope in repair that contains another one (12 R361). -/
def Block.repairAround (b : Block) (ty id : Nat) : Option (Nat × Nat) :=
  (b.scopes.find? (fun kv => kv.1 != scKey ty id && kv.2.st != 0 && scopeIn ty id (kv.1 / 65536) (kv.1 % 65536))).map
    (fun kv => (kv.1 / 65536, kv.1 % 65536))

/-- A fault in a granule that is fenced already is recorded and starts nothing new (11 R318). -/
def Block.covered (b : Block) (ty id : Nat) : Bool :=
  match b.repairAround ty id with
  | some (t, i) => (b.scope t i).st == 3
  | none => (b.scope ty id).st == 3

/-- The fence lines of a Containable granule are driven; a repair that the fault lies in goes back to FENCED (11 R318 step 2;
12 R343, R361). -/
def Block.fence (b : Block) (ty id kind : Nat) : Block :=
  match b.repairAround ty id with
  | some (t, i) =>
    let b := b.modScope ty id (fun sc => { sc with stopped := false })
    if (b.scope t i).st = 3 then b else b.enterFence t i kind
  | none => if (b.scope ty id).st = 3 then b else b.enterFence ty id kind

/-- The base beat of a message, CHECK over bits 191:8 (11 R314). -/
def Msg.beat (m : Msg) : BitVec 192 :=
  let v := ((((((m.src % 8192 * 2 ^ 16 + m.nodeid.toNat) * 2 ^ 8 + m.kind % 256) * 4 + m.sev % 4) * 2 ^ 46 + m.addr.toNat) * 2 ^ 64
    + m.time % 2 ^ 64) * 2 ^ 32 + m.detail.toNat) * 8 + (if m.ext.isSome then 4 else 0)
  BitVec.ofNat 192 (v * 256 + crc8 v 184)

/-- The extension: the header bits, and the CRC-8 of the third beat below them (11 R314). -/
def extBeat (h : BitVec 128) : BitVec 136 := BitVec.ofNat 136 (h.toNat * 256 + crc8 h.toNat 128)

/-- CHECK of a beat holds: its low 8 bits are the CRC-8 of the bits above them (11 R314). -/
def checkOk (v n : Nat) : Bool := crc8 (v / 256) n == v % 256

/-- A message as a collector receives it over wires that turn the bits of `err` and `extErr`: none when CHECK of its base beat fails; and whether
a CHECK failed, which costs an extension alone its place (11 R315). -/
def Msg.receive (m : Msg) (err : BitVec 192) (extErr : BitVec 136) : Option Msg × Bool :=
  let v := (m.beat ^^^ err).toNat
  if !checkOk v 184 then (none, true)
  else
    let x := m.ext.map (fun h => (extBeat h ^^^ extErr).toNat)
    let bad := x.any (fun y => !checkOk y 128)
    (some { m with
      src := v / 2 ^ 179, nodeid := BitVec.ofNat 16 (v / 2 ^ 163), kind := v / 2 ^ 155 % 256, sev := v / 2 ^ 153 % 4,
      addr := BitVec.ofNat 46 (v / 2 ^ 107), time := v / 2 ^ 43 % 2 ^ 64, detail := BitVec.ofNat 32 (v / 2 ^ 11),
      ext := if bad then none else x.map (fun y => BitVec.ofNat 128 (y / 256)) }, bad)

/-- A source holds its own sticky state: a message of its was lost (11 R315). -/
def Block.keepSticky (b : Block) (s : Nat) : Block :=
  b.modWsh (fun w => { w with kept := if w.kept.contains s then w.kept else w.kept ++ [s] })

/-- The message names the granule that its fence has taken: a scope in repair around the fault's own (11 R328; 12 R361). -/
def Msg.fenced (m : Msg) (around : Option (Nat × Nat)) : Msg :=
  match around with
  | some (t, i) => if m.sev = 2 && m.scTy != 0 then { m with scTy := t, scId := i } else m
  | none => m

/-- A message enters the die collector: the fence lines are driven, and it goes on, over both Col sidebands from a compute die
(11 R312, R318). A WSH_LINK_ERROR names the source whose input it is (notes/assumptions/92.md). -/
def Block.collect (b : Block) (d : Nat) (err : BitVec 192) (extErr : BitVec 136) : Block :=
  match b.wsh.die.get [] d with
  | [] => b
  | m :: rest =>
    if b.wsh.pathLost.contains d then b
    else
      let b := b.modWsh (fun w => { w with die := w.die.set d (rest ++ (w.late.get [] d).take 1), late := w.late.mod [] d (·.drop 1) })
      let (got, bad) := m.receive err extErr
      let b := if bad then b.event (src d 464) 0x70 none (detS 0 m.src 0) else b
      match got with
      | none => b.keepSticky m.src
      | some m =>
        let old := m.sev = 2 && b.covered m.scTy m.scId
        let around := b.repairAround m.scTy m.scId
        let b := if m.sev = 2 && m.scTy != 0 && m.kind != 0xFE then b.fence m.scTy m.scId m.kind else b
        let m := if old then { m with scTy := 0, scId := 0 } else m.fenced around
        b.modWsh (fun w => { w with up := w.up ++ (if d < 12 then [m, m] else [m]) })

/-- DIE_COLLECTOR_MESSAGE (11 R318). -/
def execDieCollectorMessage (d : Nat) (e : MsgErr) (s : State) : Host.Outcome State Fault Refusal :=
  s.on (.dieCollectorMessage d e) (fun b => b.collect d e.beat e.ext)

/-! ### The package collector (11 R320, R323, R330; 14 R383) -/

/-- A Fatal fence: FAULT_N falls, Pass ports close, everything in the mesh is lost without answer, every NI answers its unit (11 R320). -/
def Block.fatalFence (b : Block) (kind : Nat) : Block :=
  if b.fatal then b
  else
    let b := { b with fatal := true, fatalKind := kind }
    let b := ((List.range 4).filter (fun i => (b.ring (16 + i)).en)).foldl (fun b i => b.irq (b.ring (16 + i)).vector) b
    let b := (List.range 8).foldl (fun (b : Block) k =>
      let b := if (b.link (passAdp k)).st == .down then b else b.sendClose k 3
      let b := b.modLink (passAdp k) (fun l => { l with st := .down })
      if (b.port k).st ∈ [1, 2, 3, 4, 5, 7, 8, 9] then b.portTo k 6 else b) b
    let b := { b with
      elems := b.elems.mapVals (fun _ el => { el with ins := [], outs := [] }), wires := [], crWires := [], fcWires := [],
      links := b.links.mapVals (fun _ l => { l with replay := [], resend := 0, inbox := [], returns := [] }) }
    let b := (b.nis.map (·.1)).foldl (fun b n => if isNi n then b.flushNi n kind .fence else b) b
    { b with
      gates := b.gates.mapVals (fun _ g => { g with ownq := [], mgtq := [], cur := none, pre := none }), aborts := [] }

/-- A steward is not lost after all: its fence ends, and the lead role is its again where it had it (14 R381, R383). -/
def Block.notLost (b : Block) (s : Nat) : Block :=
  let b := if (b.stw s).wasLead then
      b.modLead (fun l => { l with who := some (stwNo s), bootRom := !(b.stw s).image }) else b
  let b := b.modStw s (fun x => { x with lost := false, lostAt := none, wasLead := false })
  let b := b.modScope 10 s (fun sc => { sc with
    st := 0, stopped := false, fault := false, swept := false, retired := false, fences := if sc.st = 3 then sc.fences.drop 1 else sc.fences })
  (scopeNis 10 s).foldl (fun b n => b.modNi n (fun x => { x with fenced := false })) b

/-- Of two STEWARD_LOST messages by which a pair names each other within 100 us, that from the lower NodeID stands and the other is discarded
(14 R383): the higher one is lost. -/
def Block.mutualLoss (b : Block) (m : Msg) : Option Block :=
  if m.kind != 0x60 then none
  else match b.wsh.losses.find? (fun o => o.src == buddy m.src && o.scId == m.src && (o.time - m.time) + (m.time - o.time) ≤ 320000) with
  | none => none
  | some o =>
    let low := min m.src o.src
    let high := max m.src o.src
    let b := if m.src != low then b
      else b.modWsh (fun w => { w with
        held := (w.held.erase o) ++ [m], lead := (w.lead.filter (fun x => !(x.kind == 0x60 && x.src == o.src && x.time == o.time))) ++ [m] })
    let b := b.notLost low
    if (b.stw high).lost then some b
    else
      let lead := b.leadSrc == high && b.lead.who.isSome
      let b := b.modStw high (fun x => { x with lost := true, lostAt := some (b.ft 12), wasLead := lead, hbSent := [], hbGot := none })
      some (if lead then b.newLead high b.nextSeq else b)

/-- A message reaches the package collector (11 R323), whose input is named by local index 476 of the die (notes/assumptions/92.md). -/
def Block.arrival (b : Block) (err : BitVec 192) (extErr : BitVec 136) : Block :=
  match b.wsh.up with
  | [] => b
  | m :: rest =>
    let b := b.modWsh (fun w => { w with up := rest })
    let (got, bad) := m.receive err extErr
    let b := if bad then b.event (ioSrc 480) 0x70 none (detS 0 (src (dieOf m.src) 476) 0) else b
    match got with
    | none => b.keepSticky m.src
    | some m =>
    let b := b.modWsh (fun w => { w with kept := w.kept.filter (· != m.src) })
    let key := (m.src, m.kind, m.time)
    if b.wsh.seen.contains key then b.modWsh (fun w => { w with seen := w.seen.erase key })
    else
      let first := b.lead.profile != 9 && !b.wsh.lead.any (fun x => x.sev == 2 && x.scTy != 0)
      let m := { m with arrival := b.ft 12, profile := if m.sev = 2 && m.scTy != 0 && m.kind != 0xFE && first then 9 else 15 }
      let b := b.modWsh (fun w => { w with
        seen := if dieOf m.src < 12 then w.seen ++ [key] else w.seen,
        sticky := w.sticky.mod 0 (m.src / 64) (fun x => x ||| BitVec.ofNat 64 (2 ^ (m.src % 64))) })
      match b.mutualLoss m with
      | some b => b
      | none =>
        let b := if m.kind != 0x60 then b
          else b.modWsh (fun w => { w with losses := w.losses.filter (fun o => m.time ≤ o.time + 320000) ++ [m] })
        let b := b.modWsh (fun w => { w with held := w.held ++ [m], lead := if 2 ≤ m.sev then w.lead ++ [m] else w.lead })
        let soon := match b.wsh.sevAt.find m.sev with | some t => decide (b.now < t + us) | none => false
        let b := if b.wsh.sevmask.getLsbD (8 * m.sev + 4) && !soon then
            (b.irq (b.wsh.sevmask.toNat / 2 ^ (8 * m.sev) % 16)).modWsh (fun w => { w with sevAt := w.sevAt.set m.sev b.now })
          else b
        if m.sev = 3 then b.fatalFence m.kind else b

/-- WSH_MESSAGE_ARRIVAL (11 R323). -/
def execWshMessageArrival (e : MsgErr) (s : State) : Host.Outcome State Fault Refusal :=
  s.on (.wshMessageArrival e) (fun b => b.arrival e.beat e.ext)

/-- WSH_PATH_LOST (11 R313): a die has reached no collector for 10 us. -/
def execWshPathLost (d : Nat) (s : State) : Host.Outcome State Fault Refusal :=
  s.on (.wshPathLost d) (fun b =>
    if b.wsh.pathLost.contains d then b
    else
      let b := (b.elapse (10 * us)).modWsh (fun w => { w with pathLost := w.pathLost ++ [d] })
      b.fault (ioSrc 480) 0x71 9 d none (detS 9 d 0))

/-! ### The lead's reaction (11 R318 steps 4 and 5; 03 R107; 13 R378; 16 R431) -/

/-- A command in flight overlaps a granule (15 R408): repairs of the granule itself, or of a scope around it, go on (12 R361). -/
def Block.struck (b : Block) (f : Flight) (ty id : Nat) : Bool :=
  if isRepairOp f.opc then scopeIn f.scTy f.scId ty id && !(f.scTy == ty && f.scId == id)
  else match f.scTy with
  | 0 => false
  | 14 => (scopeDoms ty id).contains f.scId
  | 7 | 11 | 12 | 13 => (b.cmdNis f.scTy f.scId).any (fun n => (elemScopes n).contains (ty, id))
  | t => scopeIn ty id t f.scId || scopeIn t f.scId ty id

/-- A fence meets a route commit before its commit point (03 R107): the driver's ends, one of the stewards starts over with the
Degraded routes. -/
def Block.cutCommit (b : Block) (seq ty id : Nat) : Block :=
  match b.lead.commit with
  | none => b
  | some c =>
    if c.point.isSome then b
    else
      let b := b.modLead (fun l => { l with commit := none })
      if c.why = 0 then b.finishAll (fun f => f.opc == 8) stDiscarded (fun _ => discRes seq ty id)
      else if c.why = 4 then b
      else b.modLead (fun l => { l with commitQ := l.commitQ ++ [(c.why, c.scope)] })

/-- A fence meets a profile switch before its commit point, or without a commit before every region has applied its settings (13 R378; 21 R503): the profile before it is restored. -/
def Block.cutSwitch (b : Block) (seq ty id : Nat) : Block :=
  match b.lead.switchFrom with
  | none => b
  | some p =>
    let waits := b.lead.commit.any (fun c => c.why == 4 && c.point.isNone) || b.lead.commitQ.any (fun c => c.1 == 4)
    let applied := b.now ≥ b.lead.drainFrom.getD 0 + 320000 || !(List.range 32).any (fun g => (b.region g).applying)
    if !waits && (b.lead.commit.any (fun c => c.why == 4) || (b.lead.profile == 10 && b.lead.drainFrom.isSome && applied)) then b
    else
      let b := (b.modLead (fun l => { l with
        profile := p, switchFrom := none, drainFrom := none, commitQ := l.commitQ.filter (fun c => c.1 != 4) })).applyProfile p
      b.finishAll (fun f => f.opc == 3) stDiscarded (fun _ => discRes seq ty id)

/-- A fence meets a map commit before its commit point (16 R431). -/
def Block.cutMap (b : Block) (seq ty id : Nat) : Block :=
  if b.lead.mapGran.isNone || b.lead.mapPoint.isSome then b
  else
    let b := { b with
      nis := b.nis.mapVals (fun _ x => if x.mapEpoch == b.lead.mapEpoch then x else { x with mapEpoch := b.lead.mapEpoch, cache := [] }),
      regions := b.regions.mapVals (fun _ r => { r with bankEpoch := b.lead.mapEpoch }) }
    let b := b.modLead (fun l => { l with mapGran := none, mapRcv := [], mapAck := [] })
    b.finishAll (fun f => f.opc == 6) stDiscarded (fun _ => discRes seq ty id)

/-- What the stewards do about a granule fenced by a fault (11 R318 steps 4 and 5): notices to every NI and to the other packages, profile 9, and
the Degraded routes; what is in flight and struck by it ends, `seq` being the record's. -/
def Block.fenceAct (b : Block) (seq ty id : Nat) : Block :=
  let b := b.modLead (fun l => { l with fenceN := l.fenceN ++ [(scKey ty id, allNis)] })
  let b := b.factsNow.pass.foldl (fun (b : Block) kv => { b with farOut := .notice kv.1 0xB ty id :: b.farOut }) b
  let b := ((b.cutSwitch seq ty id).cutCommit seq ty id).cutMap seq ty id
  let b := b.enterDegraded
  let b := (b.lead.flights.filter (fun f => b.struck f ty id)).foldl (fun b f => b.finish f stDiscarded (discRes seq ty id)) b
  let b := b.wantCommit 1 none
  if b.lead.commit.isNone && !b.lead.bootRom && !b.lead.restarting then b.nextCommit else b

/-- The lead acts on the oldest Containable or Fatal message. -/
def Block.react (b : Block) : Block :=
  match b.wsh.lead with
  | [] => b
  | m :: rest =>
    let b := b.modWsh (fun w => { w with lead := rest })
    let seq := match b.wsh.held.findIdx? (fun x => x == m) with
      | some i => (b.wsh.seq + i) % 2 ^ 32
      | none => match b.wsh.unack.find? (fun r => r.msg == m) with
        | some r => r.seq
        | none => b.wsh.seq
    if m.sev = 3 then
      b.finishAll (fun f => f.opc != 2) stDiscarded (fun _ => discRes seq m.scTy m.scId)
    else if m.scTy = 0 || m.kind = 0xFE then b
    else b.fenceAct seq m.scTy m.scId

/-- LEAD_FAULT_INTERRUPT (11 R318). -/
def execLeadFaultInterrupt (s : State) : Host.Outcome State Fault Refusal :=
  s.on .leadFaultInterrupt (fun b => b.react)

/-! ### The sweep (11 R335, R336; 12 R343) -/

/-- The element and port at the local end of a link scope. -/
def scopePort (ty id : Nat) : Option (Nat × Nat) :=
  match ty with
  | 1 => some (id / 2, if id % 2 = 0 then 1 else 0)
  | 2 => let a := id % 8192
         some (a, if isColC a then id / 16384 % 2 * 2 + id / 8192 % 2 else if isColI a then id / 32768 * 2 + id / 8192 % 2 else id / 32768)
  | _ => none

/-- The packets of a fenced scope: those with a flit in it, or on their way across its boundary. -/
def Block.scopePackets (b : Block) (ty id : Nat) : List Pk :=
  let es := scopeElems ty id
  let here := es.flatMap (fun e => b.packetsAt e ++ (List.range 6).flatMap (fun p =>
    match peer e p with
    | some (a, q) => if es.contains a then [] else b.crossing a q
    | none => []))
  let ends := match scopePort ty id with
    | some (e, p) => b.portPackets e p ++ (match peer e p with | some (a, q) => b.portPackets a q | none => [])
    | none => []
  pksOf (here ++ ends)

/-- The scope goes from FENCED to RESETTING, if nothing holds it or a command names it (12 R343, R353): a port whose cable was pulled
waits for a press, and no repair step runs under the boot ROM (19 R486). -/
def Block.startReset (b : Block) (ty id : Nat) : Block :=
  let sc := b.scope ty id
  let named := b.lead.flights.any (fun f => (f.opc == 0x0F || f.opc == 0x11 || f.opc == 0x14) && f.scTy == ty && f.scId == id)
  if !b.lead.bootRom && sc.st = 3 && sc.swept && (named || (!sc.hold && !sc.retired)) && !(ty = 5 && ((b.port id).fenceCause = 1 || !(b.port id).present)) then
    b.modScope ty id (fun sc => { sc with st := 4, since := b.now })
  else b

/-- The stewards have read and answered every packet of a fenced scope; `unreadable` names packets whose header cannot be read. -/
def Block.sweep (b : Block) (ty id : Nat) (unreadable : List Nat) : Block :=
  let sc := b.scope ty id
  if sc.st != 3 || sc.swept then b
  else
    let agent := b.repairStw ty id
    let b := (b.scopePackets ty id).zipIdx.foldl (fun b x =>
      if unreadable.contains x.2 then b.purge x.1 else b.dropPacket agent sc.kind x.1 false) b
    let b := b.modScope ty id (fun sc => { sc with swept := true })
    b.startReset ty id

/-- SWEEP_COMPLETE (11 R336). -/
def execSweepComplete (ty id : Nat) (unreadable : List Nat) (s : State) : Host.Outcome State Fault Refusal :=
  s.on (.sweepComplete ty id unreadable) (fun b => b.sweep ty id unreadable)

/-! ### Event records (11 R326, R329-R331, R339) -/

/-- A record goes to every enabled event ring that admits its severity (15 R412, R415). -/
def Block.toRings (b : Block) (r : Rec) : Block :=
  (List.range 4).foldl (fun b i =>
    if (b.ring (16 + i)).en && (b.ring (16 + i)).sevmask.testBit r.msg.sev then b.pushRec (16 + i) (recBytes r) (2 ≤ r.msg.sev) else b) b

/-- Records can be written: an event ring is set up, and the lead is not changing (11 R329). -/
def Block.canWrite (b : Block) : Bool := b.evtOn && b.lead.who.isSome && !b.lead.restarting && b.stwUp b.leadSrc

/-- A record is written, or waits with at most 255 others, the oldest giving way; one that no enabled ring admits is neither held nor lost
(11 R329). -/
def Block.putRec (b : Block) (r : Rec) : Block :=
  if b.canWrite then b.toRings r
  else if b.evtOn && !(List.range 4).any (fun i => (b.ring (16 + i)).en && (b.ring (16 + i)).sevmask.testBit r.msg.sev) then b
  else b.modWsh (fun w =>
    if 256 ≤ w.wait.length then { w with wait := w.wait.drop 1 ++ [r], lost := w.lost + 1 } else { w with wait := w.wait ++ [r] })

/-- Cluster and region of a source, for 11 R339. -/
def srcCluster (s : Nat) : Option (Nat × Nat) :=
  let r : Option Nat := if isRouter s then some s
    else if isEndpoint s || isAdp s then (peer s 0).map (·.1) else none
  r.map (fun r => (clusterOf r, regionOf r))

/-- Corrected errors from four sources in two clusters of a region within 1 ms (11 R339). -/
def Block.riseCheck (b : Block) (m : Msg) : Block :=
  match (if m.kind ∈ [0x01, 0x20, 0x62] then srcCluster m.src else none) with
  | none => b
  | some (_, g) =>
    let l := (m.src, b.now) :: (b.region g).rise.filter (fun x => b.now < x.2 + ms && x.1 != m.src)
    let b := b.modRegion g (fun r => { r with rise := l })
    let cls := (l.filterMap (fun x => (srcCluster x.1).map (·.1))).dedup
    let soon := match (b.region g).riseAt with | some t => decide (b.now < t + 100 * ms) | none => false
    if 4 ≤ l.length && 2 ≤ cls.length && !soon then
      (b.event (b.server g) 0x65 none (detS 7 g l.length)).modRegion g (fun r => { r with riseAt := some b.now })
    else b

/-- A message comes before another in writing order (11 R330). -/
def Msg.before (x y : Msg) : Bool :=
  x.time < y.time || (x.time == y.time && (y.sev < x.sev || (x.sev == y.sev && x.src < y.src)))

/-- The message whose record is written next: one that came late, in order of arrival, else the first by 11 R330. -/
def Wsh.nextRec (w : Wsh) : Option Msg :=
  match w.held.find? (fun m => m.time + 6400 < m.arrival) with
  | some m => some m
  | none => w.held.foldl (fun (a : Option Msg) m => match a with
      | some x => if m.before x then some m else some x
      | none => some m) none

/-- Write the record of a held message once 2 us have passed (11 R330, R331). -/
def Block.writeRecord (b : Block) : Block :=
  let waiting := if b.canWrite then b.wsh.wait else []
  let b := if b.canWrite then b.modWsh (fun w => { w with wait := [] }) else b
  let b := waiting.foldl Block.toRings b
  match b.wsh.nextRec with
  | none => b
  | some m =>
    let late := m.time + 6400 < m.arrival
    let b := if late then b else b.elapseFt 12 (m.time + 6400)
    let r : Rec := { seq := b.wsh.seq, wrap := b.wsh.wrap, msg := m }
    let b := b.modWsh (fun w => { w with
      held := w.held.erase m, seq := (w.seq + 1) % 2 ^ 32, wrap := if w.seq + 1 = 2 ^ 32 then !w.wrap else w.wrap,
      unack := w.unack ++ [r],
      first := if !w.firstValid && 2 ≤ m.sev then some r else w.first, firstValid := w.firstValid || 2 ≤ m.sev })
    (b.putRec r).riseCheck m

/-- EVENT_RECORD_WRITE (11 R330). -/
def execEventRecordWrite (s : State) : Host.Outcome State Fault Refusal :=
  s.on .eventRecordWrite (fun b => if b.refclk then b.writeRecord else b)

end Sys2Proof.Machine
end

