-- ==== Sys2Proof/Machine/Repair.lean ====
section
/-! DEFINITION. Repair in service (spec/12; 11 R322): the repair states of a scope, its reset, test and readmission, and the scrubbing
of tables. -/

namespace Sys2Proof.Machine

/-! ### Leaving ACTIVE without a fault (12 R343, R345, R352, R355) -/

/-- Routes that exclude the scope are committed; at their commit point it is CLOSING. -/
def Block.closeRoutes (b : Block) (ty id : Nat) : Block :=
  let b := if degrades ty id then (b.modScope ty id (fun sc => { sc with degr := true })).enterDegraded else b
  b.wantCommit 6 (some (scKey ty id))

/-- A repair is accepted for an ACTIVE scope. A plane's waits for the other packages to acknowledge (12 R355 step 1). -/
def Block.closeScope (b : Block) (ty id : Nat) (force offlined hold test : Bool) : Block :=
  let b := b.modScope ty id (fun sc => { sc with
    force := force, offlined := offlined, hold := hold, selfTest := test, kind := 0, passed := 0, discarded := 0, widened := false })
  let pkgs := b.factsNow.pass.map (·.1)
  if ty = 8 && !pkgs.isEmpty then
    let b := pkgs.foldl (fun (b : Block) k => { b with farOut := .notice k 0 id 0 :: b.farOut }) b
    b.modLead (fun l => { l with planeNotice := some (id, b.now, pkgs) })
  else b.closeRoutes ty id

/-- Every acknowledgement has come, or the wait has ended: the repair of the plane goes on. -/
def Block.planeGo (b : Block) : Block :=
  match b.lead.planeNotice with
  | some (p, _, _) => (b.modLead (fun l => { l with planeNotice := none })).closeRoutes 8 p
  | none => b

/-- PLANE_NOTICE_LIMIT (12 R355): 1 s after the notice. -/
def execPlaneNoticeLimit (s : State) : Host.Outcome State Fault Refusal :=
  s.on .planeNoticeLimit (fun b =>
    match b.lead.planeNotice with
    | some (_, t, _) => (b.elapseTo (t + second)).planeGo
    | none => b)

/-- Package that an MGT_ACK at the front of a wire into the lead's NI comes from (12 R355). -/
def Block.ackFrom (b : Block) (n p : Nat) : Option Nat :=
  match (b.wires.get [] (wkey n p)).head? with
  | some (_, f) => if n == stwNi b.leadSrc && hCls f.hdr == MGT && hOpc f.hdr == 2 && nodePkg (hSrc f.hdr) != b.pkgid
      then some (nodePkg (hSrc f.hdr)) else none
  | none => none

/-- A package has acknowledged the notice of a plane repair. -/
def Block.noticeAck (b : Block) (pkg : Nat) : Block :=
  match b.lead.planeNotice with
  | some (p, t, l) =>
    let b := b.modLead (fun x => { x with planeNotice := some (p, t, l.filter (· != pkg)) })
    if (l.filter (· != pkg)).isEmpty then b.planeGo else b
  | none => b

/-- ANSWER_RECEIVE (02 R66; 12 R355): one flit of an answer off the wire, or an abort that the fabric sent. -/
def execAnswerReceive (n p : Nat) (err : BitVec 672) (s : State) : Host.Outcome State Fault Refusal :=
  s.on (.answerReceive n p err) (fun b =>
    match b.ackFrom n p with
    | some pkg => (b.answerIn n p err).noticeAck pkg
    | none => b.answerIn n p err)

/-! ### CLOSING, DRAINED, FENCED (12 R343, R351) -/

/-- A CLOSING scope holds no packet and no outstanding work. -/
def Block.drained (b : Block) (ty id : Nat) : Bool :=
  (b.scopePackets ty id).isEmpty &&
  (scopeDoms ty id).all (fun d => (b.dom d).st == 4 || 6 ≤ (b.dom d).st || ((b.dom d).st == 0 && b.domIdle d)) &&
  (allStws.filter (fun s => (scopeDoms ty id).contains (stwDom s))).all (fun s => b.niIdle (stwNi s))

/-- The fence lines of a planned repair are driven and FENCE_NOTICE goes out (12 R343, R355 step 4; 11 R318 step 4). -/
def Block.fencePlanned (b : Block) (ty id : Nat) : Block :=
  let b := b.modScope ty id (fun sc => { sc with st := 3, since := b.now, swept := false })
  let b := b.shut ty id 0
  let b := b.modLead (fun l => { l with fenceN := l.fenceN ++ [(scKey ty id, allNis)] })
  let b := b.factsNow.pass.foldl (fun (b : Block) kv => { b with farOut := .notice kv.1 0xB ty id :: b.farOut }) b
  if degrades ty id then b.scaleAll else b

/-- The stewards of a scope that closes pass their duties on (12 R343; 14 R384): the mirror has them from CLOSING on, what it had begun starts anew,
and a lead gives up the rings, as one that is lost does (R358). -/
def Block.passDuties (b : Block) (ty id : Nat) : Block :=
  let ss := allStws.filter (fun s => (scopeDoms ty id).contains (stwDom s))
  let b := ss.foldl (fun b s =>
    (b.modRegion (stwRegion s) (fun r => { r with report := none })).reloadAnew s true) b
  if ss.contains b.leadSrc && b.lead.who.isSome then (let (v, b) := b.free 32; b.newLead b.leadSrc v.toNat) else b

/-- SCOPE_DRAINED (12 R343): CLOSING to DRAINED, and on to FENCED. -/
def execScopeDrained (ty id : Nat) (s : State) : Host.Outcome State Fault Refusal :=
  s.on (.scopeDrained ty id) (fun b =>
    if (b.scope ty id).st != 1 then b
    else
      let b := b.passDuties ty id
      if b.drained ty id then b.fencePlanned ty id else b)

/-- A scope that has not drained returns to ACTIVE; routes and, where it had caused it, profile 9 end at the next commit. -/
def Block.reopen (b : Block) (ty id : Nat) : Block :=
  let b := b.modScope ty id (fun sc => { sc with
    st := 0, hold := false, offlined := false, force := false, selfTest := false, degr := false, since := b.now })
  let b := (scopeDoms ty id).foldl (fun b d => b.modDom d (fun x => { x with idleFrom := b.now })) b
  let b := b.finishAll (fun f => f.scTy == ty && f.scId == id && (f.opc == 0x0F || f.opc == 0x10 || f.opc == 0x14)) stTimeout
    (fun f => [(16, 1, 0), (20, 4, 0)] ++ (if f.opc == 0x14 then [(24, 4, 0)] else []))
  (b.wantCommit 7 none).mayLeave

/-- SCOPE_DRAIN_TIMEOUT (12 R343, R346): 100 us after CLOSING began. -/
def execScopeDrainTimeout (ty id : Nat) (s : State) : Host.Outcome State Fault Refusal :=
  s.on (.scopeDrainTimeout ty id) (fun b =>
    let sc := b.scope ty id
    if sc.st != 1 then b
    else
      let b := b.elapseTo (sc.since + 320000)
      if sc.force then
        let b := b.passDuties ty id
        (b.modScope ty id (fun sc => { sc with discarded := (b.scopePackets ty id).length })).fencePlanned ty id
      else b.reopen ty id)

/-! ### RESETTING (12 R347; 06 R202, R203; 18 R464) -/

/-- Every event counter of an element is cleared with OVF set (18 R464). -/
def Elem.loseCounters (el : Elem) (n now : Nat) : Elem :=
  { el with ctr := [], ovf := (List.range n).map (fun i => (i, true)), wraps := [], wrapRep := [], onFrom := now }

/-- An element of a scope comes out of reset: its retained contents and the work it held are gone (10 R310; 12 R347). Spare rows stay in use
(12 R354). -/
def Block.resetElem (b : Block) (e : Nat) : Block :=
  let b := (b.loseTables e).modElem e (fun el => { el.loseCounters (if isRouter e then 64 else 16) b.now with
    rowHits := [], badRows := [], tel := { el.tel with counts := [], lfsr := none, samples := [], rot := 0 } })
  if isAgent e then (b.modRegion (agentRegion e) (fun r => { r with lookq := [] })).newIncarnation e
  else if isNi e then
    (((b.endOwnTags e).modNi e (fun x => { x with
      locks := [], cache := [], lookups := [], dupf := [], portUp := false, txTaken := [], txIn := [], rels := [], rxCred := [], oldOrdered := [],
      cairnCnt := 0 })).newIncarnation e).modFord (.unitPort e) (fun f => { f with reqF := true, ackF := true, up := [], down := [] })
  else b

/-- A side starts to train; a Pass port whose cable is new has its module read first (09 R273). -/
def Block.startTrain (b : Block) (a : Nat) : Block :=
  if isPass a && !(b.port (portOf a)).module then (b.modLink a (fun l => { l with st := .down })).modPort (portOf a) (fun p => { p with
    step := 1, since := b.now, pwr := true, cmisFails := 0 })
  else b.linkStep a .phyTrain

/-- Training of the links of a scope begins with TESTING (12 R348, R357). -/
def Block.trainLinks (b : Block) (ty id : Nat) : Block :=
  ((scopeElems ty id).filter isAdp).foldl (fun (b : Block) a =>
    if b.ridgelessAt a then b
    else (sides a).foldl (fun (b : Block) x =>
      (b.modLink x (fun l => { l with
        attempts := 0, ident := if ty == 9 && isColC x then none else l.ident })).startTrain x) b) b

/-- Every domain of the scope is out of reset: TESTING. -/
def Block.scopeReset (b : Block) (ty id : Nat) : Block :=
  let b := (scopeDoms ty id).foldl (fun (b : Block) d => b.modDom d (fun x => { x with
    st := 0, idleFrom := b.now, since := b.now, stale := [], noGold := false, target := none, unarmed := false, offRoute := false,
    bias := onBias b.immProfile })) b
  let b := b.clearScope ty id
  let b := (scopeElems ty id).foldl Block.resetElem b
  let b := (allStws.filter (fun s => (scopeDoms ty id).contains (stwDom s))).foldl
    (fun b s => b.clearSteward s (ty == 9)) b
  (b.trainLinks ty id).modScope ty id (fun sc => { sc with st := 5, since := b.now })

/-- SCOPE_RESET_DONE (12 R347). -/
def execScopeResetDone (ty id : Nat) (s : State) : Host.Outcome State Fault Refusal :=
  s.on (.scopeResetDone ty id) (fun b => if (b.scope ty id).st = 4 then b.scopeReset ty id else b)

/-! ### TESTING (12 R348, R349, R357, R359; 16 R437) -/

/-- Tests of a scope's type, by their codes (12 R348; 16 R437). -/
def testsOf (ty : Nat) (full : Bool) : List Nat :=
  match ty with
  | 1 | 2 => [1]
  | 3 | 4 => [2, 9]
  | 5 => [2, 3]
  | 10 => [5, 7, 8]
  | 9 => [2, 4, 5, 7, 8, 9] ++ (if full then [6] else [])
  | _ => [4, 5, 8] ++ (if full then [6] else [])

/-- The links of the scope have trained; a Pass port has joined. -/
def Block.linksReady (b : Block) (ty id : Nat) : Bool :=
  ((scopeElems ty id).filter isAdp).all (fun a =>
    if isPass a then (b.port (portOf a)).step == 7 else b.ridgelessAt a || (b.link a).st == .active)

/-- Every test has passed and every golden copy is loaded: READY, where a held scope stays, and a command for it completes with
repair state 6 (16 R435). -/
def Block.testsPass (b : Block) (ty id : Nat) : Block :=
  let b := (allStws.filter (fun s => (scopeDoms ty id).contains (stwDom s))).foldl Block.bootSteward b
  let b := (((scopeElems ty id).filter (fun e => isRouter e || isNi e)) ++ (if ty = 7 || ty = 9 then
    ((List.range 32).filter (fun g => scopeIn 7 g ty id)).map regKey else [])).foldl (fun b o => b.loadGold o) b
  let b := ((scopeElems ty id).filter isAgent).foldl (fun b e => b.modElem (bankSrc (agentRegion e)) (fun el => { el with
    badRows := [], rowHits := [] })) b
  let b := b.modLead (fun l => { l with readyCtr := l.readyCtr + 1 })
  let b := b.modScope ty id (fun sc => { sc with
    st := 6, since := b.now, readyNo := b.lead.readyCtr, passed := ((testsOf ty sc.selfTest).map (2 ^ ·)).sum })
  if (b.scope ty id).hold then b.scopeDone ty id stOk else b

/-- A test has failed: FENCED again; a mesh or local link widens to its cluster, as by a fault but with no record, so that the SEQ given to what
that ends is a free value; another scope is RETIRED. -/
def Block.testsFail (b : Block) (ty id code source : Nat) : Block :=
  let sc := b.scope ty id
  let wide : Option Nat := if ty = 1 then some (clusterOf (id / 2))
    else if ty = 2 then (localRouter id).map clusterOf
    else none
  let b := if code = 7 then b.event b.leadSrc 0x61 none 0 else b
  let b := b.modScope ty id (fun sc => { sc with st := 3, swept := true, retired := wide.isNone, since := b.now })
  let b := b.finishAll (fun f => f.scTy == ty && f.scId == id && (f.opc == 0x0F || f.opc == 0x11 || f.opc == 0x14)) stTestFailed
    (fun _ => b.testRes code source wide.isNone wide.isSome (wide.getD 0))
  match wide with
  | none => b
  | some c =>
    let b := (b.enterFence 6 c sc.kind).modScope 6 c (fun sc => { sc with widened := true, force := true })
    let (v, b) := b.free 32
    b.fenceAct v.toNat 6 c

/-- Clusters that a repair scope tests, and its die: at most four clusters of a die run BIST at once (14 R394). -/
def bistOf (ty id : Nat) : Option (Nat × Nat) :=
  match ty with
  | 6 => some (if id < 96 then id / 8 else 12, 1)
  | 7 => some (if id < 24 then id / 2 else 12, 4)
  | 8 => some (12, 4)
  | 9 => some (id, 4)
  | _ => none

/-- The BIST of a scope has not begun: scopes that entered TESTING before it on its die hold the four places (14 R394). -/
def Block.bistWaits (b : Block) (ty id : Nat) : Bool :=
  match bistOf ty id with
  | none => false
  | some (d, _) =>
    let t := (b.scope ty id).since
    4 ≤ ((b.scopes.filter (fun (kv : Nat × Scope) => kv.2.st == 5 && (kv.2.since < t || (kv.2.since == t && kv.1 < scKey ty id)))).map (fun kv =>
      match bistOf (kv.1 / 65536) (kv.1 % 65536) with | some (d', n) => if d' = d then n else 0 | none => 0)).sum

/-- SCOPE_TEST_DONE (12 R348, R349): `failed` gives the code of the test that failed and the source index of the failing part. -/
def execScopeTestDone (ty id : Nat) (failed : Option (Nat × Nat)) (s : State) : Host.Outcome State Fault Refusal :=
  s.on (.scopeTestDone ty id failed) (fun b =>
    let sc := b.scope ty id
    if sc.st != 5 || b.bistWaits ty id then b
    else match failed with
      | none => if b.linksReady ty id then b.testsPass ty id else b
      | some (code, source) => if (testsOf ty sc.selfTest).contains code then b.testsFail ty id code source else b)

/-! ### Admission (12 R343, R350, R361) -/

/-- A readmission is in flight in the package. -/
def Block.admitting (b : Block) : Bool := b.scopes.any (fun kv => kv.2.st == 7)

/-- READY to ADMITTING: routes that include the scope are committed. -/
def Block.startAdmit (b : Block) (ty id : Nat) : Block :=
  (b.modScope ty id (fun sc => { sc with st := 7, since := b.now })).wantCommit 2 (some (scKey ty id))

/-- A scope may be admitted: READY and held by nobody, a port that met another far package apart (09 R284). -/
def Block.admissible (b : Block) (ty id : Nat) : Bool :=
  (b.scope ty id).st == 6 && !(b.scope ty id).hold && !(ty == 5 && (b.port id).fenceCause == 3)

/-- SCOPE_ADMISSION_START (12 R343, R361): the first scope in the order of reaching READY, after the fences that wait (14 R390). -/
def execScopeAdmissionStart (ty id : Nat) (s : State) : Host.Outcome State Fault Refusal :=
  s.on (.scopeAdmissionStart ty id) (fun b =>
    let sc := b.scope ty id
    if !b.admissible ty id || b.admitting || b.fencesFirst b.leadSrc ||
       b.scopes.any (fun kv => b.admissible (kv.1 / 65536) (kv.1 % 65536) && kv.2.readyNo < sc.readyNo) then b
    else b.startAdmit ty id)

/-- LEAD_IMAGE_RESTART (14 R389; 19 R486): repairs that waited for the image proceed. -/
def execLeadImageRestart (s : State) : Host.Outcome State Fault Refusal :=
  s.on .leadImageRestart (fun b =>
    if !b.lead.restarting then b
    else
      let b := b.leadRestart
      b.scopes.foldl (fun (b : Block) kv => b.startReset (kv.1 / 65536) (kv.1 % 65536)) b)

/-! ### Scrubbing (12 R354; 11 R322) -/

/-- Region whose stewards hold the golden copies of a table's owner, if the owner is a router, an NI or a map bank. -/
def Block.ownerRegion (b : Block) (o : Nat) : Nat :=
  if isRouter o then regionOf o else if isNi o then b.homeRegion o else ((List.range 32).find? (fun g => bankSrc g == o)).getD 0

/-- Element in whose domain a table's owner lies: a compute-die map bank's is its die agent. -/
def Block.ownerElem (b : Block) (o : Nat) : Nat :=
  if isRouter o || isNi o then o else nodeNi (b.bankNode (b.ownerRegion o))

/-- Granule that a table's owner is fenced or repaired with: its cluster, or the region of a compute-die map bank. -/
def Block.ownerScope (b : Block) (o : Nat) : Option (Nat × Nat) :=
  if isRouter o then some (6, clusterOf o)
  else if isNi o then (if isDual o then none else some (6, clusterOf (src (dieOf o) (niR o))))
  else if b.ownerRegion o < 24 then some (7, b.ownerRegion o) else none

/-- DETAIL of the table kinds. -/
def Block.tabDet (b : Block) (o : Nat) : BitVec 32 :=
  match b.ownerScope o with
  | some (t, i) => detS t i 0
  | none => detS 7 (b.ownerRegion o) 0

/-- A row is replaced by a spare row, if one is left. -/
def Block.spareRow (b : Block) (o table row : Nat) : Block :=
  let el := b.elem o
  if 4 ≤ el.sparesUsed.get 0 table then b
  else
    (b.modElem o (fun el => { el with sparesUsed := el.sparesUsed.mod 0 table (· + 1), rowHits := el.rowHits.erase (rowKey table row) })).event
      o 0x64 none (b.tabDet o)

/-- Time of a scrubbing pass (12 R354): 100 ms. -/
def scrubPass : Nat := 320000000

/-- A scrubbed word had one or two errors: it is written back; a row corrected in two passes in a row is replaced. -/
def Block.scrubbed (b : Block) (o table row : Nat) : Block :=
  let b := b.event o 0x62 none (b.tabDet o)
  let pass := b.now / scrubPass + 1
  let last := (b.elem o).rowHits.get 0 (rowKey table row)
  let b := b.modElem o (fun el => { el with rowHits := el.rowHits.set (rowKey table row) pass })
  if last ≠ 0 && last + 1 = pass then b.spareRow o table row else b

/-- A table with no spare row left whose words are uncorrectable for the third time within 1 s has its owner's scope taken into repair, with FORCE
(12 R354). -/
def Block.tableWorn (b : Block) (o table : Nat) : Block :=
  let full := decide (4 ≤ (b.elem o).sparesUsed.get 0 table)
  let ts := b.now :: ((b.elem o).uncorrAt.get [] table).filter (fun t => b.now < t + second)
  let b := if full then b.modElem o (fun el => { el with uncorrAt := el.uncorrAt.set table ts }) else b
  match b.ownerScope o with
  | some (t, i) =>
    if full && 3 ≤ ts.length && (b.scope t i).st = 0 && (b.repairAround t i).isNone then b.closeScope t i true false false false else b
  | none => b

/-- A word is uncorrectable (11 R322): reported and awaiting its reload; Containable where no golden copy is held, which fences the granule of the
table, a dual-homed NI's having none (notes/assumptions/19.md); an I/O-die map bank leaves lookup service, and a map cache is invalidated. -/
def Block.badWord (b : Block) (o table row : Nat) (forced : Bool := false) : Block :=
  let g := b.ownerRegion o
  let say (sev : Nat) (sc : Nat × Nat) : Block :=
    let esc := sev == 2 && sc.1 != 0 && b.escalates sc.1 sc.2
    b.send { b.mkMsg o 0x63 (if esc then 3 else sev) none (b.tabDet o) with
      forced := forced, escalated := esc, scTy := if esc then 11 else sc.1, scId := if esc then b.pkgid else sc.2 }
  let mark (b : Block) : Block := b.modElem o (fun el => { el with
    badRows := if el.badRows.contains (rowKey table row) then el.badRows else el.badRows ++ [rowKey table row] })
  if table = 5 && 24 ≤ g then (mark (say 1 (0, 0))).modRegion g (fun r => { r with bankOut := true })
  else if table = 4 then ((((say 1 (0, 0)).modNi o (fun x => { x with cache := [] })).tableWorn o table).spareRow o table row)
  else if b.stwUp (regionPair g) || b.stwUp (buddy (regionPair g)) then (mark (say 1 (0, 0))).tableWorn o table
  else match b.ownerScope o with
    | some (t, i) => (say 2 (t, i)).modScope t i (fun sc => { sc with
        stopped := true, kind := if sc.stopped || 3 ≤ sc.st then sc.kind else 0x63 })
    | none => mark (say 2 (0, 0))

/-- The self-test of an idle spare row in profile 11 has failed: it is retired, and raises TABLE_CORRECTED or, where it was uncorrectable,
TABLE_UNCORRECTABLE, as an event: it holds no contents (13 R374; DESIGN CHOICE, notes/assumptions/95.md). -/
def Block.spareFails (b : Block) (o table : Nat) (uncorrectable : Bool) : Block :=
  if b.effProfile != 11 || 4 ≤ (b.elem o).sparesUsed.get 0 table then b
  else (b.modElem o (fun el => { el with sparesUsed := el.sparesUsed.mod 0 table (· + 1) })).event o (if uncorrectable then 0x63 else 0x62) none (b.tabDet o)

/-- TABLE_SCRUB (12 R354): a word read by the scrub has one or two errors, or is uncorrectable. -/
def execTableScrub (o table row : Nat) (uncorrectable : Bool) (s : State) : Host.Outcome State Fault Refusal :=
  s.on (.tableScrub o table row uncorrectable) (fun b =>
    let e := b.ownerElem o
    if !b.carries e || b.elemFenced e || (24 ≤ b.ownerRegion o && table == 5 && (b.region (b.ownerRegion o)).bankOut) then b
    else if isSpareRow row then b.spareFails o table uncorrectable
    else if uncorrectable then b.badWord o table row else b.scrubbed o table row)

/-- TABLE_WORD_RELOADED (11 R322; 12 R354): the golden copy is in place, in a spare row where one is left. -/
def execTableWordReloaded (o table row : Nat) (s : State) : Host.Outcome State Fault Refusal :=
  s.on (.tableWordReloaded o table row) (fun b =>
    if (b.elem o).badRows.contains (rowKey table row) then
      (b.modElem o (fun el => { el with badRows := el.badRows.filter (· != rowKey table row) })).spareRow o table row
    else b)

/-- MAP_BANK_RESTORED (11 R322; 12 R354): the bank answers again, its failing rows replaced by spare rows, or has failed its BIST with no spare row left. -/
def execMapBankRestored (g : Nat) (pass : Bool) (s : State) : Host.Outcome State Fault Refusal :=
  s.on (.mapBankRestored g pass) (fun b =>
    if !(b.region g).bankOut then b
    else if pass then
      let o := bankSrc g
      let bad := (b.elem o).badRows
      let b := (b.modRegion g (fun r => { r with bankOut := false, bankEpoch := b.lead.mapEpoch })).modElem o (fun el => { el with
        badRows := [], rowHits := [] })
      bad.foldl (fun b x => b.spareRow o (x / 131072) (x % 131072)) b
    else b.event (bankSrc g) 0x63 none (b.tabDet (bankSrc g)))

end Sys2Proof.Machine
end

