-- ==== Sys2Proof/Machine/Registers.lean ====
section
/-! DEFINITION. The Fabric Control Block (spec/17; 15 R400-R402, R414, R417): which register an offset holds, what a read returns,
what a write does, the doorbells, and the management port (spec/21 R509, R512). -/

namespace Sys2Proof.Machine

/-! ### The map of the window (17 R449) -/

/-- The registers of the window. -/
inductive Reg where
  | id | cap | status | errLast (w : Nat)
  | vecAddr (v : Nat) | vecData (v : Nat) | vecCtrl (v : Nat)
  | ringCtrl (n : Nat) | stale (n : Nat) | base (n : Nat) | pc (n : Nat) | rm (n : Nat) | lost (n : Nat) | permit (n : Nat) | db (n : Nat)
  | timeNow | timeInit | timeStatus | timeCtrl | tsCapture | tsCompare | tsCount
  | sticky (w : Nat) | force (w : Nat) | first (w : Nat) | sevmask | anySticky (i : Nat)
  | filter (k : Nat) | passStatus (k : Nat)
deriving DecidableEq, Repr

/-- The register that holds the byte at an offset, with its own offset and its width in bytes. -/
def regAt (o : Nat) : Option (Nat × Nat × Reg) :=
  if o < 0x18 then some (o / 8 * 8, 8, if o < 8 then .id else if o < 16 then .cap else .status)
  else if 0x20 ≤ o && o < 0x30 then some (o / 8 * 8, 8, .errLast ((o - 0x20) / 8))
  else if 0x100 ≤ o && o < 0x200 then
    (let v := (o - 0x100) / 16
     let at_ := 0x100 + 16 * v
     let r := o % 16
     some (if r < 8 then (at_, 8, .vecAddr v) else if r < 12 then (at_ + 8, 4, .vecData v) else (at_ + 12, 4, .vecCtrl v)))
  else if 0x400 ≤ o && o < 0x400 + 64 * 23 then
    (let n := (o - 0x400) / 64
     let at_ := 0x400 + 64 * n
     let r := o % 64
     if r < 4 then some (at_, 4, .ringCtrl n)
     else if r < 8 then (if 8 ≤ n then some (at_ + 4, 4, .stale n) else none)
     else if r < 16 then some (at_ + 8, 8, .base n)
     else if r < 24 then some (at_ + 16, 8, .pc n)
     else if r < 32 then (if 16 ≤ n then some (at_ + 24, 8, .rm n) else none)
     else if r < 36 then (if 8 ≤ n then some (at_ + 32, 4, .lost n) else none)
     else if r < 40 then (if n < 8 then some (at_ + 36, 4, .permit n) else none)
     else if r < 44 then some (at_ + 40, 4, .db n)
     else none)
  else if 0x1000 ≤ o && o < 0x1034 then
    (let r := o - 0x1000
     if r < 0x08 then some (0x1000, 8, .timeNow)
     else if r < 0x10 then some (0x1008, 8, .timeInit)
     else if r < 0x18 then some (0x1010, 8, .timeStatus)
     else if r < 0x1C then some (0x1018, 4, .timeCtrl)
     else if r < 0x20 then none
     else if r < 0x28 then some (0x1020, 8, .tsCapture)
     else if r < 0x30 then some (0x1028, 8, .tsCompare)
     else some (0x1030, 4, .tsCount))
  else if 0x2000 ≤ o && o < 0x2000 + 832 then some (o / 8 * 8, 8, .sticky ((o - 0x2000) / 8))
  else if 0x2400 ≤ o && o < 0x2400 + 832 then some (o / 8 * 8, 8, .force ((o - 0x2400) / 8))
  else if 0x2800 ≤ o && o < 0x2810 then some (o / 8 * 8, 8, .first ((o - 0x2800) / 8))
  else if 0x2810 ≤ o && o < 0x2818 then some (0x2810, 8, .sevmask)
  else if 0x2820 ≤ o && o < 0x2830 then some (o / 8 * 8, 8, .anySticky ((o - 0x2820) / 8))
  else if 0x3000 ≤ o && o < 0x3080 then
    (let k := (o - 0x3000) / 16
     let at_ := 0x3000 + 16 * k
     let r := o % 16
     if r < 4 then some (at_, 4, .filter k) else if r < 8 then none else some (at_ + 8, 8, .passStatus k))
  else none

/-! ### What a register holds (17 R448-R459; 15 R400, R401, R414) -/

/-- A source index that is assigned (01 R32; 11 R316). -/
def isSource (s : Nat) : Bool :=
  isElem s || isStw s ||
  (dieOf s < 13 && (464 ≤ locOf s && locOf s < 470 || locOf s == 476 || locOf s == 477)) ||
  (dieOf s == 12 && (470 ≤ locOf s && locOf s < 476 || 478 ≤ locOf s && locOf s ≤ 480))

/-- Bits of a word of WSH_STICKY or WSH_FORCE whose sources are assigned. -/
def sourceBits (w : Nat) : Nat := ((List.range 64).filter (fun i => isSource (64 * w + i))).foldl (fun a i => a + 2 ^ i) 0

/-- Bit of a number for a flag. -/
def flag (x : Bool) (n : Nat) : Nat := if x then 2 ^ n else 0

/-- FCB_STATUS (17 R450). -/
def Block.statusWord (b : Block) : Nat :=
  (match b.lead.who with | some n => (stwNode b.pkgid (stwSrc 12 n)).toNat | none => 0) * 2 ^ 48
  + b.lead.profile % 16 * 2 ^ 44 + (if b.lead.profile == 9 then b.lead.ret.getD 15 % 16 else 15) * 2 ^ 40 + b.pkgid % 16 * 2 ^ 36
  + flag b.strapOk 35 + flag b.lead.bootRom 34 + flag b.fatal 33

/-- A signed value clamped to `w` bits, as a field. -/
def satField (w : Nat) (v : Int) : Nat := (BitVec.ofInt w (clampTo (2 ^ (w - 1) - 1) v)).toNat

/-- TIME_STATUS (17 R452). -/
def Block.timeStatusWord (b : Block) : Nat :=
  let t := b.time
  flag t.locked 63 + flag t.leader 62 + flag t.holdover 61 + flag t.ppsArmed 60 + (t.parent.getD 15) % 16 * 2 ^ 56
  + min 0xFFFF t.d * 2 ^ 40 + satField 16 t.theta * 2 ^ 24 + (BitVec.ofInt 24 t.f).toNat

def ledCode : Led → Nat
  | .off => 0 | .on => 1 | .slow => 2 | .fast => 3

/-- PASS_STATUS (17 R459). -/
def Block.passStatusWord (b : Block) (k : Nat) : Nat :=
  let p := b.port k
  p.st % 16 * 2 ^ 60 + flag p.present 59 + flag p.button 58 + flag p.wake 57 + flag p.pwr 56 + ledCode p.attn * 2 ^ 54 + ledCode p.act * 2 ^ 52
  + min 3 p.sparesLeft * 2 ^ 50 + p.refusal % 256 * 2 ^ 32 + min 0xFFFF p.ignored * 2 ^ 16

/-- WSH_FIRST (17 R455). -/
def Block.firstWord (b : Block) (w : Nat) : Nat :=
  match b.wsh.first with
  | none => 0
  | some r =>
    if w = 0 then flag b.wsh.firstValid 63 + r.msg.sev % 4 * 2 ^ 61 + r.msg.src % 8192 * 2 ^ 48 + r.msg.kind % 256 * 2 ^ 40 + flag r.wrap 39 + r.seq
    else r.msg.time

/-- Value of a register, as a 64-bit number. -/
def Block.regVal (b : Block) : Reg → Nat
  | .id => 0x4B53540212100100
  | .cap => 23 * 2 ^ 56 + 16 * 2 ^ 48 + 11 * 2 ^ 44 + 704 * 2 ^ 32 + ((b.ridgeless.dedup).map (2 ^ ·)).sum * 2 ^ 20 + 64 * 2 ^ 12
  | .status => b.statusWord
  | .errLast w => if w = 0 then flag b.errValid 63 + b.errCause % 16 * 2 ^ 56 + b.errCount % 65536 * 2 ^ 32 + b.errOffset % 65536
    else b.errValue.toNat
  | .vecAddr v => (b.vec v).addr.toNat
  | .vecData v => (b.vec v).data.toNat
  | .vecCtrl v => flag (b.vec v).pending 1 + flag (b.vec v).mask 0
  | .ringCtrl n =>
    let x := b.ring n
    flag x.en 31 + flag x.err 30 + flag x.markLost 29 + flag x.markValid 28 + x.sevmask % 16 * 2 ^ 24 + x.vector % 16 * 2 ^ 20
      + x.coalesce % 256 * 2 ^ 12 + x.log2 % 32
  | .stale n => (b.ring n).stale
  | .base n => (b.ring n).base.toNat
  | .pc n => (b.ring n).prod * 2 ^ 32 + (b.ring n).cons
  | .rm n => (b.ring n).rel * 2 ^ 32 + (b.ring n).mark
  | .lost n => (b.ring n).lost
  | .permit n => (b.ring n).permit.toNat
  | .db _ => 0
  | .timeNow => b.ft 12
  | .timeInit => 0
  | .timeStatus => b.timeStatusWord
  | .timeCtrl => b.time.prio
  | .tsCapture => b.ts.capture
  | .tsCompare => b.ts.compare
  | .tsCount => b.ts.count
  | .sticky w => (b.wsh.sticky.get 0 w).toNat
  | .force w => (b.wsh.force.get 0 w).toNat
  | .first w => b.firstWord w
  | .sevmask => b.wsh.sevmask.toNat
  | .anySticky i => ((List.range 64).filter (fun w => 64 * i + w < 104 && b.wsh.sticky.get 0 (64 * i + w) != 0)).foldl (fun a w => a + 2 ^ w) 0
  | .filter k => (b.port k).filter.toNat
  | .passStatus k => b.passStatusWord k

/-- What a read of `width` bytes at an offset returns (17 R446, R447); the high half of TIME_NOW gives what the last read of its low half
latched. -/
def Block.fcbRead (b : Block) (o width : Nat) : Nat :=
  if o = 0x1000 && width = 4 then b.ft 12 % 2 ^ 32
  else if o = 0x1004 && width = 4 then b.ts.nowHigh
  else if o = 0x1020 && width = 4 then b.ts.capture % 2 ^ 32
  else if o = 0x1024 && width = 4 then b.ts.capHigh
  else match regAt o with
    | some (at_, w, r) => if at_ = o && w = width then b.regVal r else 0
    | none => 0

/-- What a read leaves behind: a 32-bit read of the low half of TIME_NOW or TIME_TS_CAPTURE latches the high half (07 R217; 17 R446). -/
def Block.fcbReadLatch (b : Block) (o width : Nat) : Block :=
  if o = 0x1000 && width = 4 then { b with ts := { b.ts with nowHigh := b.ft 12 / 2 ^ 32 % 2 ^ 32 } }
  else if o = 0x1020 && width = 4 then { b with ts := { b.ts with capHigh := b.ts.capture / 2 ^ 32 % 2 ^ 32 } }
  else b

/-! ### Writes (17 R447, R448) -/

/-- A write out of range: ignored, and recorded in FCB_ERR_LAST. -/
def Block.outOfRange (b : Block) (o cause : Nat) (v : BitVec 64) : Block :=
  { b with errValue := v, errValid := true, errCause := cause, errCount := min 0xFFFF (b.errCount + 1), errOffset := o }

/-- Cause code of R447, or the block after the write. -/
abbrev Wrote := Except Nat Block

/-- The write is refused with a cause if a test holds. -/
def guardW (bad : Bool) (cause : Nat) (w : Wrote) : Wrote := if bad then .error cause else w

/-- FCB_VEC_CTRL (15 R414): clearing MASK sends a message that is due. -/
def Block.wVecCtrl (b : Block) (v x : Nat) : Wrote :=
  guardW (x / 4 != 0) 4 (.ok (
    let m := x % 2 == 1
    let send := !m && (b.vec v).pending
    let b := b.modVec v (fun y => { y with mask := m, pending := y.pending && m })
    if send then b.irq v else b))

/-- A ring is enabled (15 R417; 11 R329). -/
def Block.enableRing (b : Block) (n : Nat) : Block :=
  let b := b.modRing n (fun y => { y with
    en := true, prod := 0, cons := 0, rel := 0, mark := 0, err := false, markLost := false, markValid := false, armed := true,
    staleFrom := b.now, permitLocked := true })
  if isEvt n && b.wsh.lost != 0 then (b.ringLost n b.wsh.lost).modWsh (fun w => { w with lost := 0 }) else b

/-- FCB_RING_CTRL (15 R400, R417; 17 R451). -/
def Block.wRingCtrl (b : Block) (n x : Nat) : Wrote :=
  let y := b.ring n
  let en := x / 2 ^ 31 % 2 == 1
  let sev := x / 2 ^ 24 % 16
  let vec := x / 2 ^ 20 % 16
  let coal := x / 2 ^ 12 % 256
  let log2 := x % 32
  guardW (x / 32 % 128 != 0) 4 <|
  guardW ((log2 != 0 && (log2 < 4 || 16 < log2)) || (sev != 0 && !isEvt n) || (isCmd n && (vec != 0 || coal != 0))) 5 <|
  guardW (y.en && log2 != y.log2) 6 <|
  guardW ((en && log2 == 0) || (isCpl n && y.en && !en && ((b.ring (n - 8)).en || y.reserved != 0 || b.lead.flights.any (fun f => f.ring + 8 == n)))) 7 <|
  .ok (
    let b := b.modRing n (fun y => { y with sevmask := sev, vector := vec, coalesce := coal, log2 := log2 })
    if en && !y.en then b.enableRing n else b.modRing n (fun y => { y with en := en }))

/-- A doorbell (15 R402): the operation and INDEX of its value. -/
def Block.wDoorbell (b : Block) (n x : Nat) : Wrote :=
  let y := b.ring n
  let op := x / 2 ^ 29 % 8
  let i := x % 2 ^ 17
  let applies := match op with
    | 0 => isCmd n | 1 => isCpl n | 2 | 3 | 4 | 5 => isRec n | 6 => !isCmd n | _ => false
  let set (f : Ring → Ring) : Wrote := .ok (b.modRing n f)
  let rearm (f : Ring → Ring) : Wrote := set (fun y => { f y with armed := true, staleFrom := b.now })
  let behind := y.isPtr i && 1 ≤ y.dist i y.rel && y.dist i y.rel ≤ y.size
  guardW (x / 2 ^ 17 % 2 ^ 12 != 0) 4 <|
  guardW (!applies || !y.en) 7 <|
  match op with
  | 0 => if y.isPtr i && y.dist y.cons y.prod ≤ y.dist y.cons i && y.dist y.cons i ≤ y.size then set (fun y => { y with prod := i }) else .error 8
  | 1 => if y.isPtr i && y.dist y.cons i ≤ y.dist y.cons y.prod then rearm (fun y => { y with cons := i }) else .error 8
  | 2 => if y.isPtr i && y.dist y.rel y.cons ≤ y.dist y.rel i && y.dist y.rel i ≤ y.dist y.rel y.prod then rearm (fun y => { y with cons := i })
    else if behind then rearm id else .error 8
  | 3 => if y.isPtr i && y.dist y.rel i ≤ y.dist y.rel y.cons then set (fun y => { y with mark := i, markValid := true, markLost := false }) else .error 8
  | 4 => if y.markValid then set (fun y => { y with cons := y.mark }) else .error 7
  | 5 => if y.isPtr i && y.dist y.rel i ≤ y.dist y.rel y.cons then
      set (fun y => { y with rel := i, markValid := y.markValid && y.dist y.rel i ≤ y.dist y.rel y.mark })
    else if behind then set id else .error 8
  | _ => set (fun y => { y with lost := 0 })

/-- A write of a PRIO (17 R453): the election. -/
def Block.setPrio (b : Block) (p : Nat) : Block :=
  let b := b.modTime (fun t => { t with prio := p })
  { b with members := match b.members.find b.pkgid with
      | some m => b.members.set b.pkgid { m with prio := p }
      | none => b.members }.tableChanged true

/-- A write of TIME_TS_COMPARE (17 R453): one pulse, at once where Fabric Time has reached the value. -/
def Block.setCompare (b : Block) (v : Nat) : Block :=
  if v ≤ b.ft 12 then { b with ts := { b.ts with compare := v, armed := false, tsOutTo := b.ft 12 + 320 } }
  else { b with ts := { b.ts with compare := v, armed := true } }

/-- A write of WSH_FORCE (11 R324; 17 R454, R460): each source newly set sends its FORCED message, unless its die has no path; then the
bit stays. -/
def Block.wForce (b : Block) (w : Nat) (v : BitVec 64) : Block :=
  let old := b.wsh.force.get 0 w
  let new := (List.range 64).filter (fun i => v.getLsbD i && !old.getLsbD i && isSource (64 * w + i))
  new.foldl (fun (b : Block) i =>
    let s := 64 * w + i
    if b.wsh.pathLost.contains (dieOf s) then
      b.modWsh (fun x => { x with force := x.force.mod 0 w (fun y => y ||| BitVec.ofNat 64 (2 ^ i)) })
    else b.sendForced s) b

/-- PASS_FILTER's fields are in range (17 R458). -/
def filterOk (x : Nat) : Bool :=
  20 ≤ x / 2 ^ 22 && x / 2 ^ 22 ≤ 1000 && 5 ≤ x / 2 ^ 15 % 128 && x / 2 ^ 15 % 128 ≤ 100 && 2 ≤ x / 2 ^ 10 % 32 && x / 2 ^ 10 % 32 ≤ 30

/-- Reserved bits of WSH_SEVMASK. -/
def sevReserved : Nat := 0xFFFFFFFFE0E0E0E0

/-- A write of the register's own width at its own offset. -/
def Block.regWrite (b : Block) (r : Reg) (v : BitVec 64) : Wrote :=
  let x := v.toNat
  match r with
  | .vecAddr n => guardW (x % 4 != 0) 4 (.ok (b.modVec n (fun y => { y with addr := v })))
  | .vecData n => .ok (b.modVec n (fun y => { y with data := BitVec.ofNat 32 x }))
  | .vecCtrl n => b.wVecCtrl n x
  | .ringCtrl n => b.wRingCtrl n x
  | .stale n => guardW (x / 2 ^ 20 != 0) 4 (guardW (x != 0 && (x < 10 || 1000000 < x)) 5 (.ok (b.modRing n (fun y => { y with stale := x }))))
  | .base n => guardW (x % 4096 != 0) 4 (guardW ((b.ring n).en && (b.ring n).base != v) 6 (.ok (b.modRing n (fun y => { y with base := v }))))
  | .permit n => guardW ((b.ring n).permitLocked && (b.ring n).permit.toNat != x) 6
      (.ok (b.modRing n (fun y => { y with permit := BitVec.ofNat 32 x })))
  | .db n => b.wDoorbell n x
  | .timeInit => guardW (b.lead.profile != 0 || b.colTrained) 7 (.ok (b.modTb 12 (fun t => t.put x)))
  | .timeCtrl => guardW (x / 16 != 0) 4 (.ok (b.setPrio x))
  | .tsCompare => .ok (b.setCompare x)
  | .sticky w => .ok (b.modWsh (fun y => { y with sticky := y.sticky.mod 0 w (fun z => z &&& ~~~v) }))
  | .force w => .ok (b.wForce w v)
  | .first 0 => guardW (x / 2 ^ 32 % 128 != 0) 4 (.ok (if x / 2 ^ 63 = 1 then b.modWsh (fun y => { y with firstValid := false }) else b))
  | .sevmask => guardW (x &&& sevReserved != 0) 4 (.ok (b.modWsh (fun y => { y with sevmask := v })))
  | .filter k => guardW (x % 1024 != 0) 4 (guardW (!filterOk x) 5 (.ok (b.modPort k (fun p => { p with filter := BitVec.ofNat 32 x }))))
  | _ => .error 3

/-- Reserved bits of the low word of FCB_ERR_LAST (17 R448). -/
def errReserved : Nat := 0x70FF0000FFFF0000

/-- A write of `width` bytes at an offset (17 R446-R448). Of FCB_ERR_LAST only the clearing of VALID acts, and no other is recorded. -/
def Block.fcbWrite (b : Block) (o width : Nat) (v : BitVec 64) : Block :=
  if 0x20 ≤ o && o < 0x30 then
    (if o = 0x20 && width = 8 && v.getLsbD 63 && v.toNat &&& errReserved = 0 then { b with errValid := false, errCount := 0 } else b)
  else match regAt o with
    | none => b.outOfRange o 1 v
    | some (at_, w, r) =>
      if at_ != o || w != width then b.outOfRange o 2 v
      else match b.regWrite r v with
        | .ok b' => b'
        | .error c => b.outOfRange o c v

/-- A 32-bit value on the write path. -/
def v32 (v : BitVec 32) : BitVec 64 := v.setWidth 64

/-- RING_CTRL_WRITE (15 R417). -/
def execRingCtrlWrite (n : Nat) (v : BitVec 32) (s : State) : Host.Outcome State Fault Refusal :=
  s.on (.ringCtrlWrite n v) (fun b => b.fcbWrite (0x400 + 64 * n) 4 (v32 v))

/-- TIME_INIT_WRITE (07 R217). -/
def execTimeInitWrite (v : BitVec 64) (s : State) : Host.Outcome State Fault Refusal :=
  s.on (.timeInitWrite v) (fun b => b.fcbWrite 0x1008 8 v)

/-- TIME_NOW_LOW_READ (07 R217): a 32-bit read of the low half latches the high half. -/
def execTimeNowLowRead (s : State) : Host.Outcome State Fault Refusal :=
  s.on .timeNowLowRead (fun b => b.fcbReadLatch 0x1000 4)

/-- TIME_CTRL_WRITE (17 R453). -/
def execTimeCtrlWrite (v : BitVec 32) (s : State) : Host.Outcome State Fault Refusal :=
  s.on (.timeCtrlWrite v) (fun b => b.fcbWrite 0x1018 4 (v32 v))

/-- TS_COMPARE_WRITE (17 R453). -/
def execTsCompareWrite (v : BitVec 64) (s : State) : Host.Outcome State Fault Refusal :=
  s.on (.tsCompareWrite v) (fun b => b.fcbWrite 0x1028 8 v)

/-- WSH_STICKY_CLEAR (17 R454). -/
def execWshStickyClear (w : Nat) (v : BitVec 64) (s : State) : Host.Outcome State Fault Refusal :=
  s.on (.wshStickyClear w v) (fun b => b.fcbWrite (0x2000 + 8 * w) 8 v)

/-- WSH_FORCE_WRITE (11 R324). -/
def execWshForceWrite (w : Nat) (v : BitVec 64) (s : State) : Host.Outcome State Fault Refusal :=
  s.on (.wshForceWrite w v) (fun b => b.fcbWrite (0x2400 + 8 * w) 8 v)

/-- WSH_FIRST_CLEAR (17 R455). -/
def execWshFirstClear (v : BitVec 64) (s : State) : Host.Outcome State Fault Refusal :=
  s.on (.wshFirstClear v) (fun b => b.fcbWrite 0x2800 8 v)

/-- ERR_LAST_CLEAR (17 R448). -/
def execErrLastClear (v : BitVec 64) (s : State) : Host.Outcome State Fault Refusal :=
  s.on (.errLastClear v) (fun b => b.fcbWrite 0x20 8 v)

/-- VECTOR_CTRL_WRITE (15 R414). -/
def execVectorCtrlWrite (n : Nat) (v : BitVec 32) (s : State) : Host.Outcome State Fault Refusal :=
  s.on (.vectorCtrlWrite n v) (fun b => b.fcbWrite (0x10C + 16 * n) 4 (v32 v))

/-- PASS_FILTER_WRITE (17 R458). -/
def execPassFilterWrite (k : Nat) (v : BitVec 32) (s : State) : Host.Outcome State Fault Refusal :=
  s.on (.passFilterWrite k v) (fun b => b.fcbWrite (0x3000 + 16 * k) 4 (v32 v))

/-- The low `width` bytes of a value, zero-extended (17 R448). -/
def lowBytes (width : Nat) (v : BitVec 64) : BitVec 64 := if 8 ≤ width then v else BitVec.ofNat 64 (v.toNat % 256 ^ width)

/-- REGISTER_WRITE (17 R447): a write of the `width` low bytes of a value at any offset of the window. -/
def execRegisterWrite (o width : Nat) (v : BitVec 64) (s : State) : Host.Outcome State Fault Refusal :=
  s.on (.registerWrite o width v) (fun b => b.fcbWrite o width (lowBytes width v))

/-! ### The doorbells (15 R402) -/

/-- A doorbell write of an operation to a ring. -/
def Block.ringBell (b : Block) (n op i : Nat) : Block := b.fcbWrite (0x428 + 64 * n) 4 (BitVec.ofNat 64 (op * 2 ^ 29 + i % 2 ^ 17))

/-- POST (15 R402). -/
def execPost (n i : Nat) (s : State) : Host.Outcome State Fault Refusal :=
  s.on (.post n i) (fun b => b.ringBell n 0 i)

/-- CONSUMED (15 R402). -/
def execConsumed (n i : Nat) (s : State) : Host.Outcome State Fault Refusal :=
  s.on (.consumed n i) (fun b => b.ringBell n 1 i)

/-- READ (15 R402). -/
def execRead (n i : Nat) (s : State) : Host.Outcome State Fault Refusal :=
  s.on (.read n i) (fun b => b.ringBell n 2 i)

/-- MARK (15 R402). -/
def execMark (n i : Nat) (s : State) : Host.Outcome State Fault Refusal :=
  s.on (.mark n i) (fun b => b.ringBell n 3 i)

/-- REWIND (15 R402). -/
def execRewind (n i : Nat) (s : State) : Host.Outcome State Fault Refusal :=
  s.on (.rewind n i) (fun b => b.ringBell n 4 i)

/-- RELEASE (15 R402). -/
def execRelease (n i : Nat) (s : State) : Host.Outcome State Fault Refusal :=
  s.on (.release n i) (fun b => b.ringBell n 5 i)

/-- CLEAR_LOST (15 R402). -/
def execClearLost (n i : Nat) (s : State) : Host.Outcome State Fault Refusal :=
  s.on (.clearLost n i) (fun b => b.ringBell n 6 i)

/-! ### The management port and test access (21 R509, R512) -/

/-- I3C_WORD_SELECT (21 R509): from STRAPOK on, a one-byte write selects the word that reads return. -/
def execI3cWordSelect (w : Nat) (s : State) : Host.Outcome State Fault Refusal :=
  s.on (.i3cWordSelect w) (fun b => if b.strapOk then { b with i3cWord := w } else b)

/-- The word that the I3C target returns; none for an index that names no word (21 R509). -/
def Block.i3cRead (b : Block) : Option Nat :=
  match b.i3cWord with
  | 0 => some (b.regVal .id)
  | 1 => some (b.regVal .status)
  | 2 => some (b.regVal (.first 0))
  | 3 => some (b.regVal (.first 1))
  | 4 => some (b.regVal (.anySticky 0))
  | 5 => some (b.regVal (.anySticky 1))
  | 6 => some (b.faultN + flag (!b.alertLow) 2)
  | 7 => some (b.ft 12)
  | _ => none

/-- TAP_INSTRUCTION (21 R512): outside profile 11 anything but BYPASS, IDCODE and SAMPLE/PRELOAD acts as BYPASS. -/
def execTapInstruction (code : Nat) (s : State) : Host.Outcome State Fault Refusal :=
  s.on (.tapInstruction code) (fun b => { b with tapIr := if code ≤ 2 || b.immProfile == 11 then code else 0 })

end Sys2Proof.Machine
end

