-- ==== Sys2Proof/Machine/Profiles.lean ====
section
/-! DEFINITION. The events of a profile switch (spec/13 R373, R376; 21 R503): the end of Drain, and rails that rise. -/

namespace Sys2Proof.Machine

/-- An NI holds an outstanding unit tag, a quarantined one not counting, or a ledger entry (13 R373). -/
def Block.niBusy (b : Block) (n : Nat) : Bool :=
  (b.ni n).tags.any (fun kv => kv.1 < 1016 && !kv.2.quar && kv.2.since.isSome) || !(b.ni n).ledger.isEmpty

/-- NIs with an outstanding unit tag or a ledger entry (13 R373). -/
def Block.busyNis (b : Block) : Nat := ((b.nis.map (·.1)).filter (fun n => isNi n && b.niBusy n)).length

/-- The `PROFILE_SET` to 10 ends; the package stays in profile 10. -/
def Block.drainEnd (b : Block) (status busy : Nat) : Block :=
  (b.modLead (fun l => { l with drainFrom := none, switchFrom := none })).finishAll (fun f => f.opc == 3) status (fun _ => b.profileRes busy)

/-- Drain can be judged: the switch to profile 10 has no commit left to run. -/
def Block.draining (b : Block) : Bool := b.lead.drainFrom.isSome && !(b.lead.commit.any (fun c => c.why == 4)) && !(b.lead.commitQ.any (fun c => c.1 == 4))

/-- PROFILE_DRAIN_COMPLETE (13 R373). -/
def execProfileDrainComplete (s : State) : Host.Outcome State Fault Refusal :=
  s.on .profileDrainComplete (fun b => if b.draining && b.busyNis = 0 then b.drainEnd stOk 0 else b)

/-- PROFILE_DRAIN_TIMEOUT (13 R373): 10 ms after acceptance. -/
def execProfileDrainTimeout (s : State) : Host.Outcome State Fault Refusal :=
  s.on .profileDrainTimeout (fun b =>
    match b.lead.drainFrom with
    | some t => if b.busyNis = 0 then b else
        let b := b.elapseTo (t + 32000000)
        b.drainEnd stTimeout b.busyNis
    | none => b)

/-- Step 2 of a switch that has no step 3 ends when no region waits for its rail any more (13 R376; 21 R503). -/
def Block.switchDone (b : Block) : Block :=
  if b.lead.switchFrom.isNone || b.lead.drainFrom.isSome || b.lead.commit.any (fun c => c.why == 4) || b.lead.commitQ.any (fun c => c.1 == 4)
    || (List.range 32).any (fun g => (b.region g).applying) then b
  else (b.modLead (fun l => { l with switchFrom := none })).finishAll (fun f => f.opc == 3) stOk (fun _ => b.profileRes 0)

/-- VDD_FAB_OK (21 R503, R514): the rail is within 10 mV of the request; the settings that waited apply. -/
def execVddFabOk (g : Nat) (s : State) : Host.Outcome State Fault Refusal :=
  s.on (.vddFabOk g) (fun b =>
    let waits := (b.region g).applying
    let b := b.modRegion g (fun r => { r with vok := true, applying := false })
    if waits then (b.rebias g b.immProfile).switchDone else b)

/-- PROFILE_RAIL_WAIT_LIMIT (21 R503): 100 us; the lead completes without the region, which applies its settings later. -/
def execProfileRailWaitLimit (g : Nat) (s : State) : Host.Outcome State Fault Refusal :=
  s.on (.profileRailWaitLimit g) (fun b =>
    if !(b.region g).applying || b.lead.switchFrom.isNone then b
    else match b.lead.flights.find? (fun f => f.opc == 3) with
      | none => b
      | some f =>
        let b := b.elapseTo (f.at_ + 320000)
        if b.lead.drainFrom.isSome || b.lead.commit.any (fun c => c.why == 4) || b.lead.commitQ.any (fun c => c.1 == 4) then b
        else (b.modLead (fun l => { l with switchFrom := none })).finishAll (fun f => f.opc == 3) stOk (fun _ => b.profileRes 0))

end Sys2Proof.Machine
end

