-- ==== Sys2Proof/Machine/Operands.lean ====
section
/-! DEFINITION. The operands of a ring command (spec/15 R403-R406; 16 R421-R425): the fields of a descriptor, the checks in their
order, and the shared service of a descriptor from its reading to its completion or acceptance. -/

namespace Sys2Proof.Machine

/-! ### Fields (15 R404; 16 R421) -/

/-- Byte `i` of the descriptor. -/
def byteOf (c : Cmd) (i : Nat) : Nat := (c.desc.getD i 0).toNat
/-- Little-endian field of `n` bytes at byte `i`. -/
def fieldOf (c : Cmd) (i n : Nat) : Nat := leNat c.desc i n
/-- Signed field of `n` bytes at byte `i`. -/
def signedOf (c : Cmd) (i n : Nat) : Int := toSigned (8 * n) (fieldOf c i n)
def opcodeOf (c : Cmd) : Nat := byteOf c 0
def orderedOf (c : Cmd) : Bool := (byteOf c 1).testBit 6
def notifyOf (c : Cmd) : Bool := (byteOf c 1).testBit 5
def tagOf (c : Cmd) : Nat := fieldOf c 2 2
def scopeTyOf (c : Cmd) : Nat := byteOf c 8
def scopeIdOf (c : Cmd) : Nat := fieldOf c 10 2
/-- Bit `i` of byte 9: FORCE 0, OFFLINED 1, HOLD 2, and the command's own flags. -/
def flagOf (c : Cmd) (i : Nat) : Bool := (byteOf c 9).testBit i
/-- ADDRESS (16 R425). -/
def addrOf (c : Cmd) : Nat := fieldOf c 24 8
/-- ADDRESS is zero or not aligned to 64 bytes. -/
def addrBad (c : Cmd) : Bool := addrOf c == 0 || addrOf c % 64 != 0
/-- Byte `i` of the input buffer. -/
def bufByte (c : Cmd) (i : Nat) : Nat := ((c.buf.getD []).getD i 0).toNat
/-- Little-endian field of the input buffer. -/
def bufOf (c : Cmd) (i n : Nat) : Nat := leNat (c.buf.getD []) i n

/-! ### Checks (15 R406; 16 R423) -/

/-- A check: it fails, the status then, and FIELD. -/
abbrev Check := Bool × Nat × Nat

/-- Status and FIELD of the first check that fails. -/
def firstBad : List Check → Option (Nat × Nat)
  | [] => none
  | (bad, st, f) :: rest => if bad then some (st, f) else firstBad rest

/-- What a command accepts (16 R420, R421): its code, scope types, the bits of byte 9 named for it, whether it acts on the NIs of its
scope, whether its scope holds nothing it acts on otherwise, the status of a SCOPE_ID out of its range, and its arguments in byte
order: offset, width, out of range. -/
structure Form where
  op : Nat
  types : List Nat := [0]
  flags : Nat := 0
  nis : Bool := false
  void : Bool := false
  idBad : Nat := 0x10
  args : List (Nat × Nat × Bool) := []

/-- Checks on bytes 0 to 7 (15 R406). -/
def Block.headChecks (b : Block) (c : Cmd) : List Check :=
  [(byteOf c 1 / 128 != phaseAt (b.ring c.ring).cons, stRange, 1),
   (byteOf c 1 % 32 != 0, stRange, 1),
   (fieldOf c 4 4 != 0, stRange, 4),
   (0x1D < opcodeOf c, stRange, 0),
   (!(b.ring c.ring).permit.getLsbD (opcodeOf c), stScope, 0)]

/-- SCOPE_ID lies in the range of its type (11 R328; 16 R422). -/
def scopeIdOk (ty id : Nat) : Bool :=
  match ty with
  | 0 => id == 0
  | 1 => id / 2 < 6656
  | 2 => id % 8192 < 6656
  | 10 => id < 6656
  | 11 => id < 16
  | 12 => nodeValid (BitVec.ofNat 16 id) && canon (BitVec.ofNat 16 id) == BitVec.ofNat 16 id
  | 13 => id < 13
  | 14 => id < 272
  | _ => scopeOk ty id

/-- A Ridge adapter of a die that has none (08 R261). -/
def Block.noRidge (b : Block) (a : Nat) : Bool := isRidge a && b.ridgeless.contains (dieOf a)

/-- SCOPE_ID names something present in the package (16 R422, R423). -/
def Block.scopeThere (b : Block) (ty id : Nat) : Bool :=
  match ty with
  | 0 => true
  | 4 => !b.ridgelessAt (ridgeE id)
  | 11 => id == b.pkgid
  | 12 => nodePkg (BitVec.ofNat 16 id) == b.pkgid && isNi (nodeNi (BitVec.ofNat 16 id))
  | 13 => true
  | 14 => (match domAdp id with | some a => !b.noRidge a | none => true)
  | _ => scopeOk ty id

/-- Checks 1 to 4 of 16 R423. -/
def Block.scopeChecks (b : Block) (c : Cmd) (f : Form) : List Check :=
  let ty := scopeTyOf c
  let id := scopeIdOf c
  [(!f.types.contains ty, stScope, 8),
   ((byteOf c 9).land (255 - f.flags) != 0, stRange, 9),
   (!scopeIdOk ty id, f.idBad, 10),
   (!b.scopeThere ty id, stScope, 10),
   (f.void || (f.nis && (b.cmdNis ty id).isEmpty), stScope, 10)]

/-- Check 5 of 16 R423: each argument in its range, in byte order, and every byte that no argument names zero. -/
def argChecks (c : Cmd) (args : List (Nat × Nat × Bool)) : List Check :=
  (args.filter (fun a => a.1 < 12)).map (fun a => (a.2.2, stRange, a.1)) ++
  (List.range 52).filterMap (fun j =>
    let i := 12 + j
    match args.find? (fun a => a.1 == i) with
    | some a => some (a.2.2, stRange, i)
    | none => if args.any (fun a => a.1 ≤ i && i < a.1 + a.2.1) then none else some (byteOf c i != 0, stRange, i))

/-! ### Service (15 R405-R408, R417-R419; 11 R320; 14 R389; 16 R427) -/

/-- What a command does once its fields have passed. -/
inductive Verdict where
  /-- it is refused: status, FIELD, RESULT; nothing changes -/
  | no (status field : Nat) (res : List (Nat × Nat × Nat))
  /-- it completes at once: status, RESULT, and the block with its effect -/
  | done (status : Nat) (res : List (Nat × Nat × Nat)) (b : Block)
  /-- it is accepted and stays in flight with two arguments; the effect of its acceptance -/
  | go (a k : Nat) (effect : Block → Block)

/-- The lead can read a descriptor of the ring: the ring runs and holds one, the completion ring has an entry to reserve, and the lead is
in service, with no fault interrupt waiting, which it serves before a ring (14 R390). -/
def Block.ready (b : Block) (r : Nat) : Bool :=
  let x := b.ring r
  let y := b.ring (r + 8)
  x.en && !x.err && x.unread != 0 && b.lead.who.isSome && b.stwUp b.leadSrc && !b.lead.restarting && !b.fencesFirst b.leadSrc &&
  y.en && y.unread + y.reserved < y.size

/-- The lead reads a descriptor of the ring: it can, and of no ring whose turn comes before (15 R405). -/
def Block.readable (b : Block) (r : Nat) : Bool :=
  b.ready r && (List.range ((r + 8 - b.lead.turn) % 8)).all (fun i => !b.ready ((b.lead.turn + i) % 8))

/-- The turn passes to the ring after `r` (15 R405). -/
def Block.passTurn (b : Block) (r : Nat) : Block := b.modLead (fun l => { l with turn := (r + 1) % 8 })

/-- RESULT of a command that a Fatal fence has struck (11 R320): SEQ and granule of the Fatal record. -/
def Block.fatalRes (b : Block) : List (Nat × Nat × Nat) :=
  match b.wsh.unack.find? (fun r => r.msg.sev == 3) with
  | some r => discRes r.seq r.msg.scTy r.msg.scId
  | none => match b.wsh.held.findIdx? (fun m => m.sev == 3), b.wsh.held.find? (fun m => m.sev == 3) with
    | some i, some m => discRes ((b.wsh.seq + i) % 2 ^ 32) m.scTy m.scId
    | _, _ => discRes b.wsh.seq 11 b.pkgid

/-- CONS moves past the descriptor, and the entry of its completion is reserved. -/
def Block.take (b : Block) (c : Cmd) : Block :=
  (b.modRing c.ring (fun x => { x with cons := x.next x.cons })).modRing (c.ring + 8) (fun x => { x with reserved := x.reserved + 1 })

/-- The completion of a descriptor that has not stayed in flight; `index` is the descriptor's. -/
def Block.complete (b : Block) (c : Cmd) (index status field : Nat) (res : List (Nat × Nat × Nat)) : Block :=
  b.writeCpl c.ring index (tagOf c) (opcodeOf c) status field (notifyOf c) res

/-- The status with which the package's condition turns a command away: `FW_LOAD` in flight (16 R427), or the boot ROM (14 R389). -/
def Block.turnedAway (b : Block) (op : Nat) : Option Nat :=
  if b.lead.flights.any (fun f => f.opc == 4) && op != 0 && op != 2 then some stBusy
  else if b.lead.bootRom && op != 0 && op != 2 && op != 4 then some stState
  else none

/-- Everything that refuses a descriptor before its command's own conditions: status and FIELD. -/
def Block.refusal (b : Block) (c : Cmd) (f : Form) : Option (Nat × Nat) :=
  match firstBad (b.headChecks c ++ b.scopeChecks c f ++ argChecks c f.args) with
  | some x => some x
  | none => (b.turnedAway f.op).map (fun st => (st, 0))

/-- The command in flight that a descriptor becomes. -/
def Block.flightOf (b : Block) (c : Cmd) (index a k : Nat) : Flight :=
  { ring := c.ring, index := index, opc := opcodeOf c, tag := tagOf c, notify := notifyOf c, scTy := scopeTyOf c,
    scId := scopeIdOf c, a := a, b := k, at_ := b.now }

/-- The verdict is carried out. -/
def Block.carryOut (b : Block) (c : Cmd) (index : Nat) : Verdict → Block
  | .no st f res => b.complete c index st f res
  | .done st res b' => b'.complete c index st 0 res
  | .go a k effect => effect (b.modLead (fun l => { l with flights := l.flights ++ [b.flightOf c index a k] }))

/-- An ORDERED descriptor, or a `FENCE`, waits for the earlier commands of its ring (15 R406). -/
def Block.waitsOrder (b : Block) (c : Cmd) : Bool :=
  (orderedOf c || opcodeOf c == 1) && b.lead.flights.any (fun g => g.ring == c.ring)

/-- The descriptor at CONS of a ring is served, if it spells this command, and the turn passes on; a descriptor that waits for its order only
lets the turn pass (15 R405, R406). A code that is not assigned spells `NOP` here, whose row refuses
it (15 R406). Under a Fatal fence only `QUERY` is served (11 R320). -/
def Block.serve (b : Block) (c : Cmd) (f : Form) (run : Block → Verdict) : Block :=
  if !b.readable c.ring || !(opcodeOf c == f.op || (f.op == 0 && 0x1D < opcodeOf c)) then b
  else if b.waitsOrder c then b.passTurn c.ring
  else
    let index := (b.ring c.ring).cons % 65536
    let t := (b.take c).passTurn c.ring
    if b.fatal && f.op != 2 then t.complete c index stDiscarded 0 b.fatalRes
    else match b.refusal c f with
      | some (st, fd) => t.complete c index st fd []
      | none => t.carryOut c index (run t)

/-- An answer buffer is written at ADDRESS, or the port reports an error (16 R425). -/
def Block.answer (b : Block) (c : Cmd) (bytes : List Byte) (status : Nat) (res : List (Nat × Nat × Nat)) : Verdict :=
  if c.bufOk then .done status res (b.hostWrite (.buffer (BitVec.ofNat 64 (addrOf c)) bytes)) else .no stRange 24 []

end Sys2Proof.Machine
end

