-- ==== Sys2Proof/Machine/CmdSetup.lean ====
section
/-! DEFINITION. Ring commands (spec/16) that set the package up: `NOP`, `FENCE`, `PROFILE_SET`, `FW_LOAD`, and the writing and
committing of the address map and the routes. -/

namespace Sys2Proof.Machine

/-- The form of a `NOP` descriptor (16 R420 to R425). -/
def nopForm : Form :=
  { op := 0x00 }

/-- NOP. -/
def execNop (c : Cmd) (s : State) : Host.Outcome State Fault Refusal :=
  s.on (.nop c) (fun b => b.serve c nopForm (fun b => .done stOk [] b))

/-- The form of a `FENCE` descriptor (16 R420 to R425). -/
def fenceForm : Form :=
  { op := 0x01 }

/-- FENCE (15 R406): once accepted it completes at once. -/
def execFence (c : Cmd) (s : State) : Host.Outcome State Fault Refusal :=
  s.on (.fence c) (fun b => b.serve c fenceForm (fun b => .done stOk [] b))

/-! ### PROFILE_SET (13 R375-R378; 16 R426) -/

/-- Profiles with the same epoch-bound settings have the same number (13 R364). -/
def epochClass (p : Nat) : Nat := if p == 2 || p == 4 || p == 10 || p == 11 then 1 else p

/-- A route commit is in flight, or waits for its turn (01 R9; 03 R107). -/
def Block.committing (b : Block) : Bool := b.lead.commit.isSome || !b.lead.commitQ.isEmpty

/-- Steps 1 to 3 of a switch (13 R376). -/
def Block.switchTo (b : Block) (p : Nat) : Block :=
  let old := b.lead.profile
  let b := b.modLead (fun l => { l with
    profile := p, switchFrom := some old, drainFrom := if p = 10 then some b.now else none })
  let b := b.applyProfile p
  if epochClass p != epochClass old then b.wantCommit 4 none else b.switchDone

/-- The watchdog interval applies, if it is given (04 R136). -/
def Block.setWatchdog (b : Block) (wd : Option Nat) : Block :=
  match wd with
  | some w => b.modLead (fun l => { l with watchdog := w })
  | none => b

/-- The conditions of 13 R375 after the ranges, and the acceptance. -/
def Block.profileSet (b : Block) (p : Nat) (wd : Option Nat) : Verdict :=
  let in9 := b.lead.profile == 9
  if p = 0 || p = 9 then .no stState 0 (b.profileRes 0)
  else if b.effProfile = 0 && !(b.lead.routeOk && b.lead.mapOk) then .no stState 0 (b.profileRes 0)
  else if b.lead.flights.any (fun f => f.opc == 3) then .no stBusy 0 (b.profileRes 0)
  else if !in9 && epochClass p != epochClass b.lead.profile && b.committing then .no stBusy 0 (b.profileRes 0)
  else if partProfile p && !b.layoutOk then .no stState 0 (b.profileRes 0)
  else
    let b := b.setWatchdog wd
    if in9 then
      let b := b.modLead (fun l => { l with ret := some p })
      .done stOk (b.profileRes 0) b.mayLeave
    else if p = b.lead.profile then .done stOk (b.profileRes 0) b
    else .go p 0 (fun b => (b.setWatchdog wd).switchTo p)

/-- The form of a `PROFILE_SET` descriptor (16 R420 to R425). -/
def profileSetForm (c : Cmd) : Form :=
  let wd := flagOf c 3
  let w := fieldOf c 16 4
  { op := 0x03, flags := 8, args := [(12, 1, 11 < byteOf c 12), (16, 4, if wd then w < 10 || 100000 < w || w % 10 != 0 else w != 0)] }

/-- PROFILE_SET. -/
def execProfileSet (c : Cmd) (s : State) : Host.Outcome State Fault Refusal :=
  s.on (.profileSet c) (fun b =>
    let wd := flagOf c 3
    let w := fieldOf c 16 4
    b.serve c (profileSetForm c)
      (fun b => b.profileSet (byteOf c 12) (if wd then some w else none)))

/-- BUILD of the lead's running image, a free value while the boot ROM runs. -/
def Block.runningBuild (b : Block) : BitVec 64 × Block :=
  match (b.stw b.leadSrc).build with
  | some x => (x, b)
  | none => b.free 64

/-! ### FW_LOAD (14 R387-R389; 16 R426, R427) -/

/-- The segments of a role fit its memories: 256 KiB of instruction and 32 KiB of data SRAM (14 R388). -/
def roleFits (i : FwImage) (mask : Nat) : Bool :=
  let used (t : Nat) : Nat := ((i.segtab.filter (fun s => s.2.2.1.land mask != 0 && s.2.2.2.1 == t)).map (fun s => s.2.1)).sum
  used 0 ≤ 262144 && used 1 ≤ 32768

/-- The header is as 14 R387 gives it, and the segments fit. -/
def shapeOk (i : FwImage) : Bool :=
  i.magic == 0x594C4831 && i.format == 1 && 1 ≤ i.segments && i.segments ≤ 16 && i.segtab.length == i.segments &&
  1024 ≤ i.size && i.size ≤ 2097152 && i.segtab.all (fun s => s.1 + s.2.1 ≤ i.size) &&
  roleFits i 1 && roleFits i 2 && roleFits i 6

/-- The image is signed for this chip and whole. -/
def Block.imageSigned (b : Block) (i : FwImage) : Bool :=
  i.keyHash == b.fuseKey && i.sigOk && b.fuseMinSec ≤ i.secver && i.segtab.all (fun s => s.2.2.2.2)

/-- The load starts (14 R389 steps 1 to 3): in profile 0 the lead alone loads. -/
def Block.startLoad (b : Block) (i : FwImage) : Block :=
  (b.modLead (fun l => { l with
    segs := i.segtab.map (fun s => (s.2.1, s.2.2.1, s.2.2.2.1)), load := some (BitVec.ofNat 64 i.build, if b.effProfile = 0 then [] else b.loadOrder), loadRetired := 0 })).loadStep

/-- Conditions and checks of an image; RESULT of a refusal gives no steward retired, and the running BUILD (16 R426). -/
def Block.fwLoad (b : Block) (i : FwImage) : Verdict :=
  let (bd, n) := b.runningBuild
  let res := [(16, 4, 0), (24, 8, bd.toNat)]
  if !b.lead.flights.isEmpty then .done stBusy res n
  else if b.effProfile != 0 && b.effProfile != 10 then .done stState res n
  else if !shapeOk i then .done stRange res (n.event n.leadSrc 0x61 none 0)
  else if !b.imageSigned i then .done stSignature res (n.event n.leadSrc 0x61 none 0)
  else .go 0 0 (fun b => b.startLoad i)

/-- The form of a `FW_LOAD` descriptor (16 R420 to R425). -/
def fwLoadForm (c : Cmd) (img : Option FwImage) : Form :=
  let len := fieldOf c 24 4
  let fits := match img with | some i => len == i.size | none => true
  { op := 0x04, args := [(16, 8, fieldOf c 16 8 == 0 || fieldOf c 16 8 % 64 != 0 || img.isNone),
    (24, 4, len < 1024 || 2097152 < len || !fits)] }

/-- FW_LOAD; an image that the port cannot read whole is `none`. -/
def execFwLoad (c : Cmd) (img : Option FwImage) (s : State) : Host.Outcome State Fault Refusal :=
  s.on (.fwLoad c img) (fun b =>
    b.serve c (fwLoadForm c img)
      (fun b => match img with | some i => b.fwLoad i | none => .no stRange 16 []))

/-! ### The address map (06 R182-R191; 16 R428-R431) -/

/-- Number of the idle map epoch. -/
def Block.idleMap (b : Block) : Nat := if b.lead.mapEpoch then 0 else 1
/-- The 32 slots of an interleave group in the input buffer (06 R189). -/
def slotsOf (c : Cmd) : List Nat := (List.range 32).map (fun s => bufOf c (12 * s / 8) 3 / 2 ^ (12 * s % 8) % 4096)
/-- The slots of a group as 48 bytes. -/
def slotBytes (l : List Nat) : List Byte := leBytes (l.foldr (fun x a => x + 4096 * a) 0) 48

/-- Granule entries are written from `index` on. -/
def Block.writeGranules (b : Block) (index : Nat) (es : List Nat) : Block :=
  { b with map := es.zipIdx.foldl (fun (m : SMap Nat) x => m.set (b.idleMap * 65536 + index + x.2) x.1) b.map }

/-- The idle map is written, unless a map commit runs (16 R429). -/
def Block.mapWrite (b : Block) (c : Cmd) : Verdict :=
  let index := fieldOf c 14 2
  let count := fieldOf c 16 4
  if b.lead.mapGran.isSome then .no stBusy 0 []
  else match byteOf c 12 with
    | 0 => .done stOk [] (b.writeGranules index ((List.range count).map (fun i => fieldOf c (32 + 2 * i) 2)))
    | 1 => .done stOk [] (b.writeGranules index ((List.range count).map (fun i => bufOf c (2 * i) 2)))
    | _ => .done stOk [] { b with
        groups := b.groups.set (b.idleMap * 1024 + index) (byteOf c 13 / 32, byteOf c 13 / 8 % 4, slotsOf c) }

/-- The form of a `MAP_WRITE` descriptor (16 R420 to R425). -/
def mapWriteForm (c : Cmd) : Form :=
  let k := byteOf c 12
  let wh := byteOf c 13
  let index := fieldOf c 14 2
  let n := fieldOf c 16 4
  let buf := addrBad c || c.buf.isNone
  { op := 0x05, args := ([(12, 1, decide (2 < k)),
    (13, 1, if k = 2 then 5 < wh / 32 || wh / 8 % 4 == 3 || wh % 8 != 0 else wh != 0),
    (14, 2, k == 2 && 1023 < index),
    (16, 4, n == 0 || (k == 0 && 16 < n) || (k == 2 && n != 1) || 65536 < index + n),
    (24, 8, if k = 0 then addrOf c != 0 else buf || (k == 2 && (slotsOf c).any (fun s => s % 2 == 1)))] : List (Nat × Nat × Bool)) ++
    (if k = 0 then [(32, 32, false)] else []) }

/-- MAP_WRITE. -/
def execMapWrite (c : Cmd) (s : State) : Host.Outcome State Fault Refusal :=
  s.on (.mapWrite c) (fun b =>
    b.serve c (mapWriteForm c)
      (fun b => b.mapWrite c))

/-- Steps 2 and 3 of a map commit (16 R430): the banks answer from the new epoch, and EPOCH_COMMIT goes to every NI; a resting NI takes the
epoch when it wakes. -/
def Block.startMap (b : Block) (g : Nat) : Block :=
  let new := !b.lead.mapEpoch
  let ns := allNis.filter (fun n => !b.asleep n)
  let b := (allNis.filter b.asleep).foldl (fun (b : Block) n => b.modNi n (fun x => { x with mapEpoch := new, cache := [] })) b
  let b := (List.range 32).foldl (fun (b : Block) r => b.modRegion r (fun x => { x with bankEpoch := new })) b
  let b := b.modLead (fun l => { l with mapGran := some g, mapRcv := ns, mapAck := ns, mapPoint := none, mapCopy := [] })
  if ns.isEmpty then b.modLead (fun l => { l with mapPoint := some b.now, mapEpoch := new, gran := g }) else b

/-- The form of a `MAP_COMMIT` descriptor (16 R420 to R425). -/
def mapCommitForm (c : Cmd) : Form :=
  let g := byteOf c 12
  { op := 0x06, args := [(12, 1, 2 < g)] }

/-- MAP_COMMIT (16 R430 step 1). -/
def execMapCommit (c : Cmd) (s : State) : Host.Outcome State Fault Refusal :=
  s.on (.mapCommit c) (fun b =>
    let g := byteOf c 12
    b.serve c (mapCommitForm c) (fun b =>
      if b.lead.mapGran.isSome then .no stBusy 0 (b.mapRes 0)
      else if g != b.lead.gran && b.effProfile != 10 then .no stState 0 (b.mapRes 0)
      else .go (allNis.filter (fun n => !b.asleep n)).length 0 (fun b => b.startMap g)))

/-! ### Routes (03 R102, R103; 16 R432) -/

/-- A route entry may be written at an index of a router's table (16 R432). -/
def Block.entryFits (b : Block) (r idx v : Nat) : Bool :=
  v % 8 == 0 && eEsc v ≤ 5 && eOrder v ≤ 2 && (eOrder v == 0 || eOwn v) &&
  eOwn v == (idx == b.pkgid * 16 + dieOf r) && !(eValid v && 12 < idx % 16)

/-- The entries that a `ROUTE_WRITE` names: router, index, value, and where in the descriptor or the buffer it stands. -/
def routeWrites (c : Cmd) : List (Nat × Nat × Nat × Nat) :=
  let r := fieldOf c 14 2
  if byteOf c 12 = 0 then
    (List.range (byteOf c 17)).map (fun i => (r, byteOf c 16 + i, fieldOf c (32 + 2 * i) 2, 32 + 2 * i))
  else
    (List.range (fieldOf c 16 2)).flatMap (fun j => (List.range 256).map (fun i => (r + j, i, bufOf c (512 * j + 2 * i) 2, 512 * j + 2 * i)))

/-- Entries of the idle tables are written. -/
def Block.routeWrite (b : Block) (c : Cmd) : Verdict :=
  match (routeWrites c).find? (fun e => !b.entryFits e.1 e.2.1 e.2.2.1) with
  | some e => if byteOf c 12 = 0 then .no stRange e.2.2.2 [] else .no stRange 24 [(16, 4, e.2.2.2)]
  | none =>
    if b.committing then .no stBusy 0 []
    else
      let lo := if b.lead.epoch then 0 else 256
      .done stOk [] ((routeWrites c).foldl (fun (b : Block) e =>
        (b.modElem e.1 (fun el => { el with tab := el.tab.set (lo + e.2.1) e.2.2.1 })).keepGold [e.1]) b)

/-- The form of a `ROUTE_WRITE` descriptor (16 R420 to R425). -/
def routeWriteForm (c : Cmd) : Form :=
  let k := byteOf c 12
  let r := fieldOf c 14 2
  let n := fieldOf c 16 2
  { op := 0x07, args := ([(12, 1, decide (1 < k)), (14, 2, !isRouter r)] : List (Nat × Nat × Bool)) ++
    (if k = 0 then [(16, 1, false), (17, 1, byteOf c 17 == 0 || 16 < byteOf c 17 || 256 < byteOf c 16 + byteOf c 17), (32, 32, false)]
    else [(16, 2, n == 0 || 128 < n || !isRouter (r + n - 1) || dieOf (r + n - 1) != dieOf r), (24, 8, addrBad c || c.buf.isNone)]) }

/-- ROUTE_WRITE. -/
def execRouteWrite (c : Cmd) (s : State) : Host.Outcome State Fault Refusal :=
  s.on (.routeWrite c) (fun b =>
    b.serve c (routeWriteForm c)
      (fun b => b.routeWrite c))

/-- Facts behind idle tables use nothing that is out of service now (03 R103 step 1). -/
def Facts.fits (f now : Facts) : Bool :=
  now.colsOut.all f.colsOut.contains && now.ridgesOut.all f.ridgesOut.contains && now.unreach.all f.unreach.contains &&
  now.orders.all (fun x => f.orders.find x.1 == some x.2) && (!f.planeA || now.planeA) && (!f.planeB || now.planeB) &&
  f.pass.all (fun kv => match now.pass.find kv.1 with | some (ps, _) => kv.2.1.all ps.contains | none => false)

/-- An entry that the driver wrote keeps the rules of the chapter against the facts of the moment (03 R84-R99, R103 step 1): VALID only
for what is reachable, the escape output and ORDER those of the escape order, adaptive outputs among those towards a Col, Ridge or Pass
port in service. -/
def Facts.lawful (now : Facts) (r idx v : Nat) : Bool :=
  let w := { now with profile := 3 }.entry r idx
  if eOwn v then eOrder v == eOrder w
  else !eValid v ||
    (eValid w && (eEsc v == eEsc w || (4 ≤ eEsc v && 4 ≤ eEsc w && (match peer r 4 with | some (a, _) => isColC a || isColI a | none => false))) &&
     (eMask v).land (63 - eMask w) == 0)

/-- An entry of an epoch's tables leads an escape path over a fenced mesh link or local link; into a Col adapter only where both its
local links are fenced, since either carries it (03 R98, R103 step 1). -/
def Block.escFenced (b : Block) (ep : Bool) : Bool :=
  b.scopes.any (fun kv =>
    let ty := kv.1 / 65536
    let id := kv.1 % 65536
    (ty == 1 || ty == 2) && b.scFenced ty id &&
    (match scopePort ty id with
     | some (e, p) =>
       ((e, p) :: (peer e p).toList).any (fun x =>
         let r := x.1
         let twin (q : Nat) : Nat := 9 - q
         isRouter r && (List.range 256).any (fun idx =>
           let v := b.entry r ep idx
           eValid v && !eOwn v &&
           (if x.2 < 4 then eEsc v == x.2
            else 4 ≤ eEsc v && (match peer r x.2 with
              | some (a, _) => if isColC a || isColI a then b.linkFenced r (twin x.2) else eEsc v == x.2
              | none => false))))
     | none => false))

/-- The idle tables may be committed. -/
def Block.routesOk (b : Block) : Bool :=
  let now := b.mkFacts none none (b.commitProfile 0 none)
  let lo := if b.lead.epoch then 0 else 256
  !b.escFenced (!b.lead.epoch) &&
  (b.facts (!b.lead.epoch)).fits now &&
  b.elems.all (fun kv => kv.2.tab.all (fun e => !(lo ≤ e.1 && e.1 < lo + 256) || now.lawful kv.1 (e.1 - lo) e.2))

/-- The form of a `ROUTE_COMMIT` descriptor (16 R420 to R425). -/
def routeCommitForm : Form :=
  { op := 0x08 }

/-- ROUTE_COMMIT (03 R103 step 1). -/
def execRouteCommit (c : Cmd) (s : State) : Host.Outcome State Fault Refusal :=
  s.on (.routeCommit c) (fun b => b.serve c routeCommitForm (fun b =>
    if b.committing then .no stBusy 0 (b.routeRes 0)
    else if !b.routesOk then .no stState 0 (b.routeRes 0)
    else .go 0 0 (fun b => b.startCommit 0 none)))

end Sys2Proof.Machine
end

