-- ==== Sys2Proof/Machine/CmdService.lean ====
section
/-! DEFINITION. Ring commands (spec/16) for partitions, regulators, gate lists and power. -/

namespace Sys2Proof.Machine

/-! ### PARTITION_SET (06 R192, R194; 13 R368, R369; 16 R433) -/

/-- A granule mask is written; a region means its four clusters. -/
def Block.setGranules (b : Block) (ty id mask : Nat) : Block :=
  let keys := if ty = 7 then (regionClusters id).map (scKey 6) else [scKey ty id]
  (b.modLead (fun l => { l with
    masks := keys.foldl (fun (m : SMap Nat) k => if mask = 0xFF then m.erase k else m.set k mask) l.masks })).keepGold
    ((List.range 32).map regKey)

/-- The effect of `PARTITION_SET`. -/
def Block.setPartition (b : Block) (c : Cmd) : Block :=
  let ty := scopeTyOf c
  let id := scopeIdOf c
  if byteOf c 12 = 1 then b.setGranules ty id (byteOf c 17)
  else (b.cmdNis ty id).foldl (fun (b : Block) n => b.modNi n (fun x => { x with
    part := if flagOf c 3 then byteOf c 16 else x.part, mask := if flagOf c 4 then byteOf c 17 else x.mask }) |>.keepGold [n]) b

/-- The form of a `PARTITION_SET` descriptor (16 R420 to R425). -/
def partitionSetForm (c : Cmd) : Form :=
  let w := byteOf c 12
  let part := flagOf c 3
  let any := part || flagOf c 4
  { op := 0x09, types := if w = 0 then [7, 11, 12, 13] else if w = 1 then [3, 4, 5, 6, 7] else [3, 4, 5, 6, 7, 11, 12, 13],
    flags := 24, nis := w == 0,
    args := [(9, 1, if w = 0 then !any else w == 1 && any), (12, 1, 1 < w),
    (16, 1, if w = 0 && part then 7 < byteOf c 16 else byteOf c 16 != 0), (17, 1, false)] }

/-- PARTITION_SET. -/
def execPartitionSet (c : Cmd) (s : State) : Host.Outcome State Fault Refusal :=
  s.on (.partitionSet c) (fun b =>
    b.serve c (partitionSetForm c)
      (fun b =>
        let b' := b.setPartition c
        if partProfile b.immProfile && !b'.layoutOk then .no stState 0 [] else .done stOk [] b'.mayLeave))

/-! ### REGULATOR_SET (05 R146-R149; 14 R395; 16 R433, R434) -/

/-- The value that leaves a tier unchanged. -/
def unchanged : Nat := 0xFFFFFFFF
/-- VALUE of a tier. -/
def valueOf (c : Cmd) (t : Nat) : Nat := fieldOf c (16 + 4 * t) 4

/-- A value becomes a rate, current and configured, and is pinned; 0 unpins the tier (14 R395). In profile 9 it is the return value
too (05 R149). -/
def Gate.setRate (g : Gate) (t v : Nat) : Gate :=
  if v = unchanged then g
  else if v = 0 then { g with pin := g.pin.set t false }.putRate t (g.confOf t)
  else
    let back (m : SMap Nat) (k : Nat) : SMap Nat := if (m.find k).isSome then m.set k v else m
    { g with conf := g.conf.set t v, pin := g.pin.set t true, ret := back (back g.ret t) (4 + t) }.putRate t v

/-- The region that a `REGULATOR_SET` is judged in. -/
def Block.regulated (b : Block) (c : Cmd) : Nat :=
  if scopeTyOf c = 7 then scopeIdOf c else b.homeRegion (nodeNi (BitVec.ofNat 16 (scopeIdOf c)))

/-- The four rates of every NI of the scope, or the four budgets of the region, take their values. -/
def Block.regulate (b : Block) (c : Cmd) : Block :=
  if flagOf c 4 then
    (b.modRegion (scopeIdOf c) (fun r => (List.range 4).foldl (fun (r : Region) t =>
      let v := valueOf c t
      if v = unchanged then r
      else { r with budget := r.budget.set t v, ret := if (r.ret.find t).isSome then r.ret.set t v else r.ret }) r)).keepGold
      [regKey (scopeIdOf c)]
  else (b.cmdNis (scopeTyOf c) (scopeIdOf c)).foldl (fun (b : Block) n =>
    b.modGate n (fun g => (List.range 4).foldl (fun (g : Gate) t => g.setRate t (valueOf c t)) g) |>.keepGold [n]) b

/-- The four rate sums of a region. -/
def Block.sumsRes (b : Block) (g : Nat) : List (Nat × Nat × Nat) := (List.range 4).map (fun t => (16 + 4 * t, 4, b.rateSum g t))

/-- The form of a `REGULATOR_SET` descriptor (16 R420 to R425). -/
def regulatorSetForm (c : Cmd) : Form :=
  let bud := flagOf c 4
  let bad (t : Nat) : Bool :=
    let v := valueOf c t
    v != unchanged && (if bud then budgetMax (scopeIdOf c) < v else 4096 < v || (v == 0 && !flagOf c 3))
  { op := 0x0A, types := [7, 12], flags := 24, nis := !bud,
    args := (9, 1, bud && scopeTyOf c != 7) :: (List.range 4).map (fun t => (16 + 4 * t, 4, bad t)) }

/-- REGULATOR_SET. -/
def execRegulatorSet (c : Cmd) (s : State) : Host.Outcome State Fault Refusal :=
  s.on (.regulatorSet c) (fun b =>
    b.serve c (regulatorSetForm c)
      (fun b =>
        let g := b.regulated c
        let b' := b.regulate c
        if (List.range 4).any (fun t => valueOf c t != unchanged && b'.budgetOf g t < b'.rateSum g t) then .no stBudget 0 (b.sumsRes g)
        else .done stOk (b'.sumsRes g) b'))

/-! ### GATE_LOAD, GATE_ACTIVATE (05 R151, R152, R160-R163; 16 R433, R434) -/

/-- An activation is pending at a Tollgate (05 R162). -/
def Gate.pending (g : Gate) : Bool := g.pend.isSome || g.pendMsg.isSome

/-- Entry words of a `GATE_LOAD`. -/
def gateWords (c : Cmd) : List (BitVec 32) :=
  (List.range (fieldOf c 20 2)).map (fun i => BitVec.ofNat 32 (if flagOf c 5 then bufOf c (4 * i) 4 else fieldOf c (32 + 4 * i) 4))

/-- A shadow list takes a header and a run of entries (05 R160). -/
def GateList.load (l : GateList) (entries guard first : Nat) (ws : List (BitVec 32)) : GateList :=
  { entries := entries, guard := guard, words := ws.zipIdx.foldl (fun (m : SMap (BitVec 32)) x => m.set (first + x.2) x.1) l.words }

/-- The form of a `GATE_LOAD` descriptor (16 R420 to R425). -/
def gateLoadForm (c : Cmd) : Form :=
  let host := flagOf c 5
  let n := fieldOf c 16 2
  let k := fieldOf c 20 2
  { op := 0x0B, types := [7, 11, 12, 13], flags := 32, nis := true,
    args := ([(16, 2, n == 0 || 256 < n), (18, 1, false), (19, 1, false),
    (20, 2, k == 0 || (if host then 256 else 8) < k || 256 < byteOf c 19 + k),
    (24, 8, if host then addrBad c || c.buf.isNone else addrOf c != 0)] : List (Nat × Nat × Bool)) ++
    (if host then [] else [(32, 32, false)]) }

/-- GATE_LOAD. -/
def execGateLoad (c : Cmd) (s : State) : Host.Outcome State Fault Refusal :=
  s.on (.gateLoad c) (fun b =>
    let n := fieldOf c 16 2
    b.serve c (gateLoadForm c)
      (fun b =>
        let ns := b.cmdNis (scopeTyOf c) (scopeIdOf c)
        if ns.any (fun m => (b.gate m).pending) then .no stBusy 0 []
        else .done stOk [] (ns.foldl (fun (b : Block) m => (b.modGate m (fun g => { g with
          shadow := g.shadow.load n (byteOf c 18) (byteOf c 19) (gateWords c) })).keepGold [m]) b)))

/-- The switch instant S (05 R161). -/
def switchAt (acc base cycle : Nat) : Nat :=
  let earliest := acc + 6400
  if earliest ≤ base then base else base + (earliest - base + cycle - 1) / cycle * cycle

/-- The conditions of 05 R161, and the acceptance: S goes to every Tollgate. -/
def Block.gateActivate (b : Block) (ns : List Nat) (base : Nat) : Verdict :=
  let acc := b.ft 12
  let cycle := (b.gate (ns.headD 0)).shadow.cycle
  if ns.any (fun n => (b.gate n).pending) then .no stBusy 0 []
  else if ns.any (fun n => !(b.gate n).shadow.valid) then .no stRange 0 []
  else if acc + second < base then .no stRange 16 []
  else if ns.any (fun n => (b.gate n).shadow.cycle != cycle) then .no stState 0 []
  else
    let at_ := switchAt acc base cycle
    .go at_ (if at_ = base then 0 else 1) (fun b =>
      (ns.foldl (fun (b : Block) n => b.modGate n (fun g => { g with pendMsg := some (at_, base) }) |>.keepGold [n]) b).gatesDone)

/-- The form of a `GATE_ACTIVATE` descriptor (16 R420 to R425). -/
def gateActivateForm : Form :=
  { op := 0x0C, types := [7, 11, 12, 13], nis := true, idBad := stScope, args := [(16, 8, false)] }

/-- GATE_ACTIVATE. -/
def execGateActivate (c : Cmd) (s : State) : Host.Outcome State Fault Refusal :=
  s.on (.gateActivate c) (fun b =>
    b.serve c gateActivateForm
      (fun b => b.gateActivate (b.cmdNis (scopeTyOf c) (scopeIdOf c)) (fieldOf c 16 8)))

/-! ### DOMAIN_POWER, IDLE_TIMER_SET (10 R293, R305-R311; 16 R435, R436) -/

/-- State code of a TARGET (10 R291; 16 R435). -/
def targetCode (t : Nat) : Nat := if t = 0 then 0 else if t = 1 then 4 else 7

/-- Repair state of a region (12 R344): that of the plane or compute die around it, or its own, or the least advanced of the scopes
inside it. -/
def Block.regionState (b : Block) (g : Nat) : Nat :=
  let around := if g < 24 then (b.scope 9 (g / 2)).st else (b.scope 8 ((g - 24) / 4)).st
  let own := (b.scope 7 g).st
  if around != 0 then around
  else if own != 0 then own
  else
    let l := (b.scopes.filter (fun kv => kv.2.st != 0 && scopeIn (kv.1 / 65536) (kv.1 % 65536) 7 g)).map (fun kv => kv.2.st)
    l.foldl min (l.headD 0)

/-- The region of the domain or a scope around the domain is in repair (10 R306; 16 R444). -/
def Block.powerHeld (b : Block) (d : Nat) : Bool := !b.domActive d || b.regionState (domRegion d) != 0

/-- What no FORCE overrides: a repair, and the lead steward or its pair's last steward (10 R306). -/
def Block.powerBarred (b : Block) (d : Nat) : Bool :=
  b.powerHeld d || (208 ≤ d && (domStw d == b.leadSrc || (b.stwUp (domStw d) && !b.stwUp (buddy (domStw d)))))

/-- A Ridge link carries a detour (03 R90). -/
def Block.detours (b : Block) (k : Nat) : Bool :=
  b.factsNow.detour.any (fun x => (x.1 == k && x.2 == (k + 1) % 12) || (x.2 == k && x.1 == (k + 1) % 12))

/-- Taking a domain down cuts a way that has no alternate (10 R306). -/
def Block.powerCuts (b : Block) (d : Nat) (offlined : Bool) : Bool :=
  if d < 128 then !offlined && (domNis d).any isTileNi
  else match domAdp d with
    | some a => if isColC a || isColI a then !b.colUp (colOfAdp a ^^^ 1) else if isRidge a then b.detours (ridgeOfAdp a) else false
    | none => false

/-- A retained bank of an element takes new contents; a map bank's are those of the package map, which every bank holds (06 R187; 10 R305; 16 R436;
notes/assumptions/22.md). -/
def Block.putBank (b : Block) (e x : Nat) (g : Gold) : Block :=
  match bankKind x with
  | 0 => b.modElem e (fun el => { el with tab := g.tab })
  | 1 =>
    if x % 256 = 0 then b.modGate e (fun y => { y with active := g.active, base := g.base, pend := g.pend })
    else if x % 256 = 1 then b.modGate e (fun y => { y with shadow := g.shadow })
    else b.modGate e (fun y => { y with rate := g.rate, conf := g.conf, pin := g.pin, ret := g.ret })
  | 2 => b.modNi e (fun y => { y with part := g.part % 8, mask := g.mask % 256, inc := g.inc })
  | _ => b

/-- LOAD: the named bank is written from the buffer, its signature computed and the golden copy, where the pair keeps one, written too; with the
last the domain is On (16 R436). -/
def Block.loadBank (b : Block) (d x : Nat) (buf : List Byte) : Block :=
  let e := (domElems d).getD (x / 2048) 0
  let b := b.putBank e x (Config.bankContents x buf)
  let b := if bankKind x < 3 then b.keepGold [e] else b
  let b := b.modDom d (fun y => { y with stale := y.stale.filter (· != x), sigs := y.sigs.set x (b.bankSig d x) })
  if !(b.dom d).stale.isEmpty then b
  else
    let gone := (b.dom d).noGold
    let b := (b.domOn d).powerStart d
    if gone then b.wantCommit 7 none else b

/-- The conditions of 10 R306 and 16 R436, and the acceptance; LOAD does not wait for a command that the held wake keeps in flight. -/
def Block.domainPower (b : Block) (c : Cmd) : Verdict :=
  let d := scopeIdOf c
  let t := byteOf c 12
  let code := targetCode t
  let x := b.dom d
  let res := [(16, 4, 0), (20, 1, b.domCode d)]
  if t = 3 then
    match x.stale.find? (fun y => y % 256 == byteOf c 13) with
    | some y => if x.st = 6 && !b.powerHeld d then
        (let b' := b.loadBank d y (c.buf.getD []); .done stOk [(16, 4, 0), (20, 1, b'.domCode d)] b') else .no stState 0 res
    | none => .no stState 0 res
  else if b.powerBarred d then .no stState 0 res
  else if t = 2 && 200 ≤ d && d < 208 && !((b.port (d - 200)).st ∈ [0, 6, 8]) then .no stState 0 res
  else if (t = 1 || t = 2) && !flagOf c 0 && b.powerCuts d (flagOf c 1) then .no stNoPath 0 res
  else if b.lead.flights.any (fun f => f.opc == 0x0D && f.scId == d) then .no stState 0 res
  else if x.st = code && !(code = 0 && x.offRoute) then .done stOk res b
  else .go code (if flagOf c 0 then 1 else 0) (fun b => (b.modDom d (fun x => { x with target := some code })).powerStart d)

/-- The form of a `DOMAIN_POWER` descriptor (16 R420 to R425). -/
def domainPowerForm (c : Cmd) : Form :=
  let t := byteOf c 12
  let load := t == 3
  { op := 0x0D, types := [14], flags := 3, args :=
    [(12, 1, 3 < t), (13, 1, !load && byteOf c 13 != 0),
    (16, 4, fieldOf c 16 4 != (if load then Config.bankSize (scopeIdOf c) (byteOf c 13) else 0)),
    (24, 8, if load then addrBad c || c.buf.isNone else addrOf c != 0)] }

/-- DOMAIN_POWER. -/
def execDomainPower (c : Cmd) (s : State) : Host.Outcome State Fault Refusal :=
  s.on (.domainPower c) (fun b =>
    b.serve c (domainPowerForm c)
      (fun b => b.domainPower c))

/-- Domains of an `IDLE_TIMER_SET`, steward domains left out (16 R435). -/
def timerDoms (ty id : Nat) : List Nat :=
  (List.range 208).filter (fun d => ty == 11 || (ty == 13 && domDie d == id) || (ty == 14 && d == id))

/-- The form of a `IDLE_TIMER_SET` descriptor (16 R420 to R425). -/
def idleTimerSetForm (c : Cmd) : Form :=
  let v := fieldOf c 16 4
  let ds := timerDoms (scopeTyOf c) (scopeIdOf c)
  { op := 0x0E, types := [11, 13, 14], void := ds.isEmpty, args := [(16, 4, 10000 < v && v != unchanged)] }

/-- IDLE_TIMER_SET (10 R293). -/
def execIdleTimerSet (c : Cmd) (s : State) : Host.Outcome State Fault Refusal :=
  s.on (.idleTimerSet c) (fun b =>
    let v := fieldOf c 16 4
    let ds := timerDoms (scopeTyOf c) (scopeIdOf c)
    b.serve c (idleTimerSetForm c) (fun b =>
      .done stOk [] (ds.foldl (fun (b : Block) d =>
        b.modDom d (fun x => { x with timer := if v = unchanged then none else some v })) b)))

end Sys2Proof.Machine
end

