-- ==== Sys2Proof/Machine/CmdRepair.lean ====
section
/-! DEFINITION. Ring commands (spec/16) for repair, Pass service, calibration and locks. -/

namespace Sys2Proof.Machine

/-! ### Repair commands (12 R345, R346, R351, R355, R356, R361; 16 R435) -/

/-- The scope is in repair, or about to be. -/
def Block.inRepair (b : Block) (ty id : Nat) : Bool :=
  (b.scope ty id).st != 0 || (b.scope ty id).stopped || b.aboutToClose ty id ||
  b.lead.flights.any (fun f => isRepairOp f.opc && f.scTy == ty && f.scId == id)

/-- A scope that contains this one, or lies inside it, is in repair (12 R345). -/
def Block.nestedRepair (b : Block) (ty id : Nat) : Bool :=
  let near (t i : Nat) : Bool := !(t == ty && i == id) && (scopeIn ty id t i || scopeIn t i ty id)
  b.scopes.any (fun kv => near (kv.1 / 65536) (kv.1 % 65536) && (kv.2.st != 0 || kv.2.stopped)) ||
  b.lead.flights.any (fun f => isRepairOp f.opc && near f.scTy f.scId) ||
  b.lead.commit.any (fun c => c.why == 6 && c.scope.any (fun k => near (k / 65536) (k % 65536))) ||
  b.lead.commitQ.any (fun x => x.1 == 6 && x.2.any (fun k => near (k / 65536) (k % 65536))) ||
  b.lead.planeNotice.any (fun p => near 8 p.1)

/-- An NI of a core complex, L3 slice, memory controller, home agent or root complex. -/
def servesUnit (n : Nat) : Bool := isNi n && !isStwNi n && !isPassNi n

/-- NIs that a scope of type 2, 6, 7 or 9 cuts off from the fabric; a dual-homed one only where its other plane's port is out too. -/
def Block.cutOff (b : Block) (ty id : Nat) : List Nat :=
  let other (n p : Nat) : Bool := b.outFenced n (1 - p)
  let behind (r : Nat) : List Nat := [4, 5].filterMap (fun q => match peer r q with
    | some (n, p) => if servesUnit n && (!isDual n || other n p) then some n else none
    | none => none)
  match ty with
  | 2 => let n := id % 8192
         if servesUnit n && (!isDual n || other n (id / 32768)) then [n] else []
  | 6 => (clusterRouters id).flatMap behind
  | 7 => (regionClusters id).flatMap (fun c => (clusterRouters c).flatMap behind)
  | 9 => (dieNis id).filter servesUnit
  | _ => []

/-- No alternate path (12 R356). -/
def Block.noPath (b : Block) (ty id : Nat) (offlined : Bool) : Bool :=
  (!offlined && !(b.cutOff ty id).isEmpty) ||
  (match ty with
   | 3 => !b.colUp (id ^^^ 1)
   | 4 => b.detours id
   | 9 => b.factsNow.detour.any (fun x => x.2 == id)
   | 5 => !b.serviceOk id
   | _ => false)

/-- A steward stays: in service, and no repair of it has been accepted. -/
def Block.stwStays (b : Block) (s : Nat) : Bool := b.stwServes s && !b.aboutToClose 10 s

/-- A cluster or region of plane `p` leaves ACTIVE, or is about to. -/
def Block.planeGoes (b : Block) (p : Nat) : Bool :=
  (List.range 16).any (fun c => (b.scope 6 (96 + 16 * p + c)).st != 0 || b.aboutToClose 6 (96 + 16 * p + c)) ||
  (List.range 4).any (fun g => (b.scope 7 (24 + 4 * p + g)).st != 0 || b.aboutToClose 7 (24 + 4 * p + g))

/-- What no FORCE overrides: a steward that is needed; a plane while the other one does not carry traffic, which it must do throughout its repair,
so that no cluster or region of the other may go meanwhile; and a scope with a domain Off by command (12 R351, R355, R356). -/
def Block.barred (b : Block) (ty id : Nat) : Bool :=
  (scopeDoms ty id).any (fun d => (b.dom d).st == 7) ||
  (ty == 8 && (!b.planeCarries (1 - id) || b.planeInRepair (1 - id) || b.planeGoes (1 - id))) ||
  ((ty == 6 || ty == 7) && [0, 1].any (fun p => scopeIn ty id 8 p && b.planeInRepair (1 - p))) ||
  (ty == 10 && (!b.stwStays (buddy id) ||
    (dieOf id == 12 && !((List.range 16).any (fun n => stwSrc 12 n != id && stwSrc 12 n != b.leadSrc && b.stwStays (stwSrc 12 n))))))

/-- RESULT of the repair commands (16 R435). -/
def Block.repairRes (b : Block) (ty id : Nat) : List (Nat × Nat × Nat) := [(16, 1, (b.scope ty id).st), (20, 4, 0)]

/-- The scope goes out of ACTIVE by command. -/
def Block.leave (b : Block) (c : Cmd) (hold test : Bool) : Verdict :=
  let ty := scopeTyOf c
  let id := scopeIdOf c
  if b.barred ty id then .no stState 0 (b.repairRes ty id)
  else if !flagOf c 0 && b.noPath ty id (flagOf c 1) then .no stNoPath 0 (b.repairRes ty id)
  else .go 0 0 (fun b => (b.closeScope ty id (flagOf c 0) (flagOf c 1) hold test).modScope ty id (fun sc =>
    { sc with margin := if test && flagOf c 3 then signedOf c 16 2 else 0 }))

/-- FENCED with HOLD or RETIRED: RESETTING onwards, both cleared; `hold`: stop at READY. -/
def Block.restart (b : Block) (ty id : Nat) (hold : Bool) : Block :=
  (b.modScope ty id (fun sc => { sc with hold := hold, retired := false })).startReset ty id

/-- A scope in no state that the command accepts. -/
def Block.turned (b : Block) (ty id : Nat) : Verdict :=
  if b.inRepair ty id then .no stBusy 0 (b.repairRes ty id) else .no stState 0 (b.repairRes ty id)

/-- HOLD is set on a scope in repair, which goes no further than READY unless it is past it; profile 9 may end with it (12 R343, R345, R353). -/
def Block.holdScope (b : Block) (ty id : Nat) : Block := (b.modScope ty id (fun sc => { sc with hold := true })).mayLeave

/-- `SCOPE_FENCE` by the scope's state. -/
def Block.scopeFence (b : Block) (c : Cmd) : Verdict :=
  let ty := scopeTyOf c
  let id := scopeIdOf c
  let sc := b.scope ty id
  if b.nestedRepair ty id then .no stBusy 0 (b.repairRes ty id)
  else if sc.st != 0 && (sc.fault || (3 ≤ sc.st && sc.st ≤ 6)) then
    let b := b.holdScope ty id
    .done stOk (b.repairRes ty id) b
  else if b.inRepair ty id then .no stBusy 0 (b.repairRes ty id)
  else b.leave c true false

/-- The form of a `SCOPE_FENCE` descriptor (16 R420 to R425). -/
def scopeFenceForm : Form :=
  { op := 0x10, types := List.range' 1 10, flags := 7 }

/-- SCOPE_FENCE. -/
def execScopeFence (c : Cmd) (s : State) : Host.Outcome State Fault Refusal :=
  s.on (.scopeFence c) (fun b => b.serve c scopeFenceForm (fun b => b.scopeFence c))

/-- `DOMAIN_RESET` by the scope's state. -/
def Block.domainReset (b : Block) (c : Cmd) : Verdict :=
  let ty := scopeTyOf c
  let id := scopeIdOf c
  let sc := b.scope ty id
  if b.nestedRepair ty id then .no stBusy 0 (b.repairRes ty id)
  else if sc.st = 3 && (sc.hold || sc.retired) then
    .go 0 0 (fun b => b.restart ty id (flagOf c 2))
  else if b.inRepair ty id then .no stBusy 0 (b.repairRes ty id)
  else b.leave c (flagOf c 2) false

/-- The form of a `DOMAIN_RESET` descriptor (16 R420 to R425). -/
def domainResetForm : Form :=
  { op := 0x0F, types := List.range' 1 10, flags := 7 }

/-- DOMAIN_RESET. -/
def execDomainReset (c : Cmd) (s : State) : Host.Outcome State Fault Refusal :=
  s.on (.domainReset c) (fun b => b.serve c domainResetForm (fun b => b.domainReset c))

/-- `SCOPE_READMIT` by the scope's state. -/
def Block.scopeReadmit (b : Block) (ty id : Nat) : Verdict :=
  let sc := b.scope ty id
  if b.nestedRepair ty id then .no stBusy 0 (b.repairRes ty id)
  else if sc.st = 3 && (sc.hold || sc.retired) then .go 0 0 (fun b => b.restart ty id false)
  else if sc.st = 6 then .go 0 0 (fun b =>
    let b := b.modScope ty id (fun sc => { sc with hold := false })
    if b.admitting then b else b.startAdmit ty id)
  else b.turned ty id

/-- The form of a `SCOPE_READMIT` descriptor (16 R420 to R425). -/
def scopeReadmitForm : Form :=
  { op := 0x11, types := List.range' 1 10 }

/-- SCOPE_READMIT. -/
def execScopeReadmit (c : Cmd) (s : State) : Host.Outcome State Fault Refusal :=
  s.on (.scopeReadmit c) (fun b =>
    b.serve c scopeReadmitForm (fun b => b.scopeReadmit (scopeTyOf c) (scopeIdOf c)))

/-- An argument of characterisation lies outside its range, or is given without its flag (13 R374). -/
def marginBad (c : Cmd) (lim : Int) : Bool :=
  let v := signedOf c 16 2
  if flagOf c 3 then decide (v < -lim ∨ lim < v) else v != 0

/-- The form of a `SELFTEST` descriptor (16 R420 to R425). -/
def selftestForm (c : Cmd) : Form :=
  { op := 0x14, types := List.range' 1 10, flags := 15, args := [(16, 2, marginBad c 100)] }

/-- SELFTEST (12 R345; 13 R374). -/
def execSelftest (c : Cmd) (s : State) : Host.Outcome State Fault Refusal :=
  s.on (.selftest c) (fun b =>
    b.serve c (selftestForm c) (fun b =>
      let ty := scopeTyOf c
      let id := scopeIdOf c
      if flagOf c 3 && b.effProfile != 11 then .no stState 0 (b.repairRes ty id)
      else if b.nestedRepair ty id || b.inRepair ty id then .no stBusy 0 (b.repairRes ty id)
      else b.leave c (flagOf c 2) true))

/-! ### Pass service (09 R282, R283; 16 R438, R439) -/

/-- The form of a `LINK_SERVICE` descriptor (16 R420 to R425). -/
def linkServiceForm : Form :=
  { op := 0x12, types := [5], flags := 1 }

/-- LINK_SERVICE. -/
def execLinkService (c : Cmd) (s : State) : Host.Outcome State Fault Refusal :=
  s.on (.linkService c) (fun b =>
    b.serve c linkServiceForm (fun b =>
      let k := scopeIdOf c
      let st := (b.port k).st
      if st = 4 || st = 5 then .no stBusy 0 []
      else if st != 2 && st != 3 then .no stState 0 []
      else if !flagOf c 0 && !b.serviceOk k then .done stNoPath [] (b.refuseService k)
      else .go 0 0 (fun b => (b.tellFar k false).steer k true)))

/-- The effect of the readmitting press, the port to open without a further one. -/
def Block.linkReturn (b : Block) (k : Nat) : Block :=
  let p := b.port k
  match p.st with
  | 7 => (b.tellFar k true).wantOpen k
  | 10 => if b.pressable k then b.repairPort k else b
  | 8 => if (b.link (passAdp k)).st == .active then (b.portTo k 1).modPort k (fun p => { p with step := 6, openNext := true })
         else b.retrainPort k
  | _ => b.retrainPort k

/-- The form of a `LINK_RETURN` descriptor (16 R420 to R425). -/
def linkReturnForm : Form :=
  { op := 0x13, types := [5] }

/-- LINK_RETURN. -/
def execLinkReturn (c : Cmd) (s : State) : Host.Outcome State Fault Refusal :=
  s.on (.linkReturn c) (fun b =>
    b.serve c linkReturnForm (fun b =>
      let k := scopeIdOf c
      let p := b.port k
      if p.st = 7 || p.st = 8 || ((p.st = 6 || p.st = 10) && p.present) then .go 0 0 (fun b => b.linkReturn k)
      else .no stState 0 (b.returnRes k)))

/-! ### CALIBRATE (12 R360; 16 R438) -/

/-- Physical lanes of a link (08 R233; 09 R263). -/
def laneCount (ty : Nat) : Nat := if ty = 3 then 68 else if ty = 4 then 34 else 18

/-- A calibration starts: quiet windows of a Col or Ridge link, rotations of a Pass port. -/
def Block.calibrate (b : Block) (ty id lane : Nat) : Block :=
  let b := b.modLead (fun l => { l with calShort := l.calShort.erase (scKey ty id) })
  if ty = 5 then
    let code := laneCode (b.port id).mapTx lane
    b.modPort id (fun p => if lane = 0xFF then { p with calLeft := 16 }
      else { p with calLeft := 1, rotLane := if code < 16 then code else p.rotLane })
  else b.modLead (fun l => { l with quietDue := l.quietDue.filter (fun a => !(linkAdps (ty == 4) id).contains a) ++ linkAdps (ty == 4) id })

/-- The form of a `CALIBRATE` descriptor (16 R420 to R425). -/
def calibrateForm (c : Cmd) : Form :=
  let ty := scopeTyOf c
  let lane := byteOf c 12
  { op := 0x15, types := [3, 4, 5], flags := 8,
    args := [(12, 1, lane != 0xFF && laneCount ty ≤ lane), (16, 2, marginBad c 200)] }

/-- The eye offset of one physical lane or of every lane of a link, on both of its sides, is set (13 R374; 16 R438). -/
def Block.setEye (b : Block) (ty id lane : Nat) (v : Int) : Block :=
  let as := if ty = 5 then [passAdp id] else linkAdps (ty == 4) id
  let ps := if lane = 0xFF then List.range (laneCount ty) else [lane]
  as.foldl (fun b a => b.modLink a (fun l => { l with eye := ps.foldl (fun m p => m.set p v) l.eye })) b

/-- CALIBRATE. -/
def execCalibrate (c : Cmd) (s : State) : Host.Outcome State Fault Refusal :=
  s.on (.calibrate c) (fun b =>
    let ty := scopeTyOf c
    let id := scopeIdOf c
    let lane := byteOf c 12
    b.serve c (calibrateForm c) (fun b =>
      if (flagOf c 3 && b.effProfile != 11) || b.inRepair ty id ||
         b.lead.flights.any (fun f => f.opc == 0x15 && f.scTy == ty && f.scId == id) then .no stState 0 []
      else .go (if lane != 0xFF then 1 else if ty = 5 then 16 else laneCount ty) 0 (fun b =>
        (if flagOf c 3 then b.setEye ty id lane (signedOf c 16 2) else b).calibrate ty id lane)))

/-! ### LOCK_BREAK (06 R200; 16 R438) -/

/-- State, incarnation, holder and number of a lock entry (16 R438). -/
def lockRes (i : Nat) (l : Option Lock) : List (Nat × Nat × Nat) :=
  match l with
  | some l => [(16, 1, if l.broken then 2 else 1), (17, 1, l.inc.toNat), (18, 2, l.owner.toNat), (20, 1, i)]
  | none => [(16, 1, 0), (20, 1, i)]

/-- The keeper's entry that a command names. -/
def Ni.lockNamed (x : Ni) (c : Cmd) : Nat × Option Lock :=
  if byteOf c 12 = 0xFF then
    (match x.lockAt (BitVec.ofNat 46 (fieldOf c 16 6)) with
     | some (i, l) => (i, some l)
     | none => (0, none))
  else (byteOf c 12, x.locks.find (byteOf c 12))

/-- The form of a `LOCK_BREAK` descriptor (16 R420 to R425). -/
def lockBreakForm (c : Cmd) : Form :=
  let e := byteOf c 12
  let a := fieldOf c 16 6
  { op := 0x16, types := [12], flags := 8, args := [(12, 1, 15 < e && e != 0xFF), (16, 6, if e = 0xFF then 2 ^ 46 ≤ a else a != 0)] }

/-- LOCK_BREAK. -/
def execLockBreak (c : Cmd) (s : State) : Host.Outcome State Fault Refusal :=
  s.on (.lockBreak c) (fun b =>
    b.serve c (lockBreakForm c)
      (fun b =>
        let n := nodeNi (BitVec.ofNat 16 (scopeIdOf c))
        let (i, l) := (b.ni n).lockNamed c
        if l.isNone then .done stOk (lockRes i none) b
        else
          let b := b.breakLock n i 3
          .done stOk (lockRes i l) (if flagOf c 3 then b.modNi n (fun x => { x with locks := x.locks.erase i }) else b)))

end Sys2Proof.Machine
end

