-- ==== Sys2Proof/Machine/CmdFaults.lean ====
section
/-! DEFINITION. Ring commands (spec/16) for faults, telemetry, counters and time. -/

namespace Sys2Proof.Machine

/-! ### FAULT_FORCE (11 R321, R325; 16 R438) -/

/-- The table of 11 R321 gives the kind to the source. -/
def Block.kindGiven (b : Block) (s k : Nat) : Bool :=
  let loc := locOf s
  let ni := isNi s
  let lnk := isDieAdp s
  let lead := s == b.leadSrc
  let bank := (List.range 32).any (fun g => bankSrc g == s)
  if k == 0xFE then isSource s
  else if k ≤ 0x02 then isRouter s || lnk || ni
  else if k == 0x03 then isRouter s || lnk || isPass s
  else if k ≤ 0x05 then isElem s
  else if k == 0x06 then ni
  else if k ≤ 0x08 then isRouter s
  else if k ≤ 0x14 then ni
  else if k == 0x15 then lead
  else if k == 0x16 then isStw s
  else if k ≤ 0x27 then lnk || isPass s
  else if k == 0x28 then isPass s
  else if k == 0x29 then lnk
  else if k == 0x2A then lnk || isPass s
  else if k == 0x30 then loc == 465
  else if k == 0x31 then loc == 466
  else if k == 0x32 then loc == 466 || lead
  else if k == 0x33 then isColI s || (isRidge s && b.isTimeSrc s)
  else if k == 0x34 then isPass s
  else if k ≤ 0x36 then lead
  else if k ≤ 0x38 then s == ioSrc 478
  else if k ≤ 0x3A then ni || lnk || isStw s || isPass s
  else if k ≤ 0x41 then loc == 477
  else if k ≤ 0x5A then isPass s
  else if k == 0x60 then isStw s
  else if k == 0x61 then lead
  else if k ≤ 0x64 then isRouter s || ni || bank
  else if k == 0x65 then isStw s
  else if k == 0x66 || k == 0x71 then s == ioSrc 480
  else if k == 0x70 then loc == 464 || s == ioSrc 480
  else s == ioSrc 479

/-- Granule that a forced kind of a source fences; a source with several links, domains or dies in its charge stands for its first one. -/
def Block.forcedScope (b : Block) (s k : Nat) : Nat × Nat :=
  if kindSev s k = 3 then (11, b.pkgid)
  else if kindSev s k < 2 then (0, 0)
  else match k with
    | 0x07 => (6, clusterOf s)
    | 0x30 => (9, dieOf s)
    | 0x31 => (9, dieOf s)
    | 0x40 => (6, 8 * dieOf s)
    | 0x60 => (10, buddy s)
    | 0x71 => (9, 0)
    | _ => if isRouter s then linkScope s (((List.range 6).find? (fun p => (peer s p).isSome)).getD 0)
           else if isAdp s then linkScope s 7 else linkScope s 0

/-- DETAIL of a forced kind: what the source and its granule give. -/
def forcedDet (s k : Nat) (sc : Nat × Nat) : BitVec 32 :=
  if 0x20 ≤ k && k ≤ 0x2A then detLink s 0 255 0
  else if (0x50 ≤ k && k ≤ 0x60) || (0x62 ≤ k && k ≤ 0x65) || k == 0x71 then
    (if isPass s && k != 0x54 then detS 5 (portOf s) 0 else if k == 0x54 then 0 else detS sc.1 sc.2 0)
  else 0

/-- The kind with its reaction. Where it acts on a word or a lane that the command does not name, which one is a free value
(notes/assumptions/52.md). -/
def Block.forceKind (b : Block) (s k : Nat) : Block :=
  let sc := b.forcedScope s k
  if k = 0xFE then b.sendForced s
  else if k = 0x60 then b.stewardLost (buddy s) true
  else if k = 0x63 then
    let (v, b) := b.free 17
    let table := if isRouter s then 0 else if isNi s then 2 else 5
    b.badWord s table (v.toNat % (if isRouter s then 256 else if isNi s then 1024 else 66560)) true
  else if 2 ≤ kindSev s k then
    let b := if k = 0x58 then b.modPort (portOf s) (fun p => { p with fenceCause := 1 })
      else if k = 0x59 then b.modPort (portOf s) (fun p => { p with fenceCause := 2 }) else b
    b.fault s k sc.1 sc.2 none (forcedDet s k sc) none true
  else
    let b := b.send { b.mkMsg s k (kindSev s k) none (forcedDet s k sc) with forced := true }
    if k = 0x25 then b.forceSuspect s else
    if k = 0x08 then b.modWsh (fun w => { w with starveInt := w.starveInt ++ [(regionOf s, ownNode b.pkgid s)] }) else b

/-- The form of a `FAULT_FORCE` descriptor (16 R420 to R425). -/
def faultForceForm (c : Cmd) : Form :=
  let x := fieldOf c 12 2
  let k := byteOf c 14
  { op := 0x17, args := [(12, 2, 6655 < x), (14, 1, !kindKnown k)] }

/-- FAULT_FORCE. -/
def execFaultForce (c : Cmd) (s : State) : Host.Outcome State Fault Refusal :=
  s.on (.faultForce c) (fun b =>
    let x := fieldOf c 12 2
    let k := byteOf c 14
    b.serve c (faultForceForm c) (fun b =>
      let sc := b.forcedScope x k
      if !b.kindGiven x k then .no stScope 0 []
      else if b.effProfile != 11 && (kindSev x k == 3 || (kindSev x k == 2 && b.escalates sc.1 sc.2)) then .no stState 0 []
      else
        let b := b.forceKind x k
        .done stOk [(16, 4, b.nextSeq)] b))

/-! ### FAULT_ACK (11 R332; 16 R440) -/

/-- Place of a record in the written order, modulo 2^33. -/
def recPlace (wrap : Bool) (seq : Nat) : Nat := (if wrap then 2 ^ 32 else 0) + seq

/-- A record with that SEQ and SEQWRAP has been written. -/
def Wsh.wrote (w : Wsh) (wrap : Bool) (seq : Nat) : Bool :=
  (wrap == w.wrap && seq < w.seq) || (w.wrap && !wrap && w.seq ≤ seq) || w.unack.any (fun r => r.wrap == wrap && r.seq == seq)

/-- The record comes at or before the one named. -/
def Rec.upTo (r : Rec) (wrap : Bool) (seq : Nat) : Bool :=
  (recPlace wrap seq + 2 ^ 33 - recPlace r.wrap r.seq) % 2 ^ 33 < 2 ^ 32

/-- Sticky bits stay only of sources with a message or record that is not acknowledged. -/
def Wsh.clearSticky (w : Wsh) : Wsh :=
  let live := w.unack.map (fun r => r.msg.src) ++ w.held.map (fun m => m.src)
  { w with sticky := w.sticky.mapVals (fun i v => v &&& BitVec.ofNat 64
      (((List.range 64).filter (fun j => live.contains (64 * i + j))).foldl (fun a j => a + 2 ^ j) 0)) }

/-- RESULT of `FAULT_ACK` (16 R440): the oldest record that is not acknowledged, and FAULT_N. -/
def Block.ackRes (b : Block) : List (Nat × Nat × Nat) :=
  [(16, 4, match b.wsh.unack with | r :: _ => r.seq | [] => 0xFFFFFFFF), (20, 1, b.faultN)]

/-- The form of a `FAULT_ACK` descriptor (16 R420 to R425). -/
def faultAckForm (c : Cmd) : Form :=
  { op := 0x18, flags := 8, args := [(16, 4, false), (20, 1, 1 < byteOf c 20)] }

/-- FAULT_ACK. -/
def execFaultAck (c : Cmd) (s : State) : Host.Outcome State Fault Refusal :=
  s.on (.faultAck c) (fun b =>
    let seq := fieldOf c 16 4
    let wrap := byteOf c 20 == 1
    b.serve c (faultAckForm c) (fun b =>
      if !b.wsh.wrote wrap seq then .no stRange 16 b.ackRes
      else if b.wsh.unack.any (fun r => r.upTo wrap seq && r.msg.sev == 3) then .no stState 0 b.ackRes
      else
        let b := b.modWsh (fun w => { w with unack := w.unack.filter (fun r => !r.upTo wrap seq) })
        let b := if flagOf c 3 then b.modWsh Wsh.clearSticky else b
        .done stOk b.ackRes b))

/-! ### TRACE_ARM, TELEMETRY_CONFIG (18 R472-R477; 13 R374; 16 R441) -/

/-- The form of a `TRACE_ARM` descriptor (16 R420 to R425). -/
def traceArmForm (c : Cmd) : Form :=
  let k := byteOf c 12
  let m := byteOf c 13
  { op := 0x19, types := [11, 12, 13], nis := true, args := [(12, 1, k != 0 && (k < 8 || 24 < k)), (13, 1, 63 < m)] }

/-- TRACE_ARM: the count restarts under the new K (18 R480); in profile 11 the values wait for its end. -/
def execTraceArm (c : Cmd) (s : State) : Host.Outcome State Fault Refusal :=
  s.on (.traceArm c) (fun b =>
    let k := byteOf c 12
    let m := byteOf c 13
    b.serve c (traceArmForm c) (fun b =>
      .done stOk [] ((b.cmdNis (scopeTyOf c) (scopeIdOf c)).foldl (fun (b : Block) n => b.modNi n (fun x =>
        if b.immProfile = 11 then { x with cairnNext := some (k, m) } else { x with cairnK := k, cairnMask := m, cairnCnt := 0 })) b)))

/-- Routers, adapters and NIs of a package or die scope. -/
def telElems (ty id : Nat) : List Nat :=
  (allRouters ++ allAdps ++ allNis).filter (fun e => ty == 11 || dieOf e == id)

/-- The settings of one element; a router that stops sampling emits what it holds (18 R475). -/
def Block.setTel (b : Block) (e window enable ring : Nat) (only : Option Nat) : Block :=
  let b := if isRouter e && b.telEnable e % 2 = 1 && enable % 2 = 0 && b.immProfile != 11 then b.flushSamples e else b
  b.modElem e (fun el => { el with tel := { el.tel with
    nextWindow := some window, enable := enable, ring := if b.immProfile = 11 then el.tel.ring else ring,
    nextRing := if b.immProfile = 11 then some ring else none, onlyPort := only } })

/-- TELEMETRY_CONFIG: an NI scope governs the NI, and the sampling of the router port that it feeds (18 R472, R474). -/
def Block.telConfig (b : Block) (ty id window enable ring : Nat) : Block :=
  if ty = 12 then
    let n := nodeNi (BitVec.ofNat 16 id)
    let b := b.setTel n window enable ring none
    (List.range 2).foldl (fun (b : Block) p => match peer n p with
      | some (r, q) => b.setTel r (b.elem r).tel.window ((b.elem r).tel.enable / 2 * 2 + enable % 2) ring (some q)
      | none => b) b
  else (telElems ty id).foldl (fun (b : Block) e => b.setTel e window enable ring none) b

/-- The form of a `TELEMETRY_CONFIG` descriptor (16 R420 to R425). -/
def telemetryConfigForm (c : Cmd) : Form :=
  let w := fieldOf c 16 4
  { op := 0x1A, types := [11, 12, 13], nis := true,
    args := [(16, 4, w == 0 || 1000000 < w), (20, 1, 3 < byteOf c 20), (21, 1, 1 < byteOf c 21)] }

/-- TELEMETRY_CONFIG. -/
def execTelemetryConfig (c : Cmd) (s : State) : Host.Outcome State Fault Refusal :=
  s.on (.telemetryConfig c) (fun b =>
    let w := fieldOf c 16 4
    b.serve c (telemetryConfigForm c) (fun b =>
      .done stOk [] (b.telConfig (scopeTyOf c) (scopeIdOf c) w (byteOf c 20) (byteOf c 21))))

/-! ### COUNTER_READ (18 R461-R464; 16 R441) -/

/-- A counter as a word (18 R462, R463). -/
def Block.counterWord (b : Block) (e i : Nat) : Nat :=
  let el := b.elem e
  (if isRouter e && i = 62 then b.onCount e % 2 ^ 48 + 2 ^ 51 else if isRouter e && i = 63 then b.onCount e / 2 ^ 48 % 2 ^ 48
   else el.ctr.get 0 i) + (if el.ovf.get false i then 2 ^ 49 else 0)

/-- FCLKs counted On become `n`. -/
def Block.setOnCount (b : Block) (r n : Nat) : Block :=
  b.modElem r (fun el => { el with onFrom := if b.domSt r = 4 || b.domSt r = 7 then n else b.now - n })

/-- A counter is cleared, its OVF with it (18 R464). -/
def Block.clearCounter (b : Block) (e i : Nat) : Block :=
  let b := if isRouter e && i = 62 then b.setOnCount e (b.onCount e / 2 ^ 48 * 2 ^ 48)
    else if isRouter e && i = 63 then b.setOnCount e (b.onCount e % 2 ^ 48) else b
  b.modElem e (fun el => { el with
    ctr := el.ctr.erase i, ovf := el.ovf.erase i, wraps := el.wraps.erase i, wrapRep := el.wrapRep.erase i })

/-- The counters of a source cannot be read: its domain is Off, or a scope that holds it is in RESETTING (18 R465). -/
def Block.ctrsGone (b : Block) (e : Nat) : Bool :=
  b.domSt e == 7 || (elemScopes e).any (fun s => (b.scope s.1 s.2).st == 4)

/-- Counters are read, and cleared in the same FCLK. -/
def Block.counterRead (b : Block) (c : Cmd) : Verdict :=
  let e := fieldOf c 12 2
  if b.ctrsGone e then .no stState 0 [] else
  let is := (List.range (byteOf c 15)).map (fun i => byteOf c 14 + i)
  let ws := is.map (b.counterWord e)
  let b' := if flagOf c 3 then is.foldl (fun (b : Block) i => b.clearCounter e i) b else b
  if addrOf c = 0 then .done stOk (ws.zipIdx.map (fun x => (16 + 8 * x.2, 8, x.1))) b'
  else b'.answer c (ws.flatMap (fun w => leBytes w 8)) stOk []

/-- The form of a `COUNTER_READ` descriptor (16 R420 to R425). -/
def counterReadForm (c : Cmd) : Form :=
  let e := fieldOf c 12 2
  let first := byteOf c 14
  let n := byteOf c 15
  { op := 0x1B, flags := 8,
    args := [(12, 2, !hasCtrs e), (14, 1, 63 < first), (15, 1, (if isRouter e then 64 else 16) < first + n),
    (24, 8, if addrOf c = 0 then 2 < n else addrBad c)] }

/-- COUNTER_READ. -/
def execCounterRead (c : Cmd) (s : State) : Host.Outcome State Fault Refusal :=
  s.on (.counterRead c) (fun b =>
    b.serve c (counterReadForm c) (fun b => b.counterRead c))

/-! ### TIME_SET, TIME_ADJUST (07 R223, R225, R232; 16 R441, R442) -/

/-- Time may be set here: the package is the leader, or has no Pass link in service (07 R225). -/
def Block.mayStep (b : Block) : Bool := b.time.leader || (List.range 8).all (fun k => !((b.port k).st ∈ [2, 3, 4, 5, 9]))

/-- The form of a `TIME_SET` descriptor (16 R420 to R425). -/
def timeSetForm (c : Cmd) : Form :=
  let v := fieldOf c 16 8
  let pps := flagOf c 3
  { op := 0x1C, flags := 8, args := [(16, 8, pps && v % second != 0)] }

/-- TIME_SET. -/
def execTimeSet (c : Cmd) (s : State) : Host.Outcome State Fault Refusal :=
  s.on (.timeSet c) (fun b =>
    let v := fieldOf c 16 8
    let pps := flagOf c 3
    b.serve c (timeSetForm c) (fun b =>
      if !b.mayStep then .no stState 0 []
      else .go (if pps then 1 else 0) 0 (fun b => b.modTime (fun t =>
        if pps then { t with ppsWait := some (v, b.now) } else { t with pendSet := some v }))))

/-- An adjustment taken now is due one apply boundary later: the midpoint has passed, and no step is pending that it joins (07 R213,
R225, R232; DEDUCED, notes/assumptions/40.md). -/
def Block.adjustLate (b : Block) : Bool :=
  !b.time.steps && decide (0x200000 ≤ b.ft 12 % 4194304)

/-- The form of a `TIME_ADJUST` descriptor (16 R420 to R425). -/
def timeAdjustForm (c : Cmd) : Form :=
  let v := signedOf c 16 8
  { op := 0x1D, args := [(16, 8, decide (v < -(2 ^ 40) ∨ 2 ^ 40 < v))] }

/-- TIME_ADJUST. -/
def execTimeAdjust (c : Cmd) (s : State) : Host.Outcome State Fault Refusal :=
  s.on (.timeAdjust c) (fun b =>
    let v := signedOf c 16 8
    b.serve c (timeAdjustForm c) (fun b =>
      if !b.mayStep then .no stState 0 []
      else if b.adjustLate then .go 0 1 (fun b => b.modTime (fun t => { t with adjLater := t.adjLater + v }))
      else .go 0 0 (fun b => b.modTime (fun t => { t with pendAdj := t.pendAdj + v }))))

end Sys2Proof.Machine
end

