-- ==== Sys2Proof/Machine/CmdQuery.lean ====
section
/-! DEFINITION. `QUERY` (spec/16 R443). -/

namespace Sys2Proof.Machine

/-- Scope types of an object; all of them where the object is not assigned, which its argument check refuses. -/
def queryTypes (o : Nat) : List Nat :=
  match o with
  | 0x00 => [0] | 0x01 => List.range' 1 14 | 0x02 => [14] | 0x03 => [12] | 0x04 => [12] | 0x05 => [12]
  | 0x06 => [0] | 0x07 => [0] | 0x08 => [0] | 0x09 => [0] | 0x0A => [5] | 0x0B => [12] | _ => List.range 15

/-- Arguments of an object. -/
def queryArgs (c : Cmd) : List (Nat × Nat × Bool) :=
  let o := byteOf c 12
  (12, 1, decide (0x0B < o)) ::
  ((match o with
   | 0x05 => [(16, 1, decide (3 < byteOf c 16)), (17, 1, byteOf c 17 == 0 || 8 < byteOf c 17), (18, 1, decide (1 < byteOf c 18))]
   | 0x06 => [(16, 2, !isRouter (fieldOf c 16 2)), (18, 1, decide (1 < byteOf c 18))]
   | 0x07 => [(16, 4, decide (65535 < fieldOf c 16 4)), (20, 1, decide (1 < byteOf c 20)), (24, 8, addrOf c != 0 && addrBad c)]
   | _ => [] : List (Nat × Nat × Bool))) ++
  (if o ∈ [0x03, 0x04, 0x06, 0x09, 0x0B] then [(24, 8, addrBad c)] else [])

/-- A Bool as a bit. -/
def bit (x : Bool) (n : Nat) : Nat := if x then 2 ^ n else 0
/-- Signed value in 32 bits. -/
def s32 (v : Int) : Nat := (BitVec.ofInt 32 v).toNat

/-- Object 0x00, the package. BUILD is a free value while the boot ROM runs. -/
def Block.queryPackage (b : Block) : Verdict :=
  let (bd, b) := b.runningBuild
  .done stOk [(16, 1, b.lead.profile), (17, 1, if b.lead.profile = 9 then b.lead.ret.getD 0xFF else 0xFF), (18, 1, bit b.lead.epoch 0),
    (19, 1, bit b.lead.mapEpoch 0), (20, 1, bit b.lead.commit.isSome 0 + bit b.lead.mapGran.isSome 1 + bit b.lead.bootRom 2),
    (22, 2, (stwNode b.pkgid b.leadSrc).toNat), (24, 8, bd.toNat)] b

/-- Scope of repair in which an NI, a die or a domain lies, if one is in repair. -/
def Block.repairOf (b : Block) (ty id : Nat) : Scope :=
  let cands : List (Nat × Nat) := match ty with
    | 12 => elemScopes (nodeNi (BitVec.ofNat 16 id))
    | 13 => if id < 12 then [(9, id)] else []
    | 14 => (b.scopes.filter (fun kv => (scopeDoms (kv.1 / 65536) (kv.1 % 65536)).contains id)).map (fun kv => (kv.1 / 65536, kv.1 % 65536))
    | _ => [(ty, id)]
  match cands.find? (fun s => (b.scope s.1 s.2).st != 0) with
  | some s => b.scope s.1 s.2
  | none => match cands with | [s] => b.scope s.1 s.2 | _ => {}

/-- Object 0x01, a scope; a region shows the state of 12 R344. -/
def Block.queryScope (b : Block) (ty id : Nat) : Verdict :=
  let pw := if ty = 6 || ty = 14 then b.domCode id else 0xFF
  if ty = 11 then .done stOk [(16, 1, if b.fatal then 3 else 0), (17, 1, 0), (18, 1, pw), (20, 4, 0)] b
  else
    let sc := b.repairOf ty id
    .done stOk [(16, 1, if ty = 7 then b.regionState id else sc.st), (17, 1, bit sc.fault 0 + bit sc.hold 1 + bit sc.retired 2 + bit sc.offlined 3), (18, 1, pw),
      (20, 4, (sc.fences.filter (fun t => b.ft 12 < t + 276480000000000)).length)] b

/-- Object 0x02, the last-wake record (10 R302). -/
def Block.queryWake (b : Block) (d : Nat) : Verdict :=
  let x := b.dom d
  .done stOk [(16, 2, x.entries), (18, 2, x.wakeLat), (20, 1, x.wakeFrom % 16 * 16), (21, 2, x.wakeDetail), (23, 1, x.wakeSrc),
    (24, 8, x.wakeTime)] b

/-- Object 0x03, the service of an NI. -/
def Block.queryNi (b : Block) (c : Cmd) (n : Nat) : Verdict :=
  let g := b.gate n
  let x := b.ni n
  let unit := (x.tags.filter (fun kv => kv.1 < 1016)).length
  b.answer c ((List.range 4).flatMap (fun t => leBytes (g.confOf t) 2) ++ (List.range 4).flatMap (fun t => leBytes (g.rateOf t) 2) ++
    [BitVec.ofNat 8 (((List.range 4).map (fun t => bit (g.pin.get false t) t)).sum), BitVec.ofNat 8 x.part, BitVec.ofNat 8 x.mask, x.inc] ++
    leBytes (1016 - unit) 2 ++ leBytes (x.tags.filter (fun kv => kv.2.quar)).length 2 ++ leBytes 0 40) stOk []

/-- A gate list as 8 bytes of header, ENTRIES and GUARD as `GATE_LOAD` lays them out, and 256 entries. -/
def GateList.bytes (l : GateList) : List Byte :=
  leBytes (l.entries + 65536 * l.guard) 8 ++ (List.range 256).flatMap (fun i => leBytes (l.word i) 4)

/-- Object 0x04, the gate lists of an NI. -/
def Block.queryGates (b : Block) (c : Cmd) (n : Nat) : Verdict :=
  let g := b.gate n
  let s := match g.pend with | some (s, _) => s | none => match g.pendMsg with | some (s, _) => s | none => 0
  b.answer c (g.active.bytes ++ g.shadow.bytes ++ leBytes g.base 8 ++ leBytes s 8) stOk []

/-- Object 0x05, gate fit (05 R156, R159). -/
def Block.queryFit (b : Block) (n t len list : Nat) : Verdict :=
  let l := if list = 1 then (b.gate n).shadow else (b.gate n).active
  let r := needFclk l.guard len t (if b.niNarrow n then 2 else 1) true
  .done (if l.longest t < r then stOversize else stOk) [(16, 4, l.longest t), (20, 4, r)] b

/-- Object 0x06, a route table. -/
def Block.queryRoutes (b : Block) (c : Cmd) (r ep : Nat) : Verdict :=
  b.answer c ((List.range 256).flatMap (fun i => leBytes (b.entry r (ep == 1) i) 2)) stOk []

/-- Object 0x07, a granule and its group. -/
def Block.queryMap (b : Block) (c : Cmd) (granule ep : Nat) : Verdict :=
  let e := b.map.get 0 (ep * 65536 + granule)
  let (w, h, slots) := b.groups.get (0, 0, List.replicate 32 0) (ep * 1024 + e / 64)
  let res := [(16, 2, e), (18, 1, w * 32 + h * 8)]
  if addrOf c = 0 then .done stOk res b else b.answer c (slotBytes slots) stOk res

/-- Object 0x08, time. -/
def Block.queryTime (b : Block) : Verdict :=
  let t := b.time
  .done stOk [(16, 1, bit t.locked 0 + bit t.leader 1), (17, 1, t.parent.getD 0xFF), (20, 4, s32 t.theta), (24, 4, t.d), (28, 4, s32 t.f)] b

/-- Object 0x09, the membership table (09 R272). -/
def Block.queryMembers (b : Block) (c : Cmd) : Verdict :=
  b.answer c ((List.range 16).flatMap (fun i => match b.members.find i with
    | some m => leBytes (i + 256 * m.prio + 65536 * (1 + bit (m.reach || i == b.pkgid) 1 + bit (b.leaderPkg == i) 2)) 8 ++ leBytes m.serial 8
    | none => leBytes i 16)) stOk []

/-- Object 0x0A, a Pass port. -/
def Block.queryPass (b : Block) (k : Nat) : Verdict :=
  let p := b.port k
  .done stOk [(16, 1, p.st), (17, 1, p.sparesLeft), (18, 1, p.laneRepairs), (19, 1, p.refusal),
    (24, 8, match p.far with | some (_, x) => x | none => 0)] b

/-- Object 0x0B, the lock keeper of an NI: per entry the state at byte 0, ADDR at 8, holder at 16, incarnation at 18, expiry at 24. -/
def Block.queryLocks (b : Block) (c : Cmd) (n : Nat) : Verdict :=
  b.answer c ((List.range 16).flatMap (fun i => match (b.ni n).locks.find i with
    | some l => leBytes (if l.broken then 2 else 1) 8 ++ leBytes l.addr.toNat 8 ++ leBytes (l.owner.toNat + 65536 * l.inc.toNat) 8 ++ leBytes l.expiry 8
    | none => leBytes 0 32)) stOk []

/-- The answer of an object. -/
def Block.query (b : Block) (c : Cmd) : Verdict :=
  let id := scopeIdOf c
  let n := nodeNi (BitVec.ofNat 16 id)
  match byteOf c 12 with
  | 0x00 => b.queryPackage
  | 0x01 => b.queryScope (scopeTyOf c) id
  | 0x02 => b.queryWake id
  | 0x03 => b.queryNi c n
  | 0x04 => b.queryGates c n
  | 0x05 => b.queryFit n (byteOf c 16) (byteOf c 17) (byteOf c 18)
  | 0x06 => b.queryRoutes c (fieldOf c 16 2) (byteOf c 18)
  | 0x07 => b.queryMap c (fieldOf c 16 4) (byteOf c 20)
  | 0x08 => b.queryTime
  | 0x09 => b.queryMembers c
  | 0x0A => b.queryPass id
  | _ => b.queryLocks c n

/-- The form of a `QUERY` descriptor (16 R420 to R425). -/
def queryForm (c : Cmd) : Form :=
  { op := 0x02, types := queryTypes (byteOf c 12), args := queryArgs c }

/-- QUERY. -/
def execQuery (c : Cmd) (s : State) : Host.Outcome State Fault Refusal :=
  s.on (.query c) (fun b => b.serve c (queryForm c) (fun b => b.query c))

end Sys2Proof.Machine
end

