-- ==== Sys2Proof/Machine/Dispatch.lean ====
section
/-! DEFINITION. The dispatcher: one arm per command, each a direct call of the command's meaning. -/

namespace Sys2Proof.Machine

/-- The effect of a command on everything but the queue. -/
def exec (i : Instr) (s : State) : Host.Outcome State Fault Refusal :=
  match i with
  | .resetRelease => Sys2Proof.Machine.execResetRelease s
  | .strapSampling samples => Sys2Proof.Machine.execStrapSampling samples s
  | .bootSelftestDone stw pass => Sys2Proof.Machine.execBootSelftestDone stw pass s
  | .stewardAllLost => Sys2Proof.Machine.execStewardAllLost s
  | .ridgeIdentityTimeout adp => Sys2Proof.Machine.execRidgeIdentityTimeout adp s
  | .refclkLoss => Sys2Proof.Machine.execRefclkLoss s
  | .clockUnlock die => Sys2Proof.Machine.execClockUnlock die s
  | .timeBaseError die => Sys2Proof.Machine.execTimeBaseError die s
  | .unitPacket ni p => Sys2Proof.Machine.execUnitPacket ni p s
  | .unitReceiveCredit ni cls => Sys2Proof.Machine.execUnitReceiveCredit ni cls s
  | .unitDelivery ni => Sys2Proof.Machine.execUnitDelivery ni s
  | .fordReset f => Sys2Proof.Machine.execFordReset f s
  | .fordResetAck f => Sys2Proof.Machine.execFordResetAck f s
  | .fordResetDone f => Sys2Proof.Machine.execFordResetDone f s
  | .tollgateStart ni => Sys2Proof.Machine.execTollgateStart ni s
  | .niPacketArrival ni port err => Sys2Proof.Machine.execNiPacketArrival ni port err s
  | .answerReceive ni port err => Sys2Proof.Machine.execAnswerReceive ni port err s
  | .tagOrphan ni tag => Sys2Proof.Machine.execTagOrphan ni tag s
  | .tagQuarantineEnd ni tag => Sys2Proof.Machine.execTagQuarantineEnd ni tag s
  | .lockSweep ni => Sys2Proof.Machine.execLockSweep ni s
  | .lockAmnesiaEnd ni => Sys2Proof.Machine.execLockAmnesiaEnd ni s
  | .mapLookupServe bank => Sys2Proof.Machine.execMapLookupServe bank s
  | .mapFillReceipt ni port err => Sys2Proof.Machine.execMapFillReceipt ni port err s
  | .mapLookupTimeout ni tag => Sys2Proof.Machine.execMapLookupTimeout ni tag s
  | .duplicateFilterRetire ni => Sys2Proof.Machine.execDuplicateFilterRetire ni s
  | .exitFilterRetire port => Sys2Proof.Machine.execExitFilterRetire port s
  | .resetNotice ni owner inc => Sys2Proof.Machine.execResetNotice ni owner inc s
  | .fenceNotice ni pkg ty id => Sys2Proof.Machine.execFenceNotice ni pkg ty id s
  | .epochCommit rcv map => Sys2Proof.Machine.execEpochCommit rcv map s
  | .epochCommitAck rcv map => Sys2Proof.Machine.execEpochCommitAck rcv map s
  | .drainQueryTick region => Sys2Proof.Machine.execDrainQueryTick region s
  | .epochDrainReport region => Sys2Proof.Machine.execEpochDrainReport region s
  | .epochDrainTimeout => Sys2Proof.Machine.execEpochDrainTimeout s
  | .mapEpochRetire => Sys2Proof.Machine.execMapEpochRetire s
  | .mapBankCopyDone bank => Sys2Proof.Machine.execMapBankCopyDone bank s
  | .heartbeatSend stw => Sys2Proof.Machine.execHeartbeatSend stw s
  | .heartbeatReceipt stw skip => Sys2Proof.Machine.execHeartbeatReceipt stw skip s
  | .heartbeatMiss stw => Sys2Proof.Machine.execHeartbeatMiss stw s
  | .restartAnnounceExpiry stw => Sys2Proof.Machine.execRestartAnnounceExpiry stw s
  | .imageBlockReceipt stw last crcOk => Sys2Proof.Machine.execImageBlockReceipt stw last crcOk s
  | .mgtRequest dest src opc tag addr room => Sys2Proof.Machine.execMgtRequest dest src opc tag addr room s
  | .flitReceive elem port err parErr => Sys2Proof.Machine.execFlitReceive elem port err parErr s
  | .arbitration elem => Sys2Proof.Machine.execArbitration elem s
  | .creditReceive elem port parErr => Sys2Proof.Machine.execCreditReceive elem port parErr s
  | .turnForecastReceive elem port parErr => Sys2Proof.Machine.execTurnForecastReceive elem port parErr s
  | .overdue elem port vc pos => Sys2Proof.Machine.execOverdue elem port vc pos s
  | .starve router port vc => Sys2Proof.Machine.execStarve router port vc s
  | .outputWatchdog router port => Sys2Proof.Machine.execOutputWatchdog router port s
  | .linkWidthWindow elem port => Sys2Proof.Machine.execLinkWidthWindow elem port s
  | .linkWidenOnWait elem port => Sys2Proof.Machine.execLinkWidenOnWait elem port s
  | .frameReceive adp err par far bad => Sys2Proof.Machine.execFrameReceive adp err par far bad s
  | .replayTimer adp => Sys2Proof.Machine.execReplayTimer adp s
  | .linkRetrain adp => Sys2Proof.Machine.execLinkRetrain adp s
  | .linkFail adp => Sys2Proof.Machine.execLinkFail adp s
  | .phyTrainDone t => Sys2Proof.Machine.execPhyTrainDone t s
  | .paramReceipt adp p => Sys2Proof.Machine.execParamReceipt adp p s
  | .creditInitReceipt adp depths pool => Sys2Proof.Machine.execCreditInitReceipt adp depths pool s
  | .readyReceipt adp => Sys2Proof.Machine.execReadyReceipt adp s
  | .trainingLimit adp => Sys2Proof.Machine.execTrainingLimit adp s
  | .timeExchangeStart adp => Sys2Proof.Machine.execTimeExchangeStart adp s
  | .timeReq adp => Sys2Proof.Machine.execTimeReq adp s
  | .timeRsp adp => Sys2Proof.Machine.execTimeRsp adp s
  | .timeRes adp => Sys2Proof.Machine.execTimeRes adp s
  | .timeExchangeRetry adp => Sys2Proof.Machine.execTimeExchangeRetry adp s
  | .timeApplyBoundary die => Sys2Proof.Machine.execTimeApplyBoundary die s
  | .laneWindow adp => Sys2Proof.Machine.execLaneWindow adp s
  | .wakeMessage adp => Sys2Proof.Machine.execWakeMessage adp s
  | .wakeRepeat adp => Sys2Proof.Machine.execWakeRepeat adp s
  | .wakeTimeout adp => Sys2Proof.Machine.execWakeTimeout adp s
  | .quietWindowArm ridge link => Sys2Proof.Machine.execQuietWindowArm ridge link s
  | .quietOverlayStart ni => Sys2Proof.Machine.execQuietOverlayStart ni s
  | .linkQuiet adp => Sys2Proof.Machine.execLinkQuiet adp s
  | .linkCalibrationDone adp => Sys2Proof.Machine.execLinkCalibrationDone adp s
  | .quietResume adp => Sys2Proof.Machine.execQuietResume adp s
  | .quietOverlayEnd ni => Sys2Proof.Machine.execQuietOverlayEnd ni s
  | .alignReceipt port num applyAt map proposed mapAck shadowOk suspect => Sys2Proof.Machine.execAlignReceipt port num applyAt map proposed mapAck shadowOk suspect s
  | .closeReceipt port cause => Sys2Proof.Machine.execCloseReceipt port cause s
  | .laneRotationStart port => Sys2Proof.Machine.execLaneRotationStart port s
  | .shadowCompareDone port ok => Sys2Proof.Machine.execShadowCompareDone port ok s
  | .passLaneCalibrationDone port => Sys2Proof.Machine.execPassLaneCalibrationDone port s
  | .passLaneCalibrationLimit port => Sys2Proof.Machine.execPassLaneCalibrationLimit port s
  | .presenceChange port present => Sys2Proof.Machine.execPresenceChange port present s
  | .buttonPress port p => Sys2Proof.Machine.execButtonPress port p s
  | .buttonStuck port => Sys2Proof.Machine.execButtonStuck port s
  | .cableWake port w => Sys2Proof.Machine.execCableWake port w s
  | .cmisReadDone port accepted ready lanes => Sys2Proof.Machine.execCmisReadDone port accepted ready lanes s
  | .cmisReadTimeout port => Sys2Proof.Machine.execCmisReadTimeout port s
  | .moduleReadyLimit port => Sys2Proof.Machine.execModuleReadyLimit port s
  | .join port d far => Sys2Proof.Machine.execJoin port d far s
  | .abortWindowEnd port => Sys2Proof.Machine.execAbortWindowEnd port s
  | .steeringLimit port => Sys2Proof.Machine.execSteeringLimit port s
  | .cablePowerOff port => Sys2Proof.Machine.execCablePowerOff port s
  | .indicatorTimer port => Sys2Proof.Machine.execIndicatorTimer port s
  | .passTimeExchange => Sys2Proof.Machine.execPassTimeExchange s
  | .passTimeRequest port exch t1 => Sys2Proof.Machine.execPassTimeRequest port exch t1 s
  | .passTimeReply exch t2 t3 => Sys2Proof.Machine.execPassTimeReply exch t2 t3 s
  | .passTimeLoss => Sys2Proof.Machine.execPassTimeLoss s
  | .timeHoldover => Sys2Proof.Machine.execTimeHoldover s
  | .memberTimeout id => Sys2Proof.Machine.execMemberTimeout id s
  | .ppsInEdge => Sys2Proof.Machine.execPpsInEdge s
  | .ppsOutSecond => Sys2Proof.Machine.execPpsOutSecond s
  | .tsInEdge => Sys2Proof.Machine.execTsInEdge s
  | .tsCapture => Sys2Proof.Machine.execTsCapture s
  | .tsCompareMatch => Sys2Proof.Machine.execTsCompareMatch s
  | .timeSetPpsTimeout => Sys2Proof.Machine.execTimeSetPpsTimeout s
  | .fordStall f => Sys2Proof.Machine.execFordStall f s
  | .fordUnstable f => Sys2Proof.Machine.execFordUnstable f s
  | .domainIdleTimeout dom => Sys2Proof.Machine.execDomainIdleTimeout dom s
  | .entryDrainLimit dom => Sys2Proof.Machine.execEntryDrainLimit dom s
  | .detectorArming dom => Sys2Proof.Machine.execDetectorArming dom s
  | .domainWake dom code detail => Sys2Proof.Machine.execDomainWake dom code detail s
  | .wakeComplete dom sigs => Sys2Proof.Machine.execWakeComplete dom sigs s
  | .wakeFail dom => Sys2Proof.Machine.execWakeFail dom s
  | .goldenReloadDone dom bank => Sys2Proof.Machine.execGoldenReloadDone dom bank s
  | .powerDownDrained dom => Sys2Proof.Machine.execPowerDownDrained dom s
  | .powerDownTimeout dom => Sys2Proof.Machine.execPowerDownTimeout dom s
  | .dieCollectorMessage die err => Sys2Proof.Machine.execDieCollectorMessage die err s
  | .wshMessageArrival err => Sys2Proof.Machine.execWshMessageArrival err s
  | .leadFaultInterrupt => Sys2Proof.Machine.execLeadFaultInterrupt s
  | .sweepComplete ty id unreadable => Sys2Proof.Machine.execSweepComplete ty id unreadable s
  | .eventRecordWrite => Sys2Proof.Machine.execEventRecordWrite s
  | .wshPathLost die => Sys2Proof.Machine.execWshPathLost die s
  | .scopeDrained ty id => Sys2Proof.Machine.execScopeDrained ty id s
  | .scopeDrainTimeout ty id => Sys2Proof.Machine.execScopeDrainTimeout ty id s
  | .scopeResetDone ty id => Sys2Proof.Machine.execScopeResetDone ty id s
  | .scopeTestDone ty id failed => Sys2Proof.Machine.execScopeTestDone ty id failed s
  | .scopeAdmissionStart ty id => Sys2Proof.Machine.execScopeAdmissionStart ty id s
  | .planeNoticeLimit => Sys2Proof.Machine.execPlaneNoticeLimit s
  | .tableScrub owner table row uncorrectable => Sys2Proof.Machine.execTableScrub owner table row uncorrectable s
  | .tableWordReloaded owner table row => Sys2Proof.Machine.execTableWordReloaded owner table row s
  | .mapBankRestored bank pass => Sys2Proof.Machine.execMapBankRestored bank pass s
  | .starveRebalance region src => Sys2Proof.Machine.execStarveRebalance region src s
  | .rateRecovery region => Sys2Proof.Machine.execRateRecovery region s
  | .profileDrainComplete => Sys2Proof.Machine.execProfileDrainComplete s
  | .profileDrainTimeout => Sys2Proof.Machine.execProfileDrainTimeout s
  | .vddFabOk region => Sys2Proof.Machine.execVddFabOk region s
  | .profileRailWaitLimit region => Sys2Proof.Machine.execProfileRailWaitLimit region s
  | .ringStaleTimeout ring => Sys2Proof.Machine.execRingStaleTimeout ring s
  | .hostPortError ring => Sys2Proof.Machine.execHostPortError ring s
  | .telemetryRecordWrite die => Sys2Proof.Machine.execTelemetryRecordWrite die s
  | .bandwidthWindowEnd elem => Sys2Proof.Machine.execBandwidthWindowEnd elem s
  | .queueSample router => Sys2Proof.Machine.execQueueSample router s
  | .counterWrap elem ctr => Sys2Proof.Machine.execCounterWrap elem ctr s
  | .cairnSlotRelease region => Sys2Proof.Machine.execCairnSlotRelease region s
  | .gateSwitch ni => Sys2Proof.Machine.execGateSwitch ni s
  | .switchInstantReceipt ni => Sys2Proof.Machine.execSwitchInstantReceipt ni s
  | .ringCtrlWrite ring v => Sys2Proof.Machine.execRingCtrlWrite ring v s
  | .timeInitWrite v => Sys2Proof.Machine.execTimeInitWrite v s
  | .timeNowLowRead => Sys2Proof.Machine.execTimeNowLowRead s
  | .timeCtrlWrite v => Sys2Proof.Machine.execTimeCtrlWrite v s
  | .tsCompareWrite v => Sys2Proof.Machine.execTsCompareWrite v s
  | .wshStickyClear word v => Sys2Proof.Machine.execWshStickyClear word v s
  | .wshForceWrite word v => Sys2Proof.Machine.execWshForceWrite word v s
  | .wshFirstClear v => Sys2Proof.Machine.execWshFirstClear v s
  | .errLastClear v => Sys2Proof.Machine.execErrLastClear v s
  | .vectorCtrlWrite vec v => Sys2Proof.Machine.execVectorCtrlWrite vec v s
  | .passFilterWrite port v => Sys2Proof.Machine.execPassFilterWrite port v s
  | .registerWrite offset width v => Sys2Proof.Machine.execRegisterWrite offset width v s
  | .post ring index => Sys2Proof.Machine.execPost ring index s
  | .consumed ring index => Sys2Proof.Machine.execConsumed ring index s
  | .read ring index => Sys2Proof.Machine.execRead ring index s
  | .mark ring index => Sys2Proof.Machine.execMark ring index s
  | .rewind ring index => Sys2Proof.Machine.execRewind ring index s
  | .release ring index => Sys2Proof.Machine.execRelease ring index s
  | .clearLost ring index => Sys2Proof.Machine.execClearLost ring index s
  | .i3cWordSelect word => Sys2Proof.Machine.execI3cWordSelect word s
  | .tapInstruction code => Sys2Proof.Machine.execTapInstruction code s
  | .nop c => Sys2Proof.Machine.execNop c s
  | .fence c => Sys2Proof.Machine.execFence c s
  | .query c => Sys2Proof.Machine.execQuery c s
  | .profileSet c => Sys2Proof.Machine.execProfileSet c s
  | .fwLoad c img => Sys2Proof.Machine.execFwLoad c img s
  | .mapWrite c => Sys2Proof.Machine.execMapWrite c s
  | .mapCommit c => Sys2Proof.Machine.execMapCommit c s
  | .routeWrite c => Sys2Proof.Machine.execRouteWrite c s
  | .routeCommit c => Sys2Proof.Machine.execRouteCommit c s
  | .partitionSet c => Sys2Proof.Machine.execPartitionSet c s
  | .regulatorSet c => Sys2Proof.Machine.execRegulatorSet c s
  | .gateLoad c => Sys2Proof.Machine.execGateLoad c s
  | .gateActivate c => Sys2Proof.Machine.execGateActivate c s
  | .domainPower c => Sys2Proof.Machine.execDomainPower c s
  | .idleTimerSet c => Sys2Proof.Machine.execIdleTimerSet c s
  | .domainReset c => Sys2Proof.Machine.execDomainReset c s
  | .scopeFence c => Sys2Proof.Machine.execScopeFence c s
  | .scopeReadmit c => Sys2Proof.Machine.execScopeReadmit c s
  | .linkService c => Sys2Proof.Machine.execLinkService c s
  | .linkReturn c => Sys2Proof.Machine.execLinkReturn c s
  | .selftest c => Sys2Proof.Machine.execSelftest c s
  | .calibrate c => Sys2Proof.Machine.execCalibrate c s
  | .lockBreak c => Sys2Proof.Machine.execLockBreak c s
  | .faultForce c => Sys2Proof.Machine.execFaultForce c s
  | .faultAck c => Sys2Proof.Machine.execFaultAck c s
  | .traceArm c => Sys2Proof.Machine.execTraceArm c s
  | .telemetryConfig c => Sys2Proof.Machine.execTelemetryConfig c s
  | .counterRead c => Sys2Proof.Machine.execCounterRead c s
  | .timeSet c => Sys2Proof.Machine.execTimeSet c s
  | .timeAdjust c => Sys2Proof.Machine.execTimeAdjust c s
  | .retentionCommit dom => Sys2Proof.Machine.execRetentionCommit dom s
  | .leadImageRestart => Sys2Proof.Machine.execLeadImageRestart s
  | .fordClockReturn f => Sys2Proof.Machine.execFordClockReturn f s

end Sys2Proof.Machine
end

