-- ==== Sys2Proof/Safety.lean ====
section
/-! DEFINITION. The terms that claims use: a command that completes, a message raised, and what a sound block is. -/

namespace Sys2Proof.Machine

/-- Command `i` completes on `s`: it answers a next state, the queue as it was, whose block satisfies `P`. -/
def Completes (i : Instr) (s : State) (P : Block → Prop) : Prop :=
  ∃ t : State, exec i s = .next t ∧ t.pending = s.pending ∧ P t.blk

/-- Between `b` and `b'` the collector of the source's die got one message more: source `s`, kind `k`, and its severity; while its queue of 64 is
full, the source waits with it (11 R312, R314, R315). -/
def Raised (b b' : Block) (s k sev : Nat) : Prop :=
  ∃ m : Msg, m.src = s ∧ m.kind = k ∧ m.sev = sev ∧
    (if (b.wsh.die.get [] (dieOf s)).length < 64 then b'.wsh.die.get [] (dieOf s) = b.wsh.die.get [] (dieOf s) ++ [m]
     else b'.wsh.late.get [] (dieOf s) = b.wsh.late.get [] (dieOf s) ++ [m])

/-- The descriptor of a ring command and the form it is checked against (16 R420). -/
def formOf : Instr → Option (Cmd × Form)
  | .nop c => some (c, nopForm)
  | .fence c => some (c, fenceForm)
  | .query c => some (c, queryForm c)
  | .profileSet c => some (c, profileSetForm c)
  | .fwLoad c img => some (c, fwLoadForm c img)
  | .mapWrite c => some (c, mapWriteForm c)
  | .mapCommit c => some (c, mapCommitForm c)
  | .routeWrite c => some (c, routeWriteForm c)
  | .routeCommit c => some (c, routeCommitForm)
  | .partitionSet c => some (c, partitionSetForm c)
  | .regulatorSet c => some (c, regulatorSetForm c)
  | .gateLoad c => some (c, gateLoadForm c)
  | .gateActivate c => some (c, gateActivateForm)
  | .domainPower c => some (c, domainPowerForm c)
  | .idleTimerSet c => some (c, idleTimerSetForm c)
  | .domainReset c => some (c, domainResetForm)
  | .scopeFence c => some (c, scopeFenceForm)
  | .scopeReadmit c => some (c, scopeReadmitForm)
  | .linkService c => some (c, linkServiceForm)
  | .linkReturn c => some (c, linkReturnForm)
  | .selftest c => some (c, selftestForm c)
  | .calibrate c => some (c, calibrateForm c)
  | .lockBreak c => some (c, lockBreakForm c)
  | .faultForce c => some (c, faultForceForm c)
  | .faultAck c => some (c, faultAckForm c)
  | .traceArm c => some (c, traceArmForm c)
  | .telemetryConfig c => some (c, telemetryConfigForm c)
  | .counterRead c => some (c, counterReadForm c)
  | .timeSet c => some (c, timeSetForm c)
  | .timeAdjust c => some (c, timeAdjustForm c)
  | _ => none

/-- The descriptor that `c` reads is served as one of form `f`: its ring holds it, it spells the form's code, it waits for no earlier
command, and no check of its fields and no condition of the package turns it away (15 R405, R406; 16 R423). -/
def Served (b : Block) (c : Cmd) (f : Form) : Prop :=
  c.WellFormed = true ∧ b.readable c.ring = true ∧ opcodeOf c = f.op ∧ b.waitsOrder c = false ∧ b.fatal = false ∧
  b.refusal c f = none ∧ (b.ring (c.ring + 8)).err = false

/-- A completion of the descriptor of `c` is in host memory: its status, FIELD and RESULT, at the completion ring's PROD, with the PHASE
of that lap and the Fabric Time of the I/O die (15 R405, R407). -/
def CplOf (b b' : Block) (c : Cmd) (status field : Nat) (res : List (Nat × Nat × Nat)) : Prop :=
  HostOut.entry (c.ring + 8) ((b.ring (c.ring + 8)).prod % 65536)
    (cplBytes ((b.ring c.ring).cons % 65536) (tagOf c) (phaseAt (b.ring (c.ring + 8)).prod) status (opcodeOf c) field (b.ft 12) res) ∈ b'.hostOut

/-- The descriptor of `c` has become a command in flight with two arguments (15 R406). -/
def Taken (b b' : Block) (c : Cmd) (x y : Nat) : Prop := b.flightOf c ((b.ring c.ring).cons % 65536) x y ∈ b'.lead.flights

/-- Nothing but rings, vectors, what was written into host memory, and which ring's turn is next differs. -/
def OnlyAnswers (b b' : Block) : Prop :=
  b' = { b with rings := b'.rings, vecs := b'.vecs, hostOut := b'.hostOut, lead := { b.lead with turn := b'.lead.turn } }

/-! ### Frames -/

/-- A part of the block: one field of it. -/
inductive Part where
  | now | pkgid | strapOk | fatal | fatalKind | refclk | fuseSerial | fuseKey | fuseMinSec | design | colTrained | ridgeless
  | i3cWord | tapIr | errValue | errValid | errCause | errCount | errOffset | freeCtr | elems | wires | crWires | fcWires | nis
  | gates | fords | links | ports | tbs | timeX | time | ts | doms | regions | stws | scopes | gold | wsh | rings | vecs | lead
  | map | groups | members | agents | aborts | hostOut | farOut
deriving DecidableEq, Repr

/-- A part is in `b'` as it was in `b`. -/
def Part.kept (b b' : Block) : Part → Prop
  | .now => b'.now = b.now
  | .pkgid => b'.pkgid = b.pkgid
  | .strapOk => b'.strapOk = b.strapOk
  | .fatal => b'.fatal = b.fatal
  | .fatalKind => b'.fatalKind = b.fatalKind
  | .refclk => b'.refclk = b.refclk
  | .fuseSerial => b'.fuseSerial = b.fuseSerial
  | .fuseKey => b'.fuseKey = b.fuseKey
  | .fuseMinSec => b'.fuseMinSec = b.fuseMinSec
  | .design => b'.design = b.design
  | .colTrained => b'.colTrained = b.colTrained
  | .ridgeless => b'.ridgeless = b.ridgeless
  | .i3cWord => b'.i3cWord = b.i3cWord
  | .tapIr => b'.tapIr = b.tapIr
  | .errValue => b'.errValue = b.errValue
  | .errValid => b'.errValid = b.errValid
  | .errCause => b'.errCause = b.errCause
  | .errCount => b'.errCount = b.errCount
  | .errOffset => b'.errOffset = b.errOffset
  | .freeCtr => b'.freeCtr = b.freeCtr
  | .elems => b'.elems = b.elems
  | .wires => b'.wires = b.wires
  | .crWires => b'.crWires = b.crWires
  | .fcWires => b'.fcWires = b.fcWires
  | .nis => b'.nis = b.nis
  | .gates => b'.gates = b.gates
  | .fords => b'.fords = b.fords
  | .links => b'.links = b.links
  | .ports => b'.ports = b.ports
  | .tbs => b'.tbs = b.tbs
  | .timeX => b'.timeX = b.timeX
  | .time => b'.time = b.time
  | .ts => b'.ts = b.ts
  | .doms => b'.doms = b.doms
  | .regions => b'.regions = b.regions
  | .stws => b'.stws = b.stws
  | .scopes => b'.scopes = b.scopes
  | .gold => b'.gold = b.gold
  | .wsh => b'.wsh = b.wsh
  | .rings => b'.rings = b.rings
  | .vecs => b'.vecs = b.vecs
  | .lead => b'.lead = b.lead
  | .map => b'.map = b.map
  | .groups => b'.groups = b.groups
  | .members => b'.members = b.members
  | .agents => b'.agents = b.agents
  | .aborts => b'.aborts = b.aborts
  | .hostOut => b'.hostOut = b.hostOut
  | .farOut => b'.farOut = b.farOut

/-- The families of the commands, as the sections of the spec treat them. -/
inductive Family where
  | startup | ni | epochs | stewards | mesh | links | pass | time | power | faults | profiles | observe | registers | commands
deriving DecidableEq, Repr

/-- The family of a command. -/
def family : Instr → Family
  | .resetRelease .. | .strapSampling .. | .bootSelftestDone .. | .stewardAllLost .. | .ridgeIdentityTimeout .. | .refclkLoss ..
  | .clockUnlock .. | .timeBaseError .. => .startup
  | .unitPacket .. | .unitReceiveCredit .. | .unitDelivery .. | .fordReset .. | .fordResetAck .. | .fordResetDone ..
  | .fordStall .. | .fordUnstable .. | .fordClockReturn .. | .tollgateStart .. | .niPacketArrival .. | .answerReceive ..
  | .tagOrphan .. | .tagQuarantineEnd .. | .lockSweep .. | .lockAmnesiaEnd .. | .mapLookupServe .. | .mapFillReceipt ..
  | .mapLookupTimeout .. | .duplicateFilterRetire .. | .resetNotice .. | .fenceNotice .. | .mgtRequest .. => .ni
  | .epochCommit .. | .epochCommitAck .. | .drainQueryTick .. | .epochDrainReport .. | .epochDrainTimeout .. | .mapEpochRetire ..
  | .mapBankCopyDone .. => .epochs
  | .heartbeatSend .. | .heartbeatReceipt .. | .heartbeatMiss .. | .restartAnnounceExpiry .. | .imageBlockReceipt ..
  | .leadImageRestart .. | .starveRebalance .. | .rateRecovery .. => .stewards
  | .flitReceive .. | .arbitration .. | .creditReceive .. | .turnForecastReceive .. | .overdue .. | .starve ..
  | .outputWatchdog .. | .linkWidthWindow .. | .linkWidenOnWait .. => .mesh
  | .frameReceive .. | .replayTimer .. | .linkRetrain .. | .linkFail .. | .phyTrainDone .. | .paramReceipt ..
  | .creditInitReceipt .. | .readyReceipt .. | .trainingLimit .. | .timeExchangeStart .. | .timeReq .. | .timeRsp ..
  | .timeRes .. | .timeExchangeRetry .. | .timeApplyBoundary .. | .laneWindow .. | .wakeMessage .. | .wakeRepeat ..
  | .wakeTimeout .. | .quietWindowArm .. | .quietOverlayStart .. | .linkQuiet .. | .linkCalibrationDone .. | .quietResume ..
  | .quietOverlayEnd .. => .links
  | .exitFilterRetire .. | .alignReceipt .. | .closeReceipt .. | .laneRotationStart .. | .shadowCompareDone ..
  | .passLaneCalibrationDone .. | .passLaneCalibrationLimit .. | .presenceChange .. | .buttonPress .. | .buttonStuck ..
  | .cableWake .. | .cmisReadDone .. | .cmisReadTimeout .. | .moduleReadyLimit .. | .join .. | .abortWindowEnd ..
  | .steeringLimit .. | .cablePowerOff .. | .indicatorTimer .. | .memberTimeout .. => .pass
  | .passTimeExchange .. | .passTimeRequest .. | .passTimeReply .. | .passTimeLoss .. | .timeHoldover .. | .ppsInEdge ..
  | .ppsOutSecond .. | .tsInEdge .. | .tsCapture .. | .tsCompareMatch .. | .timeSetPpsTimeout .. => .time
  | .domainIdleTimeout .. | .entryDrainLimit .. | .detectorArming .. | .domainWake .. | .wakeComplete .. | .wakeFail ..
  | .goldenReloadDone .. | .retentionCommit .. | .powerDownDrained .. | .powerDownTimeout .. => .power
  | .dieCollectorMessage .. | .wshMessageArrival .. | .leadFaultInterrupt .. | .sweepComplete .. | .eventRecordWrite ..
  | .wshPathLost .. | .scopeDrained .. | .scopeDrainTimeout .. | .scopeResetDone .. | .scopeTestDone .. | .scopeAdmissionStart ..
  | .planeNoticeLimit .. | .tableScrub .. | .tableWordReloaded .. | .mapBankRestored .. => .faults
  | .profileDrainComplete .. | .profileDrainTimeout .. | .vddFabOk .. | .profileRailWaitLimit .. => .profiles
  | .ringStaleTimeout .. | .hostPortError .. | .telemetryRecordWrite .. | .bandwidthWindowEnd .. | .queueSample ..
  | .counterWrap .. | .cairnSlotRelease .. | .gateSwitch .. | .switchInstantReceipt .. => .observe
  | .ringCtrlWrite .. | .timeInitWrite .. | .timeNowLowRead .. | .timeCtrlWrite .. | .tsCompareWrite .. | .wshStickyClear ..
  | .wshForceWrite .. | .wshFirstClear .. | .errLastClear .. | .vectorCtrlWrite .. | .passFilterWrite .. | .registerWrite ..
  | .post .. | .consumed .. | .read .. | .mark .. | .rewind .. | .release .. | .clearLost .. | .i3cWordSelect ..
  | .tapInstruction .. => .registers
  | .nop .. | .fence .. | .query .. | .profileSet .. | .fwLoad .. | .mapWrite .. | .mapCommit .. | .routeWrite ..
  | .routeCommit .. | .partitionSet .. | .regulatorSet .. | .gateLoad .. | .gateActivate .. | .domainPower .. | .idleTimerSet ..
  | .domainReset .. | .scopeFence .. | .scopeReadmit .. | .linkService .. | .linkReturn .. | .selftest .. | .calibrate ..
  | .lockBreak .. | .faultForce .. | .faultAck .. | .traceArm .. | .telemetryConfig .. | .counterRead .. | .timeSet ..
  | .timeAdjust .. => .commands

/-- What a reset release changes: every part but the fuses, the design and the counter of free values. -/
def touchedByReset : List Part :=
   [.now, .pkgid, .strapOk, .fatal, .fatalKind, .refclk, .colTrained, .ridgeless, .i3cWord, .tapIr, .errValue, .errValid,
   .errCause, .errCount, .errOffset, .elems, .wires, .crWires, .fcWires, .nis, .gates, .fords, .links, .ports, .tbs, .timeX,
   .time, .ts, .doms, .regions, .stws, .scopes, .gold, .wsh, .rings, .vecs, .lead, .map, .groups, .members, .agents, .aborts,
   .hostOut, .farOut]

/-- The parts of the block that a command may change: its frame is every other part. -/
def touches : Instr → List Part
  | .unitReceiveCredit .. => [.nis]
  | .fordResetAck .. => [.fords]
  | .passLaneCalibrationDone .. => [.ports]
  | .timeNowLowRead .. => [.ts]
  | .wshStickyClear .. => [.wsh]
  | .i3cWordSelect .. => [.i3cWord]
  | .tapInstruction .. => [.tapIr]
  | .fordResetDone .. => [.nis, .fords]
  | .mapEpochRetire .. => [.regions, .lead]
  | .heartbeatReceipt .. => [.stws, .gold]
  | .wakeMessage .. => [.links, .doms]
  | .tableWordReloaded .. | .wshForceWrite .. => [.elems, .wsh]
  | .errLastClear .. => [.errValid, .errCount]
  | .linkCalibrationDone .. => [.elems, .links, .wsh]
  | .tsInEdge .. => [.elems, .ts, .wsh]
  | .mapBankRestored .. => [.elems, .regions, .wsh]
  | .hostPortError .. => [.rings, .vecs, .hostOut]
  | .clockUnlock .. => [.refclk, .elems, .scopes, .wsh]
  | .resetNotice .. | .fenceNotice .. => [.elems, .nis, .wsh, .lead]
  | .turnForecastReceive .. => [.elems, .fcWires, .scopes, .wsh]
  | .overdue .. | .linkWidthWindow .. | .linkWidenOnWait .. | .quietOverlayStart .. | .quietOverlayEnd ..
  | .bandwidthWindowEnd .. | .queueSample .. | .counterWrap .. => [.now, .elems, .gates, .tbs]
  | .linkRetrain .. => [.elems, .links, .scopes, .wsh]
  | .shadowCompareDone .. => [.elems, .links, .ports, .wsh]
  | .passTimeReply .. => [.elems, .tbs, .time, .wsh]
  | .profileDrainComplete .. | .nop .. | .fence .. => [.rings, .vecs, .lead, .hostOut]
  | .bootSelftestDone .. => [.elems, .stws, .scopes, .wsh, .lead]
  | .timeBaseError .. => [.freeCtr, .elems, .tbs, .scopes, .wsh]
  | .fordUnstable .. | .starve .. => [.now, .elems, .gates, .tbs, .wsh]
  | .lockAmnesiaEnd .. | .duplicateFilterRetire .. => [.now, .elems, .nis, .gates, .tbs]
  | .heartbeatSend .. | .restartAnnounceExpiry .. => [.now, .elems, .gates, .tbs, .stws]
  | .starveRebalance .. => [.gates, .regions, .stws, .gold, .wsh]
  | .creditReceive .. => [.elems, .crWires, .doms, .scopes, .wsh]
  | .wakeRepeat .. => [.now, .elems, .gates, .tbs, .farOut]
  | .quietWindowArm .. => [.elems, .gates, .links, .wsh, .lead]
  | .exitFilterRetire .. | .cablePowerOff .. | .indicatorTimer .. => [.now, .elems, .gates, .ports, .tbs]
  | .ppsOutSecond .. | .tsCompareMatch .. => [.now, .elems, .gates, .tbs, .ts]
  | .detectorArming .. => [.now, .elems, .gates, .tbs, .doms]
  | .scopeAdmissionStart .. => [.elems, .stws, .scopes, .gold, .lead]
  | .cairnSlotRelease .. => [.now, .elems, .gates, .tbs, .regions]
  | .query .. => [.freeCtr, .rings, .vecs, .lead, .hostOut]
  | .idleTimerSet .. => [.doms, .rings, .vecs, .lead, .hostOut]
  | .faultAck .. => [.wsh, .rings, .vecs, .lead, .hostOut]
  | .traceArm .. => [.nis, .rings, .vecs, .lead, .hostOut]
  | .telemetryConfig .. | .counterRead .. => [.elems, .rings, .vecs, .lead, .hostOut]
  | .timeSet .. | .timeAdjust .. => [.time, .rings, .vecs, .lead, .hostOut]
  | .stewardAllLost .. | .outputWatchdog .. | .linkFail .. | .wakeFail .. | .wshPathLost ..
    => [.now, .elems, .gates, .tbs, .scopes, .wsh]
  | .refclkLoss .. => [.now, .refclk, .elems, .gates, .tbs, .wsh]
  | .fordStall .. => [.now, .elems, .gates, .fords, .tbs, .wsh]
  | .lockSweep .. => [.now, .elems, .nis, .gates, .tbs, .wsh]
  | .drainQueryTick .. => [.now, .elems, .gates, .tbs, .regions, .lead]
  | .replayTimer .. => [.now, .elems, .gates, .links, .tbs, .wsh]
  | .paramReceipt .. => [.ridgeless, .elems, .links, .ports, .scopes, .wsh]
  | .timeReq .. => [.elems, .links, .ports, .timeX, .doms, .farOut]
  | .buttonStuck .. | .cableWake .. => [.now, .elems, .gates, .ports, .tbs, .wsh]
  | .passTimeLoss .. | .timeHoldover .. => [.now, .elems, .gates, .tbs, .time, .wsh]
  | .tsCapture .. => [.now, .elems, .gates, .tbs, .ts, .wsh]
  | .vddFabOk .. => [.doms, .regions, .rings, .vecs, .lead, .hostOut]
  | .telemetryRecordWrite .. => [.elems, .fords, .rings, .vecs, .agents, .hostOut]
  | .timeInitWrite .. => [.errValue, .errValid, .errCause, .errCount, .errOffset, .tbs]
  | .tsCompareWrite .. => [.errValue, .errValid, .errCause, .errCount, .errOffset, .ts]
  | .wshFirstClear .. => [.errValue, .errValid, .errCause, .errCount, .errOffset, .wsh]
  | .passFilterWrite .. => [.errValue, .errValid, .errCause, .errCount, .errOffset, .ports]
  | .post .. | .consumed .. | .read .. | .mark .. | .rewind .. | .release .. | .clearLost ..
    => [.errValue, .errValid, .errCause, .errCount, .errOffset, .rings]
  | .mapWrite .. => [.rings, .vecs, .lead, .map, .groups, .hostOut]
  | .mapCommit .. => [.nis, .regions, .rings, .vecs, .lead, .hostOut]
  | .calibrate .. => [.links, .ports, .rings, .vecs, .lead, .hostOut]
  | .ridgeIdentityTimeout .. | .wakeTimeout .. => [.now, .elems, .gates, .links, .tbs, .scopes, .wsh]
  | .mapLookupServe .. => [.now, .elems, .wires, .gates, .tbs, .regions, .aborts]
  | .mapBankCopyDone .. => [.regions, .rings, .vecs, .lead, .map, .groups, .hostOut]
  | .rateRecovery .. => [.now, .elems, .gates, .tbs, .regions, .stws, .gold]
  | .timeRes .. => [.elems, .links, .ports, .tbs, .timeX, .doms, .wsh]
  | .linkQuiet .. => [.now, .elems, .gates, .links, .ports, .tbs, .farOut]
  | .closeReceipt .. => [.elems, .ports, .stws, .scopes, .gold, .wsh, .lead]
  | .ringStaleTimeout .. => [.now, .elems, .gates, .tbs, .rings, .vecs, .hostOut]
  | .ringCtrlWrite .. => [.errValue, .errValid, .errCause, .errCount, .errOffset, .wsh, .rings]
  | .vectorCtrlWrite .. => [.errValue, .errValid, .errCause, .errCount, .errOffset, .vecs, .hostOut]
  | .fwLoad .. => [.freeCtr, .elems, .wsh, .rings, .vecs, .lead, .hostOut]
  | .routeWrite .. | .routeCommit .. => [.elems, .stws, .gold, .rings, .vecs, .lead, .hostOut]
  | .gateLoad .. | .gateActivate .. => [.gates, .stws, .gold, .rings, .vecs, .lead, .hostOut]
  | .lockBreak .. => [.elems, .nis, .wsh, .rings, .vecs, .lead, .hostOut]
  | .leadImageRestart .. | .scopeReadmit .. => [.elems, .stws, .scopes, .gold, .rings, .vecs, .lead, .hostOut]
  | .readyReceipt .. => [.colTrained, .elems, .links, .ports, .stws, .gold, .wsh, .lead]
  | .laneWindow .. => [.now, .freeCtr, .elems, .gates, .links, .tbs, .wsh, .lead]
  | .alignReceipt .. | .cmisReadDone .. => [.elems, .links, .ports, .wsh, .rings, .vecs, .lead, .hostOut]
  | .ppsInEdge .. => [.elems, .tbs, .time, .wsh, .rings, .vecs, .lead, .hostOut]
  | .sweepComplete .. => [.elems, .wires, .crWires, .nis, .gates, .links, .scopes, .aborts]
  | .profileDrainTimeout .. | .profileRailWaitLimit .. => [.now, .elems, .gates, .tbs, .rings, .vecs, .lead, .hostOut]
  | .partitionSet .. => [.elems, .nis, .stws, .gold, .rings, .vecs, .lead, .hostOut]
  | .regulatorSet .. => [.gates, .regions, .stws, .gold, .rings, .vecs, .lead, .hostOut]
  | .tollgateStart .. => [.elems, .wires, .crWires, .nis, .gates, .links, .doms, .regions, .aborts]
  | .tagOrphan .. | .tagQuarantineEnd .. | .mapLookupTimeout ..
    => [.now, .freeCtr, .elems, .nis, .gates, .tbs, .doms, .wsh, .aborts]
  | .mgtRequest .. => [.freeCtr, .elems, .gates, .fords, .regions, .wsh, .lead, .members, .aborts]
  | .epochCommit .. => [.freeCtr, .elems, .nis, .gates, .links, .doms, .wsh, .lead, .aborts]
  | .phyTrainDone .. => [.elems, .links, .ports, .scopes, .wsh, .rings, .vecs, .lead, .hostOut]
  | .presenceChange .. => [.now, .elems, .gates, .links, .ports, .tbs, .scopes, .wsh, .lead]
  | .timeSetPpsTimeout .. => [.now, .elems, .gates, .tbs, .time, .rings, .vecs, .lead, .hostOut]
  | .eventRecordWrite .. => [.now, .elems, .gates, .tbs, .regions, .wsh, .rings, .vecs, .hostOut]
  | .planeNoticeLimit .. => [.now, .elems, .gates, .tbs, .regions, .stws, .scopes, .gold, .lead]
  | .strapSampling .. => [.now, .pkgid, .strapOk, .elems, .gates, .tbs, .scopes, .wsh, .lead, .members]
  | .creditInitReceipt .. => [.colTrained, .elems, .links, .ports, .scopes, .wsh, .rings, .vecs, .lead, .hostOut]
  | .timeExchangeStart .. => [.now, .elems, .gates, .links, .ports, .tbs, .timeX, .doms, .wsh, .farOut]
  | .timeApplyBoundary .. => [.now, .elems, .gates, .tbs, .time, .wsh, .rings, .vecs, .lead, .hostOut]
  | .quietResume .. => [.now, .elems, .gates, .links, .tbs, .wsh, .rings, .vecs, .lead, .hostOut]
  | .laneRotationStart .. | .passLaneCalibrationLimit ..
    => [.now, .elems, .gates, .ports, .tbs, .wsh, .rings, .vecs, .lead, .hostOut]
  | .abortWindowEnd .. => [.now, .elems, .gates, .ports, .tbs, .stws, .gold, .wsh, .lead, .farOut]
  | .passTimeRequest .. => [.elems, .links, .ports, .doms, .wsh, .rings, .vecs, .lead, .hostOut, .farOut]
  | .tableScrub .. => [.elems, .nis, .gates, .regions, .stws, .scopes, .gold, .wsh, .lead, .farOut]
  | .profileSet .. => [.elems, .nis, .doms, .regions, .stws, .gold, .rings, .vecs, .lead, .hostOut]
  | .linkService .. => [.elems, .ports, .stws, .gold, .wsh, .rings, .vecs, .lead, .hostOut, .farOut]
  | .heartbeatMiss .. => [.elems, .doms, .regions, .stws, .scopes, .gold, .wsh, .rings, .vecs, .lead, .hostOut]
  | .timeRsp .. => [.elems, .links, .ports, .timeX, .scopes, .wsh, .rings, .vecs, .lead, .hostOut, .farOut]
  | .cmisReadTimeout .. | .moduleReadyLimit ..
    => [.now, .elems, .gates, .links, .ports, .tbs, .wsh, .rings, .vecs, .lead, .hostOut]
  | .switchInstantReceipt .. => [.elems, .nis, .gates, .doms, .stws, .gold, .wsh, .rings, .vecs, .lead, .hostOut]
  | .domainReset .. | .scopeFence .. | .selftest ..
    => [.elems, .gates, .regions, .stws, .scopes, .gold, .rings, .vecs, .lead, .hostOut, .farOut]
  | .linkReturn .. => [.elems, .links, .ports, .stws, .scopes, .gold, .rings, .vecs, .lead, .hostOut, .farOut]
  | .trainingLimit .. => [.now, .elems, .gates, .links, .ports, .tbs, .scopes, .wsh, .rings, .vecs, .lead, .hostOut]
  | .buttonPress .. => [.now, .elems, .gates, .links, .ports, .tbs, .stws, .scopes, .gold, .wsh, .lead, .farOut]
  | .join .. => [.elems, .ports, .time, .stws, .gold, .wsh, .rings, .vecs, .lead, .members, .hostOut, .farOut]
  | .unitPacket .. => [.now, .freeCtr, .elems, .nis, .gates, .fords, .links, .tbs, .doms, .scopes, .wsh, .aborts, .farOut]
  | .unitDelivery ..
    => [.freeCtr, .elems, .crWires, .nis, .gates, .fords, .links, .doms, .regions, .wsh, .lead, .members, .aborts]
  | .imageBlockReceipt .. => [.elems, .wires, .crWires, .nis, .gates, .links, .doms, .stws, .scopes, .gold, .wsh, .lead, .aborts]
  | .leadFaultInterrupt .. => [.elems, .nis, .gates, .doms, .regions, .stws, .gold, .wsh, .rings, .vecs, .lead, .hostOut, .farOut]
  | .gateSwitch .. => [.now, .elems, .nis, .gates, .tbs, .doms, .stws, .gold, .wsh, .rings, .vecs, .lead, .hostOut]
  | .passTimeExchange ..
    => [.now, .elems, .gates, .links, .ports, .tbs, .time, .doms, .wsh, .rings, .vecs, .lead, .hostOut, .farOut]
  | .niPacketArrival .. | .mapFillReceipt .. | .flitReceive ..
    => [.freeCtr, .elems, .wires, .crWires, .nis, .gates, .fords, .links, .doms, .regions, .scopes, .wsh, .lead, .members,
      .aborts]
  | .timeExchangeRetry ..
    => [.now, .elems, .gates, .links, .ports, .tbs, .timeX, .doms, .scopes, .wsh, .rings, .vecs, .lead, .hostOut, .farOut]
  | .steeringLimit ..
    => [.now, .elems, .gates, .links, .ports, .tbs, .time, .stws, .gold, .wsh, .rings, .vecs, .lead, .hostOut, .farOut]
  | .memberTimeout ..
    => [.now, .elems, .gates, .ports, .tbs, .time, .stws, .gold, .wsh, .rings, .vecs, .lead, .members, .hostOut, .farOut]
  | .fordReset ..
    => [.now, .elems, .wires, .crWires, .nis, .gates, .fords, .links, .tbs, .doms, .stws, .gold, .wsh, .lead, .aborts, .farOut]
  | .answerReceive ..
    => [.freeCtr, .elems, .wires, .crWires, .nis, .gates, .fords, .links, .doms, .regions, .stws, .scopes, .gold, .wsh, .lead,
      .members, .aborts]
  | .timeCtrlWrite ..
    => [.errValue, .errValid, .errCause, .errCount, .errOffset, .elems, .ports, .time, .stws, .gold, .wsh, .rings, .vecs, .lead,
      .members, .hostOut, .farOut]
  | .faultForce ..
    => [.freeCtr, .elems, .nis, .gates, .links, .ports, .doms, .regions, .stws, .scopes, .gold, .wsh, .rings, .vecs, .lead,
      .hostOut, .farOut]
  | .domainIdleTimeout .. | .entryDrainLimit .. | .domainWake .. | .retentionCommit .. | .powerDownDrained ..
  | .powerDownTimeout ..
    => [.now, .elems, .wires, .crWires, .nis, .gates, .links, .tbs, .doms, .stws, .gold, .wsh, .rings, .vecs, .lead, .aborts,
      .hostOut, .farOut]
  | .dieCollectorMessage ..
    => [.elems, .wires, .crWires, .nis, .gates, .fords, .links, .ports, .time, .doms, .regions, .scopes, .wsh, .rings, .vecs,
      .lead, .aborts, .hostOut]
  | .scopeResetDone ..
    => [.elems, .wires, .crWires, .fcWires, .nis, .gates, .fords, .links, .ports, .doms, .regions, .stws, .scopes, .gold, .wsh,
      .lead, .aborts, .farOut]
  | .fordClockReturn ..
    => [.freeCtr, .elems, .wires, .crWires, .nis, .gates, .fords, .links, .doms, .regions, .stws, .gold, .wsh, .rings, .lead,
      .members, .agents, .aborts, .farOut]
  | .epochDrainReport ..
    => [.elems, .wires, .crWires, .nis, .gates, .links, .ports, .time, .doms, .regions, .stws, .gold, .wsh, .rings, .vecs, .lead,
      .aborts, .hostOut, .farOut]
  | .registerWrite ..
    => [.errValue, .errValid, .errCause, .errCount, .errOffset, .elems, .ports, .tbs, .time, .ts, .stws, .gold, .wsh, .rings,
      .vecs, .lead, .members, .hostOut, .farOut]
  | .epochDrainTimeout ..
    => [.now, .elems, .wires, .crWires, .nis, .gates, .links, .ports, .tbs, .time, .doms, .stws, .gold, .wsh, .rings, .vecs,
      .lead, .aborts, .hostOut, .farOut]
  | .arbitration ..
    => [.freeCtr, .elems, .wires, .crWires, .fcWires, .nis, .gates, .fords, .links, .ports, .doms, .regions, .wsh, .rings, .vecs,
      .lead, .members, .aborts, .hostOut, .farOut]
  | .wshMessageArrival ..
    => [.fatal, .fatalKind, .elems, .wires, .crWires, .fcWires, .nis, .gates, .links, .ports, .doms, .stws, .scopes, .gold, .wsh,
      .rings, .vecs, .lead, .aborts, .hostOut, .farOut]
  | .scopeDrained .. | .scopeTestDone ..
    => [.freeCtr, .elems, .wires, .crWires, .nis, .gates, .fords, .links, .ports, .time, .doms, .regions, .stws, .scopes, .gold,
      .wsh, .rings, .vecs, .lead, .aborts, .hostOut, .farOut]
  | .epochCommitAck ..
    => [.freeCtr, .elems, .wires, .crWires, .fcWires, .nis, .gates, .links, .ports, .time, .doms, .regions, .stws, .scopes,
      .gold, .wsh, .rings, .vecs, .lead, .members, .aborts, .hostOut, .farOut]
  | .frameReceive ..
    => [.colTrained, .ridgeless, .elems, .wires, .crWires, .nis, .gates, .links, .ports, .tbs, .timeX, .time, .doms, .stws,
      .scopes, .gold, .wsh, .rings, .vecs, .lead, .aborts, .hostOut, .farOut]
  | .wakeComplete .. | .goldenReloadDone .. | .domainPower ..
    => [.now, .freeCtr, .elems, .wires, .crWires, .nis, .gates, .fords, .links, .ports, .tbs, .doms, .regions, .stws, .scopes,
      .gold, .wsh, .rings, .vecs, .lead, .members, .aborts, .hostOut, .farOut]
  | .scopeDrainTimeout ..
    => [.now, .freeCtr, .elems, .wires, .crWires, .nis, .gates, .fords, .links, .ports, .tbs, .time, .doms, .regions, .stws,
      .scopes, .gold, .wsh, .rings, .vecs, .lead, .aborts, .hostOut, .farOut]
  | .resetRelease .. => touchedByReset

/-! ### What a sound block is -/

/-- Ring `n` is in order (15 R400, R401): its fields are in range; a command ring has at most a ring of entries posted; a completion ring
has room for the entries reserved; a record ring has REL, then CONS, then PROD at most a ring apart, and MARK between REL and CONS. -/
def Ring.Ordered (n : Nat) (y : Ring) : Prop :=
  (y.log2 = 0 ∨ 4 ≤ y.log2 ∧ y.log2 ≤ 16) ∧
  (y.en = true → 4 ≤ y.log2 ∧ y.isPtr y.prod = true ∧ y.isPtr y.cons = true ∧
    (isCmd n = true → y.dist y.cons y.prod ≤ y.size) ∧
    (isCpl n = true → y.dist y.cons y.prod + y.reserved ≤ y.size) ∧
    (isRec n = true → y.isPtr y.rel = true ∧ y.dist y.rel y.cons ≤ y.dist y.rel y.prod ∧ y.dist y.rel y.prod ≤ y.size ∧
      (y.markValid = true → y.isPtr y.mark = true ∧ y.dist y.rel y.mark ≤ y.dist y.rel y.cons)))

/-- The commands in flight of command ring `r`. -/
def Block.inFlight (b : Block) (r : Nat) : Nat := b.lead.flights.countP (fun f => f.ring == r)

/-- The rings are in order, and every command in flight holds the completion entry reserved for it (15 R405): no other entry is reserved,
and only an enabled completion ring has one. -/
def Block.RingsOrdered (b : Block) : Prop :=
  (∀ n, n < 23 → (b.ring n).Ordered n) ∧
  (∀ f, f ∈ b.lead.flights → f.ring < 8) ∧
  (∀ r, r < 8 → (b.ring (r + 8)).reserved = b.inFlight r ∧ ((b.ring (r + 8)).en = false → b.inFlight r = 0))

/-- The registers hold what their fields can hold: package ID, FCB_ERR_LAST, the I3C word, PRIO, severities and Pass filters; ADDR of
every vector is a multiple of 4; and of every ring BASE is a multiple of 4,096, STALE is 0 or 10 to 1,000,000, COUNT fits in 32 bits and
the fields of RING_CTRL are within their widths (15 R400, R401, R414; 17 R446 to R458). -/
def Block.RegsLegal (b : Block) : Prop :=
  b.pkgid < 16 ∧ b.errCount ≤ 0xFFFF ∧ b.errCause ≤ 8 ∧ b.errOffset < 65536 ∧ b.i3cWord < 256 ∧ b.time.prio < 16 ∧
  b.wsh.sevmask.toNat &&& sevReserved = 0 ∧
  (∀ k, (b.port k).filter.toNat % 1024 = 0 ∧ filterOk (b.port k).filter.toNat = true) ∧
  (∀ n, (b.vec n).addr.toNat % 4 = 0) ∧
  (∀ n, (b.ring n).base.toNat % 4096 = 0 ∧ ((b.ring n).stale = 0 ∨ 10 ≤ (b.ring n).stale ∧ (b.ring n).stale ≤ 1000000) ∧
    (b.ring n).lost < 2 ^ 32 ∧ (b.ring n).sevmask < 16 ∧ (b.ring n).vector < 16 ∧ (b.ring n).coalesce < 256)

end Sys2Proof.Machine
end

