-- ==== Sys2Proof/Certificates/Slice0/Obligations.lean ====
section
/-! DEFINITION. The statements for the provers. Each docstring names the rules of spec/ that the statement rests on. -/

open Sys2Proof Sys2Proof.Machine

/-- 01 R17: Ridge link k joins the Ridge-East adapter of die k to the Ridge-West adapter of die (k + 1) mod 12; die d reaches die d - 1 through
Ridge (d - 1) mod 12 and die d + 1 through Ridge d. -/
def Obligations.RidgeLinksJoinNeighbours : Prop :=
  ∀ k, k < 12 →
    farAdp (ridgeE k) = ridgeW ((k + 1) % 12) ∧ farAdp (ridgeW ((k + 1) % 12)) = ridgeE k ∧
    ridgeOfAdp (ridgeE k) = k ∧ ridgeOfAdp (ridgeW ((k + 1) % 12)) = k ∧
    dieOf (farAdp (ridgeW k)) = (k + 11) % 12 ∧ ridgeOfAdp (ridgeW k) = (k + 11) % 12 ∧
    dieOf (farAdp (ridgeE k)) = (k + 1) % 12 ∧ ridgeOfAdp (ridgeE k) = k

/-- 17 R447, R448: a write out of range is ignored whole and recorded in FCB_ERR_LAST, its data zero-extended: no register at the offset (cause
1), the wrong width (cause 2), a register all of whose fields are RO (cause 3). -/
def Obligations.OutOfRangeWriteIsRecorded : Prop :=
  ∀ (s : State) (o w : Nat) (v : BitVec 64), o < 65536 → w ≤ 8 → ¬ (0x20 ≤ o ∧ o < 0x30) →
    ∀ c, (regAt o = none ∧ c = 1 ∨
      (∃ a n r, regAt o = some (a, n, r) ∧ (a ≠ o ∨ n ≠ w) ∧ c = 2) ∨
      ((o = 0x0 ∨ o = 0x8 ∨ o = 0x10 ∨ o = 0x1000 ∨ o = 0x1010 ∨ o = 0x2820) ∧ w = 8 ∧ c = 3)) →
    Completes (.registerWrite o w v) s (fun b' =>
      b' = { s.blk with errValue := lowBytes w v, errValid := true, errCause := c, errCount := min 0xFFFF (s.blk.errCount + 1), errOffset := o })

/-- 15 R401, R414, 17 R456: a write of a register in its own width and range gives its fields the value written and changes nothing else. -/
def Claims.RegisterWriteSetsTheRegister : Prop :=
  ∀ (s : State) (n : Nat) (v : BitVec 64),
    (n < 16 → v.toNat % 4 = 0 → Completes (.registerWrite (0x100 + 16 * n) 8 v) s (fun b' =>
      b' = s.blk.modVec n (fun y => { y with addr := v }))) ∧
    (n < 16 → Completes (.registerWrite (0x108 + 16 * n) 4 v) s (fun b' =>
      b' = s.blk.modVec n (fun y => { y with data := v.setWidth 32 }))) ∧
    (8 ≤ n → n < 23 → (v.toNat = 0 ∨ 10 ≤ v.toNat ∧ v.toNat ≤ 1000000) → Completes (.registerWrite (0x404 + 64 * n) 4 v) s (fun b' =>
      b' = s.blk.modRing n (fun y => { y with stale := v.toNat }))) ∧
    (n < 23 → v.toNat % 4096 = 0 → (s.blk.ring n).en = false → Completes (.registerWrite (0x408 + 64 * n) 8 v) s (fun b' =>
      b' = s.blk.modRing n (fun y => { y with base := v }))) ∧
    (n < 8 → (s.blk.ring n).permitLocked = false → v.toNat < 2 ^ 32 → Completes (.registerWrite (0x424 + 64 * n) 4 v) s (fun b' =>
      b' = s.blk.modRing n (fun y => { y with permit := v.setWidth 32 }))) ∧
    (v.toNat &&& 0xFFFFFFFFE0E0E0E0 = 0 → Completes (.registerWrite 0x2810 8 v) s (fun b' =>
      b' = s.blk.modWsh (fun y => { y with sevmask := v })))

/-- 17 R447, R448: a write of FCB_ERR_LAST that clears VALID clears COUNT with it; one that does not clear it is ignored, and not recorded. -/
def Claims.ErrLastClears : Prop :=
  ∀ (s : State) (v : BitVec 64), v.toNat &&& 0x70FF0000FFFF0000 = 0 →
    (v.getLsbD 63 = true → Completes (.errLastClear v) s (fun b' => b' = { s.blk with errValid := false, errCount := 0 })) ∧
    (v.getLsbD 63 = false → Completes (.errLastClear v) s (fun b' => b' = s.blk))

/-- A register write in its own width and range sets the register and nothing else. -/
def Obligations.RegisterWritesSetTheirFields : Prop :=
  Claims.RegisterWriteSetsTheRegister ∧ Claims.ErrLastClears

/-- 07 R217, 17 R453: the time registers. TIME_INIT is written in profile 0 before the first Col link enters TIME_ALIGN, and elsewhere is out of
range with cause 7; a read of the low half of TIME_NOW latches the high half; a write of TIME_CTRL gives PRIO its value; a write of
TIME_TS_COMPARE arms TS_OUT, which pulses at once where Fabric Time has reached the value. -/
def Claims.TimeRegisters : Prop :=
  ∀ (s : State) (v : BitVec 64) (x : BitVec 32),
    (s.blk.lead.profile = 0 → s.blk.colTrained = false → Completes (.timeInitWrite v) s (fun b' =>
      b' = s.blk.modTb 12 (fun t => { t with ft := v.toNat, ft2 := v.toNat, frac2 := t.frac }))) ∧
    (s.blk.lead.profile ≠ 0 ∨ s.blk.colTrained = true → Completes (.timeInitWrite v) s (fun b' =>
      b' = s.blk.outOfRange 0x1008 7 v)) ∧
    Completes .timeNowLowRead s (fun b' =>
      b' = { s.blk with ts := { s.blk.ts with nowHigh := s.blk.ft 12 / 2 ^ 32 % 2 ^ 32 } }) ∧
    (x.toNat < 16 → Completes (.timeCtrlWrite x) s (fun b' => b'.time.prio = x.toNat ∧
      (b'.time.leader = true ↔ ∀ q m, (q, m) ∈ s.blk.members → q ≠ s.blk.pkgid → m.reach = true →
        x.toNat < m.prio ∨ x.toNat = m.prio ∧ s.blk.pkgid < q))) ∧
    (16 ≤ x.toNat → Completes (.timeCtrlWrite x) s (fun b' => b' = s.blk.outOfRange 0x1018 4 (x.setWidth 64))) ∧
    (s.blk.ft 12 < v.toNat → Completes (.tsCompareWrite v) s (fun b' =>
      b' = { s.blk with ts := { s.blk.ts with compare := v.toNat, armed := true } })) ∧
    (v.toNat ≤ s.blk.ft 12 → Completes (.tsCompareWrite v) s (fun b' =>
      b' = { s.blk with ts := { s.blk.ts with compare := v.toNat, armed := false, tsOutTo := s.blk.ft 12 + 320 } }))

/-- 15 R414: a write of FCB_VEC_CTRL. Clearing MASK sends the message that is due, once, and clears PENDING; setting MASK holds messages; a
reserved bit written as 1 is out of range. -/
def Claims.VectorMask : Prop :=
  ∀ (s : State) (n : Nat) (v : BitVec 32), n < 16 →
    (v.toNat % 4 = 0 ∨ v.toNat % 4 = 2 → v.toNat < 4 → (s.blk.vec n).pending = true → Completes (.vectorCtrlWrite n v) s (fun b' =>
      b'.vec n = { s.blk.vec n with mask := false, pending := false } ∧
      b'.hostOut = .irq n (s.blk.vec n).addr (s.blk.vec n).data :: s.blk.hostOut)) ∧
    (v.toNat % 4 = 0 ∨ v.toNat % 4 = 2 → v.toNat < 4 → (s.blk.vec n).pending = false → Completes (.vectorCtrlWrite n v) s (fun b' =>
      b' = s.blk.modVec n (fun y => { y with mask := false, pending := false }))) ∧
    (v.toNat = 1 ∨ v.toNat = 3 → Completes (.vectorCtrlWrite n v) s (fun b' => b' = s.blk.modVec n (fun y => { y with mask := true }))) ∧
    (4 ≤ v.toNat → Completes (.vectorCtrlWrite n v) s (fun b' => b' = s.blk.outOfRange (0x10C + 16 * n) 4 (v.setWidth 64)))

/-- 17 R458, R447: PASS_FILTER takes fields within their ranges and refuses others with cause 5, reserved bits with cause 4. -/
def Claims.PassFilter : Prop :=
  ∀ (s : State) (k pr bu mp : Nat) (v : BitVec 32), k < 8 → pr < 1024 → bu < 128 → mp < 32 →
    v = BitVec.ofNat 32 (pr * 2 ^ 22 + bu * 2 ^ 15 + mp * 2 ^ 10) →
    (20 ≤ pr ∧ pr ≤ 1000 ∧ 5 ≤ bu ∧ bu ≤ 100 ∧ 2 ≤ mp ∧ mp ≤ 30 → Completes (.passFilterWrite k v) s (fun b' =>
      b' = s.blk.modPort k (fun p => { p with filter := v }))) ∧
    (¬ (20 ≤ pr ∧ pr ≤ 1000 ∧ 5 ≤ bu ∧ bu ≤ 100 ∧ 2 ≤ mp ∧ mp ≤ 30) → Completes (.passFilterWrite k v) s (fun b' =>
      b' = s.blk.outOfRange (0x3000 + 16 * k) 5 (v.setWidth 64)))

/-- 17 R454, R455; 11 R324: a 1 written to a sticky bit clears it and no other; a 1 written to the force bit of an assigned source sends its
FORCED message at severity Corrected, and the bit, whose message has left, reads 0; while its die has no path the bit stays; clearing VALID
of WSH_FIRST keeps the record. -/
def Claims.WatershedRegisters : Prop :=
  ∀ (s : State) (w i : Nat) (v : BitVec 64), w < 104 →
    Completes (.wshStickyClear w v) s (fun b' =>
      b' = s.blk.modWsh (fun y => { y with sticky := y.sticky.mod 0 w (fun z => z &&& ~~~v) })) ∧
    (i < 64 → isSource (64 * w + i) = true → v = BitVec.ofNat 64 (2 ^ i) → (s.blk.wsh.force.get 0 w).getLsbD i = false →
      (dieOf (64 * w + i) ∉ s.blk.wsh.pathLost → Completes (.wshForceWrite w v) s (fun b' =>
        Raised s.blk b' (64 * w + i) 0xFE 0 ∧ b'.wsh.force = s.blk.wsh.force)) ∧
      (dieOf (64 * w + i) ∈ s.blk.wsh.pathLost → Completes (.wshForceWrite w v) s (fun b' =>
        b'.wsh.force.get 0 w = s.blk.wsh.force.get 0 w ||| v ∧ b'.wsh.die = s.blk.wsh.die))) ∧
    (v = BitVec.ofNat 64 (2 ^ 63) → Completes (.wshFirstClear v) s (fun b' =>
      b' = s.blk.modWsh (fun y => { y with firstValid := false })))

/-- The time, vector, Pass filter and Watershed registers. -/
def Obligations.TimeVectorFilterAndWatershedRegisters : Prop :=
  Claims.TimeRegisters ∧ Claims.VectorMask ∧ Claims.PassFilter ∧ Claims.WatershedRegisters

/-- 15 R417: EN written to 1 with LOG2SIZE 4-16 sets the pointers to 0, clears ERR, MARKLOST and MARKVALID and sets ARMED; with LOG2SIZE 0 it is
refused with cause 7, with another value out of range with cause 5. -/
def Claims.RingEnable : Prop :=
  ∀ (s : State) (n log2 : Nat) (v : BitVec 32), n < 23 → (s.blk.ring n).en = false → log2 < 32 →
    v = BitVec.ofNat 32 (2 ^ 31 + log2) →
    (4 ≤ log2 → log2 ≤ 16 → Completes (.ringCtrlWrite n v) s (fun b' =>
      (b'.ring n).en = true ∧ (b'.ring n).prod = 0 ∧ (b'.ring n).cons = 0 ∧ (b'.ring n).rel = 0 ∧ (b'.ring n).mark = 0 ∧
      (b'.ring n).err = false ∧ (b'.ring n).markLost = false ∧ (b'.ring n).markValid = false ∧ (b'.ring n).armed = true ∧
      (b'.ring n).log2 = log2 ∧ (b'.ring n).base = (s.blk.ring n).base ∧
      (∀ m, m ≠ n → b'.ring m = s.blk.ring m))) ∧
    (log2 = 0 → Completes (.ringCtrlWrite n v) s (fun b' => b' = s.blk.outOfRange (0x400 + 64 * n) 7 (v.setWidth 64))) ∧
    (1 ≤ log2 ∧ log2 ≤ 3 ∨ 17 ≤ log2 → Completes (.ringCtrlWrite n v) s (fun b' =>
      b' = s.blk.outOfRange (0x400 + 64 * n) 5 (v.setWidth 64)))

/-- 15 R402: POST and CONSUMED. POST sets PROD of an enabled command ring to an INDEX from PROD to CONS + size; CONSUMED sets CONS of an enabled
completion ring to one from CONS to PROD; a POST with an INDEX outside is ignored and recorded with cause 8. -/
def Claims.PostAndConsumed : Prop :=
  ∀ (s : State) (n i : Nat), n < 23 → i < 131072 → (s.blk.ring n).en = true →
    (n < 8 →
      ((s.blk.ring n).isPtr i = true → (s.blk.ring n).dist (s.blk.ring n).cons (s.blk.ring n).prod ≤ (s.blk.ring n).dist (s.blk.ring n).cons i →
        (s.blk.ring n).dist (s.blk.ring n).cons i ≤ 2 ^ (s.blk.ring n).log2 →
        Completes (.post n i) s (fun b' => b' = s.blk.modRing n (fun y => { y with prod := i }))) ∧
      (¬ ((s.blk.ring n).isPtr i = true ∧ (s.blk.ring n).dist (s.blk.ring n).cons (s.blk.ring n).prod ≤ (s.blk.ring n).dist (s.blk.ring n).cons i ∧
        (s.blk.ring n).dist (s.blk.ring n).cons i ≤ 2 ^ (s.blk.ring n).log2) →
        Completes (.post n i) s (fun b' => b' = s.blk.outOfRange (0x428 + 64 * n) 8 (BitVec.ofNat 64 i)))) ∧
    (8 ≤ n → n < 16 →
      ((s.blk.ring n).isPtr i = true → (s.blk.ring n).dist (s.blk.ring n).cons i ≤ (s.blk.ring n).dist (s.blk.ring n).cons (s.blk.ring n).prod →
        Completes (.consumed n i) s (fun b' =>
          b' = s.blk.modRing n (fun y => { y with cons := i, armed := true, staleFrom := s.blk.now }))))

/-- 15 R402: READ, MARK, REWIND and RELEASE of an enabled event, telemetry or trace ring, with INDEX in the range that each operation has; a
READ or RELEASE at most size entries behind REL moves no pointer and is not recorded. -/
def Claims.RecordRingDoorbells : Prop :=
  ∀ (s : State) (n i : Nat) (r : Ring), 16 ≤ n → n < 23 → i < 131072 → s.blk.ring n = r → r.en = true → r.isPtr i = true →
    (r.dist r.rel r.cons ≤ r.dist r.rel i → r.dist r.rel i ≤ r.dist r.rel r.prod → Completes (.read n i) s (fun b' =>
      b' = s.blk.modRing n (fun y => { y with cons := i, armed := true, staleFrom := s.blk.now }))) ∧
    (r.dist r.rel r.prod < r.dist r.rel i → 1 ≤ r.dist i r.rel → r.dist i r.rel ≤ 2 ^ r.log2 → Completes (.read n i) s (fun b' =>
      b' = s.blk.modRing n (fun y => { y with armed := true, staleFrom := s.blk.now }))) ∧
    (r.dist r.rel i ≤ r.dist r.rel r.cons → Completes (.mark n i) s (fun b' =>
      b' = s.blk.modRing n (fun y => { y with mark := i, markValid := true, markLost := false }))) ∧
    (r.markValid = true → Completes (.rewind n i) s (fun b' => b' = s.blk.modRing n (fun y => { y with cons := r.mark }))) ∧
    (r.markValid = false → Completes (.rewind n i) s (fun b' =>
      b' = s.blk.outOfRange (0x428 + 64 * n) 7 (BitVec.ofNat 64 (4 * 2 ^ 29 + i)))) ∧
    (r.dist r.rel i ≤ r.dist r.rel r.cons → Completes (.release n i) s (fun b' =>
      b' = s.blk.modRing n (fun y => { y with rel := i, markValid := r.markValid && decide (r.dist r.rel i ≤ r.dist r.rel r.mark) }))) ∧
    (r.dist r.rel r.cons < r.dist r.rel i → 1 ≤ r.dist i r.rel → r.dist i r.rel ≤ 2 ^ r.log2 → Completes (.release n i) s (fun b' =>
      b' = s.blk.modRing n id))

/-- 15 R402, 21 R509, R512: CLEAR_LOST clears the lost count of an enabled ring that is no command ring; from STRAPOK on the I3C target selects
the word written; outside profile 11 a TAP instruction other than BYPASS, IDCODE and SAMPLE/PRELOAD acts as BYPASS. -/
def Claims.ClearLostI3cTap : Prop :=
  ∀ (s : State) (n i : Nat), n < 23 → i < 131072 →
    (8 ≤ n → (s.blk.ring n).en = true → Completes (.clearLost n i) s (fun b' => b' = s.blk.modRing n (fun y => { y with lost := 0 }))) ∧
    (i < 256 → s.blk.strapOk = true → Completes (.i3cWordSelect i) s (fun b' => b' = { s.blk with i3cWord := i })) ∧
    (i ≤ 2 ∨ s.blk.immProfile = 11 → Completes (.tapInstruction i) s (fun b' => b' = { s.blk with tapIr := i })) ∧
    (2 < i → s.blk.immProfile ≠ 11 → Completes (.tapInstruction i) s (fun b' => b' = { s.blk with tapIr := 0 }))

/-- Enabling a ring, the doorbells of each kind of ring, the I3C and TAP selections. -/
def Obligations.RingRegistersAndDoorbells : Prop :=
  Claims.RingEnable ∧ Claims.PostAndConsumed ∧ Claims.RecordRingDoorbells ∧ Claims.ClearLostI3cTap

/-- 17 R457: WSH_STICKY_ANY[0] bit w and WSH_STICKY_ANY[1] bit w - 64 read 1 while WSH_STICKY[w] is not zero, bits 63:40 of the second read
zero; both are RO, so that a write is recorded with cause 3 and changes nothing else; both reset to 0. -/
def Obligations.StickyAnyNamesTheWords : Prop :=
  ∀ (s : State) (w j : Nat) (v : BitVec 64), w < 104 → j < 2 →
    regAt (0x2820 + 8 * j) = some (0x2820 + 8 * j, 8, .anySticky j) ∧
    ((s.blk.regVal (.anySticky (w / 64))).testBit (w % 64) = true ↔ s.blk.wsh.sticky.get 0 w ≠ 0) ∧
    (∀ n, 40 ≤ n → (s.blk.regVal (.anySticky 1)).testBit n = false) ∧
    Completes (.registerWrite (0x2820 + 8 * j) 8 v) s (fun b' => b' = s.blk.outOfRange (0x2820 + 8 * j) 3 v) ∧
    State.reset.blk.regVal (.anySticky j) = 0

/-- 11 R323: WSH_STICKY holds one bit per source index, bit i mod 64 of word i div 64, 104 words. The package collector sets the bit when a
message from that source arrives, whatever its severity; no command but a reset release, a write of 1 to the bit and a FAULT_ACK with its
sticky flag ever clears one: no overwrite of a ring and no rate limit does. -/
def Obligations.StickyBitsStayUntilCleared : Prop :=
  (∀ w, w < 104 → regAt (0x2000 + 8 * w) = some (0x2000 + 8 * w, 8, .sticky w) ∧
    ∀ b : Block, b.regVal (.sticky w) = (b.wsh.sticky.get 0 w).toNat) ∧
  (∀ (s : State) (m x : Msg) (rest : List Msg) (err : BitVec 192) (ext : BitVec 136) (bad : Bool), s.blk.wsh.up = m :: rest →
    m.receive err ext = (some x, bad) → (x.src, x.kind, x.time) ∉ s.blk.wsh.seen →
    Completes (.wshMessageArrival ⟨err, ext⟩) s (fun b' => (b'.wsh.sticky.get 0 (x.src / 64)).getLsbD (x.src % 64) = true)) ∧
  ∀ (i : Instr) (s t : State) (w j : Nat), exec i s = .next t → (s.blk.wsh.sticky.get 0 w).getLsbD j = true →
    (t.blk.wsh.sticky.get 0 w).getLsbD j = false →
    i = .resetRelease ∨ (∃ v : BitVec 64, v.getLsbD j = true ∧ (i = .wshStickyClear w v ∨ i = .registerWrite (0x2000 + 8 * w) 8 v)) ∨
      ∃ c, i = .faultAck c ∧ flagOf c 3 = true

/-- 19 R481, R482; 09 R272: reset release starts every field over at its reset value, the membership table listing the package itself, but the
fuses and the design identity (and the counter of free values, which is the model's own). 19 R483: eight equal samples of the straps give
PKGID and STRAPOK and list the package under it; samples that differ raise STRAP_DISAGREE, Fatal, and STRAPOK stays 0. -/
def Claims.ResetReleaseAndStraps : Prop :=
  ∀ (s : State) (v : Nat) (l : List Nat),
    Completes .resetRelease s (fun b' => b' = { Block.reset with
      fuseSerial := s.blk.fuseSerial, fuseKey := s.blk.fuseKey, fuseMinSec := s.blk.fuseMinSec, design := s.blk.design,
      freeCtr := s.blk.freeCtr, members := [(0, { serial := s.blk.fuseSerial, prio := 8, reach := true })] }) ∧
    (v < 16 → s.blk.strapOk = false → Completes (.strapSampling (List.replicate 8 v)) s (fun b' =>
      b'.pkgid = v ∧ b'.strapOk = true ∧ (s.blk.refclk = true → b'.now = max s.blk.now 3200000) ∧
      b'.members.find v = some { serial := s.blk.fuseSerial, prio := s.blk.time.prio, reach := true } ∧ b'.wsh = s.blk.wsh)) ∧
    (l.length = 8 → (∀ x ∈ l, x < 16) → (∃ x ∈ l, ∃ y ∈ l, x ≠ y) → s.blk.strapOk = false → Completes (.strapSampling l) s (fun b' =>
      Raised s.blk b' 6623 0x72 3 ∧ b'.strapOk = false ∧ (b'.scope 11 s.blk.pkgid).stopped = true))

/-- 19 R484, R485: a steward's boot self-test. Steward 0 of the I/O die, passing while there is no lead, becomes lead; a compute-die steward
that fails is lost, its scope is fenced and RETIRED and STEWARD_LOST is raised; where no I/O-die steward is left STEWARD_ALL_LOST is Fatal;
a Ridge whose die has no identity fails when the time for it ends. -/
def Claims.SelfTestsAndIdentity : Prop :=
  ∀ (s : State) (n a : Nat),
    (isStw n = true → (s.blk.stw n).self = 0 →
      Completes (.bootSelftestDone n true) s (fun b' => (b'.stw n).self = 1 ∧ b'.wsh = s.blk.wsh ∧
        (n = stwSrc 12 0 → s.blk.lead.who = none → b'.lead.who = some 0)) ∧
      (dieOf n < 12 → Completes (.bootSelftestDone n false) s (fun b' => (b'.stw n).self = 2 ∧ (b'.stw n).lost = true ∧
        Raised s.blk b' n 0x60 2 ∧ (b'.scope 10 n).stopped = true ∧ (b'.scope 10 n).retired = true))) ∧
    ((∀ k, k < 16 → ¬ (s.blk.stwUp (stwSrc 12 k) = true ∧ (s.blk.stw (stwSrc 12 k)).self = 1)) → Completes .stewardAllLost s (fun b' =>
      Raised s.blk b' 6624 0x66 3 ∧ (b'.scope 11 s.blk.pkgid).stopped = true)) ∧
    (isRidge a = true → (s.blk.link (src (dieOf a) 384)).ident = none → (s.blk.link (src (dieOf a) 385)).ident = none →
      s.blk.ridgelessAt a = false → (s.blk.link a).st ≠ .active → s.blk.linkStopped a = false →
      Completes (.ridgeIdentityTimeout a) s (fun b' => Raised s.blk b' a 0x23 2 ∧ (b'.link a).st = .down ∧
        (b'.scope (linkScope a 7).1 (linkScope a 7).2).stopped = true))

/-- Reset release, strap sampling, boot self-tests and Ridge identity. -/
def Obligations.StartUp : Prop :=
  Claims.ResetReleaseAndStraps ∧ Claims.SelfTestsAndIdentity

/-- 07 R211, R215; 21 R506: the loss of REFCLK stops the clocks and drives FAULT_N to 0b00; a clock root that loses lock, and a time base whose
copies differ, raise a Containable fault that fences their die, and a Fatal one on the I/O die; when REFCLK returns the collector sees
CLOCK_UNLOCK, and only then are records written again. -/
def Claims.ClockFaults : Prop :=
  ∀ (s : State) (d : Nat),
    Completes .refclkLoss s (fun b' => b'.refclk = false ∧ b'.wsh.refLost = true ∧ b'.faultN = 0) ∧
    (d < 12 →
      Completes (.clockUnlock d) s (fun b' => Raised s.blk b' (512 * d + 465) 0x30 2 ∧ (b'.scope 9 d).stopped = true ∧
        b'.refclk = true) ∧
      Completes (.timeBaseError d) s (fun b' => Raised s.blk b' (512 * d + 466) 0x31 2 ∧ (b'.scope 9 d).stopped = true)) ∧
    Completes (.clockUnlock 12) s (fun b' => Raised s.blk b' 6609 0x30 3 ∧ (b'.scope 11 s.blk.pkgid).stopped = true ∧
      b'.refclk = true) ∧
    (s.blk.refclk = false → Completes .eventRecordWrite s (fun b' => b' = s.blk)) ∧
    Completes (.timeBaseError 12) s (fun b' => Raised s.blk b' 6610 0x31 3 ∧ (b'.scope 11 s.blk.pkgid).stopped = true)

/-- 14 R382, 12 R358: a steward in service sends its heartbeat, with the next sequence number and the CRC of its copies of the tables, at the
next 10 us; a heartbeat of the buddy that is received ends the count of misses, and a mirror whose CRC differs from its primary's in two of
them that follow each other takes the primary's copies. -/
def Claims.Heartbeats : Prop :=
  ∀ (s : State) (n : Nat), isStw n = true → s.blk.stwUp n = true →
    (0 < s.blk.freeUnitTags (stwNi n) → Completes (.heartbeatSend n) s (fun b' => (b'.stw n).hbSeq = ((s.blk.stw n).hbSeq + 1) % 65536 ∧
      (b'.stw n).hbSent = (s.blk.stw n).hbSent ++ [((s.blk.stw n).hbSeq, (s.blk.stw n).crc)] ∧
      (s.blk.refclk = true → b'.now = (s.blk.now / 32000 + 1) * 32000) ∧ b'.wsh = s.blk.wsh ∧ ∀ m, m ≠ n → b'.stw m = s.blk.stw m)) ∧
    (∀ (skip q : Nat) (crc : BitVec 32), (s.blk.stw (buddy n)).hbSent[skip]? = some (q, crc) → Completes (.heartbeatReceipt n skip) s (fun b' =>
      (b'.stw n).missed = 0 ∧ (b'.stw n).hbGot = some (q, crc) ∧ (b'.stw (buddy n)).announced = none ∧
      (b'.stw (buddy n)).hbSent = (s.blk.stw (buddy n)).hbSent.drop (skip + 1) ∧
      (s.blk.primary (stwRegion n) ≠ n →
        (crc = (s.blk.stw n).crc → (b'.stw n).crcDiff = 0 ∧ (b'.stw n).crc = crc) ∧
        (crc ≠ (s.blk.stw n).crc → (s.blk.stw n).crcDiff = 0 ∨ (s.blk.stw n).hbGot.map (·.1) ≠ some ((q + 65535) % 65536) →
          (b'.stw n).crcDiff = 1 ∧ (b'.stw n).crc = (s.blk.stw n).crc) ∧
        (crc ≠ (s.blk.stw n).crc → (s.blk.stw n).crcDiff = 1 → (s.blk.stw n).hbGot.map (·.1) = some ((q + 65535) % 65536) →
          s.blk.stwUp (buddy n) = true →
          b'.gold.get [] n = s.blk.gold.get [] (buddy n) ∧ (b'.stw n).crc = Config.crcOf (s.blk.gold.get [] (buddy n)) ∧
          (b'.stw n).crcDiff = 0))))

/-- Clock faults fence their die; heartbeats between buddies. -/
def Obligations.ClocksAndHeartbeats : Prop :=
  Claims.ClockFaults ∧ Claims.Heartbeats

/-- 12 R358, 14 R389: three heartbeats missed in a row make a compute-die buddy raise STEWARD_LOST, whose fence closes the lost steward's scope;
none counts while the buddy's restart is announced, for up to 100 ms. -/
def Claims.StewardLoss : Prop :=
  ∀ (s : State) (n t : Nat), isStw n = true →
    (s.blk.stwUp n = true → s.blk.stwUp (buddy n) = true → (s.blk.stw (buddy n)).announced = none → dieOf n < 12 →
      Completes (.heartbeatMiss n) s (fun b' => Raised s.blk b' n 0x60 2 ∧ (b'.stw (buddy n)).lost = true ∧
        (b'.scope 10 (buddy n)).stopped = true ∧ b'.lead = s.blk.lead ∧ b'.hostOut = s.blk.hostOut)) ∧
    ((s.blk.stw (buddy n)).announced = some t → Completes (.heartbeatMiss n) s (fun b' => b' = s.blk)) ∧
    ((s.blk.stw n).announced = some t → Completes (.restartAnnounceExpiry n) s (fun b' =>
      b'.stw n = { s.blk.stw n with announced := none } ∧ (s.blk.refclk = true → b'.now = max s.blk.now (t + 100 * ms))))

/-- 14 R386, R389: the steward image. The last block of a steward's segments loads them into its SRAMs and restarts it on the image, with the
golden copies of its buddy, an earlier one leaves its restart announced; a steward whose segments fail their CRC for the third time is
fenced and RETIRED and raises IMAGE_REJECTED; the lead, restarting, takes the image itself and serves its rings again. -/
def Claims.StewardImage : Prop :=
  ∀ (s : State) (n : Nat) (bd : BitVec 64) (todo : List Nat), isStw n = true → s.blk.lead.load = some (bd, todo) →
    (n ∈ todo → Completes (.imageBlockReceipt n true true) s (fun b' => (b'.stw n).image = true ∧ (b'.stw n).build = some bd ∧
      (dieOf n < 12 → (b'.stw n).iram = (s.blk.lead.segs.filter (fun x => x.2.1.land 1 != 0 && x.2.2 == 0)).map (fun x => (x.1, x.2.1))) ∧
      (b'.stw n).announced = none ∧ b'.wsh = s.blk.wsh ∧ (s.blk.stwUp (buddy n) = true → b'.gold.get [] n = s.blk.gold.get [] (buddy n)))) ∧
    (n ∈ todo → Completes (.imageBlockReceipt n false true) s (fun b' => (b'.stw n).announced.isSome = true ∧ b'.lead = s.blk.lead)) ∧
    (n ∈ todo → (s.blk.stw n).segFails = 2 → (s.blk.ni (stwNi n)).msgq = [] → Completes (.imageBlockReceipt n true false) s (fun b' =>
      (b'.stw n).lost = true ∧ (b'.scope 10 n).st = 3 ∧ (b'.scope 10 n).retired = true ∧ Raised s.blk b' s.blk.leadSrc 0x61 1)) ∧
    (s.blk.lead.restarting = true → s.blk.lead.flights = [] → s.blk.lead.commit.isSome = true → Completes .leadImageRestart s (fun b' =>
      b'.lead.restarting = false ∧ b'.lead.bootRom = false ∧ b'.lead.load = none ∧ (b'.stw s.blk.leadSrc).image = true ∧
      (b'.stw s.blk.leadSrc).build = some bd))

/-- The loss of a steward and the load of a steward image. -/
def Obligations.StewardLossAndImage : Prop :=
  Claims.StewardLoss ∧ Claims.StewardImage

/-- 14 R391, R392: on a STARVE interrupt the primary lowers each rate that is not pinned by an eighth, at least 1, not below a sixteenth of the
configured value, of every NI of the region but the starved packet's, unless it lowered rates less than 100 us ago; fault interrupts go
before it (14 R390); after 1 ms of quiet each lowered rate rises by an eighth of its configured value, at least 1, up to it. -/
def Obligations.RatesUnderStarvation : Prop :=
  ∀ (s : State) (g n t : Nat) (from_ : BitVec 16), g < 32 → t < 4 → n ∈ s.blk.drawers g →
    (s.blk.lead.bootRom = false → (s.blk.stw (s.blk.server g)).image = true → s.blk.fencesFirst (s.blk.server g) = false →
      (∀ u, (s.blk.region g).lastLower = some u → u + 320000 ≤ s.blk.now) →
      niNode s.blk.pkgid n ≠ canon from_ → Completes (.starveRebalance g from_) s (fun b' =>
        (b'.region g).lastLower = some s.blk.now ∧ (b'.region g).lastStarve = some s.blk.now ∧
        ((s.blk.gate n).pin.get false t = false → (b'.gate n).rateOf t =
          max (max 1 ((s.blk.gate n).confOf t / 16)) ((s.blk.gate n).rateOf t - max 1 ((s.blk.gate n).rateOf t / 8))) ∧
        ((s.blk.gate n).pin.get false t = true → (b'.gate n).rateOf t = (s.blk.gate n).rateOf t))) ∧
    (s.blk.lead.bootRom = false → (s.blk.stw (s.blk.server g)).image = true → s.blk.fencesFirst (s.blk.server g) = false →
      (∃ u, (s.blk.region g).lastLower = some u ∧ s.blk.now < u + 320000) →
      Completes (.starveRebalance g from_) s (fun b' => b'.gates = s.blk.gates ∧ (b'.region g).lastStarve = some s.blk.now)) ∧
    (s.blk.fencesFirst (s.blk.server g) = true → Completes (.starveRebalance g from_) s (fun b' => b' = s.blk)) ∧
    ((s.blk.region g).lastStarve.isSome = true → (s.blk.gate n).rateOf t < (s.blk.gate n).confOf t →
      Completes (.rateRecovery g) s (fun b' => (b'.gate n).rateOf t =
        min ((s.blk.gate n).confOf t) ((s.blk.gate n).rateOf t + max 1 ((s.blk.gate n).confOf t / 8))))

/-- 18 R473: at the end of a bandwidth window the counts start again at 0 and the window ordered in its course takes effect; with recording off
no record is made. -/
def Claims.BandwidthWindow : Prop :=
  ∀ (s : State) (e : Nat), hasCtrs e = true →
    Completes (.bandwidthWindowEnd e) s (fun b' => (b'.elem e).tel.counts = [] ∧ (b'.elem e).tel.nextWindow = none ∧
      (b'.elem e).tel.window = ((s.blk.elem e).tel.nextWindow).getD (s.blk.elem e).tel.window ∧
      (s.blk.immProfile ≠ 11 → (s.blk.elem e).tel.enable / 2 % 2 = 0 → (b'.elem e).tel.queue = (s.blk.elem e).tel.queue))

/-- 18 R463, R471, R474-R477: the samples, the wrap records, the cairn slots and the agents. A router that samples steps its LFSR once and takes
its first sample, one that does not sample steps it alone; a wrap not yet reported is marked as reported; the oldest cairn slot of a region
frees 20 us after its injection; an agent whose way to the lead is open writes its record into the ring that the record names, with the
PHASE of that ring. -/
def Claims.TelemetryTimers : Prop :=
  ∀ (s : State) (e c d g t : Nat) (rest : List Nat),
    (isRouter e = true → (s.blk.elem e).tel.enable % 2 = 1 → s.blk.immProfile ≠ 11 → s.blk.domSt e = 0 → s.blk.elemFenced e = false →
      (s.blk.elem e).tel.samples = [] → (s.blk.elem e).tel.onlyPort = none → Completes (.queueSample e) s (fun b' =>
        (b'.elem e).tel.lfsr = some (lfsrStep (((s.blk.elem e).tel.lfsr).getD ((e + 1) % 65536))) ∧
        (b'.elem e).tel.samples.length = 1 ∧ (b'.elem e).tel.periods = 1 ∧ (b'.elem e).tel.rot = (s.blk.elem e).tel.rot + 1)) ∧
    (isRouter e = true → (s.blk.elem e).tel.enable % 2 = 0 → s.blk.immProfile ≠ 11 → s.blk.domSt e = 0 → Completes (.queueSample e) s (fun b' =>
      (b'.elem e).tel = { (s.blk.elem e).tel with lfsr := some (lfsrStep (((s.blk.elem e).tel.lfsr).getD ((e + 1) % 65536))) })) ∧
    (hasCtrs e = true → isRouter e = false → c < 16 → (s.blk.elem e).wrapRep.get 0 c < (s.blk.elem e).wraps.get 0 c →
      Completes (.counterWrap e c) s (fun b' => (b'.elem e).wrapRep.get 0 c = (s.blk.elem e).wraps.get 0 c ∧
        (b'.elem e).ctr = (s.blk.elem e).ctr)) ∧
    (g < 32 → (s.blk.region g).cairns = t :: rest → Completes (.cairnSlotRelease g) s (fun b' =>
      (b'.region g).cairns = rest ∧ (s.blk.refclk = true → b'.now = max s.blk.now (t + 64000)))) ∧
    (d < 13 → ∀ x r, s.blk.agents.get [] d = [x] → x.ring = r → s.blk.telPath d = true → (∀ kv ∈ s.blk.elems, dieOf kv.1 = d → kv.2.tel.queue = []) →
      s.blk.lead.who.isSome = true → s.blk.lead.restarting = false → (s.blk.ring r).en = true → (s.blk.ring r).err = false →
      Completes (.telemetryRecordWrite d) s (fun b' => b'.agents.get [] d = [] ∧
        .entry r ((s.blk.ring r).prod % 65536) (leBytes (x.pay.toNat + phaseAt (s.blk.ring r).prod * 2 ^ 15) 64) ∈ b'.hostOut))

/-- Bandwidth windows, samples, wrap records, cairn slots and telemetry agents. -/
def Obligations.TelemetryAndBandwidthWindows : Prop :=
  Claims.BandwidthWindow ∧ Claims.TelemetryTimers

/-- 15 R416, R418: the stale timer of a ring that holds unread entries sends the ring's vector STALE us after its count began, and starts the
count again; an error of the host-memory port stops the ring and makes its vector due. -/
def Claims.RingTimers : Prop :=
  ∀ (s : State) (r : Nat), r < 23 → (s.blk.ring r).en = true →
    (8 ≤ r → (s.blk.ring r).err = false → (s.blk.ring r).stale ≠ 0 → (s.blk.ring r).unread ≠ 0 → (s.blk.vec (s.blk.ring r).vector).mask = false →
      Completes (.ringStaleTimeout r) s (fun b' =>
        b'.hostOut = .irq (s.blk.ring r).vector (s.blk.vec (s.blk.ring r).vector).addr (s.blk.vec (s.blk.ring r).vector).data :: s.blk.hostOut ∧
        (s.blk.refclk = true → b'.now = max s.blk.now ((s.blk.ring r).staleFrom + (s.blk.ring r).stale * us)) ∧
        b'.ring r = { s.blk.ring r with staleFrom := b'.now })) ∧
    Completes (.hostPortError r) s (fun b' => b'.ring r = { s.blk.ring r with err := true } ∧
      ((s.blk.vec (s.blk.ring (if r < 8 then r + 8 else r)).vector).mask = true →
        (b'.vec (s.blk.ring (if r < 8 then r + 8 else r)).vector).pending = true))

/-- 05 R155, R161, R163: at S the shadow list of a Tollgate becomes its active list, with its base time; a Tollgate that gets S before its die's
Fabric Time has passed it waits for S, and one that gets it later switches at once and reports GATE_LATE. -/
def Claims.GateSwitch : Prop :=
  ∀ (s : State) (n S B : Nat), isNi n = true → s.blk.rests n = false → s.blk.lead.flights = [] → (s.blk.gate n).queue = [] →
    ((s.blk.gate n).pend = some (S, B) → Completes (.gateSwitch n) s (fun b' =>
      (b'.gate n).active = (s.blk.gate n).shadow ∧ (b'.gate n).base = B ∧ (b'.gate n).pend = none ∧ b'.wsh = s.blk.wsh)) ∧
    ((s.blk.gate n).pendMsg = some (S, B) → s.blk.ftOf n ≤ S → Completes (.switchInstantReceipt n) s (fun b' =>
      b' = s.blk.modGate n (fun g => { g with pend := some (S, B), pendMsg := none }))) ∧
    ((s.blk.gate n).pendMsg = some (S, B) → S < s.blk.ftOf n → Completes (.switchInstantReceipt n) s (fun b' =>
      (b'.gate n).active = (s.blk.gate n).shadow ∧ (b'.gate n).base = B ∧ Raised s.blk b' n 0x14 0))

/-- 05 R161: the switch instant of a `GATE_ACTIVATE`: B itself where B is at least 2 us (6,400 FCLK) after acceptance; otherwise the first whole
number of cycles after B that is. -/
def Claims.SwitchInstantIsTheFirstTurn : Prop :=
  ∀ (acc base cycle : Nat), 0 < cycle →
    (acc + 6400 ≤ base → switchAt acc base cycle = base) ∧
    (base < acc + 6400 → acc + 6400 ≤ switchAt acc base cycle ∧ ∃ n, switchAt acc base cycle = base + n * cycle ∧
      ∀ m, acc + 6400 ≤ base + m * cycle → n ≤ m)

/-- The stale timer and port errors of a ring; the switch of a gate list and its instant. -/
def Obligations.RingTimersAndGateSwitch : Prop :=
  Claims.RingTimers ∧ Claims.GateSwitch ∧ Claims.SwitchInstantIsTheFirstTurn

/-- 03 R103 steps 2 to 4, R108: a receiver that gets EPOCH_COMMIT takes the new epoch and leaves the list of those to receive; one that rests or
is fenced is passed over and listed to take it when it returns; with the last acknowledgement the commit point is reached and the new epoch
is in force. -/
def Claims.RouteEpochCommit : Prop :=
  ∀ (s : State) (c : Commit) (e : Nat), isReceiver e = true → s.blk.lead.commit = some c →
    (e ∈ c.waitRcv → s.blk.lead.load = none → s.blk.asleep e = false → Completes (.epochCommit e false) s (fun b' =>
      (b'.ni e).epoch = c.epoch ∧ b'.lead.commit = some { c with waitRcv := c.waitRcv.filter (· != e) })) ∧
    (e ∈ c.waitRcv → s.blk.lead.load = none → s.blk.asleep e = true → Completes (.epochCommit e false) s (fun b' =>
      b'.nis = s.blk.nis ∧ e ∈ b'.lead.sleepers ∧
      b'.lead.commit = some { c with waitRcv := c.waitRcv.filter (· != e), waitAck := c.waitAck.filter (· != e) })) ∧
    (e ∉ c.waitRcv → c.point = none → (c.waitAck.filter (· != e) ≠ [] ∨ c.waitRcv ≠ []) → Completes (.epochCommitAck e false) s (fun b' =>
      b' = s.blk.modLead (fun l => { l with commit := some { c with waitAck := c.waitAck.filter (· != e) } }))) ∧
    (c.waitRcv = [] → c.point = none → c.waitAck = [e] → c.why = 0 → Completes (.epochCommitAck e false) s (fun b' =>
      b'.lead.epoch = c.epoch ∧ b'.lead.commit = some { c with waitAck := [], point := some s.blk.now, round := none, waitDrain := List.range 32 }))

/-- 03 R103 steps 5 to 7, R104, R105: after the commit point each region's counter of old-epoch packets is read once a microsecond, in rounds,
and is zero where the region is fenced or rests; one that counts packets, or a report of an earlier round, leaves the region waited for;
with the last zero report of one round, or at the drain limit with EPOCH_DRAIN_TIMEOUT raised, the old epoch retires: its tables take a copy
of those in force, and the driver's ROUTE_COMMIT has completed. -/
def Claims.RouteEpochDrain : Prop :=
  ∀ (s : State) (c : Commit) (g t n : Nat), g < 32 → s.blk.lead.commit = some c → c.point = some t →
    (∀ k, k = (s.blk.now - t + us - 1) / us →
      (c.round ≠ some k → Completes (.drainQueryTick g) s (fun b' => (b'.region g).report =
        some (k, if s.blk.regionQuiet g then 0 else min 65535 (s.blk.drainCount g (!c.epoch))) ∧
        ∃ c', b'.lead.commit = some c' ∧ c'.round = some k ∧ c'.waitDrain = List.range 32)) ∧
      (c.round = some k → Completes (.drainQueryTick g) s (fun b' => (b'.region g).report = some (k, c.counts.get 0 g) ∧
        b'.lead.commit = some c))) ∧
    (∀ k, (s.blk.region g).report = some (k, n) → 0 < n ∨ c.round ≠ some k → Completes (.epochDrainReport g) s (fun b' =>
      b' = s.blk.modRegion g (fun r => { r with report := none }))) ∧
    (∀ k, (s.blk.region g).report = some (k, 0) → c.round = some k → (∃ k ∈ c.waitDrain, k ≠ g) → Completes (.epochDrainReport g) s (fun b' =>
      b'.lead.commit = some { c with waitDrain := c.waitDrain.filter (· != g) })) ∧
    (c.why = 0 → s.blk.lead.flights = [] → s.blk.lead.commitQ = [] → s.blk.lead.steerQ = [] → (∀ k, k < 8 → (s.blk.port k).awaits = false) →
      (∀ k, (s.blk.region g).report = some (k, 0) → c.round = some k → c.waitDrain = [g] → Completes (.epochDrainReport g) s (fun b' =>
        b'.lead.commit = none ∧ b'.lead.routeOk = true ∧ b'.facts (!c.epoch) = s.blk.facts c.epoch ∧ b'.facts c.epoch = s.blk.facts c.epoch)) ∧
      (s.blk.elems = [] → Completes .epochDrainTimeout s (fun b' =>
        b'.lead.commit = none ∧ b'.lead.routeOk = true ∧ b'.facts (!c.epoch) = s.blk.facts c.epoch ∧
        Raised s.blk b' s.blk.leadSrc 0x15 1)))

/-- The commit, drain and retirement of a route epoch. -/
def Obligations.RouteEpochs : Prop :=
  Claims.RouteEpochCommit ∧ Claims.RouteEpochDrain

/-- 06 R191, 16 R430: the map commit. An NI that gets EPOCH_COMMIT takes the new map epoch with an empty cache; with the last acknowledgement
the new epoch and granule size are in force; when no lookup sent before is outstanding the banks in service copy; with the last bank the
idle copy is the copy in force. -/
def Claims.MapEpochs : Prop :=
  ∀ (s : State) (n g gr t : Nat),
    (isNi n = true → s.blk.lead.mapGran = some gr → n ∈ s.blk.lead.mapRcv → (s.blk.gate n).queue = [] → (s.blk.ni n).lookups = [] →
      (s.blk.ni n).rels = [] → Completes (.epochCommit n true) s (fun b' => b'.ni n = { s.blk.ni n with mapEpoch := !s.blk.lead.mapEpoch, cache := [] } ∧
        b'.lead.mapRcv = s.blk.lead.mapRcv.filter (· != n))) ∧
    (isNi n = true → s.blk.lead.mapGran = some gr → s.blk.lead.mapAck = [n] → n ∉ s.blk.lead.mapRcv → s.blk.lead.mapPoint = none →
      Completes (.epochCommitAck n true) s (fun b' => b'.lead.mapEpoch = (!s.blk.lead.mapEpoch) ∧ b'.lead.gran = gr ∧
        b'.lead.mapPoint = some s.blk.now ∧ b'.lead.mapAck = [])) ∧
    (s.blk.lead.mapPoint = some t → s.blk.lead.mapCopy = [] → s.blk.oldLookups t = false → Completes .mapEpochRetire s (fun b' =>
      (∀ k, k ∈ b'.lead.mapCopy ↔ k < 32 ∧ (s.blk.region k).bankOut = false ∧ s.blk.regionQuiet k = false) ∧
      ∀ k, k ∈ b'.lead.mapCopy → (b'.region k).bankCopied = false)) ∧
    (g < 32 → s.blk.lead.mapCopy = [g] → s.blk.lead.flights = [] → s.blk.map.wf = true → Completes (.mapBankCopyDone g) s (fun b' =>
      b'.lead.mapGran = none ∧ b'.lead.mapPoint = none ∧ b'.lead.mapOk = true ∧ (b'.region g).bankCopied = true ∧
      ∀ k, k < 65536 → b'.map.get 0 k = b'.map.get 0 (65536 + k) ∧
        b'.map.get 0 k = s.blk.map.get 0 ((if s.blk.lead.mapEpoch then 65536 else 0) + k)))

/-- 06 R189, 03 R109, 06 R200, 11 R318: a bank answers its oldest lookup with MAP_FILL; an MGT_WRITE that reaches an endpoint is answered
MGT_ACK; RESET_NOTICE and FENCE_NOTICE break the locks of the owner they name. -/
def Claims.MapServiceAndNotices : Prop :=
  ∀ (s : State) (g n : Nat) (h : BitVec 128) (rest : List (BitVec 128)), s.blk.fatal = false →
    (24 ≤ g → g < 32 → (s.blk.region g).lookq = h :: rest → (s.blk.region g).bankOut = false → (s.blk.elem (bankSrc g)).badRows = [] →
      noUnit (nodeNi (s.blk.bankNode g)) = false → Completes (.mapLookupServe g) s (fun b' => (b'.region g).lookq = rest ∧
        ∃ q, (b'.gate (nodeNi (s.blk.bankNode g))).mgtq = (s.blk.gate (nodeNi (s.blk.bankNode g))).mgtq ++ [q] ∧ hOpc q.hdr = 6 ∧
          hTag q.hdr = hTag h ∧ q.pays = [s.blk.fillPay (s.blk.region g).bankEpoch (granuleOf s.blk.lead.gran (hAddr h))])) ∧
    (∀ dest srcN tag addr, nodeOk dest = true → isNi (nodeNi dest) = true → noUnit (nodeNi dest) = false → s.blk.stwOut (nodeNi dest) = false →
      s.blk.stwHeld (nodeNi dest) = none → Completes (.mgtRequest dest srcN 1 tag addr true) s (fun b' => ∃ q, (b'.gate (nodeNi dest)).mgtq = (s.blk.gate (nodeNi dest)).mgtq ++ [q] ∧
        hOpc q.hdr = 2 ∧ hTag q.hdr = tag)) ∧
    (∀ i l inc, isNi n = true → (s.blk.ni n).locks = [(i, l)] → l.broken = false → l.inc ≠ inc → canon l.owner = l.owner →
      Completes (.resetNotice n l.owner inc) s (fun b' => (b'.ni n).locks = [(i, { l with broken := true })] ∧ Raised s.blk b' n 0x12 1)) ∧
    (∀ i l ty id, isNi n = true → scopeOk ty id = true → (s.blk.ni n).locks = [(i, l)] → l.broken = false → nodePkg l.owner < 16 →
      (ty, id) ∈ elemScopes (nodeNi l.owner) → Completes (.fenceNotice n (nodePkg l.owner) ty id) s (fun b' =>
        (b'.ni n).locks = [(i, { l with broken := true })] ∧ Raised s.blk b' n 0x12 1))

/-- The map commit, map lookups, management requests and notices. -/
def Obligations.MapEpochsAndService : Prop :=
  Claims.MapEpochs ∧ Claims.MapServiceAndNotices

/-- 06 R173, R178, R208; 02 R70: a packet that passes the checks at the unit port, with a reachable destination, is formed into a header, takes
a free tag where its opcode holds one, uses its transmit credits, of those that have come back so far, and enters its tier queue; one that
fails a check is answered UNIT_REFUSED, RSP ABORT_NOT_DELIVERED, to the unit; one beyond the credits is a fault of the port. -/
def Claims.UnitPacket : Prop :=
  ∀ (s : State) (n : Nat) (p : UnitPkt), isNi n = true → p.WellFormed = true → s.blk.fatal = false → (s.blk.ni n).portUp = true →
    noUnit n = false → s.blk.domSt n = 0 → (s.blk.ford (.unitPort n)).stopped = false → (s.blk.ford (.unitPort n)).up = [] →
    (p.pays.length ≤ (s.blk.txSync n).txHeld n p.tier → (s.blk.ni n).fenced = false → unitChecks p = true → p.dsel = true →
      p.dparErr = false → p.bufErr = false → isLockOp p.cls p.opc = false →
      s.blk.oversize n (s.blk.gate n).active p.tier p.pays.length = false → s.blk.reachable n (s.blk.ni n).epoch (canon p.dest) = true →
      (s.blk.gate n).queue = [] → (s.blk.ni n).lookups = [] → (s.blk.ni n).rels = [] →
      (holdsTag p.cls p.opc = true → (s.blk.ni n).free unitTags ≠ []) →
      Completes (.unitPacket n p) s (fun b' => ∃ tag : Nat,
        (b'.gate n).queue.get [] p.tier = [{ hdr := unitHdr s.blk.pkgid n p (BitVec.ofNat 10 tag), pays := p.pays, resolved := true, uid := p.uid }] ∧
        (b'.ni n).txTaken.get 0 p.tier = (s.blk.ni n).txTaken.get 0 p.tier + p.pays.length ∧
        (holdsTag p.cls p.opc = true → tag < 1016 ∧ (s.blk.ni n).tags.find tag = none ∧ (b'.ni n).tags.find tag = some { uid := p.uid }) ∧
        (holdsTag p.cls p.opc = false → tag = p.tag.toNat))) ∧
    (p.pays.length ≤ (s.blk.txSync n).txHeld n p.tier → (s.blk.ni n).fenced = false → unitChecks p = false →
      Completes (.unitPacket n p) s (fun b' => b'.gates = s.blk.gates ∧
        ∃ r, (b'.ni n).rx = (s.blk.ni n).rx ++ [r] ∧ hCls r.hdr = RSP ∧ hOpc r.hdr = 0x10 ∧ hTag r.hdr = p.tag ∧ r.uid = p.uid)) ∧
    ((s.blk.txSync n).txHeld n p.tier < p.pays.length → Completes (.unitPacket n p) s (fun b' =>
      Raised s.blk b' n 0x06 (if s.blk.escalates (linkScope n 0).1 (linkScope n 0).2 then 3 else 2) ∧
        (b'.scope (linkScope n 0).1 (linkScope n 0).2).stopped = true))

/-- 07 R226, R229: while the domain of an NI rests, its unit-port Ford holds the packets of the unit, as far as its 8 flits reach. -/
def Claims.UnitPacketWaits : Prop :=
  ∀ (s : State) (n : Nat) (p : UnitPkt), isNi n = true → p.WellFormed = true → s.blk.fatal = false → (s.blk.ni n).portUp = true →
    noUnit n = false → (s.blk.ford (.unitPort n)).stopped = false → s.blk.domSt n = 4 → (s.blk.ford (.unitPort n)).up = [] →
    (p.pays.length ≤ 8 → Completes (.unitPacket n p) s (fun b' => (b'.ford (.unitPort n)).up = [p] ∧ b'.ni n = s.blk.ni n)) ∧
    (8 < p.pays.length → Completes (.unitPacket n p) s (fun b' => b'.fords = s.blk.fords ∧ b'.ni n = s.blk.ni n))

/-- 06 R175, R196, R205, R206; 07 R228: a receive credit counts for its class; the packet that comes next is handed to the unit, its credits are
used, and a REQ or SNP enters the answer ledger; while the unit's clock stands still the Ford holds up to 8 flits for it. -/
def Claims.UnitDelivery : Prop :=
  ∀ (s : State) (n cls : Nat) (p : RPkt), isNi n = true → (s.blk.ni n).portUp = true →
    ((s.blk.ford (.unitPort n)).stopped = true → (s.blk.ford (.unitPort n)).down = [] → (s.blk.ni n).nextDelivery = some p →
      (s.blk.elem n).ins = [] → Completes (.unitDelivery n) s (fun b' => (b'.ni n).toUnit = (s.blk.ni n).toUnit ∧
        (b'.ford (.unitPort n)).down = if p.pays.length ≤ 8 then [⟨p.hdr, p.pays, p.uid⟩] else [])) ∧
    ((s.blk.ford (.unitPort n)).stopped = false → cls < 5 → Completes (.unitReceiveCredit n cls) s (fun b' =>
      b' = s.blk.modNi n (fun x => { x with rxCred := x.rxCred.mod 0 cls (· + 1) }))) ∧
    ((s.blk.ford (.unitPort n)).stopped = false → (s.blk.ni n).nextDelivery = some p → (s.blk.elem n).ins = [] → Completes (.unitDelivery n) s (fun b' =>
      b'.ni n = { s.blk.ni n with
        rx := (s.blk.ni n).rx.erase p, msgq := (s.blk.ni n).msgq.erase p,
        rxCred := (s.blk.ni n).rxCred.mod 0 (hCls p.hdr) (· - p.pays.length),
        ledger := if hCls p.hdr = REQ ∨ hCls p.hdr = SNP then (s.blk.ni n).ledger ++ [p.hdr] else (s.blk.ni n).ledger,
        toUnit := ⟨p.hdr, p.pays, p.uid⟩ :: (s.blk.ni n).toUnit }))

/-- 05 R141: the Tollgate. With no packet in progress and none of its own, it starts the eligible head of tier 3, which leaves its queue while
its tag becomes outstanding; a packet in progress sends its next flit onto the wire of its port as soon as there is a credit. -/
def Claims.TollgateStart : Prop :=
  ∀ (s : State) (n : Nat), isNi n = true → s.blk.fatal = false → (s.blk.ni n).fenced = false → s.blk.domSt n = 0 →
    (s.blk.gate n).lastSend = none → (s.blk.gate n).pre = none →
    (∀ p q a r, (s.blk.gate n).cur = some p → p.tier = none → p.ports = [q] → peer n q = some (a, r) →
      s.blk.outFenced n q = false → s.blk.portsReady n [q] p.vc true = true →
      Completes (.tollgateStart n) s (fun b' =>
        (∃ f, b'.wires.get [] (wkey a r) = s.blk.wires.get [] (wkey a r) ++ [(p.vc, f)] ∧ f.hdr = p.hdr ∧ f.pay = p.pkt.pays.getD p.sent 0 ∧
          f.copy = p.copy) ∧
        (b'.gate n).cur = (if p.sent + 1 = p.pkt.pays.length then none else some { p with sent := p.sent + 1 }) ∧
        (b'.gate n).lastSend = some s.blk.now)) ∧
    (∀ p ports vc, s.blk.closed n = false → (s.blk.gate n).cur = none → (s.blk.gate n).mgtq = [] → (s.blk.gate n).ownq = [] → s.blk.headOf n 3 = some p →
      hCls p.hdr ≠ MGT → s.blk.eligible n 3 p = true → s.blk.reachable n (s.blk.ni n).epoch (hDest p.hdr) = true →
      s.blk.injPlan n (setF (s.blk.stamp n p.hdr) 74 3 (p.pays.length - 1)) = some (ports, vc) → s.blk.portsReady n ports vc false = true →
      Completes (.tollgateStart n) s (fun b' =>
        (b'.gate n).queue.get [] 3 = ((s.blk.gate n).queue.get [] 3).erase p ∧ (b'.gate n).sentTier = some 3 ∧
        (holdsTag (hCls p.hdr) (hOpc p.hdr) = true → ((b'.ni n).tags.get {} (hTag p.hdr).toNat).since = some s.blk.now)))

/-- A unit packet enters its tier queue or is refused; delivery; the Tollgate starts packets. -/
def Obligations.UnitPortAndTollgate : Prop :=
  Claims.UnitPacket ∧ Claims.UnitPacketWaits ∧ Claims.UnitDelivery ∧ Claims.TollgateStart

/-- 07 R229, R230, R232; 06 R174, R207: the reset notice of a Ford, which either side may raise. The other side, once its domain is On and its
clock runs, flushes and acknowledges; at a unit port the NI holds no receive credits, and takes a new incarnation where it is the unit that
resets; the request falls, then the acknowledgement, and with no notice left the port is up again, with no credits yet. -/
def Claims.FordReset : Prop :=
  ∀ (s : State) (f : FordId), f.WellFormed = true →
    ((s.blk.ford f).quietReset = true → (s.blk.ford f).stopped = false → s.blk.sideOn (fordWake f) = true → s.blk.sideOn (fordFar f) = true →
      Completes (.fordReset ⟨f, false⟩) s (fun b' => (b'.ford f).req = true ∧ (b'.ford f).ack = true ∧
        (∀ g : FordId, g.key ≠ f.key → b'.ford g = s.blk.ford g) ∧ ∀ n, f = .unitPort n → (b'.ni n).portUp = false ∧
          (b'.ni n).rxCred = [] ∧ (b'.ni n).inc = (s.blk.ni n).inc + 1 ∧ (b'.ford f).up = [] ∧ (b'.ford f).down = []) ∧
      Completes (.fordReset ⟨f, true⟩) s (fun b' => (b'.ford f).reqF = true ∧ (b'.ford f).ackF = true ∧
        (∀ g : FordId, g.key ≠ f.key → b'.ford g = s.blk.ford g) ∧ ∀ n, f = .unitPort n → (b'.ni n).portUp = false ∧
          (b'.ni n).rxCred = [] ∧ (b'.ni n).inc = (s.blk.ni n).inc ∧ (b'.ford f).up = [] ∧ (b'.ford f).down = [])) ∧
    ((s.blk.ford f).quietReset = true → (s.blk.ford f).stopped = false → ∀ d l, fordWake f = some (d, l) → (s.blk.dom d).st = 4 →
      (s.blk.dom d).unarmed = false → s.blk.domFenced d = false → Completes (.fordReset ⟨f, false⟩) s (fun b' =>
        (b'.ford f).req = true ∧ (b'.ford f).ack = false ∧ (b'.dom d).st = 5)) ∧
    ((s.blk.ford f).ack = true → (s.blk.ford f).stopped = false → Completes (.fordResetAck ⟨f, false⟩) s (fun b' =>
      b' = s.blk.modFord f (fun x => { x with req := false }))) ∧
    ((s.blk.ford f).ackF = true → Completes (.fordResetAck ⟨f, true⟩) s (fun b' => b' = s.blk.modFord f (fun x => { x with reqF := false }))) ∧
    ((s.blk.ford f).ack = true → (s.blk.ford f).req = false → ((s.blk.ford f).reqF = true ∨ (s.blk.ford f).ackF = true) →
      Completes (.fordResetDone ⟨f, false⟩) s (fun b' => b' = s.blk.modFord f (fun x => { x with ack := false }))) ∧
    ((s.blk.ford f).ack = true → (s.blk.ford f).req = false → (s.blk.ford f).reqF = false → (s.blk.ford f).ackF = false →
      Completes (.fordResetDone ⟨f, false⟩) s (fun b' => (b'.ford f).ack = false ∧ ∀ n, f = .unitPort n → (b'.ni n).portUp = true ∧
        (b'.ni n).rxCred = [] ∧ ∀ t, b'.txHeld n t = 0)) ∧
    ((s.blk.ford f).ackF = true → (s.blk.ford f).reqF = false → (s.blk.ford f).stopped = false → (s.blk.ford f).req = false →
      (s.blk.ford f).ack = false → Completes (.fordResetDone ⟨f, true⟩) s (fun b' => (b'.ford f).ackF = false ∧ ∀ n, f = .unitPort n →
        (b'.ni n).portUp = true ∧ (b'.ni n).rxCred = [] ∧ ∀ t, b'.txHeld n t = 0))

/-- 07 R226 to R228: a Ford whose far clock stops raises FORD_STALL after 4 us, if it holds something and its side does not sleep; when the
clock returns the Ford resumes without loss and counts the stall; one that does not agree within 1,024 cycles raises FORD_UNSTABLE. -/
def Claims.FordClocks : Prop :=
  ∀ (s : State) (f : FordId), f.WellFormed = true →
    ((s.blk.ford f).stalled = false → s.blk.fordSilent f = false → Completes (.fordStall f) s (fun b' =>
      b'.ford f = { s.blk.ford f with stopped := true, stalled := s.blk.fordHolds f } ∧
      (if s.blk.fordHolds f then Raised s.blk b' (fordSrc f) 0x39 0 else b'.wsh = s.blk.wsh) ∧
      b'.now = (if s.blk.refclk && !(s.blk.ford f).stopped then s.blk.now + 4 * us else s.blk.now))) ∧
    (s.blk.fordSilent f = true → Completes (.fordStall f) s (fun b' => b' = s.blk)) ∧
    Completes (.fordUnstable f) s (fun b' => Raised s.blk b' (fordSrc f) 0x3A 0 ∧ b'.fords = s.blk.fords) ∧
    ((s.blk.ford f).stopped = true → (s.blk.ford f).quietReset = true → s.blk.sideOn (fordFar f) = true → Completes (.fordClockReturn f) s (fun b' =>
      b'.ford f = { s.blk.ford f with
        stopped := false, stalled := false, down := [], reqs := [], recs := [],
        stalls := (s.blk.ford f).stalls + (if (s.blk.ford f).stalled then 1 else 0) } ∧
      (∀ n, f = .unitPort n → (b'.ni n).toUnit = (s.blk.ford f).down.reverse ++ (s.blk.ni n).toUnit) ∧
      ((s.blk.ford f).reqs = [] → (s.blk.ford f).recs = [] → b'.wsh = s.blk.wsh))) ∧
    ((s.blk.ford f).stopped = false → Completes (.fordClockReturn f) s (fun b' => b' = s.blk))

/-- The reset notice of a Ford, its stall and its clock. -/
def Obligations.Fords : Prop :=
  Claims.FordReset ∧ Claims.FordClocks

/-- 02 R70, 06 R175: a REQ of one flit that arrives whole at its target waits for the unit; one beyond correction is a fault of the link. -/
def Claims.PacketArrival : Prop :=
  ∀ (s : State) (n p vc : Nat) (f : Flit) (err : BitVec 672) (rest : List (Nat × Flit)), niIn n p = true → isNi n = true →
    s.blk.wires.get [] (wkey n p) = (vc, f) :: rest → hCls f.hdr = REQ → s.blk.elemFenced n = false →
    s.blk.scFenced (linkScope n p).1 (linkScope n p).2 = false → vc < vcCount n → 0 < vcDepth n vc → (s.blk.elem n).ins = [] →
    (err = 0 → hLen f.hdr = 0 → opKnown REQ (hOpc f.hdr) = true → isLockOp REQ (hOpc f.hdr) = false → noUnit n = false → s.blk.stwOut n = false →
      (s.blk.ni n).mask.testBit (hPart f.hdr) = true → s.blk.epProfile (hEpoch f.hdr) ≠ 8 → (s.blk.ni n).room REQ = true →
      (s.blk.ni n).rx = [] → (s.blk.ni n).msgq = [] → ∀ i ∈ [Instr.niPacketArrival n p err, .flitReceive n p err false], Completes i s (fun b' =>
        b'.wires.get [] (wkey n p) = rest ∧ ∃ e, (b'.ni n).rx = [e] ∧ e.hdr = f.hdr ∧ e.pays = [f.pay] ∧ e.whole = true)) ∧
    (decodeErr err = none → Completes (.niPacketArrival n p err) s (fun b' => Raised s.blk b' n 0x02
      (if s.blk.escalates (linkScope n p).1 (linkScope n p).2 then 3 else 2) ∧
      (b'.scope (linkScope n p).1 (linkScope n p).2).stopped = true))

/-- 02 R66, R69; 06 R188: an ABORT_NOT_DELIVERED that the fabric originated frees the tag of its packet and waits for the unit, an
ABORT_INDETERMINATE quarantines it; a MAP_FILL of the NI's map epoch closes its lookup, frees its tag and enters the map cache. -/
def Claims.AnswerArrival : Prop :=
  ∀ (s : State) (n p : Nat) (g : Tag) (a : AbortPkt) (err : BitVec 672), niIn n p = true → isNi n = true → noUnit n = false →
    (s.blk.wires.get [] (wkey n p) = [] → s.blk.aborts = [a] → nodePkg (hDest a.hdr) = s.blk.pkgid → nodeNi (hDest a.hdr) = n →
      hCls a.hdr = RSP → g.dup = false → (hTag a.hdr).toNat < 1016 → (s.blk.ni n).tags.find (hTag a.hdr).toNat = some g →
      g.quar = false → g.since.isSome = true → g.heldAbort = none → pWord a.pay 11 2 ≠ 129 →
      (hOpc a.hdr = 0x10 → Completes (.answerReceive n p err) s (fun b' => b'.aborts = [] ∧ (b'.ni n).tags.find (hTag a.hdr).toNat = none ∧
        ∃ r, (b'.ni n).rx = (s.blk.ni n).rx ++ [r] ∧ r.hdr = a.hdr ∧ r.pays = [a.pay] ∧ r.uid = g.uid)) ∧
      (hOpc a.hdr = 0x11 → Completes (.answerReceive n p err) s (fun b' => b'.aborts = [] ∧
        ((b'.ni n).tags.find (hTag a.hdr).toNat).map (·.quar) = some true))) ∧
    (∀ vc f rest l, s.blk.wires.get [] (wkey n p) = (vc, f) :: rest → err = 0 → hCls f.hdr = MGT → hOpc f.hdr = 6 → hLen f.hdr = 0 →
      s.blk.elemFenced n = false → s.blk.scFenced (linkScope n p).1 (linkScope n p).2 = false → vc < vcCount n → 0 < vcDepth n vc →
      (s.blk.elem n).ins = [] → (s.blk.ni n).rx = [] → (s.blk.ni n).msgq = [] → s.blk.epProfile (hEpoch f.hdr) ≠ 8 →
      (s.blk.ni n).outstanding (hTag f.hdr).toNat = true → (s.blk.ni n).rels = [] → (s.blk.ni n).lookups = [((hTag f.hdr).toNat, l)] →
        (s.blk.gate n).queue = [] →
      (pByte f.pay 51).testBit 0 = (s.blk.ni n).mapEpoch → Completes (.mapFillReceipt n p err) s (fun b' =>
        (b'.ni n).lookups = [] ∧ (b'.ni n).tags.find (hTag f.hdr).toNat = none ∧
        ∃ e, (b'.ni n).cache.head? = some e ∧ e.granule = l.granule ∧ e.entry = pWord f.pay 48 2 ∧ e.epoch = (s.blk.ni n).mapEpoch))

/-- Requests, answers and map fills that arrive at a network interface. -/
def Obligations.ArrivalsAtAnInterface : Prop :=
  Claims.PacketArrival ∧ Claims.AnswerArrival

/-- 02 R68, R69; 06 R201, R203: a tag without answer for 200 ms raises TAG_ORPHAN, its unit is answered and it is quarantined; it is free again
200 ms later; a lease that has expired breaks its lock at the next microsecond; lock amnesia ends. -/
def Claims.NiTimers : Prop :=
  ∀ (s : State) (n t : Nat) (g : Tag), isNi n = true → s.blk.refclk = true →
    (t < 1016 → (s.blk.ni n).tags.find t = some g → g.quar = false → g.heldAbort = none → ∀ t0, g.since = some t0 →
      Completes (.tagOrphan n t) s (fun b' => b'.now = max s.blk.now (t0 + 640000000) ∧ Raised s.blk b' n 0x0B 1 ∧
        ((b'.ni n).tags.find t).map (·.quar) = some true ∧
        ∃ r, (b'.ni n).rx = (s.blk.ni n).rx ++ [r] ∧ hOpc r.hdr = 0x11 ∧ r.uid = g.uid)) ∧
    (t < 1024 → (s.blk.ni n).tags.find t = some g → g.quar = true → (s.blk.ni n).lookups = [] → (s.blk.ni n).rels = [] →
      (s.blk.gate n).queue = [] →
      Completes (.tagQuarantineEnd n t) s (fun b' => b'.now = max s.blk.now (g.since.getD 0 + 640000000) ∧
        (b'.ni n).tags.find t = none)) ∧
    (∀ i l, (s.blk.ni n).locks = [(i, l)] → l.broken = false → l.expiry ≤ s.blk.ftOf n → s.blk.now % 3200 = 0 → s.blk.domSt n = 0 →
      Completes (.lockSweep n) s (fun b' => (b'.ni n).locks = [(i, { l with broken := true })] ∧ Raised s.blk b' n 0x12 1 ∧ b'.now = s.blk.now)) ∧
    ((s.blk.ni n).amnesiaTo ≠ 0 → Completes (.lockAmnesiaEnd n) s (fun b' => b'.ni n = { s.blk.ni n with amnesiaTo := 0 } ∧
      b'.now = max s.blk.now (s.blk.ni n).amnesiaTo))

/-- 06 R190, 13 R370, 03 R95: a lookup unanswered for 20 us goes to the alternate bank, its tag quarantined; the oldest pair of a duplicate
filter and of an exit filter retires after the watchdog interval and 100 us. -/
def Claims.LookupAndFilterTimers : Prop :=
  ∀ (s : State) (n k t : Nat) (l : Lookup), isNi n = true → k < 8 → t < 1024 → s.blk.refclk = true →
    ((s.blk.ni n).lookups = [(t, l)] → l.second = false → noUnit n = false → (∃ u, u ≠ t ∧ 1016 ≤ u ∧ u < 1024 ∧ (s.blk.ni n).tags.find u = none) →
      Completes (.mapLookupTimeout n t) s (fun b' => b'.now = max s.blk.now (l.at_ + 64000) ∧
        ((b'.ni n).tags.find t).map (·.quar) = some true ∧
        ∃ u m, (b'.ni n).lookups = [(u, m)] ∧ u ≠ t ∧ 1016 ≤ u ∧ m.granule = l.granule ∧ m.second = true ∧ m.at_ = b'.now)) ∧
    (∀ e u rest, (s.blk.ni n).dupf = (e, u, t) :: rest → Completes (.duplicateFilterRetire n) s (fun b' =>
      (b'.ni n).dupf = rest ∧ b'.now = max s.blk.now (t + (s.blk.lead.watchdog + 100) * 3200))) ∧
    (∀ e u rest, (s.blk.port k).exitf = (e, u, t) :: rest → Completes (.exitFilterRetire k) s (fun b' =>
      (b'.port k).exitf = rest ∧ b'.now = max s.blk.now (t + (s.blk.lead.watchdog + 100) * 3200)))

/-- Tag, lock, lookup and filter timers of a network interface. -/
def Obligations.InterfaceTimers : Prop :=
  Claims.NiTimers ∧ Claims.LookupAndFilterTimers

/-- 02 R67, R77, 04 R112, R113, 11 R334: a flit that arrives without error goes to the back of its VC buffer; a sideband parity error, with or
without a flit, a flit without a slot, and a head beyond correction each raise their fault, both where both fail, the last with the header
as it was received; the packet of a flit that is lost so is answered. -/
def Claims.FlitReceive : Prop :=
  ∀ (s : State) (e p vc : Nat) (f : Flit) (err : BitVec 672) (rest : List (Nat × Flit)),
    (meshIn e p = true ∨ (niIn e p = true ∧ (s.blk.elem e).ins = [])) → s.blk.elemFenced e = false →
    s.blk.linkFenced e p = false →
    (s.blk.wires.get [] (wkey e p) = [] → Completes (.flitReceive e p err true) s (fun b' =>
      Raised s.blk b' e 0x04 (if s.blk.escalates (linkScope e p).1 (linkScope e p).2 then 3 else 2) ∧
      (b'.scope (linkScope e p).1 (linkScope e p).2).stopped = true)) ∧
    (s.blk.wires.get [] (wkey e p) = (vc, f) :: rest →
      (meshIn e p = true → err = 0 → vc < vcCount e → ((s.blk.elem e).vc p vc).q.length < vcDepth e vc → ((s.blk.elem e).vc p vc).drop = false →
        (((s.blk.elem e).vc p vc).rem = 0 → hCls f.hdr ≠ 7 ∧ hEsc f.hdr ≠ 3) → Completes (.flitReceive e p err false) s (fun b' =>
          b'.wires.get [] (wkey e p) = rest ∧ b'.wsh = s.blk.wsh ∧
          ∃ g, ((b'.elem e).vc p vc).q = ((s.blk.elem e).vc p vc).q ++ [g] ∧ g.hdr = f.hdr ∧ g.pay = f.pay)) ∧
      (err = 0 → Completes (.flitReceive e p err true) s (fun b' =>
        Raised s.blk b' e 0x04 (if s.blk.escalates (linkScope e p).1 (linkScope e p).2 then 3 else 2) ∧
        (b'.scope (linkScope e p).1 (linkScope e p).2).stopped = true)) ∧
      (decodeErr err = none → vc < vcCount e → ((s.blk.elem e).vc p vc).rem = 0 → (s.blk.wsh.die.get [] (dieOf e)).length < 63 →
        Completes (.flitReceive e p err true) s (fun b' => b'.wires.get [] (wkey e p) = rest ∧
          ((b'.elem e).vc p vc).q = ((s.blk.elem e).vc p vc).q ∧ ((b'.elem e).vc p vc).drop = (hLen f.hdr != 0) ∧
          ∃ x y, b'.wsh.die.get [] (dieOf e) = s.blk.wsh.die.get [] (dieOf e) ++ [x, y] ∧ x.src = e ∧ x.kind = 0x04 ∧ y.src = e ∧ y.kind = 0x02 ∧
            y.ext = some (f.hdr ^^^ err.extractLsb' 544 128))) ∧
      (err = 0 → hCls f.hdr = REQ → f.copy = 0 → s.blk.takenBy (pkOf f) = none → s.blk.headless (pkOf f) = false →
        Completes (.flitReceive e p err true) s (fun b' => ∃ a, b'.aborts = s.blk.aborts ++ [a] ∧
          hCls a.hdr = RSP ∧ hOpc a.hdr = 0x10 ∧ hDest a.hdr = hSrc f.hdr ∧ hTag a.hdr = hTag f.hdr)) ∧
      (vc < vcCount e → vcDepth e vc ≤ ((s.blk.elem e).vc p vc).q.length → err = 0 → Completes (.flitReceive e p err false) s (fun b' =>
        Raised s.blk b' e 0x05 (if s.blk.escalates (linkScope e p).1 (linkScope e p).2 then 3 else 2) ∧
        (b'.scope (linkScope e p).1 (linkScope e p).2).stopped = true)) ∧
      (vc < vcCount e → ((s.blk.elem e).vc p vc).q.length < vcDepth e vc → ((s.blk.elem e).vc p vc).rem = 0 → decodeErr err = none →
        Completes (.flitReceive e p err false) s (fun b' =>
          Raised s.blk b' e 0x02 (if s.blk.escalates (linkScope e p).1 (linkScope e p).2 then 3 else 2) ∧
          ((b'.elem e).vc p vc).drop = (hLen f.hdr != 0) ∧ ((b'.elem e).vc p vc).q = ((s.blk.elem e).vc p vc).q)))

/-- 04 R110, R113, R114, R133: a credit that returns is one slot more of its VC, from the next FCLK on; a credit that no flit took is a fault,
as is a parity error; a turn forecast is held for its VC. -/
def Claims.CreditsAndForecasts : Prop :=
  ∀ (s : State) (e p vc a q x : Nat), meshOut e p = true → peer e p = some (a, q) → vc < vcCount a →
    s.blk.linkFenced e p = false → s.blk.elemFenced e = false →
    (s.blk.crWires.get [] (wkey e p) = [] → Completes (.creditReceive e p true) s (fun b' => Raised s.blk b' e 0x04
      (if s.blk.escalates (linkScope e p).1 (linkScope e p).2 then 3 else 2) ∧ (b'.elem e).outs = (s.blk.elem e).outs)) ∧
    (∀ rest, s.blk.crWires.get [] (wkey e p) = vc :: rest →
      (0 < ((s.blk.elem e).out p).used.get 0 vc → Completes (.creditReceive e p false) s (fun b' =>
        b'.crWires.get [] (wkey e p) = rest ∧ b'.freeCr e p vc = s.blk.freeCr e p vc ∧
        ((b'.elem e).out p).used.get 0 vc = ((s.blk.elem e).out p).used.get 0 vc - 1 ∧
        (∀ w, w ≠ vc → ((b'.elem e).out p).used.get 0 w = ((s.blk.elem e).out p).used.get 0 w) ∧ b'.wsh = s.blk.wsh)) ∧
      (((s.blk.elem e).out p).used.get 0 vc = 0 → Completes (.creditReceive e p false) s (fun b' =>
        Raised s.blk b' e 0x05 (if s.blk.escalates (linkScope e p).1 (linkScope e p).2 then 3 else 2) ∧
        (b'.elem e).outs = (s.blk.elem e).outs)) ∧
      Completes (.creditReceive e p true) s (fun b' => Raised s.blk b' e 0x04
        (if s.blk.escalates (linkScope e p).1 (linkScope e p).2 then 3 else 2) ∧ (b'.elem e).outs = (s.blk.elem e).outs)) ∧
    (∀ rest, s.blk.fcWires.get [] (wkey e p) = (vc, x) :: rest →
      Completes (.turnForecastReceive e p false) s (fun b' => b'.fcWires.get [] (wkey e p) = rest ∧
        ((b'.elem e).out p).fc.get 0 vc = x ∧ b'.wsh = s.blk.wsh) ∧
      Completes (.turnForecastReceive e p true) s (fun b' => Raised s.blk b' e 0x04
        (if s.blk.escalates (linkScope e p).1 (linkScope e p).2 then 3 else 2) ∧ (b'.elem e).outs = (s.blk.elem e).outs))

/-- Flits, credits and turn forecasts that arrive at an element. -/
def Obligations.FlitsCreditsAndForecasts : Prop :=
  Claims.FlitReceive ∧ Claims.CreditsAndForecasts

/-- 04 R118, R119: a router with one waiting packet of one flit grants it as soon as its output has a credit and its downstream VC is free: the
flit leaves for the VC decided. 08 R243: an adapter whose link owes a NAK sends it with its next frame. -/
def Obligations.Arbitration : Prop :=
  ∀ (s : State),
    (∀ r p vc o d a q v f, isRouter r = true → vc < 32 → s.blk.elemFenced r = false → s.blk.domSt r = 0 → (s.blk.elem r).ins = [(p * 32 + vc, v)] →
      v.q = [f] → v.sent = 0 → hLen f.hdr = 0 → (s.blk.elem r).badRows = [] → s.blk.decideRoute r p vc f.hdr = .go o d →
      0 < s.blk.freeCr r o d → ((s.blk.elem r).out o).held.find d = none → s.blk.outReady r o = true → peer r o = some (a, q) → s.blk.domSt a = 0 →
      Completes (.arbitration r) s (fun b' => ((b'.elem r).vc p vc).q = [] ∧
        (∃ g, b'.wires.get [] (wkey a q) = s.blk.wires.get [] (wkey a q) ++ [(d, g)] ∧ g.hdr = f.hdr ∧ g.pay = f.pay) ∧
        ((b'.elem r).out o).used.get 0 d = ((s.blk.elem r).out o).used.get 0 d + 1)) ∧
    (∀ a, isDieAdp a = true → (s.blk.elem a).ins = [] → s.blk.elemFenced a = false → s.blk.linkStopped a = false → s.blk.domSt a = 0 →
      s.blk.hclkOff a = false →
      (s.blk.link a).st = .active → (s.blk.link a).nakDue = true → Completes (.arbitration a) s (fun b' =>
        (b'.link a).nakDue = false ∧ ∃ fr, (b'.link (farAdp a)).inbox = (s.blk.link (farAdp a)).inbox ++ [fr] ∧ fr.ty = .nak ∧
          fr.ack = (s.blk.link a).ackNo ∧ fr.slots = []))

/-- 04 R121 to R123, R129, R130, R135: a packet that becomes overdue has its overdue bit set; a packet starved at the head of its VC raises
STARVE once and interrupts the stewards of the region; the watchdog of an output fences the router's cluster. -/
def Claims.MeshTimers : Prop :=
  ∀ (s : State) (r p vc pos : Nat) (f : Flit), isRouter r = true → p < 6 → vc < 21 →
    (((s.blk.elem r).vc p vc).q[pos]? = some f → f.ovd = false → ((s.blk.elem r).vc p vc).sent = 0 → s.blk.refclk = true →
      (s.blk.tb (dieOf r)).k.natAbs ≤ 2147484 → (s.blk.tb (dieOf r)).frac < 2 ^ 32 → Completes (.overdue r p vc pos) s (fun b' =>
        ((b'.elem r).vc p vc).q.map (·.hdr) = ((s.blk.elem r).vc p vc).q.map (·.hdr) ∧
        ∃ g, ((b'.elem r).vc p vc).q[pos]? = some g ∧ g.ovd = true)) ∧
    (((s.blk.elem r).vc p vc).q.head? = some f → ((s.blk.elem r).vc p vc).starved = false → ((s.blk.elem r).vc p vc).sent = 0 →
      (∃ o, ((s.blk.elem r).vc p vc).out = some o ∧ s.blk.outWaking r o = false) → (s.blk.elem r).lastStarve = none →
      Completes (.starve r p vc) s (fun b' => ((b'.elem r).vc p vc).starved = true ∧ Raised s.blk b' r 0x08 0 ∧
        b'.wsh.starveInt = s.blk.wsh.starveInt ++ [(regionOf r, hSrc f.hdr)] ∧ (b'.elem r).lastStarve = some b'.now)) ∧
    ((s.blk.elem r).obligated p = true → s.blk.outWaking r p = false → s.blk.elemFenced r = false → Completes (.outputWatchdog r p) s (fun b' =>
      Raised s.blk b' r 0x07 (if s.blk.escalates 6 (clusterOf r) then 3 else 2) ∧ (b'.scope 6 (clusterOf r)).stopped = true))

/-- 13 R367: at the end of a 4 us window a direction at full width narrows in profile 4 below 3,200 flits, one at half width widens from 5,120
on, and outside profile 4 each is wide; a head that has waited its time for a narrow direction widens it. -/
def Claims.LinkWidth : Prop :=
  ∀ (s : State) (e p : Nat), (isRouter e || isEndpoint e) = true → p < 7 → (peer e p).isSome = true →
    Completes (.linkWidthWindow e p) s (fun b' => ((b'.elem e).out p).winFlits = 0 ∧
      ((b'.elem e).out p).narrow = (decide (s.blk.immProfile = 4) &&
        (if ((s.blk.elem e).out p).narrow then decide (((s.blk.elem e).out p).winFlits < 5120) else decide (((s.blk.elem e).out p).winFlits < 3200)))) ∧
    (((s.blk.elem e).out p).narrow = true → (∃ kv ∈ (s.blk.elem e).ins, kv.2.out = some p ∧ kv.2.sent = 0 ∧ kv.2.q ≠ []) →
      Completes (.linkWidenOnWait e p) s (fun b' => ((b'.elem e).out p).narrow = false)) ∧
    (∀ t, ((s.blk.elem e).out p).narrow = true → (s.blk.elem e).ins = [] → (s.blk.elem e).headFrom = some t → Completes (.linkWidenOnWait e p) s (fun b' =>
      ((b'.elem e).out p).narrow = false ∧ (s.blk.refclk = true → b'.now = max s.blk.now (t + 64))))

/-- Overdue bits, starvation, the output watchdog and adaptive link width. -/
def Obligations.MeshTimersAndLinkWidth : Prop :=
  Claims.MeshTimers ∧ Claims.LinkWidth

/-- 08 R241 to R243: a DATA frame with the expected SEQ is accepted, and its flit enters the receive buffer of its VC; one that arrives ahead,
or whose header CRC or a slot fails, is dropped whole and makes a NAK due; an ACK frees the replay entries up to it; a NAK starts a replay
of the rest. -/
def Claims.FrameReceive : Prop :=
  ∀ (s : State) (a : Nat) (fr : Frame) (rest : List Frame), isDieAdp a = true → (s.blk.link a).inbox = fr :: rest →
    s.blk.linkStopped a = false → s.blk.elemFenced a = false → s.blk.hclkOff a = false → (s.blk.link a).st = .active → fr.pm = 0 →
    (fr.ty = .data → fr.slots = [] → fr.cred = [] → fr.seq = (s.blk.link a).expect → (s.blk.link a).replay = [] →
      Completes (.frameReceive a 0 0 none 0) s (fun b' => b'.link a = { s.blk.link a with
        inbox := rest, expect := ((s.blk.link a).expect + 1) % 4096, accepted := true, nakOut := false, nakDue := false })) ∧
    (∀ i vc f, fr.ty = .data → fr.slots = [(i, vc, f)] → i < 15 → vc < linkVcs a → vc / perOf a = hCls f.hdr → fr.cred = [] →
      fr.seq = (s.blk.link a).expect → (s.blk.elem a).ins = [] → f.pool = false → 0 < (s.blk.advertised a).1.getD vc 0 → s.blk.ingressOk a f.hdr = true →
      (s.blk.link a).dropEpoch = none → Completes (.frameReceive a 0 0 none 0) s (fun b' =>
        (b'.link a).expect = ((s.blk.link a).expect + 1) % 4096 ∧ b'.wsh = s.blk.wsh ∧
        ∃ g, ((b'.elem a).vc 7 vc).q = [g] ∧ g.hdr = f.hdr ∧ g.pay = f.pay)) ∧
    (fr.ty = .data → fr.slots = [] → 0 < (fr.seq + 4096 - (s.blk.link a).expect) % 4096 → (fr.seq + 4096 - (s.blk.link a).expect) % 4096 < 2048 →
      (s.blk.link a).nakOut = false → Completes (.frameReceive a 0 0 none 0) s (fun b' =>
        (b'.link a).nakDue = true ∧ (b'.link a).nakOut = true ∧ (b'.link a).expect = (s.blk.link a).expect)) ∧
    (∀ err, (s.blk.link a).nakOut = false → fr.ty = .data ∨ fr.ty = .idle →
      (Frame.seen false (isRidge a) fr err).crcOk = false ∨ (Frame.seen false (isRidge a) fr err).slotsOk = false →
      Completes (.frameReceive a err 0 none 0) s (fun b' => (b'.link a).inbox = rest ∧ (b'.elem a).ins = (s.blk.elem a).ins ∧ (b'.link a).nakDue = true ∧
        (b'.link a).expect = (s.blk.link a).expect ∧ (b'.link a).replay = (s.blk.link a).replay)) ∧
    (∀ i, fr.ty = .idle → fr.slots = [] → fr.seq = (s.blk.link a).expect → (s.blk.link a).replay.findIdx? (fun f => f.seq == fr.ack) = some i →
      Completes (.frameReceive a 0 0 none 0) s (fun b' => (b'.link a).replay = (s.blk.link a).replay.drop (i + 1) ∧ (b'.link a).replays = 0)) ∧
    (fr.ty = .nak → fr.slots = [] → fr.seq = (s.blk.link a).expect → (s.blk.link a).replay ≠ [] → (∀ f ∈ (s.blk.link a).replay, f.seq ≠ fr.ack) →
      Completes (.frameReceive a 0 0 none 0) s (fun b' => (b'.link a).resend = (s.blk.link a).replay.length ∧
        (b'.link a).replays = (s.blk.link a).replays + 1))

/-- 08 R243, R244: the oldest frame unacknowledged for 500 ns is replayed with all after it; 16 replays in a row put both sides into RETRAIN, a
second time within 1 s with the link stopped; a RETRAIN that does not reach READY in time raises LINK_FAIL. -/
def Claims.ReplayAndRetrain : Prop :=
  ∀ (s : State) (a : Nat), isDieAdp a = true → s.blk.linkStopped a = false →
    ((s.blk.link a).replay ≠ [] → (s.blk.link a).st = .active → (s.blk.link a).lastReplayEv = none → s.blk.refclk = true →
      Completes (.replayTimer a) s (fun b' => (b'.link a).resend = (s.blk.link a).replay.length ∧
        (b'.link a).replays = (s.blk.link a).replays + 1 ∧ b'.now = max s.blk.now ((s.blk.link a).ackFrom + 1600) ∧ Raised s.blk b' a 0x20 0)) ∧
    (16 ≤ (s.blk.link a).replays → (s.blk.link a).st = .active → (s.blk.link a).lastRetrain = none → Completes (.linkRetrain a) s (fun b' =>
      (b'.link a).st = .retrain ∧ (b'.link (farAdp a)).st = .retrain ∧ Raised s.blk b' a 0x21 0 ∧ b'.scopes = s.blk.scopes)) ∧
    (∀ t, 16 ≤ (s.blk.link a).replays → (s.blk.link a).st = .active → (s.blk.link a).lastRetrain = some t → s.blk.now < t + 3200000000 →
      Completes (.linkRetrain a) s (fun b' => (b'.link a).st = .retrain ∧ (b'.scope (linkScope a 7).1 (linkScope a 7).2).stopped = true)) ∧
    ((s.blk.link a).st = .retrain → (s.blk.link a).retrained = false →
      Completes (.linkFail a) s (fun b' => Raised s.blk b' a 0x22 (if s.blk.escalates (linkScope a 7).1 (linkScope a 7).2 then 3 else 2) ∧
      (b'.scope (linkScope a 7).1 (linkScope a 7).2).stopped = true))

/-- Frames of a die link, replay and retraining. -/
def Obligations.FramesReplayAndRetraining : Prop :=
  Claims.FrameReceive ∧ Claims.ReplayAndRetrain

/-- 08 R244, R247, R248, R250, R256: training. PHY_TRAIN leads to PARAM, a lane that does not work moving to a redundant one first; a PARAM that
passes the checks leads to CREDIT_INIT, one that fails them raises LINK_MISMATCH; with the far credits taken and its own echoed a side goes
on to READY, or TIME_ALIGN; READY received makes the link ACTIVE; a step that overruns its limit starts the training again, the third time
with LINK_TRAIN_FAIL. -/
def Obligations.LinkTraining : Prop :=
  ∀ (s : State) (a pool m : Nat) (p : Param) (o : Option Param) (depths : List Nat) (c : Option (List Nat)), isDieAdp a = true →
    s.blk.ridgelessAt a = false →
    ((s.blk.link a).st = .phyTrain → dieOf a ∉ s.blk.wsh.pathLost → Completes (.phyTrainDone ⟨a, []⟩) s (fun b' =>
      b' = s.blk.modLink a (fun l => { l with st := .param, since := s.blk.now }))) ∧
    (∀ lane i, (s.blk.link a).st = .phyTrain → i < linkLanes (isRidge a) → (s.blk.link a).phys i = lane →
      lane < linkLanes (isRidge a) + redundant a →
      (∀ sp l, (s.blk.link a).idleLanes a = sp :: l → Completes (.phyTrainDone ⟨a, [lane]⟩) s (fun b' => (b'.link a).st = .param ∧
        (∃ j, j < linkLanes (isRidge a) ∧ (s.blk.link a).phys j = lane ∧ (b'.link a).phys j = sp) ∧ Raised s.blk b' a 0x26 0)) ∧
      ((s.blk.link a).idleLanes a = [] → (s.blk.link a).attempts < 2 → (s.blk.link (farAdp a)).attempts < 2 →
        Completes (.phyTrainDone ⟨a, [lane]⟩) s (fun b' =>
        (b'.link a).st = .phyTrain ∧ (b'.link a).attempts = max (s.blk.link a).attempts (s.blk.link (farAdp a)).attempts + 1))) ∧
    (o.getD (s.blk.ownParam (farAdp a)) = p → (s.blk.link a).st = .param → paramEarly a p = false →
      (s.blk.paramOk a p = true → p.rxok = true → Completes (.paramReceipt a o) s (fun b' =>
        (b'.link a).st = .creditInit ∧ (b'.link a).far = some p ∧ b'.wsh = s.blk.wsh ∧
        (isColC a = true → (s.blk.link a).ident = none → (b'.link a).ident = some (p.link / 2, p.link, p.pkg)))) ∧
      (s.blk.paramOk a p = false → Completes (.paramReceipt a o) s (fun b' =>
        Raised s.blk b' a 0x24 (if s.blk.escalates (linkScope a 7).1 (linkScope a 7).2 then 3 else 2) ∧ (b'.link a).st = .param))) ∧
    ((c.map (fun l => (l, m))).getD (ownCredits (farAdp a)) = (depths, pool) → (s.blk.link a).st = .creditInit → (s.blk.link a).ciGot = false →
      (∀ v, v < linkVcs a → vcDepth a v ≤ depths.getD v 0 ∧ depths.getD v 0 ≤ 15) →
      (∀ v, linkVcs a ≤ v → v < 21 → depths.getD v 0 = 0) → pool ≤ 1024 → Completes (.creditInitReceipt a c m) s (fun b' =>
        (b'.link a).st = (if (s.blk.link a).ciEcho then (if s.blk.aligns a then .timeAlign else .ready) else .creditInit) ∧
        (b'.link a).pool = pool ∧ (b'.link a).used = [] ∧ (∀ v, v < linkVcs a → (b'.link a).depths.get 0 v = depths.getD v 0))) ∧
    ((s.blk.link a).st = .creditInit → s.blk.linkStopped a = false → (s.blk.link a).ciGot = true → Completes (.readyReceipt a) s (fun b' =>
      (b'.link a).st = (if s.blk.aligns a then .timeAlign else .ready) ∧ (b'.link a).pool = (s.blk.link a).pool ∧
      (s.blk.aligns a = false → (b'.link a).next = 0 ∧ (b'.link a).expect = 0 ∧ (b'.link a).replay = [] ∧ (b'.link a).ackNo = 0xFFF))) ∧
    ((s.blk.link a).st = .ready → s.blk.linkStopped a = false → Completes (.readyReceipt a) s (fun b' =>
      b'.link a = { s.blk.link a with st := .active, since := s.blk.now, attempts := 0 })) ∧
    ((s.blk.link a).st = .retrain → s.blk.linkStopped a = false → (s.blk.link a).replay ≠ [] →
      Completes (.readyReceipt a) s (fun b' => (b'.link a).st = .active ∧
      (b'.link a).replay = (s.blk.link a).replay ∧ (b'.link a).resend = (s.blk.link a).replay.length)) ∧
    ((s.blk.link a).st = .phyTrain → (s.blk.link a).attempts < 2 → (s.blk.link (farAdp a)).attempts < 2 → Completes (.trainingLimit a) s (fun b' =>
      (b'.link a).st = .phyTrain ∧ (b'.link (farAdp a)).st = .phyTrain ∧
      (b'.link a).attempts = max (s.blk.link a).attempts (s.blk.link (farAdp a)).attempts + 1 ∧ b'.wsh = s.blk.wsh)) ∧
    ((s.blk.link a).st = .phyTrain → (s.blk.link a).attempts = 2 → (s.blk.scope (linkScope a 7).1 (linkScope a 7).2).st < 3 →
      Completes (.trainingLimit a) s (fun b' => (b'.link a).st = .down ∧
        Raised s.blk b' a 0x23 (if s.blk.escalates (linkScope a 7).1 (linkScope a 7).2 then 3 else 2)))

/-- 08 R251 to R253: the time exchange of a die link. TIME_REQ records T1, its arrival T2 and T3; TIME_RSP gives the offset and is accepted up
to 48 FCLK of delay, 64 on a Ridge; TIME_RES sets the follower's base in TIME_ALIGN and its step and k later; a try unanswered is made
again, the third time given up with TIME_EXCHANGE_LOST. -/
def Obligations.TimeExchange : Prop :=
  ∀ (s : State) (a : Nat) (x : TimeX), isDieAdp a = true → s.blk.tx a = x → s.blk.tx (farAdp a) = {} →
    (x.busy = false → (s.blk.link a).st = .timeAlign → (∃ d, d < 12 ∧ s.blk.timeSrc d = a) → Completes (.timeExchangeStart a) s (fun b' =>
      (b'.tx a).busy = true ∧ (b'.tx a).phase = 1 ∧ (b'.tx a).tries = 1 ∧ (b'.tx a).num = (x.num + 1) % 256 ∧ (b'.tx a).t1 = s.blk.ft (dieOf a))) ∧
    (x.busy = true → x.phase = 1 → s.blk.timeRuns (farAdp a) = true → Completes (.timeReq a) s (fun b' =>
      b'.tx a = { x with phase := 2, t2 := s.blk.ftOf (farAdp a), t3 := s.blk.ftOf (farAdp a) } ∧ b'.tbs = s.blk.tbs)) ∧
    (∀ y, y = { x with t4 := s.blk.ftOf a } → x.busy = true → x.phase = 2 → s.blk.timeRuns a = true →
      (y.dOf ≤ (if isRidge a then 64 else 48) → Completes (.timeRsp a) s (fun b' =>
        b'.tx a = { y with theta := y.thetaOf, phase := 3 } ∧ b'.tbs = s.blk.tbs)) ∧
      ((if isRidge a then 64 else 48) < y.dOf → x.tries < 3 → Completes (.timeRsp a) s (fun b' =>
        b'.tx a = { y with theta := y.thetaOf, phase := 0 } ∧ b'.tbs = s.blk.tbs))) ∧
    (x.busy = true → x.phase = 3 → s.blk.timeRuns (farAdp a) = true → (isRidge a = true → ∃ d, d < 12 ∧ s.blk.timeSrc d = a) →
      (x.train = true → Completes (.timeRes a) s (fun b' => (b'.tx a).busy = false ∧
        b'.tb (dieOf (farAdp a)) = { s.blk.tb (dieOf (farAdp a)) with
          ft := ((s.blk.ft (dieOf (farAdp a)) : Int) - x.theta).toNat, ft2 := ((s.blk.ft (dieOf (farAdp a)) : Int) - x.theta).toNat,
          frac := 0, frac2 := 0, k := x.k, kNext := none })) ∧
      (x.train = false → Completes (.timeRes a) s (fun b' => (b'.tx a).busy = false ∧
        (b'.tb (dieOf (farAdp a))).kNext = some (x.boundary, x.k) ∧
        (b'.tb (dieOf (farAdp a))).step = (if x.theta.natAbs > 1 then -x.theta else 0)))) ∧
    (x.busy = true → x.tries < 3 → s.blk.timeRuns a = true → Completes (.timeExchangeRetry a) s (fun b' => (b'.tx a).tries = x.tries + 1 ∧
      (b'.tx a).num = (x.num + 1) % 256 ∧ (b'.tx a).phase = 1)) ∧
    (x.busy = true → 3 ≤ x.tries → (s.blk.link a).st = .active → Completes (.timeExchangeRetry a) s (fun b' => (b'.tx a).busy = false ∧
      Raised s.blk b' a 0x33 0))

/-- 08 R255, R256; 05 R166, R167: a lane with 32 corrections in a 1 ms window is suspect and waits for a quiet window; a window armed gives both
sides the same T, and every Tollgate of the die its overlay; an overlay starts with nothing else changing, and ends; QUIET is sent,
calibration moves a suspect lane to a redundant one, and traffic resumes. -/
def Claims.LanesAndQuietWindows : Prop :=
  ∀ (s : State) (a n t len m : Nat), isDieAdp a = true →
    (∀ lane c, (s.blk.link a).laneCorr = [(lane, c)] → 32 ≤ c → lane ∉ (s.blk.link a).suspects → (s.blk.link a).st = .active → s.blk.effProfile ≠ 11 →
      Completes (.laneWindow a) s (fun b' => (b'.link a).suspects = (s.blk.link a).suspects ++ [lane] ∧ (b'.link a).laneCorr = [] ∧
        a ∈ b'.lead.quietDue ∧ Raised s.blk b' a 0x25 0)) ∧
    (n < 24 → (s.blk.lead.quietDue.contains (colIo n) || s.blk.lead.quietDue.contains (colAdp n)) = true →
      (s.blk.link (colIo n)).st = .active → (s.blk.link (colAdp n)).st = .active → (s.blk.link (colIo n)).quietAt = none →
      (s.blk.link (colAdp n)).quietAt = none → (∀ x ∈ dieNis (n / 2), (s.blk.gate x).quiet = none) → s.blk.wsh.starveInt = [] →
      s.blk.wsh.lead = [] → Completes (.quietWindowArm false n) s (fun b' =>
        (∀ x ∈ dieNis (n / 2), (b'.gate x).quiet.isSome = true) ∧ (b'.link (colIo n)).quietAt.isSome = true ∧
          (b'.link (colAdp n)).quietAt = (b'.link (colIo n)).quietAt ∧
        colIo n ∉ b'.lead.quietDue ∧ colAdp n ∉ b'.lead.quietDue)) ∧
    (isNi n = true → (s.blk.gate n).quiet = some (t, len, m) → t ≤ s.blk.ftOf n → Completes (.quietOverlayStart n) s (fun b' => b' = s.blk)) ∧
    (isNi n = true → (s.blk.gate n).quiet = some (t, len, m) → Completes (.quietOverlayEnd n) s (fun b' => (b'.gate n).quiet = none)) ∧
    ((s.blk.link a).quietAt = some t → (s.blk.link a).st = .active → s.blk.linkStopped a = false → Completes (.linkQuiet a) s (fun b' =>
      (b'.link a).st = .quiet ∧ ∃ fr, (b'.link (farAdp a)).inbox = (s.blk.link (farAdp a)).inbox ++ [fr] ∧ fr.ty = .quiet)) ∧
    (∀ lane sp l, (s.blk.link a).st = .quiet → (s.blk.link a).suspects = [lane] → (s.blk.link a).idleLanes a = sp :: l →
      (∃ i, i < linkLanes (isRidge a) ∧ (s.blk.link a).phys i = lane) → Completes (.linkCalibrationDone a) s (fun b' => (b'.link a).calDone = true ∧
        (b'.link a).suspects = [] ∧
        (∃ j, j < linkLanes (isRidge a) ∧ (s.blk.link a).phys j = lane ∧ (b'.link a).phys j = sp) ∧ Raised s.blk b' a 0x26 0)) ∧
    ((s.blk.link a).quietAt = some t → (s.blk.link a).st = .quiet → (s.blk.link a).calDone = true → (s.blk.link (farAdp a)).quietAt.isSome = true →
      Completes (.quietResume a) s (fun b' => (b'.link a).st = .active ∧ (b'.link a).quietAt = none ∧ b'.wsh = s.blk.wsh))

/-- 08 R258: a wake message that reaches a retained side wakes its domain, with the link as its source; it is repeated every 200 ns while the
link is retained, and at its limit raises LINK_WAKE_FAIL. -/
def Claims.LinkWake : Prop :=
  ∀ (s : State) (a d t : Nat), isDieAdp a = true → domOf a = some d →
    ((s.blk.dom d).st = 4 → (s.blk.dom d).unarmed = false → s.blk.elemFenced a = false → Completes (.wakeMessage a) s (fun b' =>
      (b'.dom d).st = 5 ∧ (b'.dom d).wakeSrc = 3 ∧ (b'.dom d).wakeFrom = 4 ∧ (b'.dom d).since = s.blk.now ∧
      b'.links = s.blk.links)) ∧
    ((s.blk.link a).wakeFrom = some t → (s.blk.link a).st = .retained → t ≤ s.blk.now → s.blk.refclk = true →
      Completes (.wakeRepeat a) s (fun b' => b'.farOut = .wake a [] :: s.blk.farOut ∧ (b'.now - t) % 640 = 0 ∧ s.blk.now < b'.now ∧
        b'.now ≤ s.blk.now + 640)) ∧
    ((s.blk.link a).wakeFrom = some t → (s.blk.link a).st = .retained → Completes (.wakeTimeout a) s (fun b' =>
      Raised s.blk b' a 0x2A (if s.blk.escalates (linkScope a 7).1 (linkScope a 7).2 then 3 else 2) ∧ (b'.link a).wakeFrom = none ∧
        (b'.scope (linkScope a 7).1 (linkScope a 7).2).stopped = true))

/-- Suspect lanes, quiet windows and the wake of a link. -/
def Obligations.QuietWindowsAndLinkWake : Prop :=
  Claims.LanesAndQuietWindows ∧ Claims.LinkWake

/-- 07 R212: a time base adds 1 + k / 2^32 at every FCLK, so that Fabric Time advances by 0, 1 or 2 and does not decrease, and `n` FCLKs pass
one after another; at reset k and both parts are 0. -/
def Claims.TimeBaseAddsItsIncrement : Prop :=
  (∀ t : Tb, -(2 ^ 32) < t.k → t.k < 2 ^ 32 → t.frac < 2 ^ 32 →
    ((((t.elapse 1).ft * 2 ^ 32 + (t.elapse 1).frac : Nat) : Int) = (t.ft * 2 ^ 32 + t.frac : Nat) + (2 ^ 32 + t.k)) ∧
    (t.elapse 1).frac < 2 ^ 32 ∧ (t.elapse 1).k = t.k ∧ t.ft ≤ (t.elapse 1).ft ∧ (t.elapse 1).ft ≤ t.ft + 2 ∧
    ∀ n, t.elapse (n + 1) = (t.elapse n).elapse 1) ∧
  ∀ d, (State.reset.blk.tb d).k = 0 ∧ (State.reset.blk.tb d).ft = 0 ∧ (State.reset.blk.tb d).frac = 0

/-- 07 R213, R221, R225, R232: an apply boundary. On the I/O die a k loaded before takes effect, or f where no exchange was accepted since the
last one, and where one was the f before it; a pending set or step, or an adjustment of more than 320 FCLK, steps every time base of the
package with TIME_STEP, a smaller adjustment bends k for one period; on a compute die the k of the exchange takes effect and the base steps. -/
def Claims.ApplyBoundaries : Prop :=
  ∀ (s : State) (b1 : Block), b1 = s.blk.elapseFt 12 (markFrom (s.blk.ft 12) 0 (s.blk.tb 12).applied) → s.blk.lead.flights = [] →
    (∀ x k, (s.blk.tb 12).kNext = some (x, k) → x ≤ b1.ft 12 → s.blk.time.steps = false → s.blk.time.pendAdj = 0 →
      Completes (.timeApplyBoundary 12) s (fun b' => (b'.tb 12).k = clampTo 2147484 k ∧ (b'.tb 12).kNext = (s.blk.tb 12).kLater ∧
        (b'.tb 12).ft = b1.ft 12 ∧ b'.wsh = s.blk.wsh)) ∧
    ((s.blk.tb 12).kNext = none → s.blk.time.steps = false → Completes (.timeApplyBoundary 12) s (fun b' =>
        (b'.tb 12).k = clampTo 2147484 ((if s.blk.time.accSince then s.blk.time.fOld else s.blk.time.f) + s.blk.time.pendAdj * 1024) ∧
          b'.time.adjLater = 0 ∧
        b'.time.pendAdj = s.blk.time.adjLater ∧ (b'.tb 12).ft = b1.ft 12 ∧ b'.wsh = s.blk.wsh)) ∧
    (∀ n, n = s.blk.time.pendStep + s.blk.time.pendAdj → s.blk.time.steps = true →
      s.blk.time.pendSet = none → (∀ d, d < 12 → (s.blk.tb d).step = 0) → Completes (.timeApplyBoundary 12) s (fun b' =>
        (∀ d, d < 13 → (b'.tb d).ft = ((b1.ft d : Int) + n).toNat % 2 ^ 64) ∧ Raised s.blk b' s.blk.leadSrc 0x32 0 ∧
        b'.time.pendStep = 0 ∧ b'.time.pendAdj = s.blk.time.adjLater)) ∧
    (∀ v n, s.blk.time.pendSet = some v → n = (v : Int) - b1.ft 12 + s.blk.time.pendAdj → (∀ d, d < 12 → (s.blk.tb d).step = 0) →
      Completes (.timeApplyBoundary 12) s (fun b' =>
        (∀ d, d < 13 → (b'.tb d).ft = ((b1.ft d : Int) + n).toNat % 2 ^ 64) ∧ Raised s.blk b' s.blk.leadSrc 0x32 0 ∧ b'.time.pendSet = none)) ∧
    (∀ d b2 x k, d < 12 → b2 = s.blk.elapseFt d (markFrom (s.blk.ft d) 0 (s.blk.tb d).applied) → (s.blk.tb d).kNext = some (x, k) → x ≤ b2.ft d →
      Completes (.timeApplyBoundary d) s (fun b' => (b'.tb d).k = k ∧ (b'.tb d).kNext = none ∧ (b'.tb d).step = 0 ∧
        (b'.tb d).ft = ((b2.ft d : Int) + (s.blk.tb d).step).toNat ∧
        ((s.blk.tb d).step ≠ 0 → Raised s.blk b' (src d 466) 0x32 0)))

/-- A time base adds its increment at every FCLK; what takes effect at an apply boundary. -/
def Obligations.TimeBases : Prop :=
  Claims.TimeBaseAddsItsIncrement ∧ Claims.ApplyBoundaries

/-- 07 R219 to R221: the exchange of a follower with its parent. The request goes out each 1 ms; the parent replies; the reply gives theta and
d; it is accepted up to 32 FCLK above the least accepted in the last 16 exchanges, and the loop turns theta into f and k, or into a step
above 320 FCLK; a reply that does not come is a loss; eight losses or rejections in a row raise TIME_SYNC_DEGRADED; holdover is entered and
reported. -/
def Obligations.ParentExchange : Prop :=
  ∀ (s : State) (k n t1 t2 t3 d : Nat) (theta : Int) (x : PassX), n < 256 → k < 8 →
    theta = (((s.blk.ft 12 : Int) - t3) - ((t2 : Int) - x.t1)).tdiv 2 →
    d = ((((t2 : Int) - x.t1) + ((s.blk.ft 12 : Int) - t3)).tdiv 2).toNat →
    (∀ b1, b1 = s.blk.elapseTo ((s.blk.now / ms + 1) * ms) → s.blk.time.parent = some k → s.blk.time.leader = false → s.blk.time.exch = none →
      s.blk.time.exchDue = false → (s.blk.dom (200 + k)).st = 0 → (s.blk.link (passAdp k)).st = .active → (s.blk.port k).sinceAlign < 27 →
      Completes .passTimeExchange s (fun b' =>
        b'.time.exch = some ⟨s.blk.time.exchNum, b1.ft 12, b1.now⟩ ∧ b'.time.exchNum = (s.blk.time.exchNum + 1) % 256 ∧
        b'.farOut = .frame k (plainFrame .time (s.blk.link (passAdp k)).next (s.blk.link (passAdp k)).ackNo
          (passTimeCont 0x11 s.blk.time.exchNum (b1.ft 12) 0)) :: s.blk.farOut)) ∧
    ((s.blk.link (passAdp k)).runs = true → s.blk.linkStopped (passAdp k) = false → (s.blk.port k).sinceAlign < 27 →
      Completes (.passTimeRequest k n t1) s (fun b' =>
      b'.farOut = .frame k (plainFrame .time (s.blk.link (passAdp k)).next (s.blk.link (passAdp k)).ackNo
        (passTimeCont 0x12 n (s.blk.ft 12) (s.blk.ft 12))) :: s.blk.farOut ∧ b'.time = s.blk.time)) ∧
    (s.blk.time.exch = some x → x.num = n → s.blk.time.parent = some k → s.blk.time.fresh = true ∨ s.blk.time.leastD k = none →
      Completes (.passTimeReply n t2 t3) s (fun b' => b'.time.exch = none ∧ b'.time.theta = theta ∧ b'.time.d = d ∧
        b'.time.ds = (s.blk.time.note k (some d)).ds ∧ b'.time.badRun = 0 ∧ b'.time.lastAcc = s.blk.now ∧ b'.time.holdover = false ∧
        (s.blk.time.locked = false ∨ 320 < theta.natAbs → b'.time.pendStep = -theta ∧ b'.time.loopStep = true ∧ b'.time.locked = true ∧
          b'.tbs = s.blk.tbs) ∧
        (s.blk.time.locked = true → theta.natAbs ≤ 320 → (s.blk.tb 12).kNext = none → b'.time.f = clampTo 858993 (s.blk.time.f - theta * 256) ∧
          (b'.tb 12).kNext = some (applyAt (s.blk.ft 12), clampTo 2147484 (b'.time.f - theta * 1024))))) ∧
    (∀ y, s.blk.time.exch = some x → x.num = n → s.blk.time.parent = some k → s.blk.time.fresh = false → s.blk.time.leastD k = some y →
      y + 32 < d → s.blk.time.badRun ≠ 7 → Completes (.passTimeReply n t2 t3) s (fun b' =>
        b'.time = { (s.blk.time.note k none) with bad := s.blk.time.bad + 1, badRun := s.blk.time.badRun + 1, exch := none } ∧ b'.wsh = s.blk.wsh)) ∧
    (s.blk.time.exch = some x → s.blk.time.parent = some k → s.blk.time.badRun = 7 → Completes .passTimeLoss s (fun b' =>
      b'.time = { (s.blk.time.note k none) with bad := s.blk.time.bad + 1, badRun := 0, exch := none } ∧ Raised s.blk b' (passAdp k) 0x34 0)) ∧
    (s.blk.time.leader = false → s.blk.time.holdover = false → Completes .timeHoldover s (fun b' =>
      b'.time = { s.blk.time with holdover := true } ∧ Raised s.blk b' s.blk.leadSrc 0x36 1))

/-- 07 R223, R232: a PPS pulse at the leader. One 0.9 to 1.1 s after the last gives theta against the nearest second and runs the loop; one
outside is rejected, once per second with PPS_REJECTED; a TIME_SET that waits for a pulse takes effect on it, or times out after 2 s. -/
def Claims.PpsInput : Prop :=
  ∀ (s : State) (x v t0 : Nat), s.blk.time.leader = true →
    (∀ n theta, n = (((s.blk.ft 12 : Int) - s.blk.time.ppsV) + second / 2) / second →
      theta = (s.blk.ft 12 : Int) - (s.blk.time.ppsV + n * second) → s.blk.time.ppsArmed = true → s.blk.time.ppsWait = none →
      s.blk.time.ppsLast = some x → x ≤ s.blk.now → 900 * ms ≤ s.blk.now - x → s.blk.now - x ≤ 1100 * ms →
      s.blk.time.locked = true → theta.natAbs ≤ 320 → (s.blk.tb 12).kNext = none → Completes .ppsInEdge s (fun b' =>
        b'.time.ppsLast = some s.blk.now ∧ b'.time.theta = theta ∧ b'.time.f = clampTo 858993 (s.blk.time.f - theta * 256) ∧
        (b'.tb 12).kNext = some (applyAt (s.blk.ft 12), clampTo 2147484 (b'.time.f - theta * 1024)))) ∧
    (s.blk.time.ppsArmed = true → s.blk.time.ppsLast = some x → s.blk.now - x < 900 * ms ∨ 1100 * ms < s.blk.now - x →
      s.blk.time.ppsRejAt = none → Completes .ppsInEdge s (fun b' => Raised s.blk b' (ioSrc 478) 0x37 0 ∧ b'.tbs = s.blk.tbs ∧
        b'.time = { s.blk.time with ppsRejAt := some s.blk.now })) ∧
    (s.blk.time.ppsWait = some (v, t0) → s.blk.time.ppsLast = none → v < 2 ^ 64 → s.blk.lead.flights = [] →
      Completes .ppsInEdge s (fun b' => b'.ft 12 = v ∧ b'.time.ppsWait = none ∧ b'.time.ppsArmed = true ∧ b'.time.ppsV = v ∧
        Raised s.blk b' s.blk.leadSrc 0x32 0)) ∧
    (s.blk.time.ppsWait = some (v, t0) → Completes .timeSetPpsTimeout s (fun b' =>
      b'.time = { s.blk.time with ppsWait := none } ∧ b'.now = (s.blk.elapseTo (t0 + 2 * second)).now))

/-- 07 R224; 17 R453: PPS_OUT pulses for 1 us at each second of Fabric Time, at one that has just been reached without it among them; a TS_IN
edge is captured, one within 50 ns of the last only counted, and raises TS_CAPTURE at most once per 1 ms, a waiting capture being
overwritten and counted; TS_OUT pulses once at TIME_TS_COMPARE. -/
def Claims.TimestampPins : Prop :=
  ∀ (s : State) (x cap : Nat),
    (∀ m, m = s.blk.ft 12 / second * second →
      (s.blk.ft 12 < m + 2 → s.blk.ts.ppsAt ≠ some m → Completes .ppsOutSecond s (fun b' =>
        b' = { s.blk with ts := { s.blk.ts with ppsOutTo := s.blk.ft 12 + us, ppsAt := some m } })) ∧
      (m + 2 ≤ s.blk.ft 12 ∨ s.blk.ts.ppsAt = some m → Completes .ppsOutSecond s (fun b' =>
        b'.ts = { s.blk.ts with ppsOutTo := b'.ft 12 + us, ppsAt := some (m + second) } ∧ b'.wsh = s.blk.wsh ∧
        b'.ft 12 = (s.blk.elapseFt 12 (m + second)).ft 12))) ∧
    (s.blk.ts.lastEdge = some x → s.blk.now < x + 160 → Completes .tsInEdge s (fun b' =>
      b'.ts = { s.blk.ts with lastEdge := some s.blk.now, count := min 0xFFFFFFFF (s.blk.ts.count + 1) } ∧ b'.wsh = s.blk.wsh)) ∧
    (s.blk.ts.lastEdge = none → s.blk.ts.lastEv = none → Completes .tsInEdge s (fun b' =>
      b'.ts.capture = s.blk.ft 12 ∧ b'.ts.lastEv = some (s.blk.ft 12) ∧ b'.ts.count = s.blk.ts.count ∧
      Raised s.blk b' (ioSrc 478) 0x38 0)) ∧
    (s.blk.ts.lastEdge = none → s.blk.ts.lastEv = some x → s.blk.ft 12 < x + ms → Completes .tsInEdge s (fun b' =>
      b'.ts.capture = s.blk.ft 12 ∧ b'.ts.waiting = some (s.blk.ft 12) ∧ b'.wsh = s.blk.wsh ∧
      b'.ts.count = (if s.blk.ts.waiting.isSome then min 0xFFFFFFFF (s.blk.ts.count + 1) else s.blk.ts.count))) ∧
    (s.blk.ts.waiting = some cap → Completes .tsCapture s (fun b' => b'.ts.waiting = none ∧ b'.ts.capture = s.blk.ts.capture ∧
      Raised s.blk b' (ioSrc 478) 0x38 0)) ∧
    (s.blk.ts.armed = true → Completes .tsCompareMatch s (fun b' => b'.ts.armed = false ∧ b'.ts.tsOutTo = b'.ft 12 + 320 ∧
      b'.ft 12 = (s.blk.elapseFt 12 s.blk.ts.compare).ft 12 ∧ b'.wsh = s.blk.wsh))

/-- PPS_IN, PPS_OUT, TS_IN and TS_OUT. -/
def Obligations.PpsAndTimestampPins : Prop :=
  Claims.PpsInput ∧ Claims.TimestampPins

/-- 09 R273 step 1, R278, R280, R281, R284: PRESENT_N counts once its samples have agreed for the time of its filter; a cable that appears at an
EMPTY port is powered and read, one that leaves an open port fences it, one that leaves a CLOSED port empties it; a module that is accepted
and ready goes on to training, one that is not, or is not ready in time, is held; a read without answer is counted, the third making the
cable invalid; WAKE_N has the module's flags read, which show an alert; power ends 100 ms after a port has closed. -/
def Obligations.PassCables : Prop :=
  ∀ (s : State) (k : Nat), k < 8 → s.blk.wsh.refLost = false →
    ((s.blk.port k).present = false → (s.blk.port k).st = 0 → Completes (.presenceChange k true) s (fun b' =>
      (b'.port k).present = true ∧ (b'.port k).st = 1 ∧ (b'.port k).step = 1 ∧ (b'.port k).pwr = true ∧
      (b'.port k).mapTx = [] ∧ (b'.port k).mapRx = [] ∧ b'.wsh = s.blk.wsh ∧
      b'.now = (s.blk.elapseTo ((s.blk.now / ms + (s.blk.port k).filter.toNat / 2 ^ 22) * ms)).now)) ∧
    (∀ x, (s.blk.port k).present = x → Completes (.presenceChange k x) s (fun b' => b' = s.blk)) ∧
    ((s.blk.port k).present = true → (s.blk.port k).st = 2 → Completes (.presenceChange k false) s (fun b' =>
      (b'.port k).present = false ∧ (b'.scope 5 k).stopped = true ∧ Raised s.blk b' (passAdp k) 0x58 (if s.blk.escalates 5 k then 3 else 2))) ∧
    ((s.blk.port k).present = true → (s.blk.port k).st = 6 → Completes (.presenceChange k false) s (fun b' =>
      (b'.port k).present = false ∧ (b'.port k).st = 0 ∧ (b'.port k).attn = .slow ∧ (b'.port k).returning = true ∧ b'.wsh = s.blk.wsh)) ∧
    ((s.blk.port k).step = 1 → (s.blk.port k).st ≠ 10 → Completes (.cmisReadDone k true true 18) s (fun b' => (b'.port k).step = 2 ∧
      (b'.link (passAdp k)).st = .phyTrain ∧ b'.wsh = s.blk.wsh)) ∧
    (∀ ok ready lanes, (s.blk.port k).step = 1 → ok = false ∨ lanes ≠ 18 →
      Completes (.cmisReadDone k ok ready lanes) s (fun b' => (b'.port k).st = 8 ∧ (b'.port k).pwr = false ∧
        (b'.port k).refusal = 0x56 ∧ Raised s.blk b' (passAdp k) 0x56 1)) ∧
    ((s.blk.port k).step = 1 ∨ (s.blk.port k).flagRead = true →
      ((s.blk.port k).cmisFails < 2 → Completes (.cmisReadTimeout k) s (fun b' =>
        (b'.port k).cmisFails = (s.blk.port k).cmisFails + 1 ∧ (b'.port k).st = (s.blk.port k).st ∧ b'.wsh = s.blk.wsh)) ∧
      ((s.blk.port k).cmisFails = 2 → Completes (.cmisReadTimeout k) s (fun b' => (b'.port k).st = 8 ∧ (b'.port k).pwr = false ∧
        Raised s.blk b' (passAdp k) 0x56 1))) ∧
    ((s.blk.port k).step = 1 → Completes (.moduleReadyLimit k) s (fun b' => (b'.port k).st = 8 ∧
      (b'.port k).pwr = false ∧ Raised s.blk b' (passAdp k) 0x56 1)) ∧
    ((s.blk.port k).present = true →
      Completes (.cableWake k (.low (some true))) s (fun b' => (b'.port k).wake = true ∧
        (b'.port k).alertAt = some ((s.blk.port k).alertAt.getD b'.now) ∧ Raised s.blk b' (passAdp k) 0x57 0) ∧
      Completes (.cableWake k (.low (some false))) s (fun b' => (b'.port k).wake = true ∧ (b'.port k).alertAt = none ∧ b'.wsh = s.blk.wsh) ∧
      Completes (.cableWake k (.low none)) s (fun b' => b'.port k = { s.blk.port k with wake := true, flagRead := true, cmisFails := 0 } ∧
        b'.wsh = s.blk.wsh) ∧
      Completes (.cableWake k .high) s (fun b' => b'.port k = { s.blk.port k with wake := false } ∧ b'.wsh = s.blk.wsh)) ∧
    ((s.blk.port k).st = 6 → (s.blk.port k).pwr = true → Completes (.cablePowerOff k) s (fun b' =>
      b'.port k = { s.blk.port k with pwr := false } ∧ b'.now = (s.blk.elapseTo ((s.blk.port k).since + 100 * ms)).now)) ∧
    ((s.blk.port k).st = 0 → (s.blk.port k).attn = .slow → Completes (.indicatorTimer k) s (fun b' =>
      b'.port k = { s.blk.port k with attn := .off }))

/-- 09 R278, R279, R282, R269, R283, R284, R286: a press shorter than the filter is not seen; one of 20 ms to the longest valid time asks for
service at an open port and withdraws it within the abort window; a longer one, or a stuck button, is recorded, and a press without effect
is counted; after 5 s the service is refused, or the port is in STEERING, of which the far end is told, and whose limit closes it with CLOSE
in three frames; a press reopens a port that awaits it, at either end, and has a closed one trained again; CLOSE received with cause 3
fences the port, with another cause it follows into STEERING, as it does a press of the far end. -/
def Obligations.PassService : Prop :=
  ∀ (s : State) (k held c : Nat), k < 8 → s.blk.wsh.refLost = false →
    ((s.blk.port k).button = false → held < (s.blk.port k).buttonMs → Completes (.buttonPress k (.up held)) s (fun b' => b' = s.blk)) ∧
    (((s.blk.port k).button = true ∨ (s.blk.port k).buttonMs ≤ held) → (s.blk.port k).stuck = false → 20 ≤ held → held ≤ (s.blk.port k).maxPress →
      ((s.blk.port k).st = 2 ∨ (s.blk.port k).st = 3 → Completes (.buttonPress k (.up held)) s (fun b' => (b'.port k).st = 4 ∧
        (b'.port k).since = b'.now ∧ Raised s.blk b' (passAdp k) 0x50 0)) ∧
      ((s.blk.port k).st = 4 → Completes (.buttonPress k (.up held)) s (fun b' => ((b'.port k).st = 2 ∨ (b'.port k).st = 3) ∧ b'.wsh = s.blk.wsh)) ∧
      ((s.blk.port k).st = 5 ∨ (s.blk.port k).st = 9 ∨ (s.blk.port k).st = 1 ∨ (s.blk.port k).st = 0 → Completes (.buttonPress k (.up held)) s (fun b' =>
        b'.port k = { s.blk.port k with button := false, stuck := false, ignored := min 65535 ((s.blk.port k).ignored + 1),
                                        pressAt := (b'.port k).pressAt } ∧ b'.wsh = s.blk.wsh))) ∧
    (((s.blk.port k).button = true ∨ (s.blk.port k).buttonMs ≤ held) → (s.blk.port k).stuck = false → 20 ≤ held → held ≤ (s.blk.port k).maxPress →
      ((s.blk.port k).st = 7 → Completes (.buttonPress k (.up held)) s (fun b' => (b'.port k).openNext = true ∧
        b'.farOut = .service k true :: s.blk.farOut)) ∧
      ((s.blk.port k).st = 6 → (s.blk.port k).present = true → Completes (.buttonPress k (.up held)) s (fun b' => (b'.port k).st = 1 ∧
        (b'.port k).step = 1 ∧ (b'.port k).pwr = true ∧ (b'.port k).returning = true))) ∧
    ((s.blk.port k).button = false → Completes (.buttonPress k .down) s (fun b' =>
      b'.port k = { s.blk.port k with button := true, pressAt := b'.now } ∧ b'.wsh = s.blk.wsh ∧
      b'.now = (s.blk.elapseTo ((s.blk.now / ms + (s.blk.port k).buttonMs) * ms)).now)) ∧
    ((s.blk.port k).button = true → Completes (.buttonPress k .down) s (fun b' => b' = s.blk)) ∧
    ((s.blk.port k).st = 7 → Completes (.buttonPress k .far) s (fun b' => (b'.port k).openNext = true ∧ b'.wsh = s.blk.wsh)) ∧
    ((s.blk.port k).st = 2 → Completes (.buttonPress k .far) s (fun b' => (b'.port k).st = 5 ∧ (b'.port k).byCmd = false ∧
      k ∈ b'.lead.steerQ ∧ Raised s.blk b' (passAdp k) 0x50 0)) ∧
    ((s.blk.port k).button = true → held < 20 → Completes (.buttonPress k (.up held)) s (fun b' =>
      b'.port k = { s.blk.port k with button := false, stuck := false } ∧ b'.wsh = s.blk.wsh ∧
      b'.now = (s.blk.elapseTo ((s.blk.port k).pressAt + held * ms)).now)) ∧
    (((s.blk.port k).button = true ∨ (s.blk.port k).buttonMs ≤ held) → (s.blk.port k).stuck = false → 20 ≤ held → (s.blk.port k).maxPress < held →
      Completes (.buttonPress k (.up held)) s (fun b' =>
      (b'.port k).st = (s.blk.port k).st ∧ Raised s.blk b' (passAdp k) 0x5A 1)) ∧
    ((s.blk.port k).stuck = false → Completes (.buttonStuck k) s (fun b' => (b'.port k).stuck = true ∧
      (b'.port k).st = (s.blk.port k).st ∧ Raised s.blk b' (passAdp k) 0x5A 1)) ∧
    ((s.blk.port k).st = 4 → (s.blk.elapseTo ((s.blk.port k).since + 5 * second)).serviceOk k = true → Completes (.abortWindowEnd k) s (fun b' =>
      (b'.port k).st = 5 ∧ (b'.port k).byCmd = false ∧ k ∈ b'.lead.steerQ ∧ b'.farOut = .service k false :: s.blk.farOut)) ∧
    ((s.blk.port k).st = 4 → (s.blk.elapseTo ((s.blk.port k).since + 5 * second)).serviceOk k = false → Completes (.abortWindowEnd k) s (fun b' =>
      (b'.port k).st = 9 ∧ (b'.port k).refusal = 0x51 ∧ Raised s.blk b' (passAdp k) 0x51 1)) ∧
    ((s.blk.port k).st = 5 → (s.blk.port k).sinceAlign < 25 → Completes (.steeringLimit k) s (fun b' => (b'.port k).st = 6 ∧ k ∉ b'.lead.steerQ ∧
      (b'.link (passAdp k)).st = .down ∧ b'.farOut = List.replicate 3 (.frame k (closeFrame (if (s.blk.port k).byCmd then 2 else 1))) ++ s.blk.farOut)) ∧
    ((s.blk.port k).st = 9 → Completes (.indicatorTimer k) s (fun b' => (b'.port k).st = 2 ∨ (b'.port k).st = 3)) ∧
    ((s.blk.port k).st = 2 → Completes (.closeReceipt k 3) s (fun b' => (b'.scope 5 k).stopped = true ∧
      Raised s.blk b' (passAdp k) 0x59 (if s.blk.escalates 5 k then 3 else 2))) ∧
    ((s.blk.port k).st = 2 → c = 1 ∨ c = 2 → Completes (.closeReceipt k c) s (fun b' => (b'.port k).st = 5 ∧
      (b'.port k).byCmd = (c == 2) ∧ k ∈ b'.lead.steerQ ∧ Raised s.blk b' (passAdp k) 0x50 0))

/-- 09 R272, R274, R276: a join at more than 1,920 FCLK, or one that the tables refuse, is recorded and holds the port; one that is accepted
enters the far package into the membership table and elects the time leader, as does a table that the leader distributes, which ends what it
does not list, and one with a change that another package passes to the leader; a member that times out unreachable leaves the table. -/
def Obligations.PassJoining : Prop :=
  ∀ (s : State) (k d : Nat) (far : List FarMember), (Instr.join k d far).WellFormed = true → s.blk.wsh.refLost = false →
    ((s.blk.port k).st = 1 → (s.blk.port k).step = 6 → (s.blk.link (passAdp k)).st = .active → s.blk.lead.bootRom = false →
      s.blk.lead.restarting = false →
      (1920 < d → Completes (.join k d far) s (fun b' => (b'.port k).refusal = 0x54 ∧ (b'.port k).st = 1 ∧
        b'.members = s.blk.members ∧ Raised s.blk b' (passAdp k) 0x54 1)) ∧
      (∀ kind, d ≤ 1920 → s.blk.joinRefusal k far = some kind → Completes (.join k d far) s (fun b' =>
        (b'.port k).st = 8 ∧ (b'.port k).refusal = kind ∧ b'.members = s.blk.members ∧ Raised s.blk b' (passAdp k) kind 1)) ∧
      (∀ x, d ≤ 1920 → s.blk.joinRefusal k far = none → far = [x] → x.id ≠ s.blk.pkgid → Completes (.join k d far) s (fun b' =>
        (b'.port k).step = 7 ∧ b'.time.leader = (b'.leaderPkg == s.blk.pkgid) ∧
        ∃ m, b'.members.find x.id = some m ∧ m.serial = x.serial ∧ m.prio = x.prio ∧ m.reach = true))) ∧
    (∀ x, (s.blk.port k).st = 2 → s.blk.lead.bootRom = false → s.blk.lead.restarting = false → far = [x] → x.id ≠ s.blk.pkgid →
      Completes (.join k d far) s (fun b' => b'.time.leader = (b'.leaderPkg == s.blk.pkgid) ∧
        (∀ j, j ≠ x.id → j ≠ s.blk.pkgid → b'.members.find j = if s.blk.time.leader then s.blk.members.find j else none) ∧
        ∃ m, b'.members.find x.id = some m ∧ m.serial = x.serial ∧ m.prio = x.prio)) ∧
    (∀ i m, i < 16 → s.blk.members.find i = some m → m.reach = false → i ≠ s.blk.pkgid → Completes (.memberTimeout i) s (fun b' =>
      b'.members.find i = none ∧ (∀ j, j ≠ i → b'.members.find j = s.blk.members.find j) ∧
      b'.time.leader = (b'.leaderPkg == s.blk.pkgid)))

/-- 09 R263, R268, R270, R271; 13 R374: lane rotation. It starts by proposing a map in which the spare copies the lane; MAPACK is noted, and
with the ALIGN frame whose number was proposed the map is in force and the compare begins, or, without MAPACK, the map is proposed again; a
compare that passed moves the lane to the spare; calibration leads on; a rotation over 2 ms is recorded and the map before it proposed; the
rotation ends when its last map is in force; a suspect lane is replaced for good. In profile 11 an idle spare that fails its pattern test is
suspect, and retired (13 R374; which command shows it is the model's choice, log entry 95). -/
def Obligations.LaneRotation : Prop :=
  ∀ (s : State) (k num : Nat) (m : List Nat) (p : Pass) (x y t : Nat), k < 8 → num < 65536 → m.length = 18 → p = s.blk.port k →
    (x, y) = p.rotLanes → (s.blk.link (passAdp k)).runs = true → s.blk.linkStopped (passAdp k) = false → p.calLeft = 0 →
    (p.rotStep = none → s.blk.rotReady k = true → Completes (.laneRotationStart k) s (fun b' =>
      (b'.port k).rotStep = some (1, b'.now) ∧ (b'.port k).mapTx = p.mapTx ∧
      (b'.port k).prop = some (laneBytes (rotMap p.mapTx 1 p.rotLane x y), (p.alignTx + 5) % 65536) ∧ b'.farOut = s.blk.farOut)) ∧
    (∀ mp u, p.rotStep = some (1, t) → p.prop = some (mp, u) → Completes (.alignReceipt k num 0xFFFF m m true false none) s (fun b' =>
      (b'.port k).mapAck = true ∧ (b'.port k).rotStep = p.rotStep ∧ (b'.port k).mapTx = p.mapTx ∧ (b'.port k).prop = p.prop ∧
      (b'.port k).mapRx = ofLaneBytes m ∧ (b'.port k).alignRx = num)) ∧
    (∀ mp, (s.blk.ford (.passPort k)).stopped = false → 27 ≤ p.sinceAlign → s.blk.takesFrames (passAdp k) = true →
      s.blk.domSt (passAdp k) = 0 → (s.blk.elem (passAdp k)).ins = [] → p.prop = some (mp, (p.alignTx + 1) % 65536) →
      (p.mapAck = true → p.rotStep = some (1, t) → Completes (.arbitration (passAdp k)) s (fun b' =>
        (b'.port k).rotStep = some (2, s.blk.now) ∧ (b'.port k).mapTx = ofLaneBytes mp ∧ (b'.port k).prop = none ∧
        ∃ fr, b'.farOut = .frame k fr :: s.blk.farOut ∧ fr.ty = .align)) ∧
      (p.mapAck = true → p.rotStep = some (6, t) → Completes (.arbitration (passAdp k)) s (fun b' => (b'.port k).rotStep = none ∧
        (b'.port k).rotLane = (p.rotLane + 1) % 16 ∧ (b'.port k).mapTx = ofLaneBytes mp ∧ b'.wsh = s.blk.wsh)) ∧
      (p.mapAck = false → Completes (.arbitration (passAdp k)) s (fun b' => (b'.port k).mapTx = p.mapTx ∧
        (b'.port k).prop = some (laneBytes (ofLaneBytes mp), ((p.alignTx + 1) % 65536 + 5) % 65536) ∧ (b'.port k).sinceAlign = 0))) ∧
    (p.rotStep = some (2, t) → p.prop = none → Completes (.alignReceipt k num 0xFFFF m m false true none) s (fun b' =>
      (b'.port k).rotStep = some (3, s.blk.now) ∧ (b'.port k).prop.map (·.1) = some (laneBytes (rotMap p.mapTx 3 p.rotLane x y)))) ∧
    (∀ c, (laneBytes p.mapRx).find? (fun c => 0x20 ≤ c) = some c →
      Completes (.shadowCompareDone k true) s (fun b' => b'.port k = { p with shadowOk := true } ∧ b'.wsh = s.blk.wsh) ∧
      Completes (.shadowCompareDone k false) s (fun b' => b'.port k = p ∧ Raised s.blk b' (passAdp k) 0x28 0)) ∧
    (∀ sp, (laneBytes p.mapRx).find? (fun c => 0x20 ≤ c) = none → idleSpare p.mapRx = some sp → s.blk.effProfile = 11 →
      (s.blk.link (passAdp k)).suspects.contains sp = false →
      Completes (.shadowCompareDone k true) s (fun b' => b' = s.blk) ∧
      Completes (.shadowCompareDone k false) s (fun b' =>
        (b'.link (passAdp k)).suspects = (s.blk.link (passAdp k)).suspects ++ [sp] ∧ Raised s.blk b' (passAdp k) 0x25 0)) ∧
    (∀ l, l < 18 → p.rotStep = none → p.prop = none → laneCode p.mapTx l = 0x10 → s.blk.effProfile = 11 →
      Completes (.alignReceipt k num 0xFFFF m m false false (some l)) s (fun b' => (b'.port k).rotStep = some (8, s.blk.now) ∧
        (b'.port k).prop.map (·.1) = some (laneBytes ((ofLaneBytes (laneBytes p.mapTx)).set l 0x11)))) ∧
    (p.rotStep = some (4, t) → Completes (.passLaneCalibrationDone k) s (fun b' => (b'.port k).rotStep = some (5, s.blk.now) ∧
      (b'.port k).prop.map (·.1) = some (laneBytes (rotMap p.mapTx 5 p.rotLane x y)))) ∧
    (p.rotStep = some (4, t) → laneBytes (rotMap p.mapTx 6 p.rotLane x y) ≠ laneBytes p.mapTx →
      Completes (.passLaneCalibrationLimit k) s (fun b' => (b'.port k).rotStep = some (7, b'.now) ∧ (b'.port k).mapTx = p.mapTx ∧
        (b'.port k).prop.map (·.1) = some (laneBytes (rotMap p.mapTx 6 p.rotLane x y)) ∧ Raised s.blk b' (passAdp k) 0x28 0)) ∧
    (∀ l sp, l < 18 → p.rotStep = none → p.prop = none → laneCode p.mapTx l < 16 → idleSpare p.mapTx = some sp →
      Completes (.alignReceipt k num 0xFFFF m m false false (some l)) s (fun b' => (b'.port k).rotStep = some (8, s.blk.now) ∧
        (b'.port k).prop.map (·.1) = some (laneBytes (((ofLaneBytes (laneBytes p.mapTx)).set sp (laneCode p.mapTx l)).set l 0x11))))

/-- 10 R292 to R295, R298: an idle cluster whose timer expires enters CLOSING, an adapter asks the far side; a domain still idle after 160 FCLK
is committed to Retention, one that is not, or drains for more than 1 us, is On again with the abort counted; the detectors are armed 6
AONCLK after the commit. -/
def Obligations.EntryIntoRetention : Prop :=
  ∀ (s : State) (d t : Nat), d < 272 →
    (s.blk.idleTimer d = some t → (s.blk.dom d).st = 0 → (s.blk.dom d).target = none → s.blk.domActive d = true → s.blk.domIdle d = true →
      (d < 128 → Completes (.domainIdleTimeout d) s (fun b' => b'.dom d = { s.blk.dom d with st := 1, since := b'.now } ∧
        b'.now = (s.blk.elapseTo ((s.blk.dom d).idleFrom + t * us)).now)) ∧
      (∀ a, d < 208 → domAdp d = some a → (s.blk.link a).st = .active → Completes (.domainIdleTimeout d) s (fun b' =>
        b'.link a = { s.blk.link a with pmReq := true } ∧ b'.doms = s.blk.doms))) ∧
    ((s.blk.dom d).st = 1 → s.blk.domIdle d = true → (s.blk.dom d).target = none → Completes (.retentionCommit d) s (fun b' =>
      (b'.dom d).st = 4 ∧ (b'.dom d).unarmed = true ∧ (b'.dom d).entries = ((s.blk.dom d).entries + 1) % 65536 ∧
      (b'.dom d).since = b'.now ∧ b'.now = (s.blk.elapseTo ((s.blk.dom d).since + 160)).now)) ∧
    ((s.blk.dom d).st = 3 → (s.blk.dom d).target = none → Completes (.retentionCommit d) s (fun b' =>
      (b'.dom d).st = 4 ∧ (b'.dom d).unarmed = true ∧ (b'.dom d).entries = ((s.blk.dom d).entries + 1) % 65536)) ∧
    ((s.blk.dom d).st = 1 → s.blk.domIdle d = false → (s.blk.dom d).target = none →
      Completes (.retentionCommit d) s (fun b' => b'.dom d = { s.blk.dom d with st := 0, idleFrom := s.blk.now, aborts := (s.blk.dom d).aborts + 1 }) ∧
      Completes (.entryDrainLimit d) s (fun b' => b'.dom d = { s.blk.dom d with st := 0, idleFrom := b'.now, aborts := (s.blk.dom d).aborts + 1 } ∧
        b'.now = (s.blk.elapseTo ((s.blk.dom d).since + 8 + us)).now)) ∧
    ((s.blk.dom d).st = 4 → (s.blk.dom d).unarmed = true → Completes (.detectorArming d) s (fun b' =>
      b'.dom d = { s.blk.dom d with unarmed := false } ∧ b'.now = (s.blk.elapseTo ((s.blk.dom d).since + 192)).now))

/-- 10 R297 to R305: a wake event takes a domain from Retention to WAKING and names its source, aborts an entry, and is lost as a pulse before
arming, while a flit at a link in SIGNING waits for the entry; a domain whose signatures are good is On, with LATENCY in 16 FCLK; one with a
stale bank reports it and is held until the reload, which takes its turn in order of wake; one that is not On in time raises WAKE_FAIL and
its granule stops. -/
def Obligations.WakingDomains : Prop :=
  ∀ (s : State) (d code detail n : Nat), (Instr.domainWake d code detail).WellFormed = true → (s.blk.dom d).target = none →
    (s.blk.domActive d = true → (s.blk.dom d).st = 4 → (s.blk.dom d).unarmed = false → Completes (.domainWake d code detail) s (fun b' =>
      (b'.dom d).st = 5 ∧ (b'.dom d).wakeSrc = code ∧ (b'.dom d).wakeDetail = detail ∧ (b'.dom d).wakeFrom = 4 ∧ (b'.dom d).since = s.blk.now)) ∧
    (s.blk.domActive d = true → 1 ≤ (s.blk.dom d).st → (s.blk.dom d).st ≤ 3 → d < 128 ∨ 1 < code → Completes (.domainWake d code detail) s (fun b' =>
      b'.dom d = { s.blk.dom d with st := 0, idleFrom := s.blk.now, aborts := (s.blk.dom d).aborts + 1 })) ∧
    (1 ≤ (s.blk.dom d).st → (s.blk.dom d).st ≤ 3 → 128 ≤ d → code ≤ 1 → Completes (.domainWake d code detail) s (fun b' => b' = s.blk)) ∧
    ((s.blk.dom d).st = 4 → (s.blk.dom d).unarmed = true → code = 3 ∨ code = 4 → Completes (.domainWake d code detail) s (fun b' => b' = s.blk)) ∧
    ((s.blk.dom d).st = 7 → code ≠ 6 → code ≠ 7 → Completes (.domainWake d code detail) s (fun b' => b' = s.blk)) ∧
    (∀ (sigs : List (Nat × BitVec 32)), (s.blk.dom d).st = 5 → (s.blk.dom d).wakeFrom = 4 → s.blk.domFenced d = false →
      (∀ y ∈ sigs, ∀ v, (s.blk.dom d).sigs.find y.1 = some v → v = y.2) → Completes (.wakeComplete d sigs) s (fun b' => (b'.dom d).st = 0 ∧
      (b'.dom d).wakeLat = min 65535 ((b'.now - (s.blk.dom d).since) / 16) ∧ b'.now = (s.blk.elapseTo ((s.blk.dom d).since + 480)).now)) ∧
    (∀ v w, (s.blk.dom d).st = 5 → (s.blk.dom d).wakeFrom = 4 → s.blk.domFenced d = false → (s.blk.dom d).sigs.find n = some v → v ≠ w →
      bankKind n < 4 → s.blk.stwUp (regionPair (domRegion d)) = true →
      Completes (.wakeComplete d [(n, w)]) s (fun b' => (b'.dom d).st = 6 ∧ (b'.dom d).stale = [n] ∧ Raised s.blk b' (domSrc d) 0x41 1)) ∧
    ((s.blk.dom d).st = 6 → (s.blk.dom d).noGold = false → (s.blk.dom d).stale = [n] → s.blk.domFenced d = false → s.blk.reloadWaits d = false →
      Completes (.goldenReloadDone d n) s (fun b' => (b'.dom d).st = 0 ∧ (b'.dom d).stale = [])) ∧
    ((s.blk.dom d).st = 6 → s.blk.reloadWaits d = true → Completes (.goldenReloadDone d n) s (fun b' => b' = s.blk)) ∧
    ((s.blk.dom d).st = 5 → Completes (.wakeFail d) s (fun b' => (b'.scope (domScope d).1 (domScope d).2).stopped = true ∧
      Raised s.blk b' (domSrc d) 0x40 (if s.blk.escalates (domScope d).1 (domScope d).2 then 3 else 2)))

/-- 10 R307, R308; 13 R373, R376; 21 R503: a domain ordered down enters its target when it is idle and, for Off, the routes exclude it; after
100 us it is On again. PROFILE_SET to 10 ends when no NI is busy, or after 10 ms; a region takes the profile's settings when its rail is up,
and the switch ends with the last region, or after 100 us. -/
def Obligations.PowerAndProfileChanges : Prop :=
  ∀ (s : State) (d g t : Nat) (f : Flight), d < 272 → g < 32 →
    ((s.blk.dom d).st = 8 → s.blk.powerForced d = false → s.blk.domIdle d = true →
      ((s.blk.dom d).target = some 4 → d < 128 → Completes (.powerDownDrained d) s (fun b' =>
        (b'.dom d).st = 4 ∧ (b'.dom d).unarmed = true ∧ (b'.dom d).target = none)) ∧
      ((s.blk.dom d).target = some 7 → (s.blk.dom d).excl = true → Completes (.powerDownDrained d) s (fun b' =>
        (b'.dom d).st = 7 ∧ (b'.dom d).target = none ∧ (b'.dom d).excl = false))) ∧
    ((s.blk.dom d).st = 8 → s.blk.powerForced d = false → (s.blk.dom d).target = some 4 → s.blk.domIdle d = false →
      Completes (.powerDownTimeout d) s (fun b' =>
      b'.dom d = { s.blk.dom d with st := 0, target := none, excl := false, idleFrom := b'.now } ∧
      b'.now = (s.blk.elapseTo ((s.blk.dom d).since + 320000)).now)) ∧
    (s.blk.draining = true → s.blk.busyNis = 0 → s.blk.lead.flights = [f] → f.opc = 3 → Completes .profileDrainComplete s (fun b' =>
      b'.lead.drainFrom = none ∧ b'.lead.flights = [] ∧ b'.lead.profile = s.blk.lead.profile)) ∧
    (s.blk.lead.drainFrom = some t → s.blk.busyNis ≠ 0 → s.blk.lead.flights = [f] → f.opc = 3 → Completes .profileDrainTimeout s (fun b' =>
      b'.lead.drainFrom = none ∧ b'.lead.flights = [] ∧ b'.lead.profile = s.blk.lead.profile ∧
      b'.now = (s.blk.elapseTo (t + 32000000)).now)) ∧
    Completes (.vddFabOk g) s (fun b' => (b'.region g).vok = true ∧ (b'.region g).applying = false ∧
      ((s.blk.region g).applying = true → domRegion d = g → (s.blk.dom d).st = 0 → (b'.dom d).bias = onBias s.blk.immProfile) ∧
      ((s.blk.region g).applying = false → b'.doms = s.blk.doms)) ∧
    ((s.blk.region g).applying = true → s.blk.lead.switchFrom = some t → s.blk.lead.flights = [f] → f.opc = 3 → s.blk.lead.drainFrom = none →
      s.blk.lead.commit = none → s.blk.lead.commitQ = [] → Completes (.profileRailWaitLimit g) s (fun b' =>
        b'.lead.switchFrom = none ∧ b'.lead.flights = [] ∧ (b'.region g).applying = true ∧
        b'.now = (s.blk.elapseTo (f.at_ + 320000)).now))

/-- 11 R312 to R315, R318, R323: messages through the collectors. A beat without wire errors is received as it was sent; one whose CHECK fails
is dropped with WSH_LINK_ERROR, its source keeping its sticky state, and the first message that waits for the queue of 64 enters it; else
the message goes on, over both Cols from a compute die, and a Containable one fences its granule; at the package collector the second copy
is dropped and the first is held with its sticky bit, a Fatal one fencing the package; a die that has lost its path is reported and stopped. -/
def Obligations.MessagesAndFences : Prop :=
  ∀ (s : State) (d : Nat) (m : Msg) (rest : List Msg) (err : BitVec 192) (ext : BitVec 136), d < 13 →
    (m.src < 8192 → m.kind < 256 → m.sev < 4 → m.time < 2 ^ 64 → m.receive 0 0 = (some m, false)) ∧
    (s.blk.wsh.die.get [] d = m :: rest → d ∉ s.blk.wsh.pathLost →
      (∀ q, q = rest ++ (s.blk.wsh.late.get [] d).take 1 → q.length < 64 → checkOk ((m.beat ^^^ err).toNat) 184 = false →
        Completes (.dieCollectorMessage d ⟨err, ext⟩) s (fun b' => b'.wsh.up = s.blk.wsh.up ∧ m.src ∈ b'.wsh.kept ∧
          b'.scopes = s.blk.scopes ∧ ∃ x, b'.wsh.die.get [] d = q ++ [x] ∧ x.src = src d 464 ∧ x.kind = 0x70 ∧ x.sev = 1)) ∧
      (∀ x, m.receive err ext = (some x, false) → x.sev ≠ 2 → Completes (.dieCollectorMessage d ⟨err, ext⟩) s (fun b' =>
        b'.wsh.die.get [] d = rest ++ (s.blk.wsh.late.get [] d).take 1 ∧ b'.wsh.late.get [] d = (s.blk.wsh.late.get [] d).drop 1 ∧
          b'.wsh.up = s.blk.wsh.up ++ (if d < 12 then [x, x] else [x]) ∧ b'.scopes = s.blk.scopes)) ∧
      (∀ x, m.receive err ext = (some x, false) → x.sev = 2 → scopeOk x.scTy x.scId = true → x.scTy ≠ 0 → x.kind ≠ 0xFE →
        s.blk.repairAround x.scTy x.scId = none → (s.blk.scope x.scTy x.scId).st ≠ 3 → Completes (.dieCollectorMessage d ⟨err, ext⟩) s (fun b' =>
          (b'.scope x.scTy x.scId).st = 3 ∧ (b'.scope x.scTy x.scId).fault = true ∧ (b'.scope x.scTy x.scId).kind = x.kind ∧
          (b'.scope x.scTy x.scId).stopped = true ∧ (∀ l ∈ (scopeElems x.scTy x.scId).filter isAdp, (b'.link l).st = .down)))) ∧
    (s.blk.wsh.up = m :: rest →
      (checkOk ((m.beat ^^^ err).toNat) 184 = false → Completes (.wshMessageArrival ⟨err, ext⟩) s (fun b' => b'.wsh.up = rest ∧
        b'.wsh.held = s.blk.wsh.held ∧ m.src ∈ b'.wsh.kept ∧ Raised s.blk b' (ioSrc 480) 0x70 1)) ∧
      (∀ x, m.receive err ext = (some x, false) → (x.src, x.kind, x.time) ∈ s.blk.wsh.seen → Completes (.wshMessageArrival ⟨err, ext⟩) s (fun b' =>
        b'.wsh.up = rest ∧ b'.wsh.held = s.blk.wsh.held ∧ b'.wsh.seen = s.blk.wsh.seen.erase (x.src, x.kind, x.time))) ∧
      (∀ x, m.receive err ext = (some x, false) → (x.src, x.kind, x.time) ∉ s.blk.wsh.seen → x.kind ≠ 0x60 →
        Completes (.wshMessageArrival ⟨err, ext⟩) s (fun b' => b'.wsh.up = rest ∧
        (∃ y, b'.wsh.held = s.blk.wsh.held ++ [y] ∧ y.src = x.src ∧ y.kind = x.kind ∧ y.sev = x.sev ∧ y.arrival = s.blk.ft 12) ∧
        b'.wsh.sticky.get 0 (x.src / 64) = s.blk.wsh.sticky.get 0 (x.src / 64) ||| BitVec.ofNat 64 (2 ^ (x.src % 64)) ∧
        (x.sev = 3 → b'.fatal = true ∧ b'.faultN = 0 ∧ b'.wires = (if s.blk.fatal then s.blk.wires else [])) ∧
        (x.sev ≠ 3 → b'.fatal = s.blk.fatal)))) ∧
    (d < 12 → d ∉ s.blk.wsh.pathLost → Completes (.wshPathLost d) s (fun b' => d ∈ b'.wsh.pathLost ∧ (b'.scope 9 d).stopped = true ∧
      Raised s.blk b' (ioSrc 480) 0x71 2))

/-- 11 R318 steps 4 and 5, R326, R329 to R331; 15 R406: the lead reacts to a Containable message with FENCE_NOTICE and profile 9, to a Fatal one
by striking every command in flight; the record of the next held message gets the next SEQ and waits for its acknowledgement, and the first
of severity Containable or Fatal stays as FIRST. -/
def Obligations.LeadReactionAndRecords : Prop :=
  ∀ (s : State) (m : Msg) (rest : List Msg) (f : Flight),
    (s.blk.wsh.lead = m :: rest → m.sev = 2 → m.scTy ≠ 0 → m.kind ≠ 0xFE → Completes .leadFaultInterrupt s (fun b' => b'.wsh.lead = rest ∧
      b'.lead.profile = 9 ∧ (scKey m.scTy m.scId, allNis) ∈ b'.lead.fenceN ∧
      (s.blk.lead.profile ≠ 9 → s.blk.lead.switchFrom = none → b'.lead.ret = some s.blk.lead.profile))) ∧
    (s.blk.wsh.lead = m :: rest → m.sev = 3 → s.blk.lead.flights = [f] → f.opc ≠ 2 → Completes .leadFaultInterrupt s (fun b' =>
      b'.wsh.lead = rest ∧ b'.lead.flights = [])) ∧
    (s.blk.refclk = true → s.blk.wsh.nextRec = some m → Completes .eventRecordWrite s (fun b' => b'.wsh.held = s.blk.wsh.held.erase m ∧
      b'.wsh.seq = (s.blk.wsh.seq + 1) % 2 ^ 32 ∧ b'.wsh.unack = s.blk.wsh.unack ++ [⟨s.blk.wsh.seq, s.blk.wsh.wrap, m⟩] ∧
      (s.blk.wsh.firstValid = false → 2 ≤ m.sev → b'.wsh.first = some ⟨s.blk.wsh.seq, s.blk.wsh.wrap, m⟩ ∧ b'.wsh.firstValid = true) ∧
      (s.blk.wsh.firstValid = true → b'.wsh.first = s.blk.wsh.first)))

/-- 11 R335, R336; 12 R343 to R350, R355: the repair of a scope. The sweep ends and the reset begins unless something holds it; a drained scope,
whose stewards have passed their duties on, is fenced, one that does not drain returns to ACTIVE, or is fenced with FORCE; out of reset it
is TESTING, after its tests READY, after a failed one FENCED and RETIRED; the first READY scope is admitted; a plane's repair goes on after
1 s without acknowledgement. -/
def Obligations.RepairStates : Prop :=
  ∀ (s : State) (ty id t p code source : Nat) (l : List Nat) (sc : Scope), scopeOk ty id = true → sc = s.blk.scope ty id →
    (sc.st = 3 → sc.swept = false → s.blk.scopePackets ty id = [] →
      (s.blk.lead.bootRom = true → Completes (.sweepComplete ty id l) s (fun b' => b'.scope ty id = { sc with swept := true })) ∧
      (s.blk.lead.bootRom = false → sc.hold = false → sc.retired = false → ty ≠ 5 → Completes (.sweepComplete ty id l) s (fun b' =>
        b'.scope ty id = { sc with st := 4, swept := true, since := s.blk.now })) ∧
      (sc.hold = true → s.blk.lead.flights = [] → Completes (.sweepComplete ty id l) s (fun b' => b'.scope ty id = { sc with swept := true }))) ∧
    (sc.st = 1 → (s.blk.passDuties ty id).drained ty id = true → Completes (.scopeDrained ty id) s (fun b' =>
      (b'.scope ty id).st = 3 ∧ (b'.scope ty id).fault = sc.fault ∧ (scKey ty id, allNis) ∈ b'.lead.fenceN)) ∧
    (sc.st = 1 → sc.force = false → Completes (.scopeDrainTimeout ty id) s (fun b' => (b'.scope ty id).st = 0 ∧
      (b'.scope ty id).hold = false ∧ (b'.scope ty id).offlined = false ∧ b'.now = (s.blk.elapseTo (sc.since + 320000)).now)) ∧
    (sc.st = 1 → sc.force = true → Completes (.scopeDrainTimeout ty id) s (fun b' => (b'.scope ty id).st = 3)) ∧
    (sc.st = 4 → Completes (.scopeResetDone ty id) s (fun b' => (b'.scope ty id).st = 5 ∧
      (∀ d ∈ scopeDoms ty id, (b'.dom d).st = 0))) ∧
    (sc.st = 5 → s.blk.bistWaits ty id = false → s.blk.linksReady ty id = true →
      Completes (.scopeTestDone ty id none) s (fun b' => (b'.scope ty id).st = 6 ∧
      (b'.scope ty id).readyNo = s.blk.lead.readyCtr + 1 ∧ (b'.scope ty id).passed = ((testsOf ty sc.selfTest).map (2 ^ ·)).sum)) ∧
    (sc.st = 5 → s.blk.bistWaits ty id = false → code < 10 → code ∈ testsOf ty sc.selfTest → ty ≠ 1 → ty ≠ 2 →
      Completes (.scopeTestDone ty id (some (code, source))) s (fun b' =>
      (b'.scope ty id).st = 3 ∧ (b'.scope ty id).retired = true ∧ (b'.scope ty id).swept = true)) ∧
    (sc.st = 6 → sc.hold = false → (ty = 5 → (s.blk.port id).fenceCause ≠ 3) → s.blk.admitting = false →
      s.blk.fencesFirst s.blk.leadSrc = false → (∀ kv ∈ s.blk.scopes, kv.2.st = 6 → kv.2.hold = false → sc.readyNo ≤ kv.2.readyNo) →
      Completes (.scopeAdmissionStart ty id) s (fun b' => b'.scope ty id = { sc with st := 7, since := s.blk.now })) ∧
    (s.blk.lead.planeNotice = some (p, t, l) → p < 2 → Completes .planeNoticeLimit s (fun b' => b'.lead.planeNotice = none ∧
      b'.lead.profile = 9 ∧ (b'.scope 8 p).degr = true ∧ b'.now = (s.blk.elapseTo (t + second)).now))

/-- 11 R322; 12 R354; 13 R374: the scrub. A corrected word is reported, and a row corrected in two passes in a row takes a spare; an
uncorrectable word awaits its reload, which takes a spare; a cache word empties the cache; an I/O-die map bank leaves service until it is
restored, its failing rows replaced. In profile 11 an idle spare row that fails its self-test is retired (13 R374; log entry 95, the model's
choice). -/
def Obligations.TableScrubbing : Prop :=
  ∀ (s : State) (o table row g : Nat) (x : Bool), tableOk o table row = true → 24 ≤ g → g < 32 →
    (s.blk.domSt (s.blk.ownerElem o) = 0 → s.blk.elemFenced (s.blk.ownerElem o) = false → (table = 5 →
      (s.blk.region (s.blk.ownerRegion o)).bankOut = false) →
      ((s.blk.elem o).rowHits.get 0 (rowKey table row) = 0 → Completes (.tableScrub o table row false) s (fun b' => Raised s.blk b' o 0x62 0 ∧
        (b'.elem o).rowHits.get 0 (rowKey table row) = s.blk.now / scrubPass + 1 ∧ (b'.elem o).sparesUsed = (s.blk.elem o).sparesUsed)) ∧
      ((s.blk.elem o).rowHits.get 0 (rowKey table row) = s.blk.now / scrubPass → 0 < s.blk.now / scrubPass → (s.blk.elem o).sparesUsed.get 0 table < 4 →
        Completes (.tableScrub o table row false) s (fun b' =>
          (b'.elem o).sparesUsed.get 0 table = (s.blk.elem o).sparesUsed.get 0 table + 1 ∧ (b'.elem o).rowHits.get 0 (rowKey table row) = 0)) ∧
      (table = 4 → 4 ≤ (s.blk.elem o).sparesUsed.get 0 table → Completes (.tableScrub o table row true) s (fun b' =>
        (b'.ni o).cache = [] ∧ Raised s.blk b' o 0x63 1)) ∧
      (table < 4 → s.blk.stwUp (regionPair (s.blk.ownerRegion o)) = true → (s.blk.elem o).sparesUsed.get 0 table < 4 →
        Completes (.tableScrub o table row true) s (fun b' => rowKey table row ∈ (b'.elem o).badRows ∧ b'.scopes = s.blk.scopes ∧
          Raised s.blk b' o 0x63 1)) ∧
      (table = 5 → 24 ≤ s.blk.ownerRegion o → Completes (.tableScrub o table row true) s (fun b' =>
        (b'.region (s.blk.ownerRegion o)).bankOut = true ∧ Raised s.blk b' o 0x63 1)) ∧
      (∀ w, isSpareRow w = true → s.blk.effProfile = 11 → (s.blk.elem o).sparesUsed.get 0 table < 4 → Completes (.tableScrub o table w x) s (fun b' =>
        (b'.elem o).sparesUsed.get 0 table = (s.blk.elem o).sparesUsed.get 0 table + 1 ∧
          Raised s.blk b' o (if x then 0x63 else 0x62) (if x then 1 else 0)))) ∧
    (rowKey table row ∈ (s.blk.elem o).badRows → (s.blk.elem o).sparesUsed.get 0 table < 4 → Completes (.tableWordReloaded o table row) s (fun b' =>
      rowKey table row ∉ (b'.elem o).badRows ∧ (b'.elem o).sparesUsed.get 0 table = (s.blk.elem o).sparesUsed.get 0 table + 1 ∧
      Raised s.blk b' o 0x64 0)) ∧
    ((s.blk.region g).bankOut = true →
      Completes (.mapBankRestored g true) s (fun b' => (b'.region g).bankOut = false ∧ (b'.region g).bankEpoch = s.blk.lead.mapEpoch ∧
        (b'.elem (bankSrc g)).badRows = [] ∧ (∀ x, (s.blk.elem (bankSrc g)).badRows = [x] → x / 131072 = 5 →
          (s.blk.elem (bankSrc g)).sparesUsed.get 0 5 < 4 →
          (b'.elem (bankSrc g)).sparesUsed.get 0 5 = (s.blk.elem (bankSrc g)).sparesUsed.get 0 5 + 1 ∧ Raised s.blk b' (bankSrc g) 0x64 0)) ∧
      Completes (.mapBankRestored g false) s (fun b' => (b'.region g).bankOut = true ∧ Raised s.blk b' (bankSrc g) 0x63 1))

/-- 15 R406; 16 R423; 11 R320; 14 R389; 16 R427: the service of a descriptor, for every command of the rings. One that fails a check completes
with that check's status and FIELD and has no effect; under a Fatal fence everything but QUERY completes DISCARDED; one that the lead does
not read, or that waits for earlier commands, stays; the turn passes to the next ring with every one that the lead has read. -/
def Obligations.CommandChecks : Prop :=
  ∀ (s : State) (i : Instr) (c : Cmd) (f : Form), formOf i = some (c, f) → c.WellFormed = true →
    (s.blk.readable c.ring = false ∨ (opcodeOf c ≠ f.op ∧ opcodeOf c ≤ 0x1D) → Completes i s (fun b' => b' = s.blk)) ∧
    (s.blk.readable c.ring = true → opcodeOf c = f.op → s.blk.waitsOrder c = true → Completes i s (fun b' => b' = s.blk.passTurn c.ring)) ∧
    (s.blk.readable c.ring = true → opcodeOf c = f.op ∨ (f.op = 0 ∧ 0x1D < opcodeOf c) → s.blk.waitsOrder c = false →
      (s.blk.ring (c.ring + 8)).err = false →
      (∀ st fd, s.blk.fatal = false → s.blk.refusal c f = some (st, fd) → Completes i s (fun b' => CplOf s.blk b' c st fd [] ∧
        OnlyAnswers s.blk b' ∧ b'.lead.turn = (c.ring + 1) % 8 ∧ (b'.ring c.ring).cons = (s.blk.ring c.ring).next (s.blk.ring c.ring).cons)) ∧
      (s.blk.fatal = true → f.op ≠ 2 → Completes i s (fun b' => CplOf s.blk b' c stDiscarded 0 s.blk.fatalRes ∧ OnlyAnswers s.blk b')))

/-- 15 R406; 13 R363, R375, R376; 14 R389; 16 R426: NOP and FENCE complete OK and change nothing. PROFILE_SET in profile 9 names the profile to
return to, in another one the profile and its immediate settings change at once. FW_LOAD of a signed image that fits starts the load, of
another one is refused with its record. -/
def Obligations.SetupCommands : Prop :=
  ∀ (s : State) (c : Cmd) (img : FwImage) (p : Nat),
    (Served s.blk c nopForm → Completes (.nop c) s (fun b' => CplOf s.blk b' c stOk 0 [] ∧ OnlyAnswers s.blk b')) ∧
    (Served s.blk c fenceForm → Completes (.fence c) s (fun b' => CplOf s.blk b' c stOk 0 [] ∧ OnlyAnswers s.blk b')) ∧
    (Served s.blk c (profileSetForm c) → p = byteOf c 12 → p ≠ 0 → p ≠ 9 → s.blk.effProfile ≠ 0 → (∀ f ∈ s.blk.lead.flights, f.opc ≠ 3) →
      partProfile p = false →
      (s.blk.lead.profile = 9 → Completes (.profileSet c) s (fun b' => b'.lead.profile = 9 ∧ b'.lead.ret = some p ∧
        CplOf s.blk b' c stOk 0 [(16, 1, 9), (17, 1, p), (20, 4, 0)])) ∧
      (s.blk.lead.profile ≠ 9 → s.blk.lead.profile ≠ p → s.blk.committing = false → Completes (.profileSet c) s (fun b' =>
        b'.lead.profile = p ∧ b'.lead.applied = p ∧ b'.immProfile = p ∧
        (p = 10 → b'.lead.drainFrom = some s.blk.now)))) ∧
    (Served s.blk c (fwLoadForm c (some img)) → s.blk.lead.flights = [] → s.blk.effProfile = 0 → shapeOk img = true →
      (s.blk.imageSigned img = true → Completes (.fwLoad c (some img)) s (fun b' => Taken s.blk b' c 0 0 ∧ b'.lead.restarting = true ∧
        b'.lead.load = some (BitVec.ofNat 64 img.build, []) ∧ b'.stws = s.blk.stws)) ∧
      (s.blk.imageSigned img = false → Completes (.fwLoad c (some img)) s (fun b' => Raised s.blk b' s.blk.leadSrc 0x61 1 ∧
        b'.lead = (s.blk.passTurn c.ring).lead ∧ b'.stws = s.blk.stws)))

/-- 06 R182 to R187; 16 R429 to R432; 03 R98, R103: MAP_WRITE and ROUTE_WRITE write the idle map and the idle route tables, and a MAP_COMMIT or
ROUTE_COMMIT that is accepted stays in flight while the banks, the NIs and the receivers take the new epoch. -/
def Obligations.MapAndRouteCommands : Prop :=
  ∀ (s : State) (c : Cmd) (i : Nat),
    (Served s.blk c (mapWriteForm c) → s.blk.lead.mapGran = none →
      (byteOf c 12 = 0 → Completes (.mapWrite c) s (fun b' => CplOf s.blk b' c stOk 0 [] ∧ b'.lead = (s.blk.passTurn c.ring).lead ∧
        b'.groups = s.blk.groups ∧
        (i < fieldOf c 16 4 → b'.map.get 0 (s.blk.idleMap * 65536 + fieldOf c 14 2 + i) = fieldOf c (32 + 2 * i) 2))) ∧
      (byteOf c 12 = 1 → Completes (.mapWrite c) s (fun b' => CplOf s.blk b' c stOk 0 [] ∧ b'.lead = (s.blk.passTurn c.ring).lead ∧
        b'.groups = s.blk.groups ∧
        (i < fieldOf c 16 4 → b'.map.get 0 (s.blk.idleMap * 65536 + fieldOf c 14 2 + i) = bufOf c (2 * i) 2))) ∧
      (byteOf c 12 = 2 → Completes (.mapWrite c) s (fun b' => CplOf s.blk b' c stOk 0 [] ∧ b'.lead = (s.blk.passTurn c.ring).lead ∧ b'.map = s.blk.map ∧
        b'.groups.find (s.blk.idleMap * 1024 + fieldOf c 14 2) = some (byteOf c 13 / 32, byteOf c 13 / 8 % 4, slotsOf c)))) ∧
    (Served s.blk c (mapCommitForm c) → s.blk.lead.mapGran = none → byteOf c 12 = s.blk.lead.gran ∨ s.blk.effProfile = 10 →
      Completes (.mapCommit c) s (fun b' => b'.lead.mapGran = some (byteOf c 12) ∧ (i < 32 → (b'.region i).bankEpoch = !s.blk.lead.mapEpoch) ∧
        Taken s.blk b' c (allNis.filter (fun n => !s.blk.asleep n)).length 0)) ∧
    (Served s.blk c (routeWriteForm c) → s.blk.committing = false → byteOf c 12 = 0 →
      (∀ e ∈ routeWrites c, s.blk.entryFits e.1 e.2.1 e.2.2.1 = true) → Completes (.routeWrite c) s (fun b' => CplOf s.blk b' c stOk 0 [] ∧
        b'.lead = (s.blk.passTurn c.ring).lead ∧ (i < byteOf c 17 → (b'.elem (fieldOf c 14 2)).tab.find
          ((if s.blk.lead.epoch then 0 else 256) + (byteOf c 16 + i)) = some (fieldOf c (32 + 2 * i) 2)))) ∧
    (Served s.blk c routeCommitForm → s.blk.committing = false → s.blk.routesOk = true → Completes (.routeCommit c) s (fun b' =>
      Taken s.blk b' c 0 0 ∧ b'.lead.epoch = s.blk.lead.epoch ∧ ∃ m, b'.lead.commit = some m ∧ m.why = 0 ∧ m.epoch = !s.blk.lead.epoch ∧
        m.waitAck = receivers.filter (fun e => !s.blk.asleep e) ∧ m.point = none))

/-- 05 R146 to R149, R160 to R163; 06 R192, R194; 10 R293, R307; 13 R368; 14 R395; 16 R433 to R436: the partition of every NI of the scope, or a
granule's mask, is set; rates are set and pinned unless they exceed the budget; a shadow list is loaded; the switch instant goes to every
Tollgate; a domain ordered down prepares to leave; idle timers are set. -/
def Obligations.ServiceCommands : Prop :=
  ∀ (s : State) (c : Cmd) (ns : List Nat), ns = s.blk.cmdNis (scopeTyOf c) (scopeIdOf c) →
    (Served s.blk c (partitionSetForm c) → partProfile s.blk.immProfile = false →
      (byteOf c 12 = 0 → Completes (.partitionSet c) s (fun b' => CplOf s.blk b' c stOk 0 [] ∧
        (s.blk.lead.profile ≠ 9 → b'.lead = (s.blk.passTurn c.ring).lead) ∧ ∀ n ∈ ns,
        (b'.ni n).part = (if flagOf c 3 then byteOf c 16 else (s.blk.ni n).part) ∧
        (b'.ni n).mask = (if flagOf c 4 then byteOf c 17 else (s.blk.ni n).mask))) ∧
      (byteOf c 12 = 1 → scopeTyOf c ≠ 7 → Completes (.partitionSet c) s (fun b' => CplOf s.blk b' c stOk 0 [] ∧ b'.nis = s.blk.nis ∧
        b'.gmask (scKey (scopeTyOf c) (scopeIdOf c)) = byteOf c 17))) ∧
    (∀ ov, ov = (List.range 4).any (fun t => valueOf c t != unchanged &&
        (s.blk.regulate c).budgetOf (s.blk.regulated c) t < (s.blk.regulate c).rateSum (s.blk.regulated c) t) →
      Served s.blk c (regulatorSetForm c) → flagOf c 4 = false →
      (ov = false → Completes (.regulatorSet c) s (fun b' => CplOf s.blk b' c stOk 0 (b'.sumsRes (s.blk.regulated c)) ∧
        ∀ n ∈ ns, ∀ t, t < 4 →
          (valueOf c t ≠ unchanged → valueOf c t ≠ 0 → (b'.gate n).rateOf t = valueOf c t ∧ (b'.gate n).confOf t = valueOf c t ∧
            (b'.gate n).pin.get false t = true) ∧
          (valueOf c t = 0 → (b'.gate n).rateOf t = (s.blk.gate n).confOf t ∧ (b'.gate n).pin.get false t = false) ∧
          (valueOf c t = unchanged → (b'.gate n).rateOf t = (s.blk.gate n).rateOf t ∧ (b'.gate n).confOf t = (s.blk.gate n).confOf t))) ∧
      (ov = true → Completes (.regulatorSet c) s (fun b' => OnlyAnswers s.blk b' ∧
        CplOf s.blk b' c stBudget 0 (s.blk.sumsRes (s.blk.regulated c))))) ∧
    (Served s.blk c (gateLoadForm c) → (∀ n ∈ ns, (s.blk.gate n).pending = false) → Completes (.gateLoad c) s (fun b' =>
      CplOf s.blk b' c stOk 0 [] ∧ ∀ n ∈ ns, (b'.gate n).active = (s.blk.gate n).active ∧ (b'.gate n).shadow.entries = fieldOf c 16 2 ∧
        (b'.gate n).shadow.guard = byteOf c 18 ∧ ∀ i, i < fieldOf c 20 2 →
          (b'.gate n).shadow.words.find (byteOf c 19 + i) = some ((gateWords c).getD i 0))) ∧
    (∀ base cycle, base = fieldOf c 16 8 → cycle = (s.blk.gate (ns.headD 0)).shadow.cycle → Served s.blk c gateActivateForm →
      (∀ n ∈ ns, (s.blk.gate n).pending = false ∧ (s.blk.gate n).shadow.valid = true ∧ (s.blk.gate n).shadow.cycle = cycle) →
      base ≤ s.blk.ft 12 + second → Completes (.gateActivate c) s (fun b' => ∀ n ∈ ns, (b'.gate n).active = (s.blk.gate n).active ∧
        (b'.gate n).pendMsg = some (switchAt (s.blk.ft 12) base cycle, base))) ∧
    (∀ d, d = scopeIdOf c → Served s.blk c (domainPowerForm c) → byteOf c 12 = 1 ∨ byteOf c 12 = 2 → s.blk.powerBarred d = false →
      (byteOf c 12 = 2 → d < 200 ∨ 208 ≤ d) → flagOf c 0 = false → s.blk.powerCuts d (flagOf c 1) = false →
      (∀ f ∈ s.blk.lead.flights, ¬(f.opc = 0x0D ∧ f.scId = d)) → (s.blk.dom d).st = 0 → Completes (.domainPower c) s (fun b' =>
        (b'.dom d).st = 8 ∧ (b'.dom d).target = some (targetCode (byteOf c 12)) ∧ (b'.dom d).since = s.blk.now ∧
        Taken s.blk b' c (targetCode (byteOf c 12)) 0)) ∧
    (Served s.blk c (idleTimerSetForm c) → Completes (.idleTimerSet c) s (fun b' => CplOf s.blk b' c stOk 0 [] ∧
      ∀ d ∈ timerDoms (scopeTyOf c) (scopeIdOf c), (b'.dom d).timer = (if fieldOf c 16 4 = unchanged then none else some (fieldOf c 16 4))))

/-- 12 R345, R346, R350, R351, R356, R360; 09 R282, R283; 06 R200; 16 R435 to R439: DOMAIN_RESET, SCOPE_FENCE and SELFTEST of an ACTIVE scope
that nothing bars are accepted with their flags; SCOPE_READMIT ends a hold; LINK_SERVICE steers a port, or is refused where a package would
be cut off; LINK_RETURN opens one; CALIBRATE asks for its windows; LOCK_BREAK breaks the entry and reports it as it was. -/
def Obligations.RepairCommands : Prop :=
  ∀ (s : State) (c : Cmd) (ty id : Nat) (sc : Scope), ty = scopeTyOf c → id = scopeIdOf c → sc = s.blk.scope ty id →
    (s.blk.nestedRepair ty id = false → s.blk.inRepair ty id = false → s.blk.barred ty id = false →
      flagOf c 0 = true ∨ s.blk.noPath ty id (flagOf c 1) = false →
      (Served s.blk c scopeFenceForm → Completes (.scopeFence c) s (fun b' => Taken s.blk b' c 0 0 ∧ (b'.scope ty id).hold = true ∧
        (b'.scope ty id).force = flagOf c 0 ∧ (b'.scope ty id).offlined = flagOf c 1 ∧ (b'.scope ty id).selfTest = false)) ∧
      (Served s.blk c domainResetForm → Completes (.domainReset c) s (fun b' => Taken s.blk b' c 0 0 ∧ (b'.scope ty id).hold = flagOf c 2 ∧
        (b'.scope ty id).force = flagOf c 0 ∧ (b'.scope ty id).offlined = flagOf c 1 ∧ (b'.scope ty id).selfTest = false)) ∧
      (Served s.blk c (selftestForm c) → flagOf c 3 = false → Completes (.selftest c) s (fun b' => Taken s.blk b' c 0 0 ∧
        (b'.scope ty id).hold = flagOf c 2 ∧ (b'.scope ty id).force = flagOf c 0 ∧ (b'.scope ty id).selfTest = true))) ∧
    (Served s.blk c scopeReadmitForm → s.blk.nestedRepair ty id = false →
      (∀ f ∈ s.blk.lead.flights, ¬(isRepairOp f.opc = true ∧ f.scTy = ty ∧ f.scId = id)) →
      (sc.st = 3 → sc.hold = true ∨ sc.retired = true → sc.swept = true → ty ≠ 5 → Completes (.scopeReadmit c) s (fun b' =>
        Taken s.blk b' c 0 0 ∧ b'.scope ty id = { sc with st := 4, hold := false, retired := false, since := s.blk.now })) ∧
      (sc.st = 6 → s.blk.admitting = false → Completes (.scopeReadmit c) s (fun b' => Taken s.blk b' c 0 0 ∧
        b'.scope ty id = { sc with st := 7, hold := false, since := s.blk.now }))) ∧
    (Served s.blk c linkServiceForm → s.blk.wsh.refLost = false → (s.blk.port id).st = 2 ∨ (s.blk.port id).st = 3 →
      (flagOf c 0 = true ∨ s.blk.serviceOk id = true → Completes (.linkService c) s (fun b' => Taken s.blk b' c 0 0 ∧ (b'.port id).st = 5 ∧
        (b'.port id).byCmd = true ∧ id ∈ b'.lead.steerQ)) ∧
      (flagOf c 0 = false → s.blk.serviceOk id = false → Completes (.linkService c) s (fun b' => CplOf s.blk b' c stNoPath 0 [] ∧
        (b'.port id).st = 9 ∧ (b'.port id).refusal = 0x51))) ∧
    (Served s.blk c linkReturnForm → (s.blk.port id).st = 7 → Completes (.linkReturn c) s (fun b' => Taken s.blk b' c 0 0 ∧
      (b'.port id).openNext = true)) ∧
    (Served s.blk c (calibrateForm c) → flagOf c 3 = false → s.blk.inRepair ty id = false →
      (∀ f ∈ s.blk.lead.flights, ¬(f.opc = 0x15 ∧ f.scTy = ty ∧ f.scId = id)) → byteOf c 12 = 0xFF → Completes (.calibrate c) s (fun b' =>
        Taken s.blk b' c (if ty = 5 then 16 else laneCount ty) 0 ∧ (ty = 5 → (b'.port id).calLeft = 16) ∧
        (ty ≠ 5 → ∀ a ∈ linkAdps (ty == 4) id, a ∈ b'.lead.quietDue))) ∧
    (∀ n e l, n = nodeNi (BitVec.ofNat 16 id) → e = byteOf c 12 → e ≠ 0xFF → Served s.blk c (lockBreakForm c) →
      ((s.blk.ni n).locks.find e = none → Completes (.lockBreak c) s (fun b' => CplOf s.blk b' c stOk 0 [(16, 1, 0), (20, 1, e)] ∧
        OnlyAnswers s.blk b')) ∧
      ((s.blk.ni n).locks.find e = some l → l.broken = false → Completes (.lockBreak c) s (fun b' =>
        CplOf s.blk b' c stOk 0 [(16, 1, 1), (17, 1, l.inc.toNat), (18, 2, l.owner.toNat), (20, 1, e)] ∧
        (b'.ni n).locks.find e = (if flagOf c 3 then none else some { l with broken := true }) ∧ Raised s.blk b' n 0x12 1)))

/-- 11 R325, R332; 18 R462 to R464, R472 to R477; 07 R223, R225; 16 R438 to R443: FAULT_FORCE raises the kind with FORCED; FAULT_ACK
acknowledges the records up to one; cairns, telemetry, counters and time are set and read; QUERY answers with the package, a wake record, a
route table or a Pass port. -/
def Obligations.FaultCounterTimeAndQueryCommands : Prop :=
  ∀ (s : State) (c : Cmd),
    (∀ x k, x = fieldOf c 12 2 → k = byteOf c 14 → Served s.blk c (faultForceForm c) → s.blk.kindGiven x k = true → k ≠ 0x60 →
      kindSev x k ≠ 3 → (kindSev x k = 2 → s.blk.escalates (s.blk.forcedScope x k).1 (s.blk.forcedScope x k).2 = false) →
      Completes (.faultForce c) s (fun b' => CplOf s.blk b' c stOk 0 [(16, 4, b'.nextSeq)] ∧
        ∃ m, b'.wsh.die.get [] (dieOf x) = s.blk.wsh.die.get [] (dieOf x) ++ [m] ∧ m.src = x ∧ m.kind = k ∧ m.forced = true)) ∧
    (∀ q w, q = fieldOf c 16 4 → w = (byteOf c 20 == 1) → Served s.blk c (faultAckForm c) → s.blk.wsh.wrote w q = true →
      (∀ r ∈ s.blk.wsh.unack, r.upTo w q = true → r.msg.sev ≠ 3) → Completes (.faultAck c) s (fun b' =>
        b'.wsh.unack = s.blk.wsh.unack.filter (fun r => !r.upTo w q) ∧ CplOf s.blk b' c stOk 0 b'.ackRes ∧
        (flagOf c 3 = false → b'.wsh.sticky = s.blk.wsh.sticky))) ∧
    (Served s.blk c (traceArmForm c) → Completes (.traceArm c) s (fun b' => CplOf s.blk b' c stOk 0 [] ∧
      ∀ n ∈ s.blk.cmdNis (scopeTyOf c) (scopeIdOf c),
        (s.blk.immProfile ≠ 11 → (b'.ni n).cairnK = byteOf c 12 ∧ (b'.ni n).cairnMask = byteOf c 13 ∧ (b'.ni n).cairnCnt = 0) ∧
        (s.blk.immProfile = 11 → (b'.ni n).cairnNext = some (byteOf c 12, byteOf c 13)))) ∧
    (Served s.blk c (telemetryConfigForm c) → scopeTyOf c ≠ 12 → s.blk.immProfile ≠ 11 → Completes (.telemetryConfig c) s (fun b' =>
      CplOf s.blk b' c stOk 0 [] ∧ ∀ e ∈ telElems (scopeTyOf c) (scopeIdOf c), (b'.elem e).tel.nextWindow = some (fieldOf c 16 4) ∧
        (b'.elem e).tel.enable = byteOf c 20 ∧ (b'.elem e).tel.ring = byteOf c 21)) ∧
    (∀ e i, e = fieldOf c 12 2 → i = byteOf c 14 → Served s.blk c (counterReadForm c) → byteOf c 15 = 1 → addrOf c = 0 →
      (isRouter e = true → i < 62) →
      (s.blk.ctrsGone e = true → Completes (.counterRead c) s (fun b' => CplOf s.blk b' c stState 0 [] ∧ OnlyAnswers s.blk b')) ∧
      (s.blk.ctrsGone e = false → Completes (.counterRead c) s (fun b' => CplOf s.blk b' c stOk 0 [(16, 8, s.blk.counterWord e i)] ∧
        (flagOf c 3 = true → (b'.elem e).ctr.get 0 i = 0 ∧ (b'.elem e).ovf.get false i = false) ∧
        (flagOf c 3 = false → OnlyAnswers s.blk b')))) ∧
    (Served s.blk c (timeSetForm c) → s.blk.mayStep = true →
      (flagOf c 3 = false → Completes (.timeSet c) s (fun b' => Taken s.blk b' c 0 0 ∧
        b'.time = { s.blk.time with pendSet := some (fieldOf c 16 8) })) ∧
      (flagOf c 3 = true → Completes (.timeSet c) s (fun b' => Taken s.blk b' c 1 0 ∧
        b'.time = { s.blk.time with ppsWait := some (fieldOf c 16 8, s.blk.now) }))) ∧
    (Served s.blk c (timeAdjustForm c) → s.blk.mayStep = true →
      (s.blk.adjustLate = false → Completes (.timeAdjust c) s (fun b' => Taken s.blk b' c 0 0 ∧
        b'.time = { s.blk.time with pendAdj := s.blk.time.pendAdj + signedOf c 16 8 })) ∧
      (s.blk.adjustLate = true → Completes (.timeAdjust c) s (fun b' => Taken s.blk b' c 0 1 ∧
        b'.time = { s.blk.time with adjLater := s.blk.time.adjLater + signedOf c 16 8 }))) ∧
    (Served s.blk c (queryForm c) →
      (∀ bd, byteOf c 12 = 0 → (s.blk.stw s.blk.leadSrc).build = some bd → s.blk.lead.profile ≠ 9 → Completes (.query c) s (fun b' =>
        OnlyAnswers s.blk b' ∧ CplOf s.blk b' c stOk 0 [(16, 1, s.blk.lead.profile), (17, 1, 0xFF), (18, 1, bit s.blk.lead.epoch 0),
          (19, 1, bit s.blk.lead.mapEpoch 0), (20, 1, bit s.blk.lead.commit.isSome 0 + bit s.blk.lead.mapGran.isSome 1 + bit s.blk.lead.bootRom 2),
          (22, 2, (stwNode s.blk.pkgid s.blk.leadSrc).toNat), (24, 8, bd.toNat)])) ∧
      (∀ x, byteOf c 12 = 2 → x = s.blk.dom (scopeIdOf c) → Completes (.query c) s (fun b' => OnlyAnswers s.blk b' ∧
        CplOf s.blk b' c stOk 0 [(16, 2, x.entries), (18, 2, x.wakeLat), (20, 1, x.wakeFrom % 16 * 16), (21, 2, x.wakeDetail),
          (23, 1, x.wakeSrc), (24, 8, x.wakeTime)])) ∧
      (byteOf c 12 = 6 → c.bufOk = true → Completes (.query c) s (fun b' => OnlyAnswers s.blk b' ∧ CplOf s.blk b' c stOk 0 [] ∧
        HostOut.buffer (BitVec.ofNat 64 (addrOf c)) ((List.range 256).flatMap (fun i =>
          leBytes (s.blk.entry (fieldOf c 16 2) (byteOf c 18 == 1) i) 2)) ∈ b'.hostOut)) ∧
      (∀ p, byteOf c 12 = 10 → p = s.blk.port (scopeIdOf c) → Completes (.query c) s (fun b' => OnlyAnswers s.blk b' ∧
        CplOf s.blk b' c stOk 0 [(16, 1, p.st), (17, 1, p.sparesLeft), (18, 1, p.laneRepairs), (19, 1, p.refusal),
          (24, 8, match p.far with | some (_, x) => x | none => 0)])))

/-- A step runs the command at the front of the queue: it is `exec` of that command on the state with the queue's rest, whatever it answers.
(The queue is the model's own; it stands for the order in which commands reach the block.) -/
def Obligations.StepRunsTheFrontCommand : Prop :=
  ∀ (c : Instr) (rest : List Instr) (s : State), s.pending = c :: rest → step s = exec c { s with pending := rest }

/-- On an empty queue one FCLK passes, and nothing but time does: the counters of FCLK, the time bases, the shapers and the wait counters
advance, and every other part of the block is as it was. (The model's choice, notes/assumptions/2.md.) -/
def Obligations.AnEmptyQueueLetsOneFclkPass : Prop :=
  ∀ s : State, s.pending = [] → step s = .next { s with blk := s.blk.elapse 1 } ∧
    (s.blk.refclk = true → (s.blk.elapse 1).now = s.blk.now + 1) ∧
    (s.blk.refclk = false → s.blk.elapse 1 = s.blk) ∧
    ∀ p, p ∉ [Part.now, .elems, .gates, .tbs] → p.kept s.blk (s.blk.elapse 1)

/-- Every command completes, on every state, and leaves the queue alone; one whose operands name nothing that the fabric has changes nothing.
(That, and that an event whose time has not come leaves the block as it was, are the model's choices, notes/assumptions/57.md and
notes/assumptions/1.md.) -/
def Obligations.EveryCommandAnswers : Prop :=
  ∀ (i : Instr) (s : State),
    (∃ t, exec i s = .next t ∧ t.pending = s.pending) ∧
    (i.WellFormed = false → exec i s = .next s)

/-- At reset every register holds a legal value and the rings are in order, no ring enabled. -/
def Obligations.ResetIsSound : Prop :=
  State.reset.blk.RegsLegal ∧ State.reset.blk.RingsOrdered ∧ State.reset.pending = [] ∧ ∀ n, (State.reset.blk.ring n).en = false

/-- Every step keeps the registers legal: no write, whatever its value, leaves a reserved bit set or a field out of its range (15 R400, R401,
R414; 17 R446 to R458). -/
def Obligations.RegistersStayLegal : Prop :=
  ∀ s t : State, s.blk.RegsLegal → step s = .next t → t.blk.RegsLegal

/-- Every step keeps the rings in order: whatever doorbells the host writes and whatever the block posts, no ring ever holds more entries than
its size, MARK stays between REL and CONS, and each command in flight holds the completion entry reserved for it, so that no completion
overruns its ring (15 R400 to R405, R411, R413, R417). -/
def Obligations.RingsStayInOrder : Prop :=
  ∀ s t : State, s.blk.RingsOrdered → step s = .next t → t.blk.RingsOrdered

/-- The frame of the register commands, the doorbells, the management commands, and of reset, stewards and observation: of the block's parts
only those that `touches` names for the command can differ in the next state (15 R402; 17 R447; 19 R481; 14 R382; 18 R461). -/
def Obligations.FrameOfRegistersAndStartup : Prop :=
  ∀ (i : Instr) (s t : State) (p : Part), family i ∈ [Family.registers, .startup, .stewards, .observe] → exec i s = .next t →
    p ∉ touches i → p.kept s.blk t.blk

/-- The frame of the commands of the mesh and of the network interfaces (04 R112; 06 R170). -/
def Obligations.FrameOfMeshAndInterfaces : Prop :=
  ∀ (i : Instr) (s t : State) (p : Part), family i ∈ [Family.mesh, .ni] → exec i s = .next t → p ∉ touches i → p.kept s.blk t.blk

/-- The frame of the commands of the die-to-die links, the Pass ports and time (08 R248; 09 R273; 07 R212). -/
def Obligations.FrameOfLinksPassAndTime : Prop :=
  ∀ (i : Instr) (s t : State) (p : Part), family i ∈ [Family.links, .pass, .time] → exec i s = .next t →
    p ∉ touches i → p.kept s.blk t.blk

/-- The frame of the commands of epochs, power, faults and profiles (03 R98; 10 R292; 11 R312; 13 R363). -/
def Obligations.FrameOfEpochsPowerAndFaults : Prop :=
  ∀ (i : Instr) (s t : State) (p : Part), family i ∈ [Family.epochs, .power, .faults, .profiles] → exec i s = .next t →
    p ∉ touches i → p.kept s.blk t.blk

/-- The frame of the ring commands: what a descriptor can change when it is served, whatever its bytes (16 R420 to R425). -/
def Obligations.FrameOfRingCommands : Prop :=
  ∀ (i : Instr) (s t : State) (p : Part), family i = Family.commands → exec i s = .next t → p ∉ touches i → p.kept s.blk t.blk

/-- A command that names an element leaves the others of its kind alone: the vectors, the rings, the Pass ports, the crossings, the interfaces
and the links that it does not name; a command served at once touches no ring but its own and its completion ring. -/
def Obligations.OtherElementsAreLeftAlone : Prop :=
  ∀ (i : Instr) (s t : State) (n m : Nat), exec i s = .next t → m ≠ n →
    ((∃ v, i = .vectorCtrlWrite n v) → t.blk.vec m = s.blk.vec m) ∧
    ((∃ x, i ∈ [.post n x, .consumed n x, .read n x, .mark n x, .rewind n x, .release n x, .clearLost n x]) ∨
        (∃ v, i = .ringCtrlWrite n v) ∨ i = .ringStaleTimeout n ∨ i = .hostPortError n →
      t.blk.ring m = s.blk.ring m) ∧
    ((∃ v, i = .passFilterWrite n v) → t.blk.port m = s.blk.port m ∧ ∃ v, t.blk.port n = { s.blk.port n with filter := v }) ∧
    ((∃ c, i = .unitReceiveCredit n c) → t.blk.ni m = s.blk.ni m ∧ ∃ r, t.blk.ni n = { s.blk.ni n with rxCred := r }) ∧
    ((∃ l, i = .phyTrainDone ⟨n, l⟩) ∨ i = .readyReceipt n → m ∉ sides n → t.blk.link m = s.blk.link m) ∧
    ((∃ f side, (i = .fordResetAck ⟨f, side⟩ ∨ i = .fordResetDone ⟨f, side⟩) ∧ f.key = n) ∨ (∃ x, i = .fordClockReturn (.unitPort x) ∧
      (FordId.unitPort x).key = n) →
      t.blk.fords.get {} m = s.blk.fords.get {} m) ∧
    (∀ c : Cmd, i ∈ [.nop c, .query c, .counterRead c, .faultAck c, .mapWrite c, .routeWrite c, .gateLoad c, .regulatorSet c,
        .idleTimerSet c] → m ≠ c.ring → m ≠ c.ring + 8 → t.blk.ring m = s.blk.ring m)

/-- Time and outputs run only forward: but for a reset release, no command takes back an FCLK, an entry, a buffer or an interrupt message that
host memory has received, or a message sent to another package (07 R212; 15 R399). -/
def Obligations.TimeAndOutputsRunForward : Prop :=
  ∀ (i : Instr) (s t : State), i ≠ .resetRelease → exec i s = .next t →
    s.blk.now ≤ t.blk.now ∧ (∃ l, t.blk.hostOut = l ++ s.blk.hostOut) ∧ (∃ l, t.blk.farOut = l ++ s.blk.farOut)

/-- 02 R40: a header built from its fields holds each of them in the bits of the table: every field reads back, AGE, EPOCH, PART, CAIRN and ESC
are 0 until their writers set them, and bits 4:0 are 0. -/
def Obligations.HeaderFieldsStandInTheirBits : Prop :=
  ∀ (dest src : BitVec 16) (cls opc : Nat) (tag : BitVec 10) (len : Nat) (addr : BitVec 46) (tier : Nat) (ord poison : Bool),
    cls < 8 → opc < 64 → len < 8 → tier < 4 →
    let h := mkHdr dest src cls opc tag len addr tier ord poison
    h.extractLsb' 112 16 = dest ∧ h.extractLsb' 96 16 = src ∧ h.extractLsb' 93 3 = BitVec.ofNat 3 cls ∧
    h.extractLsb' 87 6 = BitVec.ofNat 6 opc ∧ h.extractLsb' 77 10 = tag ∧ h.extractLsb' 74 3 = BitVec.ofNat 3 len ∧
    h.extractLsb' 55 19 = 0#19 ∧ h.extractLsb' 9 46 = addr ∧ h.extractLsb' 7 2 = BitVec.ofNat 2 tier ∧
    h.getLsbD 6 = ord ∧ h.getLsbD 5 = poison ∧ h.extractLsb' 0 5 = 0#5
end

