-- ==== Sys2Proof/Laws/Table.lean ====
section
/-! SUPPORT. The laws of the sparse table: a read after a write, and the canonical form. -/

namespace Sys2Proof

variable {α : Type}

/-- A read at the key just written gives the value written. -/
@[simp] theorem SMap.get_set_self (d : α) (m : SMap α) (k : Nat) (v : α) : SMap.get d (m.set k v) k = v := by
  induction m with
  | nil => simp [SMap.set, SMap.get]
  | cons e m ih =>
    obtain ⟨k', v'⟩ := e
    simp only [SMap.set]
    split
    · simp [SMap.get]
    · split
      · simp [SMap.get]
      · simp [SMap.get, *]

/-- A write leaves every other key as it was. -/
theorem SMap.get_set_ne (d : α) (m : SMap α) {k j : Nat} (v : α) (h : j ≠ k) : SMap.get d (m.set k v) j = SMap.get d m j := by
  induction m with
  | nil => simp [SMap.set, SMap.get, h]
  | cons e m ih =>
    obtain ⟨k', v'⟩ := e
    simp only [SMap.set]
    split
    · next hk => subst hk; simp [SMap.get, h]
    · split
      · simp [SMap.get, h]
      · simp only [SMap.get, ih]

/-- A read after a write, by whether the keys agree. -/
theorem SMap.get_set (d : α) (m : SMap α) (k j : Nat) (v : α) :
    SMap.get d (m.set k v) j = if j = k then v else SMap.get d m j := by
  split
  · next h => subst h; simp
  · next h => exact SMap.get_set_ne d m v h

/-- `find` and `get` agree. -/
theorem SMap.get_eq_find (d : α) (m : SMap α) (k : Nat) : SMap.get d m k = (m.find k).getD d := by
  induction m with
  | nil => rfl
  | cons e m ih => obtain ⟨k', v'⟩ := e; simp only [SMap.get, SMap.find]; split <;> simp_all

/-- A lookup at the key just written finds the value. -/
@[simp] theorem SMap.find_set_self (m : SMap α) (k : Nat) (v : α) : (m.set k v).find k = some v := by
  induction m with
  | nil => simp [SMap.set, SMap.find]
  | cons e m ih =>
    obtain ⟨k', v'⟩ := e
    simp only [SMap.set]
    split
    · simp [SMap.find]
    · split
      · simp [SMap.find]
      · simp [SMap.find, *]

/-- A write leaves every other lookup as it was. -/
theorem SMap.find_set_ne (m : SMap α) {k j : Nat} (v : α) (h : j ≠ k) : (m.set k v).find j = m.find j := by
  induction m with
  | nil => simp [SMap.set, SMap.find, h]
  | cons e m ih =>
    obtain ⟨k', v'⟩ := e
    simp only [SMap.set]
    split
    · next hk => subst hk; simp [SMap.find, h]
    · split
      · simp [SMap.find, h]
      · simp only [SMap.find, ih]

/-- `mod` at its own key. -/
@[simp] theorem SMap.get_mod_self (d : α) (m : SMap α) (k : Nat) (f : α → α) : SMap.get d (m.mod d k f) k = f (SMap.get d m k) := by
  simp [SMap.mod]

/-- `mod` at another key. -/
theorem SMap.get_mod_ne (d : α) (m : SMap α) {k j : Nat} (f : α → α) (h : j ≠ k) : SMap.get d (m.mod d k f) j = SMap.get d m j := by
  simp [SMap.mod, SMap.get_set_ne d m _ h]

/-- An erased key is not found. -/
@[simp] theorem SMap.find_erase_self (m : SMap α) (k : Nat) : (m.erase k).find k = none := by
  induction m with
  | nil => rfl
  | cons e m ih =>
    obtain ⟨k', v'⟩ := e
    simp only [SMap.erase, List.filter_cons]
    split
    · next h =>
      have hk : k ≠ k' := fun e => by simp [e] at h
      rw [SMap.find, if_neg hk]
      exact ih
    · exact ih

/-- An erased key reads as the default. -/
@[simp] theorem SMap.get_erase_self (d : α) (m : SMap α) (k : Nat) : SMap.get d (m.erase k) k = d := by
  simp [SMap.get_eq_find]

/-- Erasing leaves every other lookup as it was. -/
theorem SMap.find_erase_ne (m : SMap α) {k j : Nat} (h : j ≠ k) : (m.erase k).find j = m.find j := by
  induction m with
  | nil => rfl
  | cons e m ih =>
    obtain ⟨k', v'⟩ := e
    simp only [SMap.erase, List.filter_cons]
    split
    · simp only [SMap.find]; split
      · rfl
      · exact ih
    · next hk =>
      have : k' = k := by simpa using hk
      rw [SMap.find, if_neg (this ▸ h)]
      exact ih

/-- A lookup after every value is changed. -/
theorem SMap.find_mapVals (m : SMap α) (f : Nat → α → α) (k : Nat) : (m.mapVals f).find k = (m.find k).map (f k) := by
  induction m with
  | nil => rfl
  | cons e m ih =>
    obtain ⟨k', v'⟩ := e
    simp only [SMap.mapVals, List.map_cons, SMap.find]
    split
    · next h => subst h; rfl
    · exact ih

/-! ### The canonical form -/

/-- Keys that rise from a bound rise from a lower one. -/
theorem SMap.risingFrom_mono {lo lo' : Nat} (m : SMap α) (h : lo' ≤ lo) (hm : SMap.risingFrom lo m = true) : SMap.risingFrom lo' m = true := by
  cases m with
  | nil => rfl
  | cons e m =>
    obtain ⟨k, v⟩ := e
    simp only [SMap.risingFrom, Bool.and_eq_true, decide_eq_true_eq] at hm ⊢
    exact ⟨h.trans hm.1, hm.2⟩

/-- A write keeps the keys rising. -/
theorem SMap.risingFrom_set (m : SMap α) (lo k : Nat) (v : α) (hk : lo ≤ k) (hm : SMap.risingFrom lo m = true) :
    SMap.risingFrom lo (m.set k v) = true := by
  induction m generalizing lo with
  | nil => simp [SMap.set, SMap.risingFrom, hk]
  | cons e m ih =>
    obtain ⟨k', v'⟩ := e
    simp only [SMap.risingFrom, Bool.and_eq_true, decide_eq_true_eq] at hm
    simp only [SMap.set]
    split
    · next h => subst h; simp [SMap.risingFrom, hk, hm.2]
    · split
      · next h => simp [SMap.risingFrom, hk, hm.2]; omega
      · next h1 h2 =>
        simp only [SMap.risingFrom, Bool.and_eq_true, decide_eq_true_eq]
        exact ⟨hm.1, ih (k' + 1) (by omega) hm.2⟩

/-- A write keeps the canonical form. -/
theorem SMap.wf_set (m : SMap α) (k : Nat) (v : α) (hm : m.wf = true) : (m.set k v).wf = true :=
  SMap.risingFrom_set m 0 k v (Nat.zero_le _) hm

/-- A change keeps the canonical form. -/
theorem SMap.wf_mod (d : α) (m : SMap α) (k : Nat) (f : α → α) (hm : m.wf = true) : (m.mod d k f).wf = true :=
  SMap.wf_set m k _ hm

/-- Filtering keeps the keys rising. -/
theorem SMap.risingFrom_filter (m : SMap α) (lo : Nat) (p : Nat × α → Bool) (hm : SMap.risingFrom lo m = true) :
    SMap.risingFrom lo (m.filter p) = true := by
  induction m generalizing lo with
  | nil => rfl
  | cons e m ih =>
    obtain ⟨k, v⟩ := e
    simp only [SMap.risingFrom, Bool.and_eq_true, decide_eq_true_eq] at hm
    simp only [List.filter_cons]
    split
    · simp only [SMap.risingFrom, Bool.and_eq_true, decide_eq_true_eq]
      exact ⟨hm.1, ih _ hm.2⟩
    · exact SMap.risingFrom_mono _ (by omega) (ih _ hm.2)

/-- Erasing keeps the canonical form. -/
theorem SMap.wf_erase (m : SMap α) (k : Nat) (hm : m.wf = true) : (m.erase k).wf = true :=
  SMap.risingFrom_filter m 0 _ hm

/-- Changing every value keeps the canonical form. -/
theorem SMap.wf_mapVals (m : SMap α) (f : Nat → α → α) (hm : m.wf = true) : (m.mapVals f).wf = true := by
  suffices ∀ lo, SMap.risingFrom lo m = true → SMap.risingFrom lo (m.mapVals f) = true from this 0 hm
  clear hm
  induction m with
  | nil => intro _ _; rfl
  | cons e m ih =>
    obtain ⟨k, v⟩ := e
    intro lo h
    simp only [SMap.risingFrom, Bool.and_eq_true, decide_eq_true_eq] at h
    simp only [SMap.mapVals, List.map_cons, SMap.risingFrom, Bool.and_eq_true, decide_eq_true_eq]
    exact ⟨h.1, ih _ h.2⟩

end Sys2Proof
end

