-- ==== Sys2Proof/Laws/State.lean ====
section
/-! SUPPORT. Each update of one table of the block: what it writes, and every other field, as before. -/

namespace Sys2Proof.Machine

variable (b : Block)

/-! ### `modElem` -/

@[simp] theorem Block.modElem_now (e : Nat) (f : Elem → Elem) : (b.modElem e f).now = b.now := rfl
@[simp] theorem Block.modElem_pkgid (e : Nat) (f : Elem → Elem) : (b.modElem e f).pkgid = b.pkgid := rfl
@[simp] theorem Block.modElem_strapOk (e : Nat) (f : Elem → Elem) : (b.modElem e f).strapOk = b.strapOk := rfl
@[simp] theorem Block.modElem_fatal (e : Nat) (f : Elem → Elem) : (b.modElem e f).fatal = b.fatal := rfl
@[simp] theorem Block.modElem_fatalKind (e : Nat) (f : Elem → Elem) : (b.modElem e f).fatalKind = b.fatalKind := rfl
@[simp] theorem Block.modElem_refclk (e : Nat) (f : Elem → Elem) : (b.modElem e f).refclk = b.refclk := rfl
@[simp] theorem Block.modElem_fuseSerial (e : Nat) (f : Elem → Elem) : (b.modElem e f).fuseSerial = b.fuseSerial := rfl
@[simp] theorem Block.modElem_fuseKey (e : Nat) (f : Elem → Elem) : (b.modElem e f).fuseKey = b.fuseKey := rfl
@[simp] theorem Block.modElem_fuseMinSec (e : Nat) (f : Elem → Elem) : (b.modElem e f).fuseMinSec = b.fuseMinSec := rfl
@[simp] theorem Block.modElem_design (e : Nat) (f : Elem → Elem) : (b.modElem e f).design = b.design := rfl
@[simp] theorem Block.modElem_colTrained (e : Nat) (f : Elem → Elem) : (b.modElem e f).colTrained = b.colTrained := rfl
@[simp] theorem Block.modElem_ridgeless (e : Nat) (f : Elem → Elem) : (b.modElem e f).ridgeless = b.ridgeless := rfl
@[simp] theorem Block.modElem_i3cWord (e : Nat) (f : Elem → Elem) : (b.modElem e f).i3cWord = b.i3cWord := rfl
@[simp] theorem Block.modElem_tapIr (e : Nat) (f : Elem → Elem) : (b.modElem e f).tapIr = b.tapIr := rfl
@[simp] theorem Block.modElem_errValue (e : Nat) (f : Elem → Elem) : (b.modElem e f).errValue = b.errValue := rfl
@[simp] theorem Block.modElem_errValid (e : Nat) (f : Elem → Elem) : (b.modElem e f).errValid = b.errValid := rfl
@[simp] theorem Block.modElem_errCause (e : Nat) (f : Elem → Elem) : (b.modElem e f).errCause = b.errCause := rfl
@[simp] theorem Block.modElem_errCount (e : Nat) (f : Elem → Elem) : (b.modElem e f).errCount = b.errCount := rfl
@[simp] theorem Block.modElem_errOffset (e : Nat) (f : Elem → Elem) : (b.modElem e f).errOffset = b.errOffset := rfl
@[simp] theorem Block.modElem_freeCtr (e : Nat) (f : Elem → Elem) : (b.modElem e f).freeCtr = b.freeCtr := rfl
@[simp] theorem Block.modElem_wires (e : Nat) (f : Elem → Elem) : (b.modElem e f).wires = b.wires := rfl
@[simp] theorem Block.modElem_crWires (e : Nat) (f : Elem → Elem) : (b.modElem e f).crWires = b.crWires := rfl
@[simp] theorem Block.modElem_fcWires (e : Nat) (f : Elem → Elem) : (b.modElem e f).fcWires = b.fcWires := rfl
@[simp] theorem Block.modElem_nis (e : Nat) (f : Elem → Elem) : (b.modElem e f).nis = b.nis := rfl
@[simp] theorem Block.modElem_gates (e : Nat) (f : Elem → Elem) : (b.modElem e f).gates = b.gates := rfl
@[simp] theorem Block.modElem_fords (e : Nat) (f : Elem → Elem) : (b.modElem e f).fords = b.fords := rfl
@[simp] theorem Block.modElem_links (e : Nat) (f : Elem → Elem) : (b.modElem e f).links = b.links := rfl
@[simp] theorem Block.modElem_ports (e : Nat) (f : Elem → Elem) : (b.modElem e f).ports = b.ports := rfl
@[simp] theorem Block.modElem_tbs (e : Nat) (f : Elem → Elem) : (b.modElem e f).tbs = b.tbs := rfl
@[simp] theorem Block.modElem_timeX (e : Nat) (f : Elem → Elem) : (b.modElem e f).timeX = b.timeX := rfl
@[simp] theorem Block.modElem_time (e : Nat) (f : Elem → Elem) : (b.modElem e f).time = b.time := rfl
@[simp] theorem Block.modElem_ts (e : Nat) (f : Elem → Elem) : (b.modElem e f).ts = b.ts := rfl
@[simp] theorem Block.modElem_doms (e : Nat) (f : Elem → Elem) : (b.modElem e f).doms = b.doms := rfl
@[simp] theorem Block.modElem_regions (e : Nat) (f : Elem → Elem) : (b.modElem e f).regions = b.regions := rfl
@[simp] theorem Block.modElem_stws (e : Nat) (f : Elem → Elem) : (b.modElem e f).stws = b.stws := rfl
@[simp] theorem Block.modElem_scopes (e : Nat) (f : Elem → Elem) : (b.modElem e f).scopes = b.scopes := rfl
@[simp] theorem Block.modElem_gold (e : Nat) (f : Elem → Elem) : (b.modElem e f).gold = b.gold := rfl
@[simp] theorem Block.modElem_wsh (e : Nat) (f : Elem → Elem) : (b.modElem e f).wsh = b.wsh := rfl
@[simp] theorem Block.modElem_rings (e : Nat) (f : Elem → Elem) : (b.modElem e f).rings = b.rings := rfl
@[simp] theorem Block.modElem_vecs (e : Nat) (f : Elem → Elem) : (b.modElem e f).vecs = b.vecs := rfl
@[simp] theorem Block.modElem_lead (e : Nat) (f : Elem → Elem) : (b.modElem e f).lead = b.lead := rfl
@[simp] theorem Block.modElem_map (e : Nat) (f : Elem → Elem) : (b.modElem e f).map = b.map := rfl
@[simp] theorem Block.modElem_groups (e : Nat) (f : Elem → Elem) : (b.modElem e f).groups = b.groups := rfl
@[simp] theorem Block.modElem_members (e : Nat) (f : Elem → Elem) : (b.modElem e f).members = b.members := rfl
@[simp] theorem Block.modElem_agents (e : Nat) (f : Elem → Elem) : (b.modElem e f).agents = b.agents := rfl
@[simp] theorem Block.modElem_aborts (e : Nat) (f : Elem → Elem) : (b.modElem e f).aborts = b.aborts := rfl
@[simp] theorem Block.modElem_hostOut (e : Nat) (f : Elem → Elem) : (b.modElem e f).hostOut = b.hostOut := rfl
@[simp] theorem Block.modElem_farOut (e : Nat) (f : Elem → Elem) : (b.modElem e f).farOut = b.farOut := rfl
/-- What the update writes. -/
@[simp] theorem Block.modElem_elem (e : Nat) (f : Elem → Elem) : (b.modElem e f).elem e = f (b.elem e) := by
  simp [Block.modElem, Block.elem]
/-- Every other one, as before. -/
theorem Block.modElem_elem_ne {i j : Nat} (f : Elem → Elem) (h : j ≠ i) : (b.modElem i f).elem j = b.elem j := by
  simp [Block.modElem, Block.elem, SMap.get_mod_ne _ _ _ h]
@[simp] theorem Block.modElem_ni_of (e : Nat) (i : Nat) (f : Elem → Elem) : (b.modElem e f).ni i = b.ni i := rfl
@[simp] theorem Block.modElem_gate_of (e : Nat) (i : Nat) (f : Elem → Elem) : (b.modElem e f).gate i = b.gate i := rfl
@[simp] theorem Block.modElem_link_of (e : Nat) (i : Nat) (f : Elem → Elem) : (b.modElem e f).link i = b.link i := rfl
@[simp] theorem Block.modElem_port_of (e : Nat) (i : Nat) (f : Elem → Elem) : (b.modElem e f).port i = b.port i := rfl
@[simp] theorem Block.modElem_tb_of (e : Nat) (i : Nat) (f : Elem → Elem) : (b.modElem e f).tb i = b.tb i := rfl
@[simp] theorem Block.modElem_dom_of (e : Nat) (i : Nat) (f : Elem → Elem) : (b.modElem e f).dom i = b.dom i := rfl
@[simp] theorem Block.modElem_region_of (e : Nat) (i : Nat) (f : Elem → Elem) : (b.modElem e f).region i = b.region i := rfl
@[simp] theorem Block.modElem_stw_of (e : Nat) (i : Nat) (f : Elem → Elem) : (b.modElem e f).stw i = b.stw i := rfl
@[simp] theorem Block.modElem_scope_of (e : Nat) (i j : Nat) (f : Elem → Elem) : (b.modElem e f).scope i j = b.scope i j := rfl
@[simp] theorem Block.modElem_ring_of (e : Nat) (i : Nat) (f : Elem → Elem) : (b.modElem e f).ring i = b.ring i := rfl
@[simp] theorem Block.modElem_vec_of (e : Nat) (i : Nat) (f : Elem → Elem) : (b.modElem e f).vec i = b.vec i := rfl

/-! ### `modNi` -/

@[simp] theorem Block.modNi_now (n : Nat) (f : Ni → Ni) : (b.modNi n f).now = b.now := rfl
@[simp] theorem Block.modNi_pkgid (n : Nat) (f : Ni → Ni) : (b.modNi n f).pkgid = b.pkgid := rfl
@[simp] theorem Block.modNi_strapOk (n : Nat) (f : Ni → Ni) : (b.modNi n f).strapOk = b.strapOk := rfl
@[simp] theorem Block.modNi_fatal (n : Nat) (f : Ni → Ni) : (b.modNi n f).fatal = b.fatal := rfl
@[simp] theorem Block.modNi_fatalKind (n : Nat) (f : Ni → Ni) : (b.modNi n f).fatalKind = b.fatalKind := rfl
@[simp] theorem Block.modNi_refclk (n : Nat) (f : Ni → Ni) : (b.modNi n f).refclk = b.refclk := rfl
@[simp] theorem Block.modNi_fuseSerial (n : Nat) (f : Ni → Ni) : (b.modNi n f).fuseSerial = b.fuseSerial := rfl
@[simp] theorem Block.modNi_fuseKey (n : Nat) (f : Ni → Ni) : (b.modNi n f).fuseKey = b.fuseKey := rfl
@[simp] theorem Block.modNi_fuseMinSec (n : Nat) (f : Ni → Ni) : (b.modNi n f).fuseMinSec = b.fuseMinSec := rfl
@[simp] theorem Block.modNi_design (n : Nat) (f : Ni → Ni) : (b.modNi n f).design = b.design := rfl
@[simp] theorem Block.modNi_colTrained (n : Nat) (f : Ni → Ni) : (b.modNi n f).colTrained = b.colTrained := rfl
@[simp] theorem Block.modNi_ridgeless (n : Nat) (f : Ni → Ni) : (b.modNi n f).ridgeless = b.ridgeless := rfl
@[simp] theorem Block.modNi_i3cWord (n : Nat) (f : Ni → Ni) : (b.modNi n f).i3cWord = b.i3cWord := rfl
@[simp] theorem Block.modNi_tapIr (n : Nat) (f : Ni → Ni) : (b.modNi n f).tapIr = b.tapIr := rfl
@[simp] theorem Block.modNi_errValue (n : Nat) (f : Ni → Ni) : (b.modNi n f).errValue = b.errValue := rfl
@[simp] theorem Block.modNi_errValid (n : Nat) (f : Ni → Ni) : (b.modNi n f).errValid = b.errValid := rfl
@[simp] theorem Block.modNi_errCause (n : Nat) (f : Ni → Ni) : (b.modNi n f).errCause = b.errCause := rfl
@[simp] theorem Block.modNi_errCount (n : Nat) (f : Ni → Ni) : (b.modNi n f).errCount = b.errCount := rfl
@[simp] theorem Block.modNi_errOffset (n : Nat) (f : Ni → Ni) : (b.modNi n f).errOffset = b.errOffset := rfl
@[simp] theorem Block.modNi_freeCtr (n : Nat) (f : Ni → Ni) : (b.modNi n f).freeCtr = b.freeCtr := rfl
@[simp] theorem Block.modNi_elems (n : Nat) (f : Ni → Ni) : (b.modNi n f).elems = b.elems := rfl
@[simp] theorem Block.modNi_wires (n : Nat) (f : Ni → Ni) : (b.modNi n f).wires = b.wires := rfl
@[simp] theorem Block.modNi_crWires (n : Nat) (f : Ni → Ni) : (b.modNi n f).crWires = b.crWires := rfl
@[simp] theorem Block.modNi_fcWires (n : Nat) (f : Ni → Ni) : (b.modNi n f).fcWires = b.fcWires := rfl
@[simp] theorem Block.modNi_gates (n : Nat) (f : Ni → Ni) : (b.modNi n f).gates = b.gates := rfl
@[simp] theorem Block.modNi_fords (n : Nat) (f : Ni → Ni) : (b.modNi n f).fords = b.fords := rfl
@[simp] theorem Block.modNi_links (n : Nat) (f : Ni → Ni) : (b.modNi n f).links = b.links := rfl
@[simp] theorem Block.modNi_ports (n : Nat) (f : Ni → Ni) : (b.modNi n f).ports = b.ports := rfl
@[simp] theorem Block.modNi_tbs (n : Nat) (f : Ni → Ni) : (b.modNi n f).tbs = b.tbs := rfl
@[simp] theorem Block.modNi_timeX (n : Nat) (f : Ni → Ni) : (b.modNi n f).timeX = b.timeX := rfl
@[simp] theorem Block.modNi_time (n : Nat) (f : Ni → Ni) : (b.modNi n f).time = b.time := rfl
@[simp] theorem Block.modNi_ts (n : Nat) (f : Ni → Ni) : (b.modNi n f).ts = b.ts := rfl
@[simp] theorem Block.modNi_doms (n : Nat) (f : Ni → Ni) : (b.modNi n f).doms = b.doms := rfl
@[simp] theorem Block.modNi_regions (n : Nat) (f : Ni → Ni) : (b.modNi n f).regions = b.regions := rfl
@[simp] theorem Block.modNi_stws (n : Nat) (f : Ni → Ni) : (b.modNi n f).stws = b.stws := rfl
@[simp] theorem Block.modNi_scopes (n : Nat) (f : Ni → Ni) : (b.modNi n f).scopes = b.scopes := rfl
@[simp] theorem Block.modNi_gold (n : Nat) (f : Ni → Ni) : (b.modNi n f).gold = b.gold := rfl
@[simp] theorem Block.modNi_wsh (n : Nat) (f : Ni → Ni) : (b.modNi n f).wsh = b.wsh := rfl
@[simp] theorem Block.modNi_rings (n : Nat) (f : Ni → Ni) : (b.modNi n f).rings = b.rings := rfl
@[simp] theorem Block.modNi_vecs (n : Nat) (f : Ni → Ni) : (b.modNi n f).vecs = b.vecs := rfl
@[simp] theorem Block.modNi_lead (n : Nat) (f : Ni → Ni) : (b.modNi n f).lead = b.lead := rfl
@[simp] theorem Block.modNi_map (n : Nat) (f : Ni → Ni) : (b.modNi n f).map = b.map := rfl
@[simp] theorem Block.modNi_groups (n : Nat) (f : Ni → Ni) : (b.modNi n f).groups = b.groups := rfl
@[simp] theorem Block.modNi_members (n : Nat) (f : Ni → Ni) : (b.modNi n f).members = b.members := rfl
@[simp] theorem Block.modNi_agents (n : Nat) (f : Ni → Ni) : (b.modNi n f).agents = b.agents := rfl
@[simp] theorem Block.modNi_aborts (n : Nat) (f : Ni → Ni) : (b.modNi n f).aborts = b.aborts := rfl
@[simp] theorem Block.modNi_hostOut (n : Nat) (f : Ni → Ni) : (b.modNi n f).hostOut = b.hostOut := rfl
@[simp] theorem Block.modNi_farOut (n : Nat) (f : Ni → Ni) : (b.modNi n f).farOut = b.farOut := rfl
/-- What the update writes. -/
@[simp] theorem Block.modNi_ni (n : Nat) (f : Ni → Ni) : (b.modNi n f).ni n = f (b.ni n) := by
  simp [Block.modNi, Block.ni]
/-- Every other one, as before. -/
theorem Block.modNi_ni_ne {i j : Nat} (f : Ni → Ni) (h : j ≠ i) : (b.modNi i f).ni j = b.ni j := by
  simp [Block.modNi, Block.ni, SMap.get_mod_ne _ _ _ h]
@[simp] theorem Block.modNi_elem_of (n : Nat) (i : Nat) (f : Ni → Ni) : (b.modNi n f).elem i = b.elem i := rfl
@[simp] theorem Block.modNi_gate_of (n : Nat) (i : Nat) (f : Ni → Ni) : (b.modNi n f).gate i = b.gate i := rfl
@[simp] theorem Block.modNi_link_of (n : Nat) (i : Nat) (f : Ni → Ni) : (b.modNi n f).link i = b.link i := rfl
@[simp] theorem Block.modNi_port_of (n : Nat) (i : Nat) (f : Ni → Ni) : (b.modNi n f).port i = b.port i := rfl
@[simp] theorem Block.modNi_tb_of (n : Nat) (i : Nat) (f : Ni → Ni) : (b.modNi n f).tb i = b.tb i := rfl
@[simp] theorem Block.modNi_dom_of (n : Nat) (i : Nat) (f : Ni → Ni) : (b.modNi n f).dom i = b.dom i := rfl
@[simp] theorem Block.modNi_region_of (n : Nat) (i : Nat) (f : Ni → Ni) : (b.modNi n f).region i = b.region i := rfl
@[simp] theorem Block.modNi_stw_of (n : Nat) (i : Nat) (f : Ni → Ni) : (b.modNi n f).stw i = b.stw i := rfl
@[simp] theorem Block.modNi_scope_of (n : Nat) (i j : Nat) (f : Ni → Ni) : (b.modNi n f).scope i j = b.scope i j := rfl
@[simp] theorem Block.modNi_ring_of (n : Nat) (i : Nat) (f : Ni → Ni) : (b.modNi n f).ring i = b.ring i := rfl
@[simp] theorem Block.modNi_vec_of (n : Nat) (i : Nat) (f : Ni → Ni) : (b.modNi n f).vec i = b.vec i := rfl

/-! ### `modGate` -/

@[simp] theorem Block.modGate_now (n : Nat) (f : Gate → Gate) : (b.modGate n f).now = b.now := rfl
@[simp] theorem Block.modGate_pkgid (n : Nat) (f : Gate → Gate) : (b.modGate n f).pkgid = b.pkgid := rfl
@[simp] theorem Block.modGate_strapOk (n : Nat) (f : Gate → Gate) : (b.modGate n f).strapOk = b.strapOk := rfl
@[simp] theorem Block.modGate_fatal (n : Nat) (f : Gate → Gate) : (b.modGate n f).fatal = b.fatal := rfl
@[simp] theorem Block.modGate_fatalKind (n : Nat) (f : Gate → Gate) : (b.modGate n f).fatalKind = b.fatalKind := rfl
@[simp] theorem Block.modGate_refclk (n : Nat) (f : Gate → Gate) : (b.modGate n f).refclk = b.refclk := rfl
@[simp] theorem Block.modGate_fuseSerial (n : Nat) (f : Gate → Gate) : (b.modGate n f).fuseSerial = b.fuseSerial := rfl
@[simp] theorem Block.modGate_fuseKey (n : Nat) (f : Gate → Gate) : (b.modGate n f).fuseKey = b.fuseKey := rfl
@[simp] theorem Block.modGate_fuseMinSec (n : Nat) (f : Gate → Gate) : (b.modGate n f).fuseMinSec = b.fuseMinSec := rfl
@[simp] theorem Block.modGate_design (n : Nat) (f : Gate → Gate) : (b.modGate n f).design = b.design := rfl
@[simp] theorem Block.modGate_colTrained (n : Nat) (f : Gate → Gate) : (b.modGate n f).colTrained = b.colTrained := rfl
@[simp] theorem Block.modGate_ridgeless (n : Nat) (f : Gate → Gate) : (b.modGate n f).ridgeless = b.ridgeless := rfl
@[simp] theorem Block.modGate_i3cWord (n : Nat) (f : Gate → Gate) : (b.modGate n f).i3cWord = b.i3cWord := rfl
@[simp] theorem Block.modGate_tapIr (n : Nat) (f : Gate → Gate) : (b.modGate n f).tapIr = b.tapIr := rfl
@[simp] theorem Block.modGate_errValue (n : Nat) (f : Gate → Gate) : (b.modGate n f).errValue = b.errValue := rfl
@[simp] theorem Block.modGate_errValid (n : Nat) (f : Gate → Gate) : (b.modGate n f).errValid = b.errValid := rfl
@[simp] theorem Block.modGate_errCause (n : Nat) (f : Gate → Gate) : (b.modGate n f).errCause = b.errCause := rfl
@[simp] theorem Block.modGate_errCount (n : Nat) (f : Gate → Gate) : (b.modGate n f).errCount = b.errCount := rfl
@[simp] theorem Block.modGate_errOffset (n : Nat) (f : Gate → Gate) : (b.modGate n f).errOffset = b.errOffset := rfl
@[simp] theorem Block.modGate_freeCtr (n : Nat) (f : Gate → Gate) : (b.modGate n f).freeCtr = b.freeCtr := rfl
@[simp] theorem Block.modGate_elems (n : Nat) (f : Gate → Gate) : (b.modGate n f).elems = b.elems := rfl
@[simp] theorem Block.modGate_wires (n : Nat) (f : Gate → Gate) : (b.modGate n f).wires = b.wires := rfl
@[simp] theorem Block.modGate_crWires (n : Nat) (f : Gate → Gate) : (b.modGate n f).crWires = b.crWires := rfl
@[simp] theorem Block.modGate_fcWires (n : Nat) (f : Gate → Gate) : (b.modGate n f).fcWires = b.fcWires := rfl
@[simp] theorem Block.modGate_nis (n : Nat) (f : Gate → Gate) : (b.modGate n f).nis = b.nis := rfl
@[simp] theorem Block.modGate_fords (n : Nat) (f : Gate → Gate) : (b.modGate n f).fords = b.fords := rfl
@[simp] theorem Block.modGate_links (n : Nat) (f : Gate → Gate) : (b.modGate n f).links = b.links := rfl
@[simp] theorem Block.modGate_ports (n : Nat) (f : Gate → Gate) : (b.modGate n f).ports = b.ports := rfl
@[simp] theorem Block.modGate_tbs (n : Nat) (f : Gate → Gate) : (b.modGate n f).tbs = b.tbs := rfl
@[simp] theorem Block.modGate_timeX (n : Nat) (f : Gate → Gate) : (b.modGate n f).timeX = b.timeX := rfl
@[simp] theorem Block.modGate_time (n : Nat) (f : Gate → Gate) : (b.modGate n f).time = b.time := rfl
@[simp] theorem Block.modGate_ts (n : Nat) (f : Gate → Gate) : (b.modGate n f).ts = b.ts := rfl
@[simp] theorem Block.modGate_doms (n : Nat) (f : Gate → Gate) : (b.modGate n f).doms = b.doms := rfl
@[simp] theorem Block.modGate_regions (n : Nat) (f : Gate → Gate) : (b.modGate n f).regions = b.regions := rfl
@[simp] theorem Block.modGate_stws (n : Nat) (f : Gate → Gate) : (b.modGate n f).stws = b.stws := rfl
@[simp] theorem Block.modGate_scopes (n : Nat) (f : Gate → Gate) : (b.modGate n f).scopes = b.scopes := rfl
@[simp] theorem Block.modGate_gold (n : Nat) (f : Gate → Gate) : (b.modGate n f).gold = b.gold := rfl
@[simp] theorem Block.modGate_wsh (n : Nat) (f : Gate → Gate) : (b.modGate n f).wsh = b.wsh := rfl
@[simp] theorem Block.modGate_rings (n : Nat) (f : Gate → Gate) : (b.modGate n f).rings = b.rings := rfl
@[simp] theorem Block.modGate_vecs (n : Nat) (f : Gate → Gate) : (b.modGate n f).vecs = b.vecs := rfl
@[simp] theorem Block.modGate_lead (n : Nat) (f : Gate → Gate) : (b.modGate n f).lead = b.lead := rfl
@[simp] theorem Block.modGate_map (n : Nat) (f : Gate → Gate) : (b.modGate n f).map = b.map := rfl
@[simp] theorem Block.modGate_groups (n : Nat) (f : Gate → Gate) : (b.modGate n f).groups = b.groups := rfl
@[simp] theorem Block.modGate_members (n : Nat) (f : Gate → Gate) : (b.modGate n f).members = b.members := rfl
@[simp] theorem Block.modGate_agents (n : Nat) (f : Gate → Gate) : (b.modGate n f).agents = b.agents := rfl
@[simp] theorem Block.modGate_aborts (n : Nat) (f : Gate → Gate) : (b.modGate n f).aborts = b.aborts := rfl
@[simp] theorem Block.modGate_hostOut (n : Nat) (f : Gate → Gate) : (b.modGate n f).hostOut = b.hostOut := rfl
@[simp] theorem Block.modGate_farOut (n : Nat) (f : Gate → Gate) : (b.modGate n f).farOut = b.farOut := rfl
/-- What the update writes. -/
@[simp] theorem Block.modGate_gate (n : Nat) (f : Gate → Gate) : (b.modGate n f).gate n = f (b.gate n) := by
  simp [Block.modGate, Block.gate]
/-- Every other one, as before. -/
theorem Block.modGate_gate_ne {i j : Nat} (f : Gate → Gate) (h : j ≠ i) : (b.modGate i f).gate j = b.gate j := by
  simp [Block.modGate, Block.gate, SMap.get_mod_ne _ _ _ h]
@[simp] theorem Block.modGate_elem_of (n : Nat) (i : Nat) (f : Gate → Gate) : (b.modGate n f).elem i = b.elem i := rfl
@[simp] theorem Block.modGate_ni_of (n : Nat) (i : Nat) (f : Gate → Gate) : (b.modGate n f).ni i = b.ni i := rfl
@[simp] theorem Block.modGate_link_of (n : Nat) (i : Nat) (f : Gate → Gate) : (b.modGate n f).link i = b.link i := rfl
@[simp] theorem Block.modGate_port_of (n : Nat) (i : Nat) (f : Gate → Gate) : (b.modGate n f).port i = b.port i := rfl
@[simp] theorem Block.modGate_tb_of (n : Nat) (i : Nat) (f : Gate → Gate) : (b.modGate n f).tb i = b.tb i := rfl
@[simp] theorem Block.modGate_dom_of (n : Nat) (i : Nat) (f : Gate → Gate) : (b.modGate n f).dom i = b.dom i := rfl
@[simp] theorem Block.modGate_region_of (n : Nat) (i : Nat) (f : Gate → Gate) : (b.modGate n f).region i = b.region i := rfl
@[simp] theorem Block.modGate_stw_of (n : Nat) (i : Nat) (f : Gate → Gate) : (b.modGate n f).stw i = b.stw i := rfl
@[simp] theorem Block.modGate_scope_of (n : Nat) (i j : Nat) (f : Gate → Gate) : (b.modGate n f).scope i j = b.scope i j := rfl
@[simp] theorem Block.modGate_ring_of (n : Nat) (i : Nat) (f : Gate → Gate) : (b.modGate n f).ring i = b.ring i := rfl
@[simp] theorem Block.modGate_vec_of (n : Nat) (i : Nat) (f : Gate → Gate) : (b.modGate n f).vec i = b.vec i := rfl

/-! ### `modLink` -/

@[simp] theorem Block.modLink_now (a : Nat) (f : Link → Link) : (b.modLink a f).now = b.now := rfl
@[simp] theorem Block.modLink_pkgid (a : Nat) (f : Link → Link) : (b.modLink a f).pkgid = b.pkgid := rfl
@[simp] theorem Block.modLink_strapOk (a : Nat) (f : Link → Link) : (b.modLink a f).strapOk = b.strapOk := rfl
@[simp] theorem Block.modLink_fatal (a : Nat) (f : Link → Link) : (b.modLink a f).fatal = b.fatal := rfl
@[simp] theorem Block.modLink_fatalKind (a : Nat) (f : Link → Link) : (b.modLink a f).fatalKind = b.fatalKind := rfl
@[simp] theorem Block.modLink_refclk (a : Nat) (f : Link → Link) : (b.modLink a f).refclk = b.refclk := rfl
@[simp] theorem Block.modLink_fuseSerial (a : Nat) (f : Link → Link) : (b.modLink a f).fuseSerial = b.fuseSerial := rfl
@[simp] theorem Block.modLink_fuseKey (a : Nat) (f : Link → Link) : (b.modLink a f).fuseKey = b.fuseKey := rfl
@[simp] theorem Block.modLink_fuseMinSec (a : Nat) (f : Link → Link) : (b.modLink a f).fuseMinSec = b.fuseMinSec := rfl
@[simp] theorem Block.modLink_design (a : Nat) (f : Link → Link) : (b.modLink a f).design = b.design := rfl
@[simp] theorem Block.modLink_colTrained (a : Nat) (f : Link → Link) : (b.modLink a f).colTrained = b.colTrained := rfl
@[simp] theorem Block.modLink_ridgeless (a : Nat) (f : Link → Link) : (b.modLink a f).ridgeless = b.ridgeless := rfl
@[simp] theorem Block.modLink_i3cWord (a : Nat) (f : Link → Link) : (b.modLink a f).i3cWord = b.i3cWord := rfl
@[simp] theorem Block.modLink_tapIr (a : Nat) (f : Link → Link) : (b.modLink a f).tapIr = b.tapIr := rfl
@[simp] theorem Block.modLink_errValue (a : Nat) (f : Link → Link) : (b.modLink a f).errValue = b.errValue := rfl
@[simp] theorem Block.modLink_errValid (a : Nat) (f : Link → Link) : (b.modLink a f).errValid = b.errValid := rfl
@[simp] theorem Block.modLink_errCause (a : Nat) (f : Link → Link) : (b.modLink a f).errCause = b.errCause := rfl
@[simp] theorem Block.modLink_errCount (a : Nat) (f : Link → Link) : (b.modLink a f).errCount = b.errCount := rfl
@[simp] theorem Block.modLink_errOffset (a : Nat) (f : Link → Link) : (b.modLink a f).errOffset = b.errOffset := rfl
@[simp] theorem Block.modLink_freeCtr (a : Nat) (f : Link → Link) : (b.modLink a f).freeCtr = b.freeCtr := rfl
@[simp] theorem Block.modLink_elems (a : Nat) (f : Link → Link) : (b.modLink a f).elems = b.elems := rfl
@[simp] theorem Block.modLink_wires (a : Nat) (f : Link → Link) : (b.modLink a f).wires = b.wires := rfl
@[simp] theorem Block.modLink_crWires (a : Nat) (f : Link → Link) : (b.modLink a f).crWires = b.crWires := rfl
@[simp] theorem Block.modLink_fcWires (a : Nat) (f : Link → Link) : (b.modLink a f).fcWires = b.fcWires := rfl
@[simp] theorem Block.modLink_nis (a : Nat) (f : Link → Link) : (b.modLink a f).nis = b.nis := rfl
@[simp] theorem Block.modLink_gates (a : Nat) (f : Link → Link) : (b.modLink a f).gates = b.gates := rfl
@[simp] theorem Block.modLink_fords (a : Nat) (f : Link → Link) : (b.modLink a f).fords = b.fords := rfl
@[simp] theorem Block.modLink_ports (a : Nat) (f : Link → Link) : (b.modLink a f).ports = b.ports := rfl
@[simp] theorem Block.modLink_tbs (a : Nat) (f : Link → Link) : (b.modLink a f).tbs = b.tbs := rfl
@[simp] theorem Block.modLink_timeX (a : Nat) (f : Link → Link) : (b.modLink a f).timeX = b.timeX := rfl
@[simp] theorem Block.modLink_time (a : Nat) (f : Link → Link) : (b.modLink a f).time = b.time := rfl
@[simp] theorem Block.modLink_ts (a : Nat) (f : Link → Link) : (b.modLink a f).ts = b.ts := rfl
@[simp] theorem Block.modLink_doms (a : Nat) (f : Link → Link) : (b.modLink a f).doms = b.doms := rfl
@[simp] theorem Block.modLink_regions (a : Nat) (f : Link → Link) : (b.modLink a f).regions = b.regions := rfl
@[simp] theorem Block.modLink_stws (a : Nat) (f : Link → Link) : (b.modLink a f).stws = b.stws := rfl
@[simp] theorem Block.modLink_scopes (a : Nat) (f : Link → Link) : (b.modLink a f).scopes = b.scopes := rfl
@[simp] theorem Block.modLink_gold (a : Nat) (f : Link → Link) : (b.modLink a f).gold = b.gold := rfl
@[simp] theorem Block.modLink_wsh (a : Nat) (f : Link → Link) : (b.modLink a f).wsh = b.wsh := rfl
@[simp] theorem Block.modLink_rings (a : Nat) (f : Link → Link) : (b.modLink a f).rings = b.rings := rfl
@[simp] theorem Block.modLink_vecs (a : Nat) (f : Link → Link) : (b.modLink a f).vecs = b.vecs := rfl
@[simp] theorem Block.modLink_lead (a : Nat) (f : Link → Link) : (b.modLink a f).lead = b.lead := rfl
@[simp] theorem Block.modLink_map (a : Nat) (f : Link → Link) : (b.modLink a f).map = b.map := rfl
@[simp] theorem Block.modLink_groups (a : Nat) (f : Link → Link) : (b.modLink a f).groups = b.groups := rfl
@[simp] theorem Block.modLink_members (a : Nat) (f : Link → Link) : (b.modLink a f).members = b.members := rfl
@[simp] theorem Block.modLink_agents (a : Nat) (f : Link → Link) : (b.modLink a f).agents = b.agents := rfl
@[simp] theorem Block.modLink_aborts (a : Nat) (f : Link → Link) : (b.modLink a f).aborts = b.aborts := rfl
@[simp] theorem Block.modLink_hostOut (a : Nat) (f : Link → Link) : (b.modLink a f).hostOut = b.hostOut := rfl
@[simp] theorem Block.modLink_farOut (a : Nat) (f : Link → Link) : (b.modLink a f).farOut = b.farOut := rfl
/-- What the update writes. -/
@[simp] theorem Block.modLink_link (a : Nat) (f : Link → Link) : (b.modLink a f).link a = f (b.link a) := by
  simp [Block.modLink, Block.link]
/-- Every other one, as before. -/
theorem Block.modLink_link_ne {i j : Nat} (f : Link → Link) (h : j ≠ i) : (b.modLink i f).link j = b.link j := by
  simp [Block.modLink, Block.link, SMap.get_mod_ne _ _ _ h]
@[simp] theorem Block.modLink_elem_of (a : Nat) (i : Nat) (f : Link → Link) : (b.modLink a f).elem i = b.elem i := rfl
@[simp] theorem Block.modLink_ni_of (a : Nat) (i : Nat) (f : Link → Link) : (b.modLink a f).ni i = b.ni i := rfl
@[simp] theorem Block.modLink_gate_of (a : Nat) (i : Nat) (f : Link → Link) : (b.modLink a f).gate i = b.gate i := rfl
@[simp] theorem Block.modLink_port_of (a : Nat) (i : Nat) (f : Link → Link) : (b.modLink a f).port i = b.port i := rfl
@[simp] theorem Block.modLink_tb_of (a : Nat) (i : Nat) (f : Link → Link) : (b.modLink a f).tb i = b.tb i := rfl
@[simp] theorem Block.modLink_dom_of (a : Nat) (i : Nat) (f : Link → Link) : (b.modLink a f).dom i = b.dom i := rfl
@[simp] theorem Block.modLink_region_of (a : Nat) (i : Nat) (f : Link → Link) : (b.modLink a f).region i = b.region i := rfl
@[simp] theorem Block.modLink_stw_of (a : Nat) (i : Nat) (f : Link → Link) : (b.modLink a f).stw i = b.stw i := rfl
@[simp] theorem Block.modLink_scope_of (a : Nat) (i j : Nat) (f : Link → Link) : (b.modLink a f).scope i j = b.scope i j := rfl
@[simp] theorem Block.modLink_ring_of (a : Nat) (i : Nat) (f : Link → Link) : (b.modLink a f).ring i = b.ring i := rfl
@[simp] theorem Block.modLink_vec_of (a : Nat) (i : Nat) (f : Link → Link) : (b.modLink a f).vec i = b.vec i := rfl

/-! ### `modPort` -/

@[simp] theorem Block.modPort_now (k : Nat) (f : Pass → Pass) : (b.modPort k f).now = b.now := rfl
@[simp] theorem Block.modPort_pkgid (k : Nat) (f : Pass → Pass) : (b.modPort k f).pkgid = b.pkgid := rfl
@[simp] theorem Block.modPort_strapOk (k : Nat) (f : Pass → Pass) : (b.modPort k f).strapOk = b.strapOk := rfl
@[simp] theorem Block.modPort_fatal (k : Nat) (f : Pass → Pass) : (b.modPort k f).fatal = b.fatal := rfl
@[simp] theorem Block.modPort_fatalKind (k : Nat) (f : Pass → Pass) : (b.modPort k f).fatalKind = b.fatalKind := rfl
@[simp] theorem Block.modPort_refclk (k : Nat) (f : Pass → Pass) : (b.modPort k f).refclk = b.refclk := rfl
@[simp] theorem Block.modPort_fuseSerial (k : Nat) (f : Pass → Pass) : (b.modPort k f).fuseSerial = b.fuseSerial := rfl
@[simp] theorem Block.modPort_fuseKey (k : Nat) (f : Pass → Pass) : (b.modPort k f).fuseKey = b.fuseKey := rfl
@[simp] theorem Block.modPort_fuseMinSec (k : Nat) (f : Pass → Pass) : (b.modPort k f).fuseMinSec = b.fuseMinSec := rfl
@[simp] theorem Block.modPort_design (k : Nat) (f : Pass → Pass) : (b.modPort k f).design = b.design := rfl
@[simp] theorem Block.modPort_colTrained (k : Nat) (f : Pass → Pass) : (b.modPort k f).colTrained = b.colTrained := rfl
@[simp] theorem Block.modPort_ridgeless (k : Nat) (f : Pass → Pass) : (b.modPort k f).ridgeless = b.ridgeless := rfl
@[simp] theorem Block.modPort_i3cWord (k : Nat) (f : Pass → Pass) : (b.modPort k f).i3cWord = b.i3cWord := rfl
@[simp] theorem Block.modPort_tapIr (k : Nat) (f : Pass → Pass) : (b.modPort k f).tapIr = b.tapIr := rfl
@[simp] theorem Block.modPort_errValue (k : Nat) (f : Pass → Pass) : (b.modPort k f).errValue = b.errValue := rfl
@[simp] theorem Block.modPort_errValid (k : Nat) (f : Pass → Pass) : (b.modPort k f).errValid = b.errValid := rfl
@[simp] theorem Block.modPort_errCause (k : Nat) (f : Pass → Pass) : (b.modPort k f).errCause = b.errCause := rfl
@[simp] theorem Block.modPort_errCount (k : Nat) (f : Pass → Pass) : (b.modPort k f).errCount = b.errCount := rfl
@[simp] theorem Block.modPort_errOffset (k : Nat) (f : Pass → Pass) : (b.modPort k f).errOffset = b.errOffset := rfl
@[simp] theorem Block.modPort_freeCtr (k : Nat) (f : Pass → Pass) : (b.modPort k f).freeCtr = b.freeCtr := rfl
@[simp] theorem Block.modPort_elems (k : Nat) (f : Pass → Pass) : (b.modPort k f).elems = b.elems := rfl
@[simp] theorem Block.modPort_wires (k : Nat) (f : Pass → Pass) : (b.modPort k f).wires = b.wires := rfl
@[simp] theorem Block.modPort_crWires (k : Nat) (f : Pass → Pass) : (b.modPort k f).crWires = b.crWires := rfl
@[simp] theorem Block.modPort_fcWires (k : Nat) (f : Pass → Pass) : (b.modPort k f).fcWires = b.fcWires := rfl
@[simp] theorem Block.modPort_nis (k : Nat) (f : Pass → Pass) : (b.modPort k f).nis = b.nis := rfl
@[simp] theorem Block.modPort_gates (k : Nat) (f : Pass → Pass) : (b.modPort k f).gates = b.gates := rfl
@[simp] theorem Block.modPort_fords (k : Nat) (f : Pass → Pass) : (b.modPort k f).fords = b.fords := rfl
@[simp] theorem Block.modPort_links (k : Nat) (f : Pass → Pass) : (b.modPort k f).links = b.links := rfl
@[simp] theorem Block.modPort_tbs (k : Nat) (f : Pass → Pass) : (b.modPort k f).tbs = b.tbs := rfl
@[simp] theorem Block.modPort_timeX (k : Nat) (f : Pass → Pass) : (b.modPort k f).timeX = b.timeX := rfl
@[simp] theorem Block.modPort_time (k : Nat) (f : Pass → Pass) : (b.modPort k f).time = b.time := rfl
@[simp] theorem Block.modPort_ts (k : Nat) (f : Pass → Pass) : (b.modPort k f).ts = b.ts := rfl
@[simp] theorem Block.modPort_doms (k : Nat) (f : Pass → Pass) : (b.modPort k f).doms = b.doms := rfl
@[simp] theorem Block.modPort_regions (k : Nat) (f : Pass → Pass) : (b.modPort k f).regions = b.regions := rfl
@[simp] theorem Block.modPort_stws (k : Nat) (f : Pass → Pass) : (b.modPort k f).stws = b.stws := rfl
@[simp] theorem Block.modPort_scopes (k : Nat) (f : Pass → Pass) : (b.modPort k f).scopes = b.scopes := rfl
@[simp] theorem Block.modPort_gold (k : Nat) (f : Pass → Pass) : (b.modPort k f).gold = b.gold := rfl
@[simp] theorem Block.modPort_wsh (k : Nat) (f : Pass → Pass) : (b.modPort k f).wsh = b.wsh := rfl
@[simp] theorem Block.modPort_rings (k : Nat) (f : Pass → Pass) : (b.modPort k f).rings = b.rings := rfl
@[simp] theorem Block.modPort_vecs (k : Nat) (f : Pass → Pass) : (b.modPort k f).vecs = b.vecs := rfl
@[simp] theorem Block.modPort_lead (k : Nat) (f : Pass → Pass) : (b.modPort k f).lead = b.lead := rfl
@[simp] theorem Block.modPort_map (k : Nat) (f : Pass → Pass) : (b.modPort k f).map = b.map := rfl
@[simp] theorem Block.modPort_groups (k : Nat) (f : Pass → Pass) : (b.modPort k f).groups = b.groups := rfl
@[simp] theorem Block.modPort_members (k : Nat) (f : Pass → Pass) : (b.modPort k f).members = b.members := rfl
@[simp] theorem Block.modPort_agents (k : Nat) (f : Pass → Pass) : (b.modPort k f).agents = b.agents := rfl
@[simp] theorem Block.modPort_aborts (k : Nat) (f : Pass → Pass) : (b.modPort k f).aborts = b.aborts := rfl
@[simp] theorem Block.modPort_hostOut (k : Nat) (f : Pass → Pass) : (b.modPort k f).hostOut = b.hostOut := rfl
@[simp] theorem Block.modPort_farOut (k : Nat) (f : Pass → Pass) : (b.modPort k f).farOut = b.farOut := rfl
/-- What the update writes. -/
@[simp] theorem Block.modPort_port (k : Nat) (f : Pass → Pass) : (b.modPort k f).port k = f (b.port k) := by
  simp [Block.modPort, Block.port]
/-- Every other one, as before. -/
theorem Block.modPort_port_ne {i j : Nat} (f : Pass → Pass) (h : j ≠ i) : (b.modPort i f).port j = b.port j := by
  simp [Block.modPort, Block.port, SMap.get_mod_ne _ _ _ h]
@[simp] theorem Block.modPort_elem_of (k : Nat) (i : Nat) (f : Pass → Pass) : (b.modPort k f).elem i = b.elem i := rfl
@[simp] theorem Block.modPort_ni_of (k : Nat) (i : Nat) (f : Pass → Pass) : (b.modPort k f).ni i = b.ni i := rfl
@[simp] theorem Block.modPort_gate_of (k : Nat) (i : Nat) (f : Pass → Pass) : (b.modPort k f).gate i = b.gate i := rfl
@[simp] theorem Block.modPort_link_of (k : Nat) (i : Nat) (f : Pass → Pass) : (b.modPort k f).link i = b.link i := rfl
@[simp] theorem Block.modPort_tb_of (k : Nat) (i : Nat) (f : Pass → Pass) : (b.modPort k f).tb i = b.tb i := rfl
@[simp] theorem Block.modPort_dom_of (k : Nat) (i : Nat) (f : Pass → Pass) : (b.modPort k f).dom i = b.dom i := rfl
@[simp] theorem Block.modPort_region_of (k : Nat) (i : Nat) (f : Pass → Pass) : (b.modPort k f).region i = b.region i := rfl
@[simp] theorem Block.modPort_stw_of (k : Nat) (i : Nat) (f : Pass → Pass) : (b.modPort k f).stw i = b.stw i := rfl
@[simp] theorem Block.modPort_scope_of (k : Nat) (i j : Nat) (f : Pass → Pass) : (b.modPort k f).scope i j = b.scope i j := rfl
@[simp] theorem Block.modPort_ring_of (k : Nat) (i : Nat) (f : Pass → Pass) : (b.modPort k f).ring i = b.ring i := rfl
@[simp] theorem Block.modPort_vec_of (k : Nat) (i : Nat) (f : Pass → Pass) : (b.modPort k f).vec i = b.vec i := rfl

/-! ### `modTb` -/

@[simp] theorem Block.modTb_now (d : Nat) (f : Tb → Tb) : (b.modTb d f).now = b.now := rfl
@[simp] theorem Block.modTb_pkgid (d : Nat) (f : Tb → Tb) : (b.modTb d f).pkgid = b.pkgid := rfl
@[simp] theorem Block.modTb_strapOk (d : Nat) (f : Tb → Tb) : (b.modTb d f).strapOk = b.strapOk := rfl
@[simp] theorem Block.modTb_fatal (d : Nat) (f : Tb → Tb) : (b.modTb d f).fatal = b.fatal := rfl
@[simp] theorem Block.modTb_fatalKind (d : Nat) (f : Tb → Tb) : (b.modTb d f).fatalKind = b.fatalKind := rfl
@[simp] theorem Block.modTb_refclk (d : Nat) (f : Tb → Tb) : (b.modTb d f).refclk = b.refclk := rfl
@[simp] theorem Block.modTb_fuseSerial (d : Nat) (f : Tb → Tb) : (b.modTb d f).fuseSerial = b.fuseSerial := rfl
@[simp] theorem Block.modTb_fuseKey (d : Nat) (f : Tb → Tb) : (b.modTb d f).fuseKey = b.fuseKey := rfl
@[simp] theorem Block.modTb_fuseMinSec (d : Nat) (f : Tb → Tb) : (b.modTb d f).fuseMinSec = b.fuseMinSec := rfl
@[simp] theorem Block.modTb_design (d : Nat) (f : Tb → Tb) : (b.modTb d f).design = b.design := rfl
@[simp] theorem Block.modTb_colTrained (d : Nat) (f : Tb → Tb) : (b.modTb d f).colTrained = b.colTrained := rfl
@[simp] theorem Block.modTb_ridgeless (d : Nat) (f : Tb → Tb) : (b.modTb d f).ridgeless = b.ridgeless := rfl
@[simp] theorem Block.modTb_i3cWord (d : Nat) (f : Tb → Tb) : (b.modTb d f).i3cWord = b.i3cWord := rfl
@[simp] theorem Block.modTb_tapIr (d : Nat) (f : Tb → Tb) : (b.modTb d f).tapIr = b.tapIr := rfl
@[simp] theorem Block.modTb_errValue (d : Nat) (f : Tb → Tb) : (b.modTb d f).errValue = b.errValue := rfl
@[simp] theorem Block.modTb_errValid (d : Nat) (f : Tb → Tb) : (b.modTb d f).errValid = b.errValid := rfl
@[simp] theorem Block.modTb_errCause (d : Nat) (f : Tb → Tb) : (b.modTb d f).errCause = b.errCause := rfl
@[simp] theorem Block.modTb_errCount (d : Nat) (f : Tb → Tb) : (b.modTb d f).errCount = b.errCount := rfl
@[simp] theorem Block.modTb_errOffset (d : Nat) (f : Tb → Tb) : (b.modTb d f).errOffset = b.errOffset := rfl
@[simp] theorem Block.modTb_freeCtr (d : Nat) (f : Tb → Tb) : (b.modTb d f).freeCtr = b.freeCtr := rfl
@[simp] theorem Block.modTb_elems (d : Nat) (f : Tb → Tb) : (b.modTb d f).elems = b.elems := rfl
@[simp] theorem Block.modTb_wires (d : Nat) (f : Tb → Tb) : (b.modTb d f).wires = b.wires := rfl
@[simp] theorem Block.modTb_crWires (d : Nat) (f : Tb → Tb) : (b.modTb d f).crWires = b.crWires := rfl
@[simp] theorem Block.modTb_fcWires (d : Nat) (f : Tb → Tb) : (b.modTb d f).fcWires = b.fcWires := rfl
@[simp] theorem Block.modTb_nis (d : Nat) (f : Tb → Tb) : (b.modTb d f).nis = b.nis := rfl
@[simp] theorem Block.modTb_gates (d : Nat) (f : Tb → Tb) : (b.modTb d f).gates = b.gates := rfl
@[simp] theorem Block.modTb_fords (d : Nat) (f : Tb → Tb) : (b.modTb d f).fords = b.fords := rfl
@[simp] theorem Block.modTb_links (d : Nat) (f : Tb → Tb) : (b.modTb d f).links = b.links := rfl
@[simp] theorem Block.modTb_ports (d : Nat) (f : Tb → Tb) : (b.modTb d f).ports = b.ports := rfl
@[simp] theorem Block.modTb_timeX (d : Nat) (f : Tb → Tb) : (b.modTb d f).timeX = b.timeX := rfl
@[simp] theorem Block.modTb_time (d : Nat) (f : Tb → Tb) : (b.modTb d f).time = b.time := rfl
@[simp] theorem Block.modTb_ts (d : Nat) (f : Tb → Tb) : (b.modTb d f).ts = b.ts := rfl
@[simp] theorem Block.modTb_doms (d : Nat) (f : Tb → Tb) : (b.modTb d f).doms = b.doms := rfl
@[simp] theorem Block.modTb_regions (d : Nat) (f : Tb → Tb) : (b.modTb d f).regions = b.regions := rfl
@[simp] theorem Block.modTb_stws (d : Nat) (f : Tb → Tb) : (b.modTb d f).stws = b.stws := rfl
@[simp] theorem Block.modTb_scopes (d : Nat) (f : Tb → Tb) : (b.modTb d f).scopes = b.scopes := rfl
@[simp] theorem Block.modTb_gold (d : Nat) (f : Tb → Tb) : (b.modTb d f).gold = b.gold := rfl
@[simp] theorem Block.modTb_wsh (d : Nat) (f : Tb → Tb) : (b.modTb d f).wsh = b.wsh := rfl
@[simp] theorem Block.modTb_rings (d : Nat) (f : Tb → Tb) : (b.modTb d f).rings = b.rings := rfl
@[simp] theorem Block.modTb_vecs (d : Nat) (f : Tb → Tb) : (b.modTb d f).vecs = b.vecs := rfl
@[simp] theorem Block.modTb_lead (d : Nat) (f : Tb → Tb) : (b.modTb d f).lead = b.lead := rfl
@[simp] theorem Block.modTb_map (d : Nat) (f : Tb → Tb) : (b.modTb d f).map = b.map := rfl
@[simp] theorem Block.modTb_groups (d : Nat) (f : Tb → Tb) : (b.modTb d f).groups = b.groups := rfl
@[simp] theorem Block.modTb_members (d : Nat) (f : Tb → Tb) : (b.modTb d f).members = b.members := rfl
@[simp] theorem Block.modTb_agents (d : Nat) (f : Tb → Tb) : (b.modTb d f).agents = b.agents := rfl
@[simp] theorem Block.modTb_aborts (d : Nat) (f : Tb → Tb) : (b.modTb d f).aborts = b.aborts := rfl
@[simp] theorem Block.modTb_hostOut (d : Nat) (f : Tb → Tb) : (b.modTb d f).hostOut = b.hostOut := rfl
@[simp] theorem Block.modTb_farOut (d : Nat) (f : Tb → Tb) : (b.modTb d f).farOut = b.farOut := rfl
/-- What the update writes. -/
@[simp] theorem Block.modTb_tb (d : Nat) (f : Tb → Tb) : (b.modTb d f).tb d = f (b.tb d) := by
  simp [Block.modTb, Block.tb]
/-- Every other one, as before. -/
theorem Block.modTb_tb_ne {i j : Nat} (f : Tb → Tb) (h : j ≠ i) : (b.modTb i f).tb j = b.tb j := by
  simp [Block.modTb, Block.tb, SMap.get_mod_ne _ _ _ h]
@[simp] theorem Block.modTb_elem_of (d : Nat) (i : Nat) (f : Tb → Tb) : (b.modTb d f).elem i = b.elem i := rfl
@[simp] theorem Block.modTb_ni_of (d : Nat) (i : Nat) (f : Tb → Tb) : (b.modTb d f).ni i = b.ni i := rfl
@[simp] theorem Block.modTb_gate_of (d : Nat) (i : Nat) (f : Tb → Tb) : (b.modTb d f).gate i = b.gate i := rfl
@[simp] theorem Block.modTb_link_of (d : Nat) (i : Nat) (f : Tb → Tb) : (b.modTb d f).link i = b.link i := rfl
@[simp] theorem Block.modTb_port_of (d : Nat) (i : Nat) (f : Tb → Tb) : (b.modTb d f).port i = b.port i := rfl
@[simp] theorem Block.modTb_dom_of (d : Nat) (i : Nat) (f : Tb → Tb) : (b.modTb d f).dom i = b.dom i := rfl
@[simp] theorem Block.modTb_region_of (d : Nat) (i : Nat) (f : Tb → Tb) : (b.modTb d f).region i = b.region i := rfl
@[simp] theorem Block.modTb_stw_of (d : Nat) (i : Nat) (f : Tb → Tb) : (b.modTb d f).stw i = b.stw i := rfl
@[simp] theorem Block.modTb_scope_of (d : Nat) (i j : Nat) (f : Tb → Tb) : (b.modTb d f).scope i j = b.scope i j := rfl
@[simp] theorem Block.modTb_ring_of (d : Nat) (i : Nat) (f : Tb → Tb) : (b.modTb d f).ring i = b.ring i := rfl
@[simp] theorem Block.modTb_vec_of (d : Nat) (i : Nat) (f : Tb → Tb) : (b.modTb d f).vec i = b.vec i := rfl

/-! ### `modDom` -/

@[simp] theorem Block.modDom_now (d : Nat) (f : Dom → Dom) : (b.modDom d f).now = b.now := rfl
@[simp] theorem Block.modDom_pkgid (d : Nat) (f : Dom → Dom) : (b.modDom d f).pkgid = b.pkgid := rfl
@[simp] theorem Block.modDom_strapOk (d : Nat) (f : Dom → Dom) : (b.modDom d f).strapOk = b.strapOk := rfl
@[simp] theorem Block.modDom_fatal (d : Nat) (f : Dom → Dom) : (b.modDom d f).fatal = b.fatal := rfl
@[simp] theorem Block.modDom_fatalKind (d : Nat) (f : Dom → Dom) : (b.modDom d f).fatalKind = b.fatalKind := rfl
@[simp] theorem Block.modDom_refclk (d : Nat) (f : Dom → Dom) : (b.modDom d f).refclk = b.refclk := rfl
@[simp] theorem Block.modDom_fuseSerial (d : Nat) (f : Dom → Dom) : (b.modDom d f).fuseSerial = b.fuseSerial := rfl
@[simp] theorem Block.modDom_fuseKey (d : Nat) (f : Dom → Dom) : (b.modDom d f).fuseKey = b.fuseKey := rfl
@[simp] theorem Block.modDom_fuseMinSec (d : Nat) (f : Dom → Dom) : (b.modDom d f).fuseMinSec = b.fuseMinSec := rfl
@[simp] theorem Block.modDom_design (d : Nat) (f : Dom → Dom) : (b.modDom d f).design = b.design := rfl
@[simp] theorem Block.modDom_colTrained (d : Nat) (f : Dom → Dom) : (b.modDom d f).colTrained = b.colTrained := rfl
@[simp] theorem Block.modDom_ridgeless (d : Nat) (f : Dom → Dom) : (b.modDom d f).ridgeless = b.ridgeless := rfl
@[simp] theorem Block.modDom_i3cWord (d : Nat) (f : Dom → Dom) : (b.modDom d f).i3cWord = b.i3cWord := rfl
@[simp] theorem Block.modDom_tapIr (d : Nat) (f : Dom → Dom) : (b.modDom d f).tapIr = b.tapIr := rfl
@[simp] theorem Block.modDom_errValue (d : Nat) (f : Dom → Dom) : (b.modDom d f).errValue = b.errValue := rfl
@[simp] theorem Block.modDom_errValid (d : Nat) (f : Dom → Dom) : (b.modDom d f).errValid = b.errValid := rfl
@[simp] theorem Block.modDom_errCause (d : Nat) (f : Dom → Dom) : (b.modDom d f).errCause = b.errCause := rfl
@[simp] theorem Block.modDom_errCount (d : Nat) (f : Dom → Dom) : (b.modDom d f).errCount = b.errCount := rfl
@[simp] theorem Block.modDom_errOffset (d : Nat) (f : Dom → Dom) : (b.modDom d f).errOffset = b.errOffset := rfl
@[simp] theorem Block.modDom_freeCtr (d : Nat) (f : Dom → Dom) : (b.modDom d f).freeCtr = b.freeCtr := rfl
@[simp] theorem Block.modDom_elems (d : Nat) (f : Dom → Dom) : (b.modDom d f).elems = b.elems := rfl
@[simp] theorem Block.modDom_wires (d : Nat) (f : Dom → Dom) : (b.modDom d f).wires = b.wires := rfl
@[simp] theorem Block.modDom_crWires (d : Nat) (f : Dom → Dom) : (b.modDom d f).crWires = b.crWires := rfl
@[simp] theorem Block.modDom_fcWires (d : Nat) (f : Dom → Dom) : (b.modDom d f).fcWires = b.fcWires := rfl
@[simp] theorem Block.modDom_nis (d : Nat) (f : Dom → Dom) : (b.modDom d f).nis = b.nis := rfl
@[simp] theorem Block.modDom_gates (d : Nat) (f : Dom → Dom) : (b.modDom d f).gates = b.gates := rfl
@[simp] theorem Block.modDom_fords (d : Nat) (f : Dom → Dom) : (b.modDom d f).fords = b.fords := rfl
@[simp] theorem Block.modDom_links (d : Nat) (f : Dom → Dom) : (b.modDom d f).links = b.links := rfl
@[simp] theorem Block.modDom_ports (d : Nat) (f : Dom → Dom) : (b.modDom d f).ports = b.ports := rfl
@[simp] theorem Block.modDom_tbs (d : Nat) (f : Dom → Dom) : (b.modDom d f).tbs = b.tbs := rfl
@[simp] theorem Block.modDom_timeX (d : Nat) (f : Dom → Dom) : (b.modDom d f).timeX = b.timeX := rfl
@[simp] theorem Block.modDom_time (d : Nat) (f : Dom → Dom) : (b.modDom d f).time = b.time := rfl
@[simp] theorem Block.modDom_ts (d : Nat) (f : Dom → Dom) : (b.modDom d f).ts = b.ts := rfl
@[simp] theorem Block.modDom_regions (d : Nat) (f : Dom → Dom) : (b.modDom d f).regions = b.regions := rfl
@[simp] theorem Block.modDom_stws (d : Nat) (f : Dom → Dom) : (b.modDom d f).stws = b.stws := rfl
@[simp] theorem Block.modDom_scopes (d : Nat) (f : Dom → Dom) : (b.modDom d f).scopes = b.scopes := rfl
@[simp] theorem Block.modDom_gold (d : Nat) (f : Dom → Dom) : (b.modDom d f).gold = b.gold := rfl
@[simp] theorem Block.modDom_wsh (d : Nat) (f : Dom → Dom) : (b.modDom d f).wsh = b.wsh := rfl
@[simp] theorem Block.modDom_rings (d : Nat) (f : Dom → Dom) : (b.modDom d f).rings = b.rings := rfl
@[simp] theorem Block.modDom_vecs (d : Nat) (f : Dom → Dom) : (b.modDom d f).vecs = b.vecs := rfl
@[simp] theorem Block.modDom_lead (d : Nat) (f : Dom → Dom) : (b.modDom d f).lead = b.lead := rfl
@[simp] theorem Block.modDom_map (d : Nat) (f : Dom → Dom) : (b.modDom d f).map = b.map := rfl
@[simp] theorem Block.modDom_groups (d : Nat) (f : Dom → Dom) : (b.modDom d f).groups = b.groups := rfl
@[simp] theorem Block.modDom_members (d : Nat) (f : Dom → Dom) : (b.modDom d f).members = b.members := rfl
@[simp] theorem Block.modDom_agents (d : Nat) (f : Dom → Dom) : (b.modDom d f).agents = b.agents := rfl
@[simp] theorem Block.modDom_aborts (d : Nat) (f : Dom → Dom) : (b.modDom d f).aborts = b.aborts := rfl
@[simp] theorem Block.modDom_hostOut (d : Nat) (f : Dom → Dom) : (b.modDom d f).hostOut = b.hostOut := rfl
@[simp] theorem Block.modDom_farOut (d : Nat) (f : Dom → Dom) : (b.modDom d f).farOut = b.farOut := rfl
/-- What the update writes. -/
@[simp] theorem Block.modDom_dom (d : Nat) (f : Dom → Dom) : (b.modDom d f).dom d = f (b.dom d) := by
  simp [Block.modDom, Block.dom]
/-- Every other one, as before. -/
theorem Block.modDom_dom_ne {i j : Nat} (f : Dom → Dom) (h : j ≠ i) : (b.modDom i f).dom j = b.dom j := by
  simp [Block.modDom, Block.dom, SMap.get_mod_ne _ _ _ h]
@[simp] theorem Block.modDom_elem_of (d : Nat) (i : Nat) (f : Dom → Dom) : (b.modDom d f).elem i = b.elem i := rfl
@[simp] theorem Block.modDom_ni_of (d : Nat) (i : Nat) (f : Dom → Dom) : (b.modDom d f).ni i = b.ni i := rfl
@[simp] theorem Block.modDom_gate_of (d : Nat) (i : Nat) (f : Dom → Dom) : (b.modDom d f).gate i = b.gate i := rfl
@[simp] theorem Block.modDom_link_of (d : Nat) (i : Nat) (f : Dom → Dom) : (b.modDom d f).link i = b.link i := rfl
@[simp] theorem Block.modDom_port_of (d : Nat) (i : Nat) (f : Dom → Dom) : (b.modDom d f).port i = b.port i := rfl
@[simp] theorem Block.modDom_tb_of (d : Nat) (i : Nat) (f : Dom → Dom) : (b.modDom d f).tb i = b.tb i := rfl
@[simp] theorem Block.modDom_region_of (d : Nat) (i : Nat) (f : Dom → Dom) : (b.modDom d f).region i = b.region i := rfl
@[simp] theorem Block.modDom_stw_of (d : Nat) (i : Nat) (f : Dom → Dom) : (b.modDom d f).stw i = b.stw i := rfl
@[simp] theorem Block.modDom_scope_of (d : Nat) (i j : Nat) (f : Dom → Dom) : (b.modDom d f).scope i j = b.scope i j := rfl
@[simp] theorem Block.modDom_ring_of (d : Nat) (i : Nat) (f : Dom → Dom) : (b.modDom d f).ring i = b.ring i := rfl
@[simp] theorem Block.modDom_vec_of (d : Nat) (i : Nat) (f : Dom → Dom) : (b.modDom d f).vec i = b.vec i := rfl

/-! ### `modRegion` -/

@[simp] theorem Block.modRegion_now (g : Nat) (f : Region → Region) : (b.modRegion g f).now = b.now := rfl
@[simp] theorem Block.modRegion_pkgid (g : Nat) (f : Region → Region) : (b.modRegion g f).pkgid = b.pkgid := rfl
@[simp] theorem Block.modRegion_strapOk (g : Nat) (f : Region → Region) : (b.modRegion g f).strapOk = b.strapOk := rfl
@[simp] theorem Block.modRegion_fatal (g : Nat) (f : Region → Region) : (b.modRegion g f).fatal = b.fatal := rfl
@[simp] theorem Block.modRegion_fatalKind (g : Nat) (f : Region → Region) : (b.modRegion g f).fatalKind = b.fatalKind := rfl
@[simp] theorem Block.modRegion_refclk (g : Nat) (f : Region → Region) : (b.modRegion g f).refclk = b.refclk := rfl
@[simp] theorem Block.modRegion_fuseSerial (g : Nat) (f : Region → Region) : (b.modRegion g f).fuseSerial = b.fuseSerial := rfl
@[simp] theorem Block.modRegion_fuseKey (g : Nat) (f : Region → Region) : (b.modRegion g f).fuseKey = b.fuseKey := rfl
@[simp] theorem Block.modRegion_fuseMinSec (g : Nat) (f : Region → Region) : (b.modRegion g f).fuseMinSec = b.fuseMinSec := rfl
@[simp] theorem Block.modRegion_design (g : Nat) (f : Region → Region) : (b.modRegion g f).design = b.design := rfl
@[simp] theorem Block.modRegion_colTrained (g : Nat) (f : Region → Region) : (b.modRegion g f).colTrained = b.colTrained := rfl
@[simp] theorem Block.modRegion_ridgeless (g : Nat) (f : Region → Region) : (b.modRegion g f).ridgeless = b.ridgeless := rfl
@[simp] theorem Block.modRegion_i3cWord (g : Nat) (f : Region → Region) : (b.modRegion g f).i3cWord = b.i3cWord := rfl
@[simp] theorem Block.modRegion_tapIr (g : Nat) (f : Region → Region) : (b.modRegion g f).tapIr = b.tapIr := rfl
@[simp] theorem Block.modRegion_errValue (g : Nat) (f : Region → Region) : (b.modRegion g f).errValue = b.errValue := rfl
@[simp] theorem Block.modRegion_errValid (g : Nat) (f : Region → Region) : (b.modRegion g f).errValid = b.errValid := rfl
@[simp] theorem Block.modRegion_errCause (g : Nat) (f : Region → Region) : (b.modRegion g f).errCause = b.errCause := rfl
@[simp] theorem Block.modRegion_errCount (g : Nat) (f : Region → Region) : (b.modRegion g f).errCount = b.errCount := rfl
@[simp] theorem Block.modRegion_errOffset (g : Nat) (f : Region → Region) : (b.modRegion g f).errOffset = b.errOffset := rfl
@[simp] theorem Block.modRegion_freeCtr (g : Nat) (f : Region → Region) : (b.modRegion g f).freeCtr = b.freeCtr := rfl
@[simp] theorem Block.modRegion_elems (g : Nat) (f : Region → Region) : (b.modRegion g f).elems = b.elems := rfl
@[simp] theorem Block.modRegion_wires (g : Nat) (f : Region → Region) : (b.modRegion g f).wires = b.wires := rfl
@[simp] theorem Block.modRegion_crWires (g : Nat) (f : Region → Region) : (b.modRegion g f).crWires = b.crWires := rfl
@[simp] theorem Block.modRegion_fcWires (g : Nat) (f : Region → Region) : (b.modRegion g f).fcWires = b.fcWires := rfl
@[simp] theorem Block.modRegion_nis (g : Nat) (f : Region → Region) : (b.modRegion g f).nis = b.nis := rfl
@[simp] theorem Block.modRegion_gates (g : Nat) (f : Region → Region) : (b.modRegion g f).gates = b.gates := rfl
@[simp] theorem Block.modRegion_fords (g : Nat) (f : Region → Region) : (b.modRegion g f).fords = b.fords := rfl
@[simp] theorem Block.modRegion_links (g : Nat) (f : Region → Region) : (b.modRegion g f).links = b.links := rfl
@[simp] theorem Block.modRegion_ports (g : Nat) (f : Region → Region) : (b.modRegion g f).ports = b.ports := rfl
@[simp] theorem Block.modRegion_tbs (g : Nat) (f : Region → Region) : (b.modRegion g f).tbs = b.tbs := rfl
@[simp] theorem Block.modRegion_timeX (g : Nat) (f : Region → Region) : (b.modRegion g f).timeX = b.timeX := rfl
@[simp] theorem Block.modRegion_time (g : Nat) (f : Region → Region) : (b.modRegion g f).time = b.time := rfl
@[simp] theorem Block.modRegion_ts (g : Nat) (f : Region → Region) : (b.modRegion g f).ts = b.ts := rfl
@[simp] theorem Block.modRegion_doms (g : Nat) (f : Region → Region) : (b.modRegion g f).doms = b.doms := rfl
@[simp] theorem Block.modRegion_stws (g : Nat) (f : Region → Region) : (b.modRegion g f).stws = b.stws := rfl
@[simp] theorem Block.modRegion_scopes (g : Nat) (f : Region → Region) : (b.modRegion g f).scopes = b.scopes := rfl
@[simp] theorem Block.modRegion_gold (g : Nat) (f : Region → Region) : (b.modRegion g f).gold = b.gold := rfl
@[simp] theorem Block.modRegion_wsh (g : Nat) (f : Region → Region) : (b.modRegion g f).wsh = b.wsh := rfl
@[simp] theorem Block.modRegion_rings (g : Nat) (f : Region → Region) : (b.modRegion g f).rings = b.rings := rfl
@[simp] theorem Block.modRegion_vecs (g : Nat) (f : Region → Region) : (b.modRegion g f).vecs = b.vecs := rfl
@[simp] theorem Block.modRegion_lead (g : Nat) (f : Region → Region) : (b.modRegion g f).lead = b.lead := rfl
@[simp] theorem Block.modRegion_map (g : Nat) (f : Region → Region) : (b.modRegion g f).map = b.map := rfl
@[simp] theorem Block.modRegion_groups (g : Nat) (f : Region → Region) : (b.modRegion g f).groups = b.groups := rfl
@[simp] theorem Block.modRegion_members (g : Nat) (f : Region → Region) : (b.modRegion g f).members = b.members := rfl
@[simp] theorem Block.modRegion_agents (g : Nat) (f : Region → Region) : (b.modRegion g f).agents = b.agents := rfl
@[simp] theorem Block.modRegion_aborts (g : Nat) (f : Region → Region) : (b.modRegion g f).aborts = b.aborts := rfl
@[simp] theorem Block.modRegion_hostOut (g : Nat) (f : Region → Region) : (b.modRegion g f).hostOut = b.hostOut := rfl
@[simp] theorem Block.modRegion_farOut (g : Nat) (f : Region → Region) : (b.modRegion g f).farOut = b.farOut := rfl
/-- What the update writes. -/
@[simp] theorem Block.modRegion_region (g : Nat) (f : Region → Region) : (b.modRegion g f).region g = f (b.region g) := by
  simp [Block.modRegion, Block.region]
/-- Every other one, as before. -/
theorem Block.modRegion_region_ne {i j : Nat} (f : Region → Region) (h : j ≠ i) : (b.modRegion i f).region j = b.region j := by
  simp [Block.modRegion, Block.region, SMap.get_mod_ne _ _ _ h]
@[simp] theorem Block.modRegion_elem_of (g : Nat) (i : Nat) (f : Region → Region) : (b.modRegion g f).elem i = b.elem i := rfl
@[simp] theorem Block.modRegion_ni_of (g : Nat) (i : Nat) (f : Region → Region) : (b.modRegion g f).ni i = b.ni i := rfl
@[simp] theorem Block.modRegion_gate_of (g : Nat) (i : Nat) (f : Region → Region) : (b.modRegion g f).gate i = b.gate i := rfl
@[simp] theorem Block.modRegion_link_of (g : Nat) (i : Nat) (f : Region → Region) : (b.modRegion g f).link i = b.link i := rfl
@[simp] theorem Block.modRegion_port_of (g : Nat) (i : Nat) (f : Region → Region) : (b.modRegion g f).port i = b.port i := rfl
@[simp] theorem Block.modRegion_tb_of (g : Nat) (i : Nat) (f : Region → Region) : (b.modRegion g f).tb i = b.tb i := rfl
@[simp] theorem Block.modRegion_dom_of (g : Nat) (i : Nat) (f : Region → Region) : (b.modRegion g f).dom i = b.dom i := rfl
@[simp] theorem Block.modRegion_stw_of (g : Nat) (i : Nat) (f : Region → Region) : (b.modRegion g f).stw i = b.stw i := rfl
@[simp] theorem Block.modRegion_scope_of (g : Nat) (i j : Nat) (f : Region → Region) : (b.modRegion g f).scope i j = b.scope i j := rfl
@[simp] theorem Block.modRegion_ring_of (g : Nat) (i : Nat) (f : Region → Region) : (b.modRegion g f).ring i = b.ring i := rfl
@[simp] theorem Block.modRegion_vec_of (g : Nat) (i : Nat) (f : Region → Region) : (b.modRegion g f).vec i = b.vec i := rfl

/-! ### `modStw` -/

@[simp] theorem Block.modStw_now (s : Nat) (f : Stw → Stw) : (b.modStw s f).now = b.now := rfl
@[simp] theorem Block.modStw_pkgid (s : Nat) (f : Stw → Stw) : (b.modStw s f).pkgid = b.pkgid := rfl
@[simp] theorem Block.modStw_strapOk (s : Nat) (f : Stw → Stw) : (b.modStw s f).strapOk = b.strapOk := rfl
@[simp] theorem Block.modStw_fatal (s : Nat) (f : Stw → Stw) : (b.modStw s f).fatal = b.fatal := rfl
@[simp] theorem Block.modStw_fatalKind (s : Nat) (f : Stw → Stw) : (b.modStw s f).fatalKind = b.fatalKind := rfl
@[simp] theorem Block.modStw_refclk (s : Nat) (f : Stw → Stw) : (b.modStw s f).refclk = b.refclk := rfl
@[simp] theorem Block.modStw_fuseSerial (s : Nat) (f : Stw → Stw) : (b.modStw s f).fuseSerial = b.fuseSerial := rfl
@[simp] theorem Block.modStw_fuseKey (s : Nat) (f : Stw → Stw) : (b.modStw s f).fuseKey = b.fuseKey := rfl
@[simp] theorem Block.modStw_fuseMinSec (s : Nat) (f : Stw → Stw) : (b.modStw s f).fuseMinSec = b.fuseMinSec := rfl
@[simp] theorem Block.modStw_design (s : Nat) (f : Stw → Stw) : (b.modStw s f).design = b.design := rfl
@[simp] theorem Block.modStw_colTrained (s : Nat) (f : Stw → Stw) : (b.modStw s f).colTrained = b.colTrained := rfl
@[simp] theorem Block.modStw_ridgeless (s : Nat) (f : Stw → Stw) : (b.modStw s f).ridgeless = b.ridgeless := rfl
@[simp] theorem Block.modStw_i3cWord (s : Nat) (f : Stw → Stw) : (b.modStw s f).i3cWord = b.i3cWord := rfl
@[simp] theorem Block.modStw_tapIr (s : Nat) (f : Stw → Stw) : (b.modStw s f).tapIr = b.tapIr := rfl
@[simp] theorem Block.modStw_errValue (s : Nat) (f : Stw → Stw) : (b.modStw s f).errValue = b.errValue := rfl
@[simp] theorem Block.modStw_errValid (s : Nat) (f : Stw → Stw) : (b.modStw s f).errValid = b.errValid := rfl
@[simp] theorem Block.modStw_errCause (s : Nat) (f : Stw → Stw) : (b.modStw s f).errCause = b.errCause := rfl
@[simp] theorem Block.modStw_errCount (s : Nat) (f : Stw → Stw) : (b.modStw s f).errCount = b.errCount := rfl
@[simp] theorem Block.modStw_errOffset (s : Nat) (f : Stw → Stw) : (b.modStw s f).errOffset = b.errOffset := rfl
@[simp] theorem Block.modStw_freeCtr (s : Nat) (f : Stw → Stw) : (b.modStw s f).freeCtr = b.freeCtr := rfl
@[simp] theorem Block.modStw_elems (s : Nat) (f : Stw → Stw) : (b.modStw s f).elems = b.elems := rfl
@[simp] theorem Block.modStw_wires (s : Nat) (f : Stw → Stw) : (b.modStw s f).wires = b.wires := rfl
@[simp] theorem Block.modStw_crWires (s : Nat) (f : Stw → Stw) : (b.modStw s f).crWires = b.crWires := rfl
@[simp] theorem Block.modStw_fcWires (s : Nat) (f : Stw → Stw) : (b.modStw s f).fcWires = b.fcWires := rfl
@[simp] theorem Block.modStw_nis (s : Nat) (f : Stw → Stw) : (b.modStw s f).nis = b.nis := rfl
@[simp] theorem Block.modStw_gates (s : Nat) (f : Stw → Stw) : (b.modStw s f).gates = b.gates := rfl
@[simp] theorem Block.modStw_fords (s : Nat) (f : Stw → Stw) : (b.modStw s f).fords = b.fords := rfl
@[simp] theorem Block.modStw_links (s : Nat) (f : Stw → Stw) : (b.modStw s f).links = b.links := rfl
@[simp] theorem Block.modStw_ports (s : Nat) (f : Stw → Stw) : (b.modStw s f).ports = b.ports := rfl
@[simp] theorem Block.modStw_tbs (s : Nat) (f : Stw → Stw) : (b.modStw s f).tbs = b.tbs := rfl
@[simp] theorem Block.modStw_timeX (s : Nat) (f : Stw → Stw) : (b.modStw s f).timeX = b.timeX := rfl
@[simp] theorem Block.modStw_time (s : Nat) (f : Stw → Stw) : (b.modStw s f).time = b.time := rfl
@[simp] theorem Block.modStw_ts (s : Nat) (f : Stw → Stw) : (b.modStw s f).ts = b.ts := rfl
@[simp] theorem Block.modStw_doms (s : Nat) (f : Stw → Stw) : (b.modStw s f).doms = b.doms := rfl
@[simp] theorem Block.modStw_regions (s : Nat) (f : Stw → Stw) : (b.modStw s f).regions = b.regions := rfl
@[simp] theorem Block.modStw_scopes (s : Nat) (f : Stw → Stw) : (b.modStw s f).scopes = b.scopes := rfl
@[simp] theorem Block.modStw_gold (s : Nat) (f : Stw → Stw) : (b.modStw s f).gold = b.gold := rfl
@[simp] theorem Block.modStw_wsh (s : Nat) (f : Stw → Stw) : (b.modStw s f).wsh = b.wsh := rfl
@[simp] theorem Block.modStw_rings (s : Nat) (f : Stw → Stw) : (b.modStw s f).rings = b.rings := rfl
@[simp] theorem Block.modStw_vecs (s : Nat) (f : Stw → Stw) : (b.modStw s f).vecs = b.vecs := rfl
@[simp] theorem Block.modStw_lead (s : Nat) (f : Stw → Stw) : (b.modStw s f).lead = b.lead := rfl
@[simp] theorem Block.modStw_map (s : Nat) (f : Stw → Stw) : (b.modStw s f).map = b.map := rfl
@[simp] theorem Block.modStw_groups (s : Nat) (f : Stw → Stw) : (b.modStw s f).groups = b.groups := rfl
@[simp] theorem Block.modStw_members (s : Nat) (f : Stw → Stw) : (b.modStw s f).members = b.members := rfl
@[simp] theorem Block.modStw_agents (s : Nat) (f : Stw → Stw) : (b.modStw s f).agents = b.agents := rfl
@[simp] theorem Block.modStw_aborts (s : Nat) (f : Stw → Stw) : (b.modStw s f).aborts = b.aborts := rfl
@[simp] theorem Block.modStw_hostOut (s : Nat) (f : Stw → Stw) : (b.modStw s f).hostOut = b.hostOut := rfl
@[simp] theorem Block.modStw_farOut (s : Nat) (f : Stw → Stw) : (b.modStw s f).farOut = b.farOut := rfl
/-- What the update writes. -/
@[simp] theorem Block.modStw_stw (s : Nat) (f : Stw → Stw) : (b.modStw s f).stw s = f (b.stw s) := by
  simp [Block.modStw, Block.stw]
/-- Every other one, as before. -/
theorem Block.modStw_stw_ne {i j : Nat} (f : Stw → Stw) (h : j ≠ i) : (b.modStw i f).stw j = b.stw j := by
  simp [Block.modStw, Block.stw, SMap.get_mod_ne _ _ _ h]
@[simp] theorem Block.modStw_elem_of (s : Nat) (i : Nat) (f : Stw → Stw) : (b.modStw s f).elem i = b.elem i := rfl
@[simp] theorem Block.modStw_ni_of (s : Nat) (i : Nat) (f : Stw → Stw) : (b.modStw s f).ni i = b.ni i := rfl
@[simp] theorem Block.modStw_gate_of (s : Nat) (i : Nat) (f : Stw → Stw) : (b.modStw s f).gate i = b.gate i := rfl
@[simp] theorem Block.modStw_link_of (s : Nat) (i : Nat) (f : Stw → Stw) : (b.modStw s f).link i = b.link i := rfl
@[simp] theorem Block.modStw_port_of (s : Nat) (i : Nat) (f : Stw → Stw) : (b.modStw s f).port i = b.port i := rfl
@[simp] theorem Block.modStw_tb_of (s : Nat) (i : Nat) (f : Stw → Stw) : (b.modStw s f).tb i = b.tb i := rfl
@[simp] theorem Block.modStw_dom_of (s : Nat) (i : Nat) (f : Stw → Stw) : (b.modStw s f).dom i = b.dom i := rfl
@[simp] theorem Block.modStw_region_of (s : Nat) (i : Nat) (f : Stw → Stw) : (b.modStw s f).region i = b.region i := rfl
@[simp] theorem Block.modStw_scope_of (s : Nat) (i j : Nat) (f : Stw → Stw) : (b.modStw s f).scope i j = b.scope i j := rfl
@[simp] theorem Block.modStw_ring_of (s : Nat) (i : Nat) (f : Stw → Stw) : (b.modStw s f).ring i = b.ring i := rfl
@[simp] theorem Block.modStw_vec_of (s : Nat) (i : Nat) (f : Stw → Stw) : (b.modStw s f).vec i = b.vec i := rfl

/-! ### `modScope` -/

@[simp] theorem Block.modScope_now (ty id : Nat) (f : Scope → Scope) : (b.modScope ty id f).now = b.now := rfl
@[simp] theorem Block.modScope_pkgid (ty id : Nat) (f : Scope → Scope) : (b.modScope ty id f).pkgid = b.pkgid := rfl
@[simp] theorem Block.modScope_strapOk (ty id : Nat) (f : Scope → Scope) : (b.modScope ty id f).strapOk = b.strapOk := rfl
@[simp] theorem Block.modScope_fatal (ty id : Nat) (f : Scope → Scope) : (b.modScope ty id f).fatal = b.fatal := rfl
@[simp] theorem Block.modScope_fatalKind (ty id : Nat) (f : Scope → Scope) : (b.modScope ty id f).fatalKind = b.fatalKind := rfl
@[simp] theorem Block.modScope_refclk (ty id : Nat) (f : Scope → Scope) : (b.modScope ty id f).refclk = b.refclk := rfl
@[simp] theorem Block.modScope_fuseSerial (ty id : Nat) (f : Scope → Scope) : (b.modScope ty id f).fuseSerial = b.fuseSerial := rfl
@[simp] theorem Block.modScope_fuseKey (ty id : Nat) (f : Scope → Scope) : (b.modScope ty id f).fuseKey = b.fuseKey := rfl
@[simp] theorem Block.modScope_fuseMinSec (ty id : Nat) (f : Scope → Scope) : (b.modScope ty id f).fuseMinSec = b.fuseMinSec := rfl
@[simp] theorem Block.modScope_design (ty id : Nat) (f : Scope → Scope) : (b.modScope ty id f).design = b.design := rfl
@[simp] theorem Block.modScope_colTrained (ty id : Nat) (f : Scope → Scope) : (b.modScope ty id f).colTrained = b.colTrained := rfl
@[simp] theorem Block.modScope_ridgeless (ty id : Nat) (f : Scope → Scope) : (b.modScope ty id f).ridgeless = b.ridgeless := rfl
@[simp] theorem Block.modScope_i3cWord (ty id : Nat) (f : Scope → Scope) : (b.modScope ty id f).i3cWord = b.i3cWord := rfl
@[simp] theorem Block.modScope_tapIr (ty id : Nat) (f : Scope → Scope) : (b.modScope ty id f).tapIr = b.tapIr := rfl
@[simp] theorem Block.modScope_errValue (ty id : Nat) (f : Scope → Scope) : (b.modScope ty id f).errValue = b.errValue := rfl
@[simp] theorem Block.modScope_errValid (ty id : Nat) (f : Scope → Scope) : (b.modScope ty id f).errValid = b.errValid := rfl
@[simp] theorem Block.modScope_errCause (ty id : Nat) (f : Scope → Scope) : (b.modScope ty id f).errCause = b.errCause := rfl
@[simp] theorem Block.modScope_errCount (ty id : Nat) (f : Scope → Scope) : (b.modScope ty id f).errCount = b.errCount := rfl
@[simp] theorem Block.modScope_errOffset (ty id : Nat) (f : Scope → Scope) : (b.modScope ty id f).errOffset = b.errOffset := rfl
@[simp] theorem Block.modScope_freeCtr (ty id : Nat) (f : Scope → Scope) : (b.modScope ty id f).freeCtr = b.freeCtr := rfl
@[simp] theorem Block.modScope_elems (ty id : Nat) (f : Scope → Scope) : (b.modScope ty id f).elems = b.elems := rfl
@[simp] theorem Block.modScope_wires (ty id : Nat) (f : Scope → Scope) : (b.modScope ty id f).wires = b.wires := rfl
@[simp] theorem Block.modScope_crWires (ty id : Nat) (f : Scope → Scope) : (b.modScope ty id f).crWires = b.crWires := rfl
@[simp] theorem Block.modScope_fcWires (ty id : Nat) (f : Scope → Scope) : (b.modScope ty id f).fcWires = b.fcWires := rfl
@[simp] theorem Block.modScope_nis (ty id : Nat) (f : Scope → Scope) : (b.modScope ty id f).nis = b.nis := rfl
@[simp] theorem Block.modScope_gates (ty id : Nat) (f : Scope → Scope) : (b.modScope ty id f).gates = b.gates := rfl
@[simp] theorem Block.modScope_fords (ty id : Nat) (f : Scope → Scope) : (b.modScope ty id f).fords = b.fords := rfl
@[simp] theorem Block.modScope_links (ty id : Nat) (f : Scope → Scope) : (b.modScope ty id f).links = b.links := rfl
@[simp] theorem Block.modScope_ports (ty id : Nat) (f : Scope → Scope) : (b.modScope ty id f).ports = b.ports := rfl
@[simp] theorem Block.modScope_tbs (ty id : Nat) (f : Scope → Scope) : (b.modScope ty id f).tbs = b.tbs := rfl
@[simp] theorem Block.modScope_timeX (ty id : Nat) (f : Scope → Scope) : (b.modScope ty id f).timeX = b.timeX := rfl
@[simp] theorem Block.modScope_time (ty id : Nat) (f : Scope → Scope) : (b.modScope ty id f).time = b.time := rfl
@[simp] theorem Block.modScope_ts (ty id : Nat) (f : Scope → Scope) : (b.modScope ty id f).ts = b.ts := rfl
@[simp] theorem Block.modScope_doms (ty id : Nat) (f : Scope → Scope) : (b.modScope ty id f).doms = b.doms := rfl
@[simp] theorem Block.modScope_regions (ty id : Nat) (f : Scope → Scope) : (b.modScope ty id f).regions = b.regions := rfl
@[simp] theorem Block.modScope_stws (ty id : Nat) (f : Scope → Scope) : (b.modScope ty id f).stws = b.stws := rfl
@[simp] theorem Block.modScope_gold (ty id : Nat) (f : Scope → Scope) : (b.modScope ty id f).gold = b.gold := rfl
@[simp] theorem Block.modScope_wsh (ty id : Nat) (f : Scope → Scope) : (b.modScope ty id f).wsh = b.wsh := rfl
@[simp] theorem Block.modScope_rings (ty id : Nat) (f : Scope → Scope) : (b.modScope ty id f).rings = b.rings := rfl
@[simp] theorem Block.modScope_vecs (ty id : Nat) (f : Scope → Scope) : (b.modScope ty id f).vecs = b.vecs := rfl
@[simp] theorem Block.modScope_lead (ty id : Nat) (f : Scope → Scope) : (b.modScope ty id f).lead = b.lead := rfl
@[simp] theorem Block.modScope_map (ty id : Nat) (f : Scope → Scope) : (b.modScope ty id f).map = b.map := rfl
@[simp] theorem Block.modScope_groups (ty id : Nat) (f : Scope → Scope) : (b.modScope ty id f).groups = b.groups := rfl
@[simp] theorem Block.modScope_members (ty id : Nat) (f : Scope → Scope) : (b.modScope ty id f).members = b.members := rfl
@[simp] theorem Block.modScope_agents (ty id : Nat) (f : Scope → Scope) : (b.modScope ty id f).agents = b.agents := rfl
@[simp] theorem Block.modScope_aborts (ty id : Nat) (f : Scope → Scope) : (b.modScope ty id f).aborts = b.aborts := rfl
@[simp] theorem Block.modScope_hostOut (ty id : Nat) (f : Scope → Scope) : (b.modScope ty id f).hostOut = b.hostOut := rfl
@[simp] theorem Block.modScope_farOut (ty id : Nat) (f : Scope → Scope) : (b.modScope ty id f).farOut = b.farOut := rfl
/-- What the update writes. -/
@[simp] theorem Block.modScope_scope (ty id : Nat) (f : Scope → Scope) : (b.modScope ty id f).scope ty id = f (b.scope ty id) := by
  simp [Block.modScope, Block.scope]
/-- Every other scope, as before. -/
theorem Block.modScope_scope_ne (ty id ty2 id2 : Nat) (f : Scope → Scope) (h : scKey ty2 id2 ≠ scKey ty id) :
    (b.modScope ty id f).scope ty2 id2 = b.scope ty2 id2 := by
  simp [Block.modScope, Block.scope, SMap.get_mod_ne _ _ _ h]
@[simp] theorem Block.modScope_elem_of (ty id : Nat) (i : Nat) (f : Scope → Scope) : (b.modScope ty id f).elem i = b.elem i := rfl
@[simp] theorem Block.modScope_ni_of (ty id : Nat) (i : Nat) (f : Scope → Scope) : (b.modScope ty id f).ni i = b.ni i := rfl
@[simp] theorem Block.modScope_gate_of (ty id : Nat) (i : Nat) (f : Scope → Scope) : (b.modScope ty id f).gate i = b.gate i := rfl
@[simp] theorem Block.modScope_link_of (ty id : Nat) (i : Nat) (f : Scope → Scope) : (b.modScope ty id f).link i = b.link i := rfl
@[simp] theorem Block.modScope_port_of (ty id : Nat) (i : Nat) (f : Scope → Scope) : (b.modScope ty id f).port i = b.port i := rfl
@[simp] theorem Block.modScope_tb_of (ty id : Nat) (i : Nat) (f : Scope → Scope) : (b.modScope ty id f).tb i = b.tb i := rfl
@[simp] theorem Block.modScope_dom_of (ty id : Nat) (i : Nat) (f : Scope → Scope) : (b.modScope ty id f).dom i = b.dom i := rfl
@[simp] theorem Block.modScope_region_of (ty id : Nat) (i : Nat) (f : Scope → Scope) : (b.modScope ty id f).region i = b.region i := rfl
@[simp] theorem Block.modScope_stw_of (ty id : Nat) (i : Nat) (f : Scope → Scope) : (b.modScope ty id f).stw i = b.stw i := rfl
@[simp] theorem Block.modScope_ring_of (ty id : Nat) (i : Nat) (f : Scope → Scope) : (b.modScope ty id f).ring i = b.ring i := rfl
@[simp] theorem Block.modScope_vec_of (ty id : Nat) (i : Nat) (f : Scope → Scope) : (b.modScope ty id f).vec i = b.vec i := rfl

/-! ### `modRing` -/

@[simp] theorem Block.modRing_now (r : Nat) (f : Ring → Ring) : (b.modRing r f).now = b.now := rfl
@[simp] theorem Block.modRing_pkgid (r : Nat) (f : Ring → Ring) : (b.modRing r f).pkgid = b.pkgid := rfl
@[simp] theorem Block.modRing_strapOk (r : Nat) (f : Ring → Ring) : (b.modRing r f).strapOk = b.strapOk := rfl
@[simp] theorem Block.modRing_fatal (r : Nat) (f : Ring → Ring) : (b.modRing r f).fatal = b.fatal := rfl
@[simp] theorem Block.modRing_fatalKind (r : Nat) (f : Ring → Ring) : (b.modRing r f).fatalKind = b.fatalKind := rfl
@[simp] theorem Block.modRing_refclk (r : Nat) (f : Ring → Ring) : (b.modRing r f).refclk = b.refclk := rfl
@[simp] theorem Block.modRing_fuseSerial (r : Nat) (f : Ring → Ring) : (b.modRing r f).fuseSerial = b.fuseSerial := rfl
@[simp] theorem Block.modRing_fuseKey (r : Nat) (f : Ring → Ring) : (b.modRing r f).fuseKey = b.fuseKey := rfl
@[simp] theorem Block.modRing_fuseMinSec (r : Nat) (f : Ring → Ring) : (b.modRing r f).fuseMinSec = b.fuseMinSec := rfl
@[simp] theorem Block.modRing_design (r : Nat) (f : Ring → Ring) : (b.modRing r f).design = b.design := rfl
@[simp] theorem Block.modRing_colTrained (r : Nat) (f : Ring → Ring) : (b.modRing r f).colTrained = b.colTrained := rfl
@[simp] theorem Block.modRing_ridgeless (r : Nat) (f : Ring → Ring) : (b.modRing r f).ridgeless = b.ridgeless := rfl
@[simp] theorem Block.modRing_i3cWord (r : Nat) (f : Ring → Ring) : (b.modRing r f).i3cWord = b.i3cWord := rfl
@[simp] theorem Block.modRing_tapIr (r : Nat) (f : Ring → Ring) : (b.modRing r f).tapIr = b.tapIr := rfl
@[simp] theorem Block.modRing_errValue (r : Nat) (f : Ring → Ring) : (b.modRing r f).errValue = b.errValue := rfl
@[simp] theorem Block.modRing_errValid (r : Nat) (f : Ring → Ring) : (b.modRing r f).errValid = b.errValid := rfl
@[simp] theorem Block.modRing_errCause (r : Nat) (f : Ring → Ring) : (b.modRing r f).errCause = b.errCause := rfl
@[simp] theorem Block.modRing_errCount (r : Nat) (f : Ring → Ring) : (b.modRing r f).errCount = b.errCount := rfl
@[simp] theorem Block.modRing_errOffset (r : Nat) (f : Ring → Ring) : (b.modRing r f).errOffset = b.errOffset := rfl
@[simp] theorem Block.modRing_freeCtr (r : Nat) (f : Ring → Ring) : (b.modRing r f).freeCtr = b.freeCtr := rfl
@[simp] theorem Block.modRing_elems (r : Nat) (f : Ring → Ring) : (b.modRing r f).elems = b.elems := rfl
@[simp] theorem Block.modRing_wires (r : Nat) (f : Ring → Ring) : (b.modRing r f).wires = b.wires := rfl
@[simp] theorem Block.modRing_crWires (r : Nat) (f : Ring → Ring) : (b.modRing r f).crWires = b.crWires := rfl
@[simp] theorem Block.modRing_fcWires (r : Nat) (f : Ring → Ring) : (b.modRing r f).fcWires = b.fcWires := rfl
@[simp] theorem Block.modRing_nis (r : Nat) (f : Ring → Ring) : (b.modRing r f).nis = b.nis := rfl
@[simp] theorem Block.modRing_gates (r : Nat) (f : Ring → Ring) : (b.modRing r f).gates = b.gates := rfl
@[simp] theorem Block.modRing_fords (r : Nat) (f : Ring → Ring) : (b.modRing r f).fords = b.fords := rfl
@[simp] theorem Block.modRing_links (r : Nat) (f : Ring → Ring) : (b.modRing r f).links = b.links := rfl
@[simp] theorem Block.modRing_ports (r : Nat) (f : Ring → Ring) : (b.modRing r f).ports = b.ports := rfl
@[simp] theorem Block.modRing_tbs (r : Nat) (f : Ring → Ring) : (b.modRing r f).tbs = b.tbs := rfl
@[simp] theorem Block.modRing_timeX (r : Nat) (f : Ring → Ring) : (b.modRing r f).timeX = b.timeX := rfl
@[simp] theorem Block.modRing_time (r : Nat) (f : Ring → Ring) : (b.modRing r f).time = b.time := rfl
@[simp] theorem Block.modRing_ts (r : Nat) (f : Ring → Ring) : (b.modRing r f).ts = b.ts := rfl
@[simp] theorem Block.modRing_doms (r : Nat) (f : Ring → Ring) : (b.modRing r f).doms = b.doms := rfl
@[simp] theorem Block.modRing_regions (r : Nat) (f : Ring → Ring) : (b.modRing r f).regions = b.regions := rfl
@[simp] theorem Block.modRing_stws (r : Nat) (f : Ring → Ring) : (b.modRing r f).stws = b.stws := rfl
@[simp] theorem Block.modRing_scopes (r : Nat) (f : Ring → Ring) : (b.modRing r f).scopes = b.scopes := rfl
@[simp] theorem Block.modRing_gold (r : Nat) (f : Ring → Ring) : (b.modRing r f).gold = b.gold := rfl
@[simp] theorem Block.modRing_wsh (r : Nat) (f : Ring → Ring) : (b.modRing r f).wsh = b.wsh := rfl
@[simp] theorem Block.modRing_vecs (r : Nat) (f : Ring → Ring) : (b.modRing r f).vecs = b.vecs := rfl
@[simp] theorem Block.modRing_lead (r : Nat) (f : Ring → Ring) : (b.modRing r f).lead = b.lead := rfl
@[simp] theorem Block.modRing_map (r : Nat) (f : Ring → Ring) : (b.modRing r f).map = b.map := rfl
@[simp] theorem Block.modRing_groups (r : Nat) (f : Ring → Ring) : (b.modRing r f).groups = b.groups := rfl
@[simp] theorem Block.modRing_members (r : Nat) (f : Ring → Ring) : (b.modRing r f).members = b.members := rfl
@[simp] theorem Block.modRing_agents (r : Nat) (f : Ring → Ring) : (b.modRing r f).agents = b.agents := rfl
@[simp] theorem Block.modRing_aborts (r : Nat) (f : Ring → Ring) : (b.modRing r f).aborts = b.aborts := rfl
@[simp] theorem Block.modRing_hostOut (r : Nat) (f : Ring → Ring) : (b.modRing r f).hostOut = b.hostOut := rfl
@[simp] theorem Block.modRing_farOut (r : Nat) (f : Ring → Ring) : (b.modRing r f).farOut = b.farOut := rfl
/-- What the update writes. -/
@[simp] theorem Block.modRing_ring (r : Nat) (f : Ring → Ring) : (b.modRing r f).ring r = f (b.ring r) := by
  simp [Block.modRing, Block.ring]
/-- Every other one, as before. -/
theorem Block.modRing_ring_ne {i j : Nat} (f : Ring → Ring) (h : j ≠ i) : (b.modRing i f).ring j = b.ring j := by
  simp [Block.modRing, Block.ring, SMap.get_mod_ne _ _ _ h]
@[simp] theorem Block.modRing_elem_of (r : Nat) (i : Nat) (f : Ring → Ring) : (b.modRing r f).elem i = b.elem i := rfl
@[simp] theorem Block.modRing_ni_of (r : Nat) (i : Nat) (f : Ring → Ring) : (b.modRing r f).ni i = b.ni i := rfl
@[simp] theorem Block.modRing_gate_of (r : Nat) (i : Nat) (f : Ring → Ring) : (b.modRing r f).gate i = b.gate i := rfl
@[simp] theorem Block.modRing_link_of (r : Nat) (i : Nat) (f : Ring → Ring) : (b.modRing r f).link i = b.link i := rfl
@[simp] theorem Block.modRing_port_of (r : Nat) (i : Nat) (f : Ring → Ring) : (b.modRing r f).port i = b.port i := rfl
@[simp] theorem Block.modRing_tb_of (r : Nat) (i : Nat) (f : Ring → Ring) : (b.modRing r f).tb i = b.tb i := rfl
@[simp] theorem Block.modRing_dom_of (r : Nat) (i : Nat) (f : Ring → Ring) : (b.modRing r f).dom i = b.dom i := rfl
@[simp] theorem Block.modRing_region_of (r : Nat) (i : Nat) (f : Ring → Ring) : (b.modRing r f).region i = b.region i := rfl
@[simp] theorem Block.modRing_stw_of (r : Nat) (i : Nat) (f : Ring → Ring) : (b.modRing r f).stw i = b.stw i := rfl
@[simp] theorem Block.modRing_scope_of (r : Nat) (i j : Nat) (f : Ring → Ring) : (b.modRing r f).scope i j = b.scope i j := rfl
@[simp] theorem Block.modRing_vec_of (r : Nat) (i : Nat) (f : Ring → Ring) : (b.modRing r f).vec i = b.vec i := rfl

/-! ### `modVec` -/

@[simp] theorem Block.modVec_now (v : Nat) (f : Vec → Vec) : (b.modVec v f).now = b.now := rfl
@[simp] theorem Block.modVec_pkgid (v : Nat) (f : Vec → Vec) : (b.modVec v f).pkgid = b.pkgid := rfl
@[simp] theorem Block.modVec_strapOk (v : Nat) (f : Vec → Vec) : (b.modVec v f).strapOk = b.strapOk := rfl
@[simp] theorem Block.modVec_fatal (v : Nat) (f : Vec → Vec) : (b.modVec v f).fatal = b.fatal := rfl
@[simp] theorem Block.modVec_fatalKind (v : Nat) (f : Vec → Vec) : (b.modVec v f).fatalKind = b.fatalKind := rfl
@[simp] theorem Block.modVec_refclk (v : Nat) (f : Vec → Vec) : (b.modVec v f).refclk = b.refclk := rfl
@[simp] theorem Block.modVec_fuseSerial (v : Nat) (f : Vec → Vec) : (b.modVec v f).fuseSerial = b.fuseSerial := rfl
@[simp] theorem Block.modVec_fuseKey (v : Nat) (f : Vec → Vec) : (b.modVec v f).fuseKey = b.fuseKey := rfl
@[simp] theorem Block.modVec_fuseMinSec (v : Nat) (f : Vec → Vec) : (b.modVec v f).fuseMinSec = b.fuseMinSec := rfl
@[simp] theorem Block.modVec_design (v : Nat) (f : Vec → Vec) : (b.modVec v f).design = b.design := rfl
@[simp] theorem Block.modVec_colTrained (v : Nat) (f : Vec → Vec) : (b.modVec v f).colTrained = b.colTrained := rfl
@[simp] theorem Block.modVec_ridgeless (v : Nat) (f : Vec → Vec) : (b.modVec v f).ridgeless = b.ridgeless := rfl
@[simp] theorem Block.modVec_i3cWord (v : Nat) (f : Vec → Vec) : (b.modVec v f).i3cWord = b.i3cWord := rfl
@[simp] theorem Block.modVec_tapIr (v : Nat) (f : Vec → Vec) : (b.modVec v f).tapIr = b.tapIr := rfl
@[simp] theorem Block.modVec_errValue (v : Nat) (f : Vec → Vec) : (b.modVec v f).errValue = b.errValue := rfl
@[simp] theorem Block.modVec_errValid (v : Nat) (f : Vec → Vec) : (b.modVec v f).errValid = b.errValid := rfl
@[simp] theorem Block.modVec_errCause (v : Nat) (f : Vec → Vec) : (b.modVec v f).errCause = b.errCause := rfl
@[simp] theorem Block.modVec_errCount (v : Nat) (f : Vec → Vec) : (b.modVec v f).errCount = b.errCount := rfl
@[simp] theorem Block.modVec_errOffset (v : Nat) (f : Vec → Vec) : (b.modVec v f).errOffset = b.errOffset := rfl
@[simp] theorem Block.modVec_freeCtr (v : Nat) (f : Vec → Vec) : (b.modVec v f).freeCtr = b.freeCtr := rfl
@[simp] theorem Block.modVec_elems (v : Nat) (f : Vec → Vec) : (b.modVec v f).elems = b.elems := rfl
@[simp] theorem Block.modVec_wires (v : Nat) (f : Vec → Vec) : (b.modVec v f).wires = b.wires := rfl
@[simp] theorem Block.modVec_crWires (v : Nat) (f : Vec → Vec) : (b.modVec v f).crWires = b.crWires := rfl
@[simp] theorem Block.modVec_fcWires (v : Nat) (f : Vec → Vec) : (b.modVec v f).fcWires = b.fcWires := rfl
@[simp] theorem Block.modVec_nis (v : Nat) (f : Vec → Vec) : (b.modVec v f).nis = b.nis := rfl
@[simp] theorem Block.modVec_gates (v : Nat) (f : Vec → Vec) : (b.modVec v f).gates = b.gates := rfl
@[simp] theorem Block.modVec_fords (v : Nat) (f : Vec → Vec) : (b.modVec v f).fords = b.fords := rfl
@[simp] theorem Block.modVec_links (v : Nat) (f : Vec → Vec) : (b.modVec v f).links = b.links := rfl
@[simp] theorem Block.modVec_ports (v : Nat) (f : Vec → Vec) : (b.modVec v f).ports = b.ports := rfl
@[simp] theorem Block.modVec_tbs (v : Nat) (f : Vec → Vec) : (b.modVec v f).tbs = b.tbs := rfl
@[simp] theorem Block.modVec_timeX (v : Nat) (f : Vec → Vec) : (b.modVec v f).timeX = b.timeX := rfl
@[simp] theorem Block.modVec_time (v : Nat) (f : Vec → Vec) : (b.modVec v f).time = b.time := rfl
@[simp] theorem Block.modVec_ts (v : Nat) (f : Vec → Vec) : (b.modVec v f).ts = b.ts := rfl
@[simp] theorem Block.modVec_doms (v : Nat) (f : Vec → Vec) : (b.modVec v f).doms = b.doms := rfl
@[simp] theorem Block.modVec_regions (v : Nat) (f : Vec → Vec) : (b.modVec v f).regions = b.regions := rfl
@[simp] theorem Block.modVec_stws (v : Nat) (f : Vec → Vec) : (b.modVec v f).stws = b.stws := rfl
@[simp] theorem Block.modVec_scopes (v : Nat) (f : Vec → Vec) : (b.modVec v f).scopes = b.scopes := rfl
@[simp] theorem Block.modVec_gold (v : Nat) (f : Vec → Vec) : (b.modVec v f).gold = b.gold := rfl
@[simp] theorem Block.modVec_wsh (v : Nat) (f : Vec → Vec) : (b.modVec v f).wsh = b.wsh := rfl
@[simp] theorem Block.modVec_rings (v : Nat) (f : Vec → Vec) : (b.modVec v f).rings = b.rings := rfl
@[simp] theorem Block.modVec_lead (v : Nat) (f : Vec → Vec) : (b.modVec v f).lead = b.lead := rfl
@[simp] theorem Block.modVec_map (v : Nat) (f : Vec → Vec) : (b.modVec v f).map = b.map := rfl
@[simp] theorem Block.modVec_groups (v : Nat) (f : Vec → Vec) : (b.modVec v f).groups = b.groups := rfl
@[simp] theorem Block.modVec_members (v : Nat) (f : Vec → Vec) : (b.modVec v f).members = b.members := rfl
@[simp] theorem Block.modVec_agents (v : Nat) (f : Vec → Vec) : (b.modVec v f).agents = b.agents := rfl
@[simp] theorem Block.modVec_aborts (v : Nat) (f : Vec → Vec) : (b.modVec v f).aborts = b.aborts := rfl
@[simp] theorem Block.modVec_hostOut (v : Nat) (f : Vec → Vec) : (b.modVec v f).hostOut = b.hostOut := rfl
@[simp] theorem Block.modVec_farOut (v : Nat) (f : Vec → Vec) : (b.modVec v f).farOut = b.farOut := rfl
/-- What the update writes. -/
@[simp] theorem Block.modVec_vec (v : Nat) (f : Vec → Vec) : (b.modVec v f).vec v = f (b.vec v) := by
  simp [Block.modVec, Block.vec]
/-- Every other one, as before. -/
theorem Block.modVec_vec_ne {i j : Nat} (f : Vec → Vec) (h : j ≠ i) : (b.modVec i f).vec j = b.vec j := by
  simp [Block.modVec, Block.vec, SMap.get_mod_ne _ _ _ h]
@[simp] theorem Block.modVec_elem_of (v : Nat) (i : Nat) (f : Vec → Vec) : (b.modVec v f).elem i = b.elem i := rfl
@[simp] theorem Block.modVec_ni_of (v : Nat) (i : Nat) (f : Vec → Vec) : (b.modVec v f).ni i = b.ni i := rfl
@[simp] theorem Block.modVec_gate_of (v : Nat) (i : Nat) (f : Vec → Vec) : (b.modVec v f).gate i = b.gate i := rfl
@[simp] theorem Block.modVec_link_of (v : Nat) (i : Nat) (f : Vec → Vec) : (b.modVec v f).link i = b.link i := rfl
@[simp] theorem Block.modVec_port_of (v : Nat) (i : Nat) (f : Vec → Vec) : (b.modVec v f).port i = b.port i := rfl
@[simp] theorem Block.modVec_tb_of (v : Nat) (i : Nat) (f : Vec → Vec) : (b.modVec v f).tb i = b.tb i := rfl
@[simp] theorem Block.modVec_dom_of (v : Nat) (i : Nat) (f : Vec → Vec) : (b.modVec v f).dom i = b.dom i := rfl
@[simp] theorem Block.modVec_region_of (v : Nat) (i : Nat) (f : Vec → Vec) : (b.modVec v f).region i = b.region i := rfl
@[simp] theorem Block.modVec_stw_of (v : Nat) (i : Nat) (f : Vec → Vec) : (b.modVec v f).stw i = b.stw i := rfl
@[simp] theorem Block.modVec_scope_of (v : Nat) (i j : Nat) (f : Vec → Vec) : (b.modVec v f).scope i j = b.scope i j := rfl
@[simp] theorem Block.modVec_ring_of (v : Nat) (i : Nat) (f : Vec → Vec) : (b.modVec v f).ring i = b.ring i := rfl

/-! ### `modWsh` -/

@[simp] theorem Block.modWsh_now (f : Wsh → Wsh) : (b.modWsh f).now = b.now := rfl
@[simp] theorem Block.modWsh_pkgid (f : Wsh → Wsh) : (b.modWsh f).pkgid = b.pkgid := rfl
@[simp] theorem Block.modWsh_strapOk (f : Wsh → Wsh) : (b.modWsh f).strapOk = b.strapOk := rfl
@[simp] theorem Block.modWsh_fatal (f : Wsh → Wsh) : (b.modWsh f).fatal = b.fatal := rfl
@[simp] theorem Block.modWsh_fatalKind (f : Wsh → Wsh) : (b.modWsh f).fatalKind = b.fatalKind := rfl
@[simp] theorem Block.modWsh_refclk (f : Wsh → Wsh) : (b.modWsh f).refclk = b.refclk := rfl
@[simp] theorem Block.modWsh_fuseSerial (f : Wsh → Wsh) : (b.modWsh f).fuseSerial = b.fuseSerial := rfl
@[simp] theorem Block.modWsh_fuseKey (f : Wsh → Wsh) : (b.modWsh f).fuseKey = b.fuseKey := rfl
@[simp] theorem Block.modWsh_fuseMinSec (f : Wsh → Wsh) : (b.modWsh f).fuseMinSec = b.fuseMinSec := rfl
@[simp] theorem Block.modWsh_design (f : Wsh → Wsh) : (b.modWsh f).design = b.design := rfl
@[simp] theorem Block.modWsh_colTrained (f : Wsh → Wsh) : (b.modWsh f).colTrained = b.colTrained := rfl
@[simp] theorem Block.modWsh_ridgeless (f : Wsh → Wsh) : (b.modWsh f).ridgeless = b.ridgeless := rfl
@[simp] theorem Block.modWsh_i3cWord (f : Wsh → Wsh) : (b.modWsh f).i3cWord = b.i3cWord := rfl
@[simp] theorem Block.modWsh_tapIr (f : Wsh → Wsh) : (b.modWsh f).tapIr = b.tapIr := rfl
@[simp] theorem Block.modWsh_errValue (f : Wsh → Wsh) : (b.modWsh f).errValue = b.errValue := rfl
@[simp] theorem Block.modWsh_errValid (f : Wsh → Wsh) : (b.modWsh f).errValid = b.errValid := rfl
@[simp] theorem Block.modWsh_errCause (f : Wsh → Wsh) : (b.modWsh f).errCause = b.errCause := rfl
@[simp] theorem Block.modWsh_errCount (f : Wsh → Wsh) : (b.modWsh f).errCount = b.errCount := rfl
@[simp] theorem Block.modWsh_errOffset (f : Wsh → Wsh) : (b.modWsh f).errOffset = b.errOffset := rfl
@[simp] theorem Block.modWsh_freeCtr (f : Wsh → Wsh) : (b.modWsh f).freeCtr = b.freeCtr := rfl
@[simp] theorem Block.modWsh_elems (f : Wsh → Wsh) : (b.modWsh f).elems = b.elems := rfl
@[simp] theorem Block.modWsh_wires (f : Wsh → Wsh) : (b.modWsh f).wires = b.wires := rfl
@[simp] theorem Block.modWsh_crWires (f : Wsh → Wsh) : (b.modWsh f).crWires = b.crWires := rfl
@[simp] theorem Block.modWsh_fcWires (f : Wsh → Wsh) : (b.modWsh f).fcWires = b.fcWires := rfl
@[simp] theorem Block.modWsh_nis (f : Wsh → Wsh) : (b.modWsh f).nis = b.nis := rfl
@[simp] theorem Block.modWsh_gates (f : Wsh → Wsh) : (b.modWsh f).gates = b.gates := rfl
@[simp] theorem Block.modWsh_fords (f : Wsh → Wsh) : (b.modWsh f).fords = b.fords := rfl
@[simp] theorem Block.modWsh_links (f : Wsh → Wsh) : (b.modWsh f).links = b.links := rfl
@[simp] theorem Block.modWsh_ports (f : Wsh → Wsh) : (b.modWsh f).ports = b.ports := rfl
@[simp] theorem Block.modWsh_tbs (f : Wsh → Wsh) : (b.modWsh f).tbs = b.tbs := rfl
@[simp] theorem Block.modWsh_timeX (f : Wsh → Wsh) : (b.modWsh f).timeX = b.timeX := rfl
@[simp] theorem Block.modWsh_time (f : Wsh → Wsh) : (b.modWsh f).time = b.time := rfl
@[simp] theorem Block.modWsh_ts (f : Wsh → Wsh) : (b.modWsh f).ts = b.ts := rfl
@[simp] theorem Block.modWsh_doms (f : Wsh → Wsh) : (b.modWsh f).doms = b.doms := rfl
@[simp] theorem Block.modWsh_regions (f : Wsh → Wsh) : (b.modWsh f).regions = b.regions := rfl
@[simp] theorem Block.modWsh_stws (f : Wsh → Wsh) : (b.modWsh f).stws = b.stws := rfl
@[simp] theorem Block.modWsh_scopes (f : Wsh → Wsh) : (b.modWsh f).scopes = b.scopes := rfl
@[simp] theorem Block.modWsh_gold (f : Wsh → Wsh) : (b.modWsh f).gold = b.gold := rfl
@[simp] theorem Block.modWsh_rings (f : Wsh → Wsh) : (b.modWsh f).rings = b.rings := rfl
@[simp] theorem Block.modWsh_vecs (f : Wsh → Wsh) : (b.modWsh f).vecs = b.vecs := rfl
@[simp] theorem Block.modWsh_lead (f : Wsh → Wsh) : (b.modWsh f).lead = b.lead := rfl
@[simp] theorem Block.modWsh_map (f : Wsh → Wsh) : (b.modWsh f).map = b.map := rfl
@[simp] theorem Block.modWsh_groups (f : Wsh → Wsh) : (b.modWsh f).groups = b.groups := rfl
@[simp] theorem Block.modWsh_members (f : Wsh → Wsh) : (b.modWsh f).members = b.members := rfl
@[simp] theorem Block.modWsh_agents (f : Wsh → Wsh) : (b.modWsh f).agents = b.agents := rfl
@[simp] theorem Block.modWsh_aborts (f : Wsh → Wsh) : (b.modWsh f).aborts = b.aborts := rfl
@[simp] theorem Block.modWsh_hostOut (f : Wsh → Wsh) : (b.modWsh f).hostOut = b.hostOut := rfl
@[simp] theorem Block.modWsh_farOut (f : Wsh → Wsh) : (b.modWsh f).farOut = b.farOut := rfl
@[simp] theorem Block.modWsh_wsh (f : Wsh → Wsh) : (b.modWsh f).wsh = f b.wsh := rfl
@[simp] theorem Block.modWsh_elem_of (i : Nat) (f : Wsh → Wsh) : (b.modWsh f).elem i = b.elem i := rfl
@[simp] theorem Block.modWsh_ni_of (i : Nat) (f : Wsh → Wsh) : (b.modWsh f).ni i = b.ni i := rfl
@[simp] theorem Block.modWsh_gate_of (i : Nat) (f : Wsh → Wsh) : (b.modWsh f).gate i = b.gate i := rfl
@[simp] theorem Block.modWsh_link_of (i : Nat) (f : Wsh → Wsh) : (b.modWsh f).link i = b.link i := rfl
@[simp] theorem Block.modWsh_port_of (i : Nat) (f : Wsh → Wsh) : (b.modWsh f).port i = b.port i := rfl
@[simp] theorem Block.modWsh_tb_of (i : Nat) (f : Wsh → Wsh) : (b.modWsh f).tb i = b.tb i := rfl
@[simp] theorem Block.modWsh_dom_of (i : Nat) (f : Wsh → Wsh) : (b.modWsh f).dom i = b.dom i := rfl
@[simp] theorem Block.modWsh_region_of (i : Nat) (f : Wsh → Wsh) : (b.modWsh f).region i = b.region i := rfl
@[simp] theorem Block.modWsh_stw_of (i : Nat) (f : Wsh → Wsh) : (b.modWsh f).stw i = b.stw i := rfl
@[simp] theorem Block.modWsh_scope_of (i j : Nat) (f : Wsh → Wsh) : (b.modWsh f).scope i j = b.scope i j := rfl
@[simp] theorem Block.modWsh_ring_of (i : Nat) (f : Wsh → Wsh) : (b.modWsh f).ring i = b.ring i := rfl
@[simp] theorem Block.modWsh_vec_of (i : Nat) (f : Wsh → Wsh) : (b.modWsh f).vec i = b.vec i := rfl

/-! ### `modLead` -/

@[simp] theorem Block.modLead_now (f : Lead → Lead) : (b.modLead f).now = b.now := rfl
@[simp] theorem Block.modLead_pkgid (f : Lead → Lead) : (b.modLead f).pkgid = b.pkgid := rfl
@[simp] theorem Block.modLead_strapOk (f : Lead → Lead) : (b.modLead f).strapOk = b.strapOk := rfl
@[simp] theorem Block.modLead_fatal (f : Lead → Lead) : (b.modLead f).fatal = b.fatal := rfl
@[simp] theorem Block.modLead_fatalKind (f : Lead → Lead) : (b.modLead f).fatalKind = b.fatalKind := rfl
@[simp] theorem Block.modLead_refclk (f : Lead → Lead) : (b.modLead f).refclk = b.refclk := rfl
@[simp] theorem Block.modLead_fuseSerial (f : Lead → Lead) : (b.modLead f).fuseSerial = b.fuseSerial := rfl
@[simp] theorem Block.modLead_fuseKey (f : Lead → Lead) : (b.modLead f).fuseKey = b.fuseKey := rfl
@[simp] theorem Block.modLead_fuseMinSec (f : Lead → Lead) : (b.modLead f).fuseMinSec = b.fuseMinSec := rfl
@[simp] theorem Block.modLead_design (f : Lead → Lead) : (b.modLead f).design = b.design := rfl
@[simp] theorem Block.modLead_colTrained (f : Lead → Lead) : (b.modLead f).colTrained = b.colTrained := rfl
@[simp] theorem Block.modLead_ridgeless (f : Lead → Lead) : (b.modLead f).ridgeless = b.ridgeless := rfl
@[simp] theorem Block.modLead_i3cWord (f : Lead → Lead) : (b.modLead f).i3cWord = b.i3cWord := rfl
@[simp] theorem Block.modLead_tapIr (f : Lead → Lead) : (b.modLead f).tapIr = b.tapIr := rfl
@[simp] theorem Block.modLead_errValue (f : Lead → Lead) : (b.modLead f).errValue = b.errValue := rfl
@[simp] theorem Block.modLead_errValid (f : Lead → Lead) : (b.modLead f).errValid = b.errValid := rfl
@[simp] theorem Block.modLead_errCause (f : Lead → Lead) : (b.modLead f).errCause = b.errCause := rfl
@[simp] theorem Block.modLead_errCount (f : Lead → Lead) : (b.modLead f).errCount = b.errCount := rfl
@[simp] theorem Block.modLead_errOffset (f : Lead → Lead) : (b.modLead f).errOffset = b.errOffset := rfl
@[simp] theorem Block.modLead_freeCtr (f : Lead → Lead) : (b.modLead f).freeCtr = b.freeCtr := rfl
@[simp] theorem Block.modLead_elems (f : Lead → Lead) : (b.modLead f).elems = b.elems := rfl
@[simp] theorem Block.modLead_wires (f : Lead → Lead) : (b.modLead f).wires = b.wires := rfl
@[simp] theorem Block.modLead_crWires (f : Lead → Lead) : (b.modLead f).crWires = b.crWires := rfl
@[simp] theorem Block.modLead_fcWires (f : Lead → Lead) : (b.modLead f).fcWires = b.fcWires := rfl
@[simp] theorem Block.modLead_nis (f : Lead → Lead) : (b.modLead f).nis = b.nis := rfl
@[simp] theorem Block.modLead_gates (f : Lead → Lead) : (b.modLead f).gates = b.gates := rfl
@[simp] theorem Block.modLead_fords (f : Lead → Lead) : (b.modLead f).fords = b.fords := rfl
@[simp] theorem Block.modLead_links (f : Lead → Lead) : (b.modLead f).links = b.links := rfl
@[simp] theorem Block.modLead_ports (f : Lead → Lead) : (b.modLead f).ports = b.ports := rfl
@[simp] theorem Block.modLead_tbs (f : Lead → Lead) : (b.modLead f).tbs = b.tbs := rfl
@[simp] theorem Block.modLead_timeX (f : Lead → Lead) : (b.modLead f).timeX = b.timeX := rfl
@[simp] theorem Block.modLead_time (f : Lead → Lead) : (b.modLead f).time = b.time := rfl
@[simp] theorem Block.modLead_ts (f : Lead → Lead) : (b.modLead f).ts = b.ts := rfl
@[simp] theorem Block.modLead_doms (f : Lead → Lead) : (b.modLead f).doms = b.doms := rfl
@[simp] theorem Block.modLead_regions (f : Lead → Lead) : (b.modLead f).regions = b.regions := rfl
@[simp] theorem Block.modLead_stws (f : Lead → Lead) : (b.modLead f).stws = b.stws := rfl
@[simp] theorem Block.modLead_scopes (f : Lead → Lead) : (b.modLead f).scopes = b.scopes := rfl
@[simp] theorem Block.modLead_gold (f : Lead → Lead) : (b.modLead f).gold = b.gold := rfl
@[simp] theorem Block.modLead_wsh (f : Lead → Lead) : (b.modLead f).wsh = b.wsh := rfl
@[simp] theorem Block.modLead_rings (f : Lead → Lead) : (b.modLead f).rings = b.rings := rfl
@[simp] theorem Block.modLead_vecs (f : Lead → Lead) : (b.modLead f).vecs = b.vecs := rfl
@[simp] theorem Block.modLead_map (f : Lead → Lead) : (b.modLead f).map = b.map := rfl
@[simp] theorem Block.modLead_groups (f : Lead → Lead) : (b.modLead f).groups = b.groups := rfl
@[simp] theorem Block.modLead_members (f : Lead → Lead) : (b.modLead f).members = b.members := rfl
@[simp] theorem Block.modLead_agents (f : Lead → Lead) : (b.modLead f).agents = b.agents := rfl
@[simp] theorem Block.modLead_aborts (f : Lead → Lead) : (b.modLead f).aborts = b.aborts := rfl
@[simp] theorem Block.modLead_hostOut (f : Lead → Lead) : (b.modLead f).hostOut = b.hostOut := rfl
@[simp] theorem Block.modLead_farOut (f : Lead → Lead) : (b.modLead f).farOut = b.farOut := rfl
@[simp] theorem Block.modLead_lead (f : Lead → Lead) : (b.modLead f).lead = f b.lead := rfl
@[simp] theorem Block.modLead_elem_of (i : Nat) (f : Lead → Lead) : (b.modLead f).elem i = b.elem i := rfl
@[simp] theorem Block.modLead_ni_of (i : Nat) (f : Lead → Lead) : (b.modLead f).ni i = b.ni i := rfl
@[simp] theorem Block.modLead_gate_of (i : Nat) (f : Lead → Lead) : (b.modLead f).gate i = b.gate i := rfl
@[simp] theorem Block.modLead_link_of (i : Nat) (f : Lead → Lead) : (b.modLead f).link i = b.link i := rfl
@[simp] theorem Block.modLead_port_of (i : Nat) (f : Lead → Lead) : (b.modLead f).port i = b.port i := rfl
@[simp] theorem Block.modLead_tb_of (i : Nat) (f : Lead → Lead) : (b.modLead f).tb i = b.tb i := rfl
@[simp] theorem Block.modLead_dom_of (i : Nat) (f : Lead → Lead) : (b.modLead f).dom i = b.dom i := rfl
@[simp] theorem Block.modLead_region_of (i : Nat) (f : Lead → Lead) : (b.modLead f).region i = b.region i := rfl
@[simp] theorem Block.modLead_stw_of (i : Nat) (f : Lead → Lead) : (b.modLead f).stw i = b.stw i := rfl
@[simp] theorem Block.modLead_scope_of (i j : Nat) (f : Lead → Lead) : (b.modLead f).scope i j = b.scope i j := rfl
@[simp] theorem Block.modLead_ring_of (i : Nat) (f : Lead → Lead) : (b.modLead f).ring i = b.ring i := rfl
@[simp] theorem Block.modLead_vec_of (i : Nat) (f : Lead → Lead) : (b.modLead f).vec i = b.vec i := rfl

/-! ### `modTime` -/

@[simp] theorem Block.modTime_now (f : TimeSys → TimeSys) : (b.modTime f).now = b.now := rfl
@[simp] theorem Block.modTime_pkgid (f : TimeSys → TimeSys) : (b.modTime f).pkgid = b.pkgid := rfl
@[simp] theorem Block.modTime_strapOk (f : TimeSys → TimeSys) : (b.modTime f).strapOk = b.strapOk := rfl
@[simp] theorem Block.modTime_fatal (f : TimeSys → TimeSys) : (b.modTime f).fatal = b.fatal := rfl
@[simp] theorem Block.modTime_fatalKind (f : TimeSys → TimeSys) : (b.modTime f).fatalKind = b.fatalKind := rfl
@[simp] theorem Block.modTime_refclk (f : TimeSys → TimeSys) : (b.modTime f).refclk = b.refclk := rfl
@[simp] theorem Block.modTime_fuseSerial (f : TimeSys → TimeSys) : (b.modTime f).fuseSerial = b.fuseSerial := rfl
@[simp] theorem Block.modTime_fuseKey (f : TimeSys → TimeSys) : (b.modTime f).fuseKey = b.fuseKey := rfl
@[simp] theorem Block.modTime_fuseMinSec (f : TimeSys → TimeSys) : (b.modTime f).fuseMinSec = b.fuseMinSec := rfl
@[simp] theorem Block.modTime_design (f : TimeSys → TimeSys) : (b.modTime f).design = b.design := rfl
@[simp] theorem Block.modTime_colTrained (f : TimeSys → TimeSys) : (b.modTime f).colTrained = b.colTrained := rfl
@[simp] theorem Block.modTime_ridgeless (f : TimeSys → TimeSys) : (b.modTime f).ridgeless = b.ridgeless := rfl
@[simp] theorem Block.modTime_i3cWord (f : TimeSys → TimeSys) : (b.modTime f).i3cWord = b.i3cWord := rfl
@[simp] theorem Block.modTime_tapIr (f : TimeSys → TimeSys) : (b.modTime f).tapIr = b.tapIr := rfl
@[simp] theorem Block.modTime_errValue (f : TimeSys → TimeSys) : (b.modTime f).errValue = b.errValue := rfl
@[simp] theorem Block.modTime_errValid (f : TimeSys → TimeSys) : (b.modTime f).errValid = b.errValid := rfl
@[simp] theorem Block.modTime_errCause (f : TimeSys → TimeSys) : (b.modTime f).errCause = b.errCause := rfl
@[simp] theorem Block.modTime_errCount (f : TimeSys → TimeSys) : (b.modTime f).errCount = b.errCount := rfl
@[simp] theorem Block.modTime_errOffset (f : TimeSys → TimeSys) : (b.modTime f).errOffset = b.errOffset := rfl
@[simp] theorem Block.modTime_freeCtr (f : TimeSys → TimeSys) : (b.modTime f).freeCtr = b.freeCtr := rfl
@[simp] theorem Block.modTime_elems (f : TimeSys → TimeSys) : (b.modTime f).elems = b.elems := rfl
@[simp] theorem Block.modTime_wires (f : TimeSys → TimeSys) : (b.modTime f).wires = b.wires := rfl
@[simp] theorem Block.modTime_crWires (f : TimeSys → TimeSys) : (b.modTime f).crWires = b.crWires := rfl
@[simp] theorem Block.modTime_fcWires (f : TimeSys → TimeSys) : (b.modTime f).fcWires = b.fcWires := rfl
@[simp] theorem Block.modTime_nis (f : TimeSys → TimeSys) : (b.modTime f).nis = b.nis := rfl
@[simp] theorem Block.modTime_gates (f : TimeSys → TimeSys) : (b.modTime f).gates = b.gates := rfl
@[simp] theorem Block.modTime_fords (f : TimeSys → TimeSys) : (b.modTime f).fords = b.fords := rfl
@[simp] theorem Block.modTime_links (f : TimeSys → TimeSys) : (b.modTime f).links = b.links := rfl
@[simp] theorem Block.modTime_ports (f : TimeSys → TimeSys) : (b.modTime f).ports = b.ports := rfl
@[simp] theorem Block.modTime_tbs (f : TimeSys → TimeSys) : (b.modTime f).tbs = b.tbs := rfl
@[simp] theorem Block.modTime_timeX (f : TimeSys → TimeSys) : (b.modTime f).timeX = b.timeX := rfl
@[simp] theorem Block.modTime_ts (f : TimeSys → TimeSys) : (b.modTime f).ts = b.ts := rfl
@[simp] theorem Block.modTime_doms (f : TimeSys → TimeSys) : (b.modTime f).doms = b.doms := rfl
@[simp] theorem Block.modTime_regions (f : TimeSys → TimeSys) : (b.modTime f).regions = b.regions := rfl
@[simp] theorem Block.modTime_stws (f : TimeSys → TimeSys) : (b.modTime f).stws = b.stws := rfl
@[simp] theorem Block.modTime_scopes (f : TimeSys → TimeSys) : (b.modTime f).scopes = b.scopes := rfl
@[simp] theorem Block.modTime_gold (f : TimeSys → TimeSys) : (b.modTime f).gold = b.gold := rfl
@[simp] theorem Block.modTime_wsh (f : TimeSys → TimeSys) : (b.modTime f).wsh = b.wsh := rfl
@[simp] theorem Block.modTime_rings (f : TimeSys → TimeSys) : (b.modTime f).rings = b.rings := rfl
@[simp] theorem Block.modTime_vecs (f : TimeSys → TimeSys) : (b.modTime f).vecs = b.vecs := rfl
@[simp] theorem Block.modTime_lead (f : TimeSys → TimeSys) : (b.modTime f).lead = b.lead := rfl
@[simp] theorem Block.modTime_map (f : TimeSys → TimeSys) : (b.modTime f).map = b.map := rfl
@[simp] theorem Block.modTime_groups (f : TimeSys → TimeSys) : (b.modTime f).groups = b.groups := rfl
@[simp] theorem Block.modTime_members (f : TimeSys → TimeSys) : (b.modTime f).members = b.members := rfl
@[simp] theorem Block.modTime_agents (f : TimeSys → TimeSys) : (b.modTime f).agents = b.agents := rfl
@[simp] theorem Block.modTime_aborts (f : TimeSys → TimeSys) : (b.modTime f).aborts = b.aborts := rfl
@[simp] theorem Block.modTime_hostOut (f : TimeSys → TimeSys) : (b.modTime f).hostOut = b.hostOut := rfl
@[simp] theorem Block.modTime_farOut (f : TimeSys → TimeSys) : (b.modTime f).farOut = b.farOut := rfl
@[simp] theorem Block.modTime_time (f : TimeSys → TimeSys) : (b.modTime f).time = f b.time := rfl
@[simp] theorem Block.modTime_elem_of (i : Nat) (f : TimeSys → TimeSys) : (b.modTime f).elem i = b.elem i := rfl
@[simp] theorem Block.modTime_ni_of (i : Nat) (f : TimeSys → TimeSys) : (b.modTime f).ni i = b.ni i := rfl
@[simp] theorem Block.modTime_gate_of (i : Nat) (f : TimeSys → TimeSys) : (b.modTime f).gate i = b.gate i := rfl
@[simp] theorem Block.modTime_link_of (i : Nat) (f : TimeSys → TimeSys) : (b.modTime f).link i = b.link i := rfl
@[simp] theorem Block.modTime_port_of (i : Nat) (f : TimeSys → TimeSys) : (b.modTime f).port i = b.port i := rfl
@[simp] theorem Block.modTime_tb_of (i : Nat) (f : TimeSys → TimeSys) : (b.modTime f).tb i = b.tb i := rfl
@[simp] theorem Block.modTime_dom_of (i : Nat) (f : TimeSys → TimeSys) : (b.modTime f).dom i = b.dom i := rfl
@[simp] theorem Block.modTime_region_of (i : Nat) (f : TimeSys → TimeSys) : (b.modTime f).region i = b.region i := rfl
@[simp] theorem Block.modTime_stw_of (i : Nat) (f : TimeSys → TimeSys) : (b.modTime f).stw i = b.stw i := rfl
@[simp] theorem Block.modTime_scope_of (i j : Nat) (f : TimeSys → TimeSys) : (b.modTime f).scope i j = b.scope i j := rfl
@[simp] theorem Block.modTime_ring_of (i : Nat) (f : TimeSys → TimeSys) : (b.modTime f).ring i = b.ring i := rfl
@[simp] theorem Block.modTime_vec_of (i : Nat) (f : TimeSys → TimeSys) : (b.modTime f).vec i = b.vec i := rfl

end Sys2Proof.Machine
end

