-- ==== Sys2Proof/Laws/Ops.lean ====
section
/-! SUPPORT. What the shared operations do to the block, said once: everything that each leaves as it was, and what it writes. -/

namespace Sys2Proof.Machine

variable (b : Block)

/-- Counting an event touches the counters alone. -/
@[simp] theorem Block.bump_frame (e c n : Nat) :
    (b.bump e c n).now = b.now ∧ (b.bump e c n).pkgid = b.pkgid ∧ (b.bump e c n).strapOk = b.strapOk ∧
    (b.bump e c n).fatal = b.fatal ∧ (b.bump e c n).refclk = b.refclk ∧ (b.bump e c n).fuseSerial = b.fuseSerial ∧
    (b.bump e c n).fuseKey = b.fuseKey ∧ (b.bump e c n).fuseMinSec = b.fuseMinSec ∧ (b.bump e c n).colTrained = b.colTrained ∧
    (b.bump e c n).ridgeless = b.ridgeless ∧ (b.bump e c n).i3cWord = b.i3cWord ∧ (b.bump e c n).tapIr = b.tapIr ∧
    (b.bump e c n).errValue = b.errValue ∧ (b.bump e c n).errValid = b.errValid ∧ (b.bump e c n).errCause = b.errCause ∧
    (b.bump e c n).errCount = b.errCount ∧ (b.bump e c n).errOffset = b.errOffset ∧ (b.bump e c n).freeCtr = b.freeCtr ∧
    (b.bump e c n).wires = b.wires ∧ (b.bump e c n).crWires = b.crWires ∧ (b.bump e c n).fcWires = b.fcWires ∧
    (b.bump e c n).nis = b.nis ∧ (b.bump e c n).gates = b.gates ∧ (b.bump e c n).fords = b.fords ∧
    (b.bump e c n).links = b.links ∧ (b.bump e c n).ports = b.ports ∧ (b.bump e c n).tbs = b.tbs ∧
    (b.bump e c n).timeX = b.timeX ∧ (b.bump e c n).time = b.time ∧ (b.bump e c n).ts = b.ts ∧ (b.bump e c n).doms = b.doms ∧
    (b.bump e c n).regions = b.regions ∧ (b.bump e c n).stws = b.stws ∧ (b.bump e c n).scopes = b.scopes ∧
    (b.bump e c n).wsh = b.wsh ∧ (b.bump e c n).rings = b.rings ∧ (b.bump e c n).vecs = b.vecs ∧ (b.bump e c n).lead = b.lead ∧
    (b.bump e c n).map = b.map ∧ (b.bump e c n).groups = b.groups ∧ (b.bump e c n).members = b.members ∧
    (b.bump e c n).agents = b.agents ∧ (b.bump e c n).aborts = b.aborts ∧ (b.bump e c n).hostOut = b.hostOut ∧
    (b.bump e c n).farOut = b.farOut := by
  simp [Block.bump]
/-- The same of the readers. -/
@[simp] theorem Block.bump_reads (e c n : Nat) (i : Nat) :
    (b.bump e c n).ni i = b.ni i ∧ (b.bump e c n).gate i = b.gate i ∧ (b.bump e c n).link i = b.link i ∧
    (b.bump e c n).port i = b.port i ∧ (b.bump e c n).tb i = b.tb i ∧ (b.bump e c n).dom i = b.dom i ∧
    (b.bump e c n).region i = b.region i ∧ (b.bump e c n).stw i = b.stw i ∧ (b.bump e c n).ring i = b.ring i ∧
    (b.bump e c n).vec i = b.vec i := by
  simp [Block.ni, Block.gate, Block.link, Block.port, Block.tb, Block.dom, Block.region, Block.stw, Block.ring, Block.vec]
/-- The same of the scopes. -/
@[simp] theorem Block.bump_scope (e c n : Nat) (i j : Nat) : (b.bump e c n).scope i j = b.scope i j := by
  simp [Block.scope]

/-- Counting a kind touches the counters alone. -/
@[simp] theorem Block.bumpKind_frame (s k : Nat) :
    (b.bumpKind s k).now = b.now ∧ (b.bumpKind s k).pkgid = b.pkgid ∧ (b.bumpKind s k).strapOk = b.strapOk ∧
    (b.bumpKind s k).fatal = b.fatal ∧ (b.bumpKind s k).refclk = b.refclk ∧ (b.bumpKind s k).fuseSerial = b.fuseSerial ∧
    (b.bumpKind s k).fuseKey = b.fuseKey ∧ (b.bumpKind s k).fuseMinSec = b.fuseMinSec ∧
    (b.bumpKind s k).colTrained = b.colTrained ∧ (b.bumpKind s k).ridgeless = b.ridgeless ∧
    (b.bumpKind s k).i3cWord = b.i3cWord ∧ (b.bumpKind s k).tapIr = b.tapIr ∧ (b.bumpKind s k).errValue = b.errValue ∧
    (b.bumpKind s k).errValid = b.errValid ∧ (b.bumpKind s k).errCause = b.errCause ∧ (b.bumpKind s k).errCount = b.errCount ∧
    (b.bumpKind s k).errOffset = b.errOffset ∧ (b.bumpKind s k).freeCtr = b.freeCtr ∧ (b.bumpKind s k).wires = b.wires ∧
    (b.bumpKind s k).crWires = b.crWires ∧ (b.bumpKind s k).fcWires = b.fcWires ∧ (b.bumpKind s k).nis = b.nis ∧
    (b.bumpKind s k).gates = b.gates ∧ (b.bumpKind s k).fords = b.fords ∧ (b.bumpKind s k).links = b.links ∧
    (b.bumpKind s k).ports = b.ports ∧ (b.bumpKind s k).tbs = b.tbs ∧ (b.bumpKind s k).timeX = b.timeX ∧
    (b.bumpKind s k).time = b.time ∧ (b.bumpKind s k).ts = b.ts ∧ (b.bumpKind s k).doms = b.doms ∧
    (b.bumpKind s k).regions = b.regions ∧ (b.bumpKind s k).stws = b.stws ∧ (b.bumpKind s k).scopes = b.scopes ∧
    (b.bumpKind s k).wsh = b.wsh ∧ (b.bumpKind s k).rings = b.rings ∧ (b.bumpKind s k).vecs = b.vecs ∧
    (b.bumpKind s k).lead = b.lead ∧ (b.bumpKind s k).map = b.map ∧ (b.bumpKind s k).groups = b.groups ∧
    (b.bumpKind s k).members = b.members ∧ (b.bumpKind s k).agents = b.agents ∧ (b.bumpKind s k).aborts = b.aborts ∧
    (b.bumpKind s k).hostOut = b.hostOut ∧ (b.bumpKind s k).farOut = b.farOut := by
  unfold Block.bumpKind
  split <;> simp
/-- The same of the readers. -/
@[simp] theorem Block.bumpKind_reads (s k : Nat) (i : Nat) :
    (b.bumpKind s k).ni i = b.ni i ∧ (b.bumpKind s k).gate i = b.gate i ∧ (b.bumpKind s k).link i = b.link i ∧
    (b.bumpKind s k).port i = b.port i ∧ (b.bumpKind s k).tb i = b.tb i ∧ (b.bumpKind s k).dom i = b.dom i ∧
    (b.bumpKind s k).region i = b.region i ∧ (b.bumpKind s k).stw i = b.stw i ∧ (b.bumpKind s k).ring i = b.ring i ∧
    (b.bumpKind s k).vec i = b.vec i := by
  simp [Block.ni, Block.gate, Block.link, Block.port, Block.tb, Block.dom, Block.region, Block.stw, Block.ring, Block.vec]
/-- The same of the scopes. -/
@[simp] theorem Block.bumpKind_scope (s k : Nat) (i j : Nat) : (b.bumpKind s k).scope i j = b.scope i j := by
  simp [Block.scope]

/-- A message touches the counters and the collectors alone. -/
@[simp] theorem Block.send_frame (m : Msg) :
    (b.send m).now = b.now ∧ (b.send m).pkgid = b.pkgid ∧ (b.send m).strapOk = b.strapOk ∧ (b.send m).fatal = b.fatal ∧
    (b.send m).refclk = b.refclk ∧ (b.send m).fuseSerial = b.fuseSerial ∧ (b.send m).fuseKey = b.fuseKey ∧
    (b.send m).fuseMinSec = b.fuseMinSec ∧ (b.send m).colTrained = b.colTrained ∧ (b.send m).ridgeless = b.ridgeless ∧
    (b.send m).i3cWord = b.i3cWord ∧ (b.send m).tapIr = b.tapIr ∧ (b.send m).errValue = b.errValue ∧
    (b.send m).errValid = b.errValid ∧ (b.send m).errCause = b.errCause ∧ (b.send m).errCount = b.errCount ∧
    (b.send m).errOffset = b.errOffset ∧ (b.send m).freeCtr = b.freeCtr ∧ (b.send m).wires = b.wires ∧
    (b.send m).crWires = b.crWires ∧ (b.send m).fcWires = b.fcWires ∧ (b.send m).nis = b.nis ∧ (b.send m).gates = b.gates ∧
    (b.send m).fords = b.fords ∧ (b.send m).links = b.links ∧ (b.send m).ports = b.ports ∧ (b.send m).tbs = b.tbs ∧
    (b.send m).timeX = b.timeX ∧ (b.send m).time = b.time ∧ (b.send m).ts = b.ts ∧ (b.send m).doms = b.doms ∧
    (b.send m).regions = b.regions ∧ (b.send m).stws = b.stws ∧ (b.send m).scopes = b.scopes ∧ (b.send m).rings = b.rings ∧
    (b.send m).vecs = b.vecs ∧ (b.send m).lead = b.lead ∧ (b.send m).map = b.map ∧ (b.send m).groups = b.groups ∧
    (b.send m).members = b.members ∧ (b.send m).agents = b.agents ∧ (b.send m).aborts = b.aborts ∧
    (b.send m).hostOut = b.hostOut ∧ (b.send m).farOut = b.farOut := by
  simp [Block.send]
/-- The same of the readers. -/
@[simp] theorem Block.send_reads (m : Msg) (i : Nat) :
    (b.send m).ni i = b.ni i ∧ (b.send m).gate i = b.gate i ∧ (b.send m).link i = b.link i ∧ (b.send m).port i = b.port i ∧
    (b.send m).tb i = b.tb i ∧ (b.send m).dom i = b.dom i ∧ (b.send m).region i = b.region i ∧ (b.send m).stw i = b.stw i ∧
    (b.send m).ring i = b.ring i ∧ (b.send m).vec i = b.vec i := by
  simp [Block.ni, Block.gate, Block.link, Block.port, Block.tb, Block.dom, Block.region, Block.stw, Block.ring, Block.vec]
/-- The same of the scopes. -/
@[simp] theorem Block.send_scope (m : Msg) (i j : Nat) : (b.send m).scope i j = b.scope i j := by
  simp [Block.scope]

/-- A message joins the queue of its source's die. -/
theorem Block.send_raised (m : Msg) : Raised b (b.send m) m.src m.kind m.sev := by
  refine ⟨{ m with count := min 0xFFFF (b.wsh.supp.get 0 (m.src * 256 + m.kind)) }, rfl, rfl, rfl, ?_⟩
  by_cases h : (b.wsh.die.get [] (dieOf m.src)).length < 64 <;> simp [Block.send, h]

/-- A Corrected or Deferred event touches the counters and the collectors alone. -/
@[simp] theorem Block.event_frame (s k : Nat) (pk : Option (BitVec 128)) (det : BitVec 32) :
    (b.event s k pk det).now = b.now ∧ (b.event s k pk det).pkgid = b.pkgid ∧ (b.event s k pk det).strapOk = b.strapOk ∧
    (b.event s k pk det).fatal = b.fatal ∧ (b.event s k pk det).refclk = b.refclk ∧
    (b.event s k pk det).fuseSerial = b.fuseSerial ∧ (b.event s k pk det).fuseKey = b.fuseKey ∧
    (b.event s k pk det).fuseMinSec = b.fuseMinSec ∧ (b.event s k pk det).colTrained = b.colTrained ∧
    (b.event s k pk det).ridgeless = b.ridgeless ∧ (b.event s k pk det).i3cWord = b.i3cWord ∧
    (b.event s k pk det).tapIr = b.tapIr ∧ (b.event s k pk det).errValue = b.errValue ∧
    (b.event s k pk det).errValid = b.errValid ∧ (b.event s k pk det).errCause = b.errCause ∧
    (b.event s k pk det).errCount = b.errCount ∧ (b.event s k pk det).errOffset = b.errOffset ∧
    (b.event s k pk det).freeCtr = b.freeCtr ∧ (b.event s k pk det).wires = b.wires ∧
    (b.event s k pk det).crWires = b.crWires ∧ (b.event s k pk det).fcWires = b.fcWires ∧ (b.event s k pk det).nis = b.nis ∧
    (b.event s k pk det).gates = b.gates ∧ (b.event s k pk det).fords = b.fords ∧ (b.event s k pk det).links = b.links ∧
    (b.event s k pk det).ports = b.ports ∧ (b.event s k pk det).tbs = b.tbs ∧ (b.event s k pk det).timeX = b.timeX ∧
    (b.event s k pk det).time = b.time ∧ (b.event s k pk det).ts = b.ts ∧ (b.event s k pk det).doms = b.doms ∧
    (b.event s k pk det).regions = b.regions ∧ (b.event s k pk det).stws = b.stws ∧ (b.event s k pk det).scopes = b.scopes ∧
    (b.event s k pk det).rings = b.rings ∧ (b.event s k pk det).vecs = b.vecs ∧ (b.event s k pk det).lead = b.lead ∧
    (b.event s k pk det).map = b.map ∧ (b.event s k pk det).groups = b.groups ∧ (b.event s k pk det).members = b.members ∧
    (b.event s k pk det).agents = b.agents ∧ (b.event s k pk det).aborts = b.aborts ∧
    (b.event s k pk det).hostOut = b.hostOut ∧ (b.event s k pk det).farOut = b.farOut := by
  simp [Block.event]
/-- The same of the readers. -/
@[simp] theorem Block.event_reads (s k : Nat) (pk : Option (BitVec 128)) (det : BitVec 32) (i : Nat) :
    (b.event s k pk det).ni i = b.ni i ∧ (b.event s k pk det).gate i = b.gate i ∧ (b.event s k pk det).link i = b.link i ∧
    (b.event s k pk det).port i = b.port i ∧ (b.event s k pk det).tb i = b.tb i ∧ (b.event s k pk det).dom i = b.dom i ∧
    (b.event s k pk det).region i = b.region i ∧ (b.event s k pk det).stw i = b.stw i ∧
    (b.event s k pk det).ring i = b.ring i ∧ (b.event s k pk det).vec i = b.vec i := by
  simp [Block.ni, Block.gate, Block.link, Block.port, Block.tb, Block.dom, Block.region, Block.stw, Block.ring, Block.vec]
/-- The same of the scopes. -/
@[simp] theorem Block.event_scope (s k : Nat) (pk : Option (BitVec 128)) (det : BitVec 32) (i j : Nat) : (b.event s k pk det).scope i j = b.scope i j := by
  simp [Block.scope]

/-- An event raises its kind. -/
theorem Block.event_raised (s k : Nat) (pk : Option (BitVec 128)) (det : BitVec 32) :
    Raised b (b.event s k pk det) s k (kindSev s k) := by
  simpa [Block.event, Block.mkMsg] using b.send_raised (b.mkMsg s k (kindSev s k) pk det)

/-- A suppressed occurrence is only counted. -/
@[simp] theorem Block.suppress_frame (s k : Nat) :
    (b.suppress s k).now = b.now ∧ (b.suppress s k).pkgid = b.pkgid ∧ (b.suppress s k).strapOk = b.strapOk ∧
    (b.suppress s k).fatal = b.fatal ∧ (b.suppress s k).refclk = b.refclk ∧ (b.suppress s k).fuseSerial = b.fuseSerial ∧
    (b.suppress s k).fuseKey = b.fuseKey ∧ (b.suppress s k).fuseMinSec = b.fuseMinSec ∧
    (b.suppress s k).colTrained = b.colTrained ∧ (b.suppress s k).ridgeless = b.ridgeless ∧
    (b.suppress s k).i3cWord = b.i3cWord ∧ (b.suppress s k).tapIr = b.tapIr ∧ (b.suppress s k).errValue = b.errValue ∧
    (b.suppress s k).errValid = b.errValid ∧ (b.suppress s k).errCause = b.errCause ∧ (b.suppress s k).errCount = b.errCount ∧
    (b.suppress s k).errOffset = b.errOffset ∧ (b.suppress s k).freeCtr = b.freeCtr ∧ (b.suppress s k).wires = b.wires ∧
    (b.suppress s k).crWires = b.crWires ∧ (b.suppress s k).fcWires = b.fcWires ∧ (b.suppress s k).nis = b.nis ∧
    (b.suppress s k).gates = b.gates ∧ (b.suppress s k).fords = b.fords ∧ (b.suppress s k).links = b.links ∧
    (b.suppress s k).ports = b.ports ∧ (b.suppress s k).tbs = b.tbs ∧ (b.suppress s k).timeX = b.timeX ∧
    (b.suppress s k).time = b.time ∧ (b.suppress s k).ts = b.ts ∧ (b.suppress s k).doms = b.doms ∧
    (b.suppress s k).regions = b.regions ∧ (b.suppress s k).stws = b.stws ∧ (b.suppress s k).scopes = b.scopes ∧
    (b.suppress s k).rings = b.rings ∧ (b.suppress s k).vecs = b.vecs ∧ (b.suppress s k).lead = b.lead ∧
    (b.suppress s k).map = b.map ∧ (b.suppress s k).groups = b.groups ∧ (b.suppress s k).members = b.members ∧
    (b.suppress s k).agents = b.agents ∧ (b.suppress s k).aborts = b.aborts ∧ (b.suppress s k).hostOut = b.hostOut ∧
    (b.suppress s k).farOut = b.farOut := by
  simp [Block.suppress]
/-- The same of the readers. -/
@[simp] theorem Block.suppress_reads (s k : Nat) (i : Nat) :
    (b.suppress s k).ni i = b.ni i ∧ (b.suppress s k).gate i = b.gate i ∧ (b.suppress s k).link i = b.link i ∧
    (b.suppress s k).port i = b.port i ∧ (b.suppress s k).tb i = b.tb i ∧ (b.suppress s k).dom i = b.dom i ∧
    (b.suppress s k).region i = b.region i ∧ (b.suppress s k).stw i = b.stw i ∧ (b.suppress s k).ring i = b.ring i ∧
    (b.suppress s k).vec i = b.vec i := by
  simp [Block.ni, Block.gate, Block.link, Block.port, Block.tb, Block.dom, Block.region, Block.stw, Block.ring, Block.vec]
/-- The same of the scopes. -/
@[simp] theorem Block.suppress_scope (s k : Nat) (i j : Nat) : (b.suppress s k).scope i j = b.scope i j := by
  simp [Block.scope]

/-- A Containable fault touches the counters, the collectors and the scope it stops. -/
@[simp] theorem Block.fault_frame (s k ty id : Nat) (pk : Option (BitVec 128)) (det : BitVec 32) (ext : Option (BitVec 128)) (forced : Bool) :
    (b.fault s k ty id pk det ext forced).now = b.now ∧ (b.fault s k ty id pk det ext forced).pkgid = b.pkgid ∧
    (b.fault s k ty id pk det ext forced).strapOk = b.strapOk ∧ (b.fault s k ty id pk det ext forced).fatal = b.fatal ∧
    (b.fault s k ty id pk det ext forced).refclk = b.refclk ∧ (b.fault s k ty id pk det ext forced).fuseSerial = b.fuseSerial ∧
    (b.fault s k ty id pk det ext forced).fuseKey = b.fuseKey ∧
    (b.fault s k ty id pk det ext forced).fuseMinSec = b.fuseMinSec ∧
    (b.fault s k ty id pk det ext forced).colTrained = b.colTrained ∧
    (b.fault s k ty id pk det ext forced).ridgeless = b.ridgeless ∧ (b.fault s k ty id pk det ext forced).i3cWord = b.i3cWord ∧
    (b.fault s k ty id pk det ext forced).tapIr = b.tapIr ∧ (b.fault s k ty id pk det ext forced).errValue = b.errValue ∧
    (b.fault s k ty id pk det ext forced).errValid = b.errValid ∧ (b.fault s k ty id pk det ext forced).errCause = b.errCause ∧
    (b.fault s k ty id pk det ext forced).errCount = b.errCount ∧
    (b.fault s k ty id pk det ext forced).errOffset = b.errOffset ∧ (b.fault s k ty id pk det ext forced).freeCtr = b.freeCtr ∧
    (b.fault s k ty id pk det ext forced).wires = b.wires ∧ (b.fault s k ty id pk det ext forced).crWires = b.crWires ∧
    (b.fault s k ty id pk det ext forced).fcWires = b.fcWires ∧ (b.fault s k ty id pk det ext forced).nis = b.nis ∧
    (b.fault s k ty id pk det ext forced).gates = b.gates ∧ (b.fault s k ty id pk det ext forced).fords = b.fords ∧
    (b.fault s k ty id pk det ext forced).links = b.links ∧ (b.fault s k ty id pk det ext forced).ports = b.ports ∧
    (b.fault s k ty id pk det ext forced).tbs = b.tbs ∧ (b.fault s k ty id pk det ext forced).timeX = b.timeX ∧
    (b.fault s k ty id pk det ext forced).time = b.time ∧ (b.fault s k ty id pk det ext forced).ts = b.ts ∧
    (b.fault s k ty id pk det ext forced).doms = b.doms ∧ (b.fault s k ty id pk det ext forced).regions = b.regions ∧
    (b.fault s k ty id pk det ext forced).stws = b.stws ∧ (b.fault s k ty id pk det ext forced).rings = b.rings ∧
    (b.fault s k ty id pk det ext forced).vecs = b.vecs ∧ (b.fault s k ty id pk det ext forced).lead = b.lead ∧
    (b.fault s k ty id pk det ext forced).map = b.map ∧ (b.fault s k ty id pk det ext forced).groups = b.groups ∧
    (b.fault s k ty id pk det ext forced).members = b.members ∧ (b.fault s k ty id pk det ext forced).agents = b.agents ∧
    (b.fault s k ty id pk det ext forced).aborts = b.aborts ∧ (b.fault s k ty id pk det ext forced).hostOut = b.hostOut ∧
    (b.fault s k ty id pk det ext forced).farOut = b.farOut := by
  unfold Block.fault
  dsimp only
  split <;> simp
/-- The same of the readers. -/
@[simp] theorem Block.fault_reads (s k ty id : Nat) (pk : Option (BitVec 128)) (det : BitVec 32) (ext : Option (BitVec 128)) (forced : Bool) (i : Nat) :
    (b.fault s k ty id pk det ext forced).ni i = b.ni i ∧ (b.fault s k ty id pk det ext forced).gate i = b.gate i ∧
    (b.fault s k ty id pk det ext forced).link i = b.link i ∧ (b.fault s k ty id pk det ext forced).port i = b.port i ∧
    (b.fault s k ty id pk det ext forced).tb i = b.tb i ∧ (b.fault s k ty id pk det ext forced).dom i = b.dom i ∧
    (b.fault s k ty id pk det ext forced).region i = b.region i ∧ (b.fault s k ty id pk det ext forced).stw i = b.stw i ∧
    (b.fault s k ty id pk det ext forced).ring i = b.ring i ∧ (b.fault s k ty id pk det ext forced).vec i = b.vec i := by
  simp [Block.ni, Block.gate, Block.link, Block.port, Block.tb, Block.dom, Block.region, Block.stw, Block.ring, Block.vec]

/-- A Containable fault raises its kind, Fatal where 11 R319 escalates it. -/
theorem Block.fault_raised (s k ty id : Nat) (pk : Option (BitVec 128)) (det : BitVec 32) (ext : Option (BitVec 128)) (forced : Bool) :
    Raised b (b.fault s k ty id pk det ext forced) s k
      (if kindSev s k = 2 ∧ b.escalates ty id = true then 3 else kindSev s k) := by
  have key : ∀ (m : Msg) (f : Block → Block), (∀ x, (f x).wsh = x.wsh) → m.src = s → m.kind = k →
      m.sev = (if kindSev s k = 2 ∧ b.escalates ty id = true then 3 else kindSev s k) →
      Raised b (f (b.send m)) s k (if kindSev s k = 2 ∧ b.escalates ty id = true then 3 else kindSev s k) := by
    intro m f hf hs hk hv
    have h := b.send_raised m
    rw [hs, hk, hv] at h
    obtain ⟨m', h⟩ := h
    exact ⟨m', by rw [hf]; exact h⟩
  unfold Block.fault
  dsimp only
  split
  · exact key _ (fun x => x) (fun _ => rfl) rfl rfl (by simp [Block.mkMsg])
  · exact key _ (fun x => x.modScope ty id _) (fun _ => rfl) rfl rfl (by simp [Block.mkMsg])

/-- A Containable fault stops its granule. -/
theorem Block.fault_stopped (s k ty id : Nat) (pk : Option (BitVec 128)) (det : BitVec 32) (ext : Option (BitVec 128)) (forced : Bool)
    (hty : ty ≠ 0) (hk : 2 ≤ kindSev s k) : ((b.fault s k ty id pk det ext forced).scope ty id).stopped = true := by
  unfold Block.fault
  dsimp only
  have h1 : ¬ (ty == 0 || decide ((kindSev s k) < 2)) = true := by simp [hty]; omega
  have h2 : ∀ e : Bool, (decide ((if e then 3 else kindSev s k) < 2)) = false := by intro e; cases e <;> simp; omega
  simp [hty, Nat.not_lt.mpr hk]

/-- A forced message touches the counters and the collectors alone. -/
@[simp] theorem Block.sendForced_frame (s : Nat) :
    (b.sendForced s).now = b.now ∧ (b.sendForced s).pkgid = b.pkgid ∧ (b.sendForced s).strapOk = b.strapOk ∧
    (b.sendForced s).fatal = b.fatal ∧ (b.sendForced s).refclk = b.refclk ∧ (b.sendForced s).fuseSerial = b.fuseSerial ∧
    (b.sendForced s).fuseKey = b.fuseKey ∧ (b.sendForced s).fuseMinSec = b.fuseMinSec ∧
    (b.sendForced s).colTrained = b.colTrained ∧ (b.sendForced s).ridgeless = b.ridgeless ∧
    (b.sendForced s).i3cWord = b.i3cWord ∧ (b.sendForced s).tapIr = b.tapIr ∧ (b.sendForced s).errValue = b.errValue ∧
    (b.sendForced s).errValid = b.errValid ∧ (b.sendForced s).errCause = b.errCause ∧ (b.sendForced s).errCount = b.errCount ∧
    (b.sendForced s).errOffset = b.errOffset ∧ (b.sendForced s).freeCtr = b.freeCtr ∧ (b.sendForced s).wires = b.wires ∧
    (b.sendForced s).crWires = b.crWires ∧ (b.sendForced s).fcWires = b.fcWires ∧ (b.sendForced s).nis = b.nis ∧
    (b.sendForced s).gates = b.gates ∧ (b.sendForced s).fords = b.fords ∧ (b.sendForced s).links = b.links ∧
    (b.sendForced s).ports = b.ports ∧ (b.sendForced s).tbs = b.tbs ∧ (b.sendForced s).timeX = b.timeX ∧
    (b.sendForced s).time = b.time ∧ (b.sendForced s).ts = b.ts ∧ (b.sendForced s).doms = b.doms ∧
    (b.sendForced s).regions = b.regions ∧ (b.sendForced s).stws = b.stws ∧ (b.sendForced s).scopes = b.scopes ∧
    (b.sendForced s).rings = b.rings ∧ (b.sendForced s).vecs = b.vecs ∧ (b.sendForced s).lead = b.lead ∧
    (b.sendForced s).map = b.map ∧ (b.sendForced s).groups = b.groups ∧ (b.sendForced s).members = b.members ∧
    (b.sendForced s).agents = b.agents ∧ (b.sendForced s).aborts = b.aborts ∧ (b.sendForced s).hostOut = b.hostOut ∧
    (b.sendForced s).farOut = b.farOut := by
  simp [Block.sendForced]
/-- The same of the readers. -/
@[simp] theorem Block.sendForced_reads (s : Nat) (i : Nat) :
    (b.sendForced s).ni i = b.ni i ∧ (b.sendForced s).gate i = b.gate i ∧ (b.sendForced s).link i = b.link i ∧
    (b.sendForced s).port i = b.port i ∧ (b.sendForced s).tb i = b.tb i ∧ (b.sendForced s).dom i = b.dom i ∧
    (b.sendForced s).region i = b.region i ∧ (b.sendForced s).stw i = b.stw i ∧ (b.sendForced s).ring i = b.ring i ∧
    (b.sendForced s).vec i = b.vec i := by
  simp [Block.ni, Block.gate, Block.link, Block.port, Block.tb, Block.dom, Block.region, Block.stw, Block.ring, Block.vec]
/-- The same of the scopes. -/
@[simp] theorem Block.sendForced_scope (s : Nat) (i j : Nat) : (b.sendForced s).scope i j = b.scope i j := by
  simp [Block.scope]

/-- A rate-limited event touches the counters, the collectors and the time of the last record. -/
@[simp] theorem Block.niEvent_frame (n k per : Nat) (pk : Option (BitVec 128)) (det : BitVec 32) :
    (b.niEvent n k per pk det).now = b.now ∧ (b.niEvent n k per pk det).pkgid = b.pkgid ∧
    (b.niEvent n k per pk det).strapOk = b.strapOk ∧ (b.niEvent n k per pk det).fatal = b.fatal ∧
    (b.niEvent n k per pk det).refclk = b.refclk ∧ (b.niEvent n k per pk det).fuseSerial = b.fuseSerial ∧
    (b.niEvent n k per pk det).fuseKey = b.fuseKey ∧ (b.niEvent n k per pk det).fuseMinSec = b.fuseMinSec ∧
    (b.niEvent n k per pk det).colTrained = b.colTrained ∧ (b.niEvent n k per pk det).ridgeless = b.ridgeless ∧
    (b.niEvent n k per pk det).i3cWord = b.i3cWord ∧ (b.niEvent n k per pk det).tapIr = b.tapIr ∧
    (b.niEvent n k per pk det).errValue = b.errValue ∧ (b.niEvent n k per pk det).errValid = b.errValid ∧
    (b.niEvent n k per pk det).errCause = b.errCause ∧ (b.niEvent n k per pk det).errCount = b.errCount ∧
    (b.niEvent n k per pk det).errOffset = b.errOffset ∧ (b.niEvent n k per pk det).freeCtr = b.freeCtr ∧
    (b.niEvent n k per pk det).wires = b.wires ∧ (b.niEvent n k per pk det).crWires = b.crWires ∧
    (b.niEvent n k per pk det).fcWires = b.fcWires ∧ (b.niEvent n k per pk det).gates = b.gates ∧
    (b.niEvent n k per pk det).fords = b.fords ∧ (b.niEvent n k per pk det).links = b.links ∧
    (b.niEvent n k per pk det).ports = b.ports ∧ (b.niEvent n k per pk det).tbs = b.tbs ∧
    (b.niEvent n k per pk det).timeX = b.timeX ∧ (b.niEvent n k per pk det).time = b.time ∧
    (b.niEvent n k per pk det).ts = b.ts ∧ (b.niEvent n k per pk det).doms = b.doms ∧
    (b.niEvent n k per pk det).regions = b.regions ∧ (b.niEvent n k per pk det).stws = b.stws ∧
    (b.niEvent n k per pk det).scopes = b.scopes ∧ (b.niEvent n k per pk det).rings = b.rings ∧
    (b.niEvent n k per pk det).vecs = b.vecs ∧ (b.niEvent n k per pk det).lead = b.lead ∧
    (b.niEvent n k per pk det).map = b.map ∧ (b.niEvent n k per pk det).groups = b.groups ∧
    (b.niEvent n k per pk det).members = b.members ∧ (b.niEvent n k per pk det).agents = b.agents ∧
    (b.niEvent n k per pk det).aborts = b.aborts ∧ (b.niEvent n k per pk det).hostOut = b.hostOut ∧
    (b.niEvent n k per pk det).farOut = b.farOut := by
  unfold Block.niEvent
  split
  · split <;> simp
  · simp
/-- The same of the readers. -/
@[simp] theorem Block.niEvent_reads (n k per : Nat) (pk : Option (BitVec 128)) (det : BitVec 32) (i : Nat) :
    (b.niEvent n k per pk det).gate i = b.gate i ∧ (b.niEvent n k per pk det).link i = b.link i ∧
    (b.niEvent n k per pk det).port i = b.port i ∧ (b.niEvent n k per pk det).tb i = b.tb i ∧
    (b.niEvent n k per pk det).dom i = b.dom i ∧ (b.niEvent n k per pk det).region i = b.region i ∧
    (b.niEvent n k per pk det).stw i = b.stw i ∧ (b.niEvent n k per pk det).ring i = b.ring i ∧
    (b.niEvent n k per pk det).vec i = b.vec i := by
  simp [Block.gate, Block.link, Block.port, Block.tb, Block.dom, Block.region, Block.stw, Block.ring, Block.vec]
/-- The same of the scopes. -/
@[simp] theorem Block.niEvent_scope (n k per : Nat) (pk : Option (BitVec 128)) (det : BitVec 32) (i j : Nat) : (b.niEvent n k per pk det).scope i j = b.scope i j := by
  simp [Block.scope]

/-- A discarded packet leaves its answer alone behind, or, of class TRC, a count. -/
@[simp] theorem Block.discard_frame (a k : Nat) (h : BitVec 128) (ind : Bool) :
    (b.discard a k h ind).now = b.now ∧ (b.discard a k h ind).pkgid = b.pkgid ∧ (b.discard a k h ind).strapOk = b.strapOk ∧
    (b.discard a k h ind).fatal = b.fatal ∧ (b.discard a k h ind).refclk = b.refclk ∧
    (b.discard a k h ind).fuseSerial = b.fuseSerial ∧ (b.discard a k h ind).fuseKey = b.fuseKey ∧
    (b.discard a k h ind).fuseMinSec = b.fuseMinSec ∧ (b.discard a k h ind).colTrained = b.colTrained ∧
    (b.discard a k h ind).ridgeless = b.ridgeless ∧ (b.discard a k h ind).i3cWord = b.i3cWord ∧
    (b.discard a k h ind).tapIr = b.tapIr ∧ (b.discard a k h ind).errValue = b.errValue ∧
    (b.discard a k h ind).errValid = b.errValid ∧ (b.discard a k h ind).errCause = b.errCause ∧
    (b.discard a k h ind).errCount = b.errCount ∧ (b.discard a k h ind).errOffset = b.errOffset ∧
    (b.discard a k h ind).freeCtr = b.freeCtr ∧ (b.discard a k h ind).wires = b.wires ∧
    (b.discard a k h ind).crWires = b.crWires ∧ (b.discard a k h ind).fcWires = b.fcWires ∧ (b.discard a k h ind).nis = b.nis ∧
    (b.discard a k h ind).gates = b.gates ∧ (b.discard a k h ind).fords = b.fords ∧ (b.discard a k h ind).links = b.links ∧
    (b.discard a k h ind).ports = b.ports ∧ (b.discard a k h ind).tbs = b.tbs ∧ (b.discard a k h ind).timeX = b.timeX ∧
    (b.discard a k h ind).time = b.time ∧ (b.discard a k h ind).ts = b.ts ∧ (b.discard a k h ind).doms = b.doms ∧
    (b.discard a k h ind).regions = b.regions ∧ (b.discard a k h ind).stws = b.stws ∧ (b.discard a k h ind).scopes = b.scopes ∧
    (b.discard a k h ind).wsh = b.wsh ∧ (b.discard a k h ind).rings = b.rings ∧ (b.discard a k h ind).vecs = b.vecs ∧
    (b.discard a k h ind).lead = b.lead ∧ (b.discard a k h ind).map = b.map ∧ (b.discard a k h ind).groups = b.groups ∧
    (b.discard a k h ind).members = b.members ∧ (b.discard a k h ind).agents = b.agents ∧
    (b.discard a k h ind).hostOut = b.hostOut ∧ (b.discard a k h ind).farOut = b.farOut := by
  unfold Block.discard
  split
  · simp
  · split <;> simp
/-- The same of the readers. -/
@[simp] theorem Block.discard_reads (a k : Nat) (h : BitVec 128) (ind : Bool) (i : Nat) :
    (b.discard a k h ind).ni i = b.ni i ∧ (b.discard a k h ind).gate i = b.gate i ∧
    (b.discard a k h ind).link i = b.link i ∧ (b.discard a k h ind).port i = b.port i ∧ (b.discard a k h ind).tb i = b.tb i ∧
    (b.discard a k h ind).dom i = b.dom i ∧ (b.discard a k h ind).region i = b.region i ∧
    (b.discard a k h ind).stw i = b.stw i ∧ (b.discard a k h ind).ring i = b.ring i ∧ (b.discard a k h ind).vec i = b.vec i := by
  simp [Block.ni, Block.gate, Block.link, Block.port, Block.tb, Block.dom, Block.region, Block.stw, Block.ring, Block.vec]
/-- The same of the scopes. -/
@[simp] theorem Block.discard_scope (a k : Nat) (h : BitVec 128) (ind : Bool) (i j : Nat) : (b.discard a k h ind).scope i j = b.scope i j := by
  simp [Block.scope]

/-- A write into host memory. -/
@[simp] theorem Block.hostWrite_frame (o : HostOut) :
    (b.hostWrite o).now = b.now ∧ (b.hostWrite o).pkgid = b.pkgid ∧ (b.hostWrite o).strapOk = b.strapOk ∧
    (b.hostWrite o).fatal = b.fatal ∧ (b.hostWrite o).refclk = b.refclk ∧ (b.hostWrite o).fuseSerial = b.fuseSerial ∧
    (b.hostWrite o).fuseKey = b.fuseKey ∧ (b.hostWrite o).fuseMinSec = b.fuseMinSec ∧
    (b.hostWrite o).colTrained = b.colTrained ∧ (b.hostWrite o).ridgeless = b.ridgeless ∧ (b.hostWrite o).i3cWord = b.i3cWord ∧
    (b.hostWrite o).tapIr = b.tapIr ∧ (b.hostWrite o).errValue = b.errValue ∧ (b.hostWrite o).errValid = b.errValid ∧
    (b.hostWrite o).errCause = b.errCause ∧ (b.hostWrite o).errCount = b.errCount ∧ (b.hostWrite o).errOffset = b.errOffset ∧
    (b.hostWrite o).freeCtr = b.freeCtr ∧ (b.hostWrite o).elems = b.elems ∧ (b.hostWrite o).wires = b.wires ∧
    (b.hostWrite o).crWires = b.crWires ∧ (b.hostWrite o).fcWires = b.fcWires ∧ (b.hostWrite o).nis = b.nis ∧
    (b.hostWrite o).gates = b.gates ∧ (b.hostWrite o).fords = b.fords ∧ (b.hostWrite o).links = b.links ∧
    (b.hostWrite o).ports = b.ports ∧ (b.hostWrite o).tbs = b.tbs ∧ (b.hostWrite o).timeX = b.timeX ∧
    (b.hostWrite o).time = b.time ∧ (b.hostWrite o).ts = b.ts ∧ (b.hostWrite o).doms = b.doms ∧
    (b.hostWrite o).regions = b.regions ∧ (b.hostWrite o).stws = b.stws ∧ (b.hostWrite o).scopes = b.scopes ∧
    (b.hostWrite o).wsh = b.wsh ∧ (b.hostWrite o).rings = b.rings ∧ (b.hostWrite o).vecs = b.vecs ∧
    (b.hostWrite o).lead = b.lead ∧ (b.hostWrite o).map = b.map ∧ (b.hostWrite o).groups = b.groups ∧
    (b.hostWrite o).members = b.members ∧ (b.hostWrite o).agents = b.agents ∧ (b.hostWrite o).aborts = b.aborts ∧
    (b.hostWrite o).farOut = b.farOut := by
  simp [Block.hostWrite]
/-- The same of the readers. -/
@[simp] theorem Block.hostWrite_reads (o : HostOut) (i : Nat) :
    (b.hostWrite o).elem i = b.elem i ∧ (b.hostWrite o).ni i = b.ni i ∧ (b.hostWrite o).gate i = b.gate i ∧
    (b.hostWrite o).link i = b.link i ∧ (b.hostWrite o).port i = b.port i ∧ (b.hostWrite o).tb i = b.tb i ∧
    (b.hostWrite o).dom i = b.dom i ∧ (b.hostWrite o).region i = b.region i ∧ (b.hostWrite o).stw i = b.stw i ∧
    (b.hostWrite o).ring i = b.ring i ∧ (b.hostWrite o).vec i = b.vec i := by
  simp [Block.elem, Block.ni, Block.gate, Block.link, Block.port, Block.tb, Block.dom, Block.region, Block.stw, Block.ring, Block.vec]
/-- The same of the scopes. -/
@[simp] theorem Block.hostWrite_scope (o : HostOut) (i j : Nat) : (b.hostWrite o).scope i j = b.scope i j := by
  simp [Block.scope]

/-- What is written last stands first. -/
@[simp] theorem Block.hostWrite_hostOut (o : HostOut) : (b.hostWrite o).hostOut = o :: b.hostOut := rfl

/-- An interrupt message touches its vector and host memory alone. -/
@[simp] theorem Block.irq_frame (v : Nat) :
    (b.irq v).now = b.now ∧ (b.irq v).pkgid = b.pkgid ∧ (b.irq v).strapOk = b.strapOk ∧ (b.irq v).fatal = b.fatal ∧
    (b.irq v).refclk = b.refclk ∧ (b.irq v).fuseSerial = b.fuseSerial ∧ (b.irq v).fuseKey = b.fuseKey ∧
    (b.irq v).fuseMinSec = b.fuseMinSec ∧ (b.irq v).colTrained = b.colTrained ∧ (b.irq v).ridgeless = b.ridgeless ∧
    (b.irq v).i3cWord = b.i3cWord ∧ (b.irq v).tapIr = b.tapIr ∧ (b.irq v).errValue = b.errValue ∧
    (b.irq v).errValid = b.errValid ∧ (b.irq v).errCause = b.errCause ∧ (b.irq v).errCount = b.errCount ∧
    (b.irq v).errOffset = b.errOffset ∧ (b.irq v).freeCtr = b.freeCtr ∧ (b.irq v).elems = b.elems ∧ (b.irq v).wires = b.wires ∧
    (b.irq v).crWires = b.crWires ∧ (b.irq v).fcWires = b.fcWires ∧ (b.irq v).nis = b.nis ∧ (b.irq v).gates = b.gates ∧
    (b.irq v).fords = b.fords ∧ (b.irq v).links = b.links ∧ (b.irq v).ports = b.ports ∧ (b.irq v).tbs = b.tbs ∧
    (b.irq v).timeX = b.timeX ∧ (b.irq v).time = b.time ∧ (b.irq v).ts = b.ts ∧ (b.irq v).doms = b.doms ∧
    (b.irq v).regions = b.regions ∧ (b.irq v).stws = b.stws ∧ (b.irq v).scopes = b.scopes ∧ (b.irq v).wsh = b.wsh ∧
    (b.irq v).rings = b.rings ∧ (b.irq v).lead = b.lead ∧ (b.irq v).map = b.map ∧ (b.irq v).groups = b.groups ∧
    (b.irq v).members = b.members ∧ (b.irq v).agents = b.agents ∧ (b.irq v).aborts = b.aborts ∧ (b.irq v).farOut = b.farOut := by
  unfold Block.irq
  split <;> simp
/-- The same of the readers. -/
@[simp] theorem Block.irq_reads (v : Nat) (i : Nat) :
    (b.irq v).elem i = b.elem i ∧ (b.irq v).ni i = b.ni i ∧ (b.irq v).gate i = b.gate i ∧ (b.irq v).link i = b.link i ∧
    (b.irq v).port i = b.port i ∧ (b.irq v).tb i = b.tb i ∧ (b.irq v).dom i = b.dom i ∧ (b.irq v).region i = b.region i ∧
    (b.irq v).stw i = b.stw i ∧ (b.irq v).ring i = b.ring i := by
  simp [Block.elem, Block.ni, Block.gate, Block.link, Block.port, Block.tb, Block.dom, Block.region, Block.stw, Block.ring]
/-- The same of the scopes. -/
@[simp] theorem Block.irq_scope (v : Nat) (i j : Nat) : (b.irq v).scope i j = b.scope i j := by
  simp [Block.scope]

/-- No interrupt message changes where a vector points. -/
@[simp] theorem Block.irq_addr (v i : Nat) : ((b.irq v).vec i).addr = (b.vec i).addr := by
  unfold Block.irq
  split
  · by_cases h : i = v
    · subst h; simp
    · rw [Block.modVec_vec_ne _ _ h]
  · simp

/-- A free value advances its counter alone. -/
@[simp] theorem Block.free_frame (w : Nat) :
    ((b.free w).2).now = b.now ∧ ((b.free w).2).pkgid = b.pkgid ∧ ((b.free w).2).strapOk = b.strapOk ∧
    ((b.free w).2).fatal = b.fatal ∧ ((b.free w).2).refclk = b.refclk ∧ ((b.free w).2).fuseSerial = b.fuseSerial ∧
    ((b.free w).2).fuseKey = b.fuseKey ∧ ((b.free w).2).fuseMinSec = b.fuseMinSec ∧ ((b.free w).2).colTrained = b.colTrained ∧
    ((b.free w).2).ridgeless = b.ridgeless ∧ ((b.free w).2).i3cWord = b.i3cWord ∧ ((b.free w).2).tapIr = b.tapIr ∧
    ((b.free w).2).errValue = b.errValue ∧ ((b.free w).2).errValid = b.errValid ∧ ((b.free w).2).errCause = b.errCause ∧
    ((b.free w).2).errCount = b.errCount ∧ ((b.free w).2).errOffset = b.errOffset ∧ ((b.free w).2).elems = b.elems ∧
    ((b.free w).2).wires = b.wires ∧ ((b.free w).2).crWires = b.crWires ∧ ((b.free w).2).fcWires = b.fcWires ∧
    ((b.free w).2).nis = b.nis ∧ ((b.free w).2).gates = b.gates ∧ ((b.free w).2).fords = b.fords ∧
    ((b.free w).2).links = b.links ∧ ((b.free w).2).ports = b.ports ∧ ((b.free w).2).tbs = b.tbs ∧
    ((b.free w).2).timeX = b.timeX ∧ ((b.free w).2).time = b.time ∧ ((b.free w).2).ts = b.ts ∧ ((b.free w).2).doms = b.doms ∧
    ((b.free w).2).regions = b.regions ∧ ((b.free w).2).stws = b.stws ∧ ((b.free w).2).scopes = b.scopes ∧
    ((b.free w).2).wsh = b.wsh ∧ ((b.free w).2).rings = b.rings ∧ ((b.free w).2).vecs = b.vecs ∧ ((b.free w).2).lead = b.lead ∧
    ((b.free w).2).map = b.map ∧ ((b.free w).2).groups = b.groups ∧ ((b.free w).2).members = b.members ∧
    ((b.free w).2).agents = b.agents ∧ ((b.free w).2).aborts = b.aborts ∧ ((b.free w).2).hostOut = b.hostOut ∧
    ((b.free w).2).farOut = b.farOut := by
  simp [Block.free]
/-- The same of the readers. -/
@[simp] theorem Block.free_reads (w : Nat) (i : Nat) :
    ((b.free w).2).elem i = b.elem i ∧ ((b.free w).2).ni i = b.ni i ∧ ((b.free w).2).gate i = b.gate i ∧
    ((b.free w).2).link i = b.link i ∧ ((b.free w).2).port i = b.port i ∧ ((b.free w).2).tb i = b.tb i ∧
    ((b.free w).2).dom i = b.dom i ∧ ((b.free w).2).region i = b.region i ∧ ((b.free w).2).stw i = b.stw i ∧
    ((b.free w).2).ring i = b.ring i ∧ ((b.free w).2).vec i = b.vec i := by
  simp [Block.elem, Block.ni, Block.gate, Block.link, Block.port, Block.tb, Block.dom, Block.region, Block.stw, Block.ring, Block.vec]
/-- The same of the scopes. -/
@[simp] theorem Block.free_scope (w : Nat) (i j : Nat) : ((b.free w).2).scope i j = b.scope i j := by
  simp [Block.scope]

/-- Time passing touches the clock, the time bases, the shapers and the wait counters. -/
@[simp] theorem Block.elapse_frame (n : Nat) :
    (b.elapse n).pkgid = b.pkgid ∧ (b.elapse n).strapOk = b.strapOk ∧ (b.elapse n).fatal = b.fatal ∧
    (b.elapse n).refclk = b.refclk ∧ (b.elapse n).fuseSerial = b.fuseSerial ∧ (b.elapse n).fuseKey = b.fuseKey ∧
    (b.elapse n).fuseMinSec = b.fuseMinSec ∧ (b.elapse n).colTrained = b.colTrained ∧ (b.elapse n).ridgeless = b.ridgeless ∧
    (b.elapse n).i3cWord = b.i3cWord ∧ (b.elapse n).tapIr = b.tapIr ∧ (b.elapse n).errValue = b.errValue ∧
    (b.elapse n).errValid = b.errValid ∧ (b.elapse n).errCause = b.errCause ∧ (b.elapse n).errCount = b.errCount ∧
    (b.elapse n).errOffset = b.errOffset ∧ (b.elapse n).freeCtr = b.freeCtr ∧ (b.elapse n).wires = b.wires ∧
    (b.elapse n).crWires = b.crWires ∧ (b.elapse n).fcWires = b.fcWires ∧ (b.elapse n).nis = b.nis ∧
    (b.elapse n).fords = b.fords ∧ (b.elapse n).links = b.links ∧ (b.elapse n).ports = b.ports ∧ (b.elapse n).timeX = b.timeX ∧
    (b.elapse n).time = b.time ∧ (b.elapse n).ts = b.ts ∧ (b.elapse n).doms = b.doms ∧ (b.elapse n).regions = b.regions ∧
    (b.elapse n).stws = b.stws ∧ (b.elapse n).scopes = b.scopes ∧ (b.elapse n).wsh = b.wsh ∧ (b.elapse n).rings = b.rings ∧
    (b.elapse n).vecs = b.vecs ∧ (b.elapse n).lead = b.lead ∧ (b.elapse n).map = b.map ∧ (b.elapse n).groups = b.groups ∧
    (b.elapse n).members = b.members ∧ (b.elapse n).agents = b.agents ∧ (b.elapse n).aborts = b.aborts ∧
    (b.elapse n).hostOut = b.hostOut ∧ (b.elapse n).farOut = b.farOut := by
  unfold Block.elapse
  split <;> simp
/-- The same of the readers. -/
@[simp] theorem Block.elapse_reads (n : Nat) (i : Nat) :
    (b.elapse n).ni i = b.ni i ∧ (b.elapse n).link i = b.link i ∧ (b.elapse n).port i = b.port i ∧
    (b.elapse n).dom i = b.dom i ∧ (b.elapse n).region i = b.region i ∧ (b.elapse n).stw i = b.stw i ∧
    (b.elapse n).ring i = b.ring i ∧ (b.elapse n).vec i = b.vec i := by
  simp [Block.ni, Block.link, Block.port, Block.dom, Block.region, Block.stw, Block.ring, Block.vec]
/-- The same of the scopes. -/
@[simp] theorem Block.elapse_scope (n : Nat) (i j : Nat) : (b.elapse n).scope i j = b.scope i j := by
  simp [Block.scope]

/-- As `elapse`. -/
@[simp] theorem Block.elapseTo_frame (t : Nat) :
    (b.elapseTo t).pkgid = b.pkgid ∧ (b.elapseTo t).strapOk = b.strapOk ∧ (b.elapseTo t).fatal = b.fatal ∧
    (b.elapseTo t).refclk = b.refclk ∧ (b.elapseTo t).fuseSerial = b.fuseSerial ∧ (b.elapseTo t).fuseKey = b.fuseKey ∧
    (b.elapseTo t).fuseMinSec = b.fuseMinSec ∧ (b.elapseTo t).colTrained = b.colTrained ∧
    (b.elapseTo t).ridgeless = b.ridgeless ∧ (b.elapseTo t).i3cWord = b.i3cWord ∧ (b.elapseTo t).tapIr = b.tapIr ∧
    (b.elapseTo t).errValue = b.errValue ∧ (b.elapseTo t).errValid = b.errValid ∧ (b.elapseTo t).errCause = b.errCause ∧
    (b.elapseTo t).errCount = b.errCount ∧ (b.elapseTo t).errOffset = b.errOffset ∧ (b.elapseTo t).freeCtr = b.freeCtr ∧
    (b.elapseTo t).wires = b.wires ∧ (b.elapseTo t).crWires = b.crWires ∧ (b.elapseTo t).fcWires = b.fcWires ∧
    (b.elapseTo t).nis = b.nis ∧ (b.elapseTo t).fords = b.fords ∧ (b.elapseTo t).links = b.links ∧
    (b.elapseTo t).ports = b.ports ∧ (b.elapseTo t).timeX = b.timeX ∧ (b.elapseTo t).time = b.time ∧ (b.elapseTo t).ts = b.ts ∧
    (b.elapseTo t).doms = b.doms ∧ (b.elapseTo t).regions = b.regions ∧ (b.elapseTo t).stws = b.stws ∧
    (b.elapseTo t).scopes = b.scopes ∧ (b.elapseTo t).wsh = b.wsh ∧ (b.elapseTo t).rings = b.rings ∧
    (b.elapseTo t).vecs = b.vecs ∧ (b.elapseTo t).lead = b.lead ∧ (b.elapseTo t).map = b.map ∧
    (b.elapseTo t).groups = b.groups ∧ (b.elapseTo t).members = b.members ∧ (b.elapseTo t).agents = b.agents ∧
    (b.elapseTo t).aborts = b.aborts ∧ (b.elapseTo t).hostOut = b.hostOut ∧ (b.elapseTo t).farOut = b.farOut := by
  unfold Block.elapseTo
  split <;> simp
/-- The same of the readers. -/
@[simp] theorem Block.elapseTo_reads (t : Nat) (i : Nat) :
    (b.elapseTo t).ni i = b.ni i ∧ (b.elapseTo t).link i = b.link i ∧ (b.elapseTo t).port i = b.port i ∧
    (b.elapseTo t).dom i = b.dom i ∧ (b.elapseTo t).region i = b.region i ∧ (b.elapseTo t).stw i = b.stw i ∧
    (b.elapseTo t).ring i = b.ring i ∧ (b.elapseTo t).vec i = b.vec i := by
  simp [Block.ni, Block.link, Block.port, Block.dom, Block.region, Block.stw, Block.ring, Block.vec]
/-- The same of the scopes. -/
@[simp] theorem Block.elapseTo_scope (t : Nat) (i j : Nat) : (b.elapseTo t).scope i j = b.scope i j := by
  simp [Block.scope]

/-- As `elapse`. -/
@[simp] theorem Block.elapseFt_frame (d x : Nat) :
    (b.elapseFt d x).pkgid = b.pkgid ∧ (b.elapseFt d x).strapOk = b.strapOk ∧ (b.elapseFt d x).fatal = b.fatal ∧
    (b.elapseFt d x).refclk = b.refclk ∧ (b.elapseFt d x).fuseSerial = b.fuseSerial ∧ (b.elapseFt d x).fuseKey = b.fuseKey ∧
    (b.elapseFt d x).fuseMinSec = b.fuseMinSec ∧ (b.elapseFt d x).colTrained = b.colTrained ∧
    (b.elapseFt d x).ridgeless = b.ridgeless ∧ (b.elapseFt d x).i3cWord = b.i3cWord ∧ (b.elapseFt d x).tapIr = b.tapIr ∧
    (b.elapseFt d x).errValue = b.errValue ∧ (b.elapseFt d x).errValid = b.errValid ∧ (b.elapseFt d x).errCause = b.errCause ∧
    (b.elapseFt d x).errCount = b.errCount ∧ (b.elapseFt d x).errOffset = b.errOffset ∧ (b.elapseFt d x).freeCtr = b.freeCtr ∧
    (b.elapseFt d x).wires = b.wires ∧ (b.elapseFt d x).crWires = b.crWires ∧ (b.elapseFt d x).fcWires = b.fcWires ∧
    (b.elapseFt d x).nis = b.nis ∧ (b.elapseFt d x).fords = b.fords ∧ (b.elapseFt d x).links = b.links ∧
    (b.elapseFt d x).ports = b.ports ∧ (b.elapseFt d x).timeX = b.timeX ∧ (b.elapseFt d x).time = b.time ∧
    (b.elapseFt d x).ts = b.ts ∧ (b.elapseFt d x).doms = b.doms ∧ (b.elapseFt d x).regions = b.regions ∧
    (b.elapseFt d x).stws = b.stws ∧ (b.elapseFt d x).scopes = b.scopes ∧ (b.elapseFt d x).wsh = b.wsh ∧
    (b.elapseFt d x).rings = b.rings ∧ (b.elapseFt d x).vecs = b.vecs ∧ (b.elapseFt d x).lead = b.lead ∧
    (b.elapseFt d x).map = b.map ∧ (b.elapseFt d x).groups = b.groups ∧ (b.elapseFt d x).members = b.members ∧
    (b.elapseFt d x).agents = b.agents ∧ (b.elapseFt d x).aborts = b.aborts ∧ (b.elapseFt d x).hostOut = b.hostOut ∧
    (b.elapseFt d x).farOut = b.farOut := by
  unfold Block.elapseFt
  dsimp only
  split <;> simp
/-- The same of the readers. -/
@[simp] theorem Block.elapseFt_reads (d x : Nat) (i : Nat) :
    (b.elapseFt d x).ni i = b.ni i ∧ (b.elapseFt d x).link i = b.link i ∧ (b.elapseFt d x).port i = b.port i ∧
    (b.elapseFt d x).dom i = b.dom i ∧ (b.elapseFt d x).region i = b.region i ∧ (b.elapseFt d x).stw i = b.stw i ∧
    (b.elapseFt d x).ring i = b.ring i ∧ (b.elapseFt d x).vec i = b.vec i := by
  simp [Block.ni, Block.link, Block.port, Block.dom, Block.region, Block.stw, Block.ring, Block.vec]
/-- The same of the scopes. -/
@[simp] theorem Block.elapseFt_scope (d x : Nat) (i j : Nat) : (b.elapseFt d x).scope i j = b.scope i j := by
  simp [Block.scope]

/-- Time runs only forward. -/
theorem Block.elapse_now (n : Nat) (hr : b.refclk = true) : (b.elapse n).now = b.now + n := by
  unfold Block.elapse
  by_cases h : n = 0 <;> simp [h, hr]

/-- Time has reached the moment named. -/
theorem Block.elapseTo_now (t : Nat) (hr : b.refclk = true) : (b.elapseTo t).now = max b.now t := by
  unfold Block.elapseTo
  split
  · rw [Block.elapse_now _ _ hr]; omega
  · omega

/-- Handing out credits one tier at a time, at most what a tier still lacks of 32 each, gives no tier more than 32 (06 R174). -/
theorem credits_fold_le (want : Nat → Nat → Nat → Nat) (h : ∀ t c left, want t c left ≤ 32 - c) (ts : List Nat) :
    ∀ x : SMap Nat × Nat, (∀ t, x.1.get 0 t ≤ 32) →
      ∀ t, (ts.foldl (fun x t => (x.1.set t (x.1.get 0 t + want t (x.1.get 0 t) x.2), x.2 - want t (x.1.get 0 t) x.2)) x).1.get 0 t ≤ 32 := by
  induction ts with
  | nil => exact fun x hx t => hx t
  | cons t' ts ih =>
    refine fun x hx => ih _ (fun t => ?_)
    have h1 := h t' (x.1.get 0 t') x.2
    have h2 := hx t'
    simp only [SMap.get_set]
    split
    · omega
    · exact hx t

/-- No tier is handed more than its 32 first credits (06 R174). -/
theorem shareCredits_le (m : SMap Nat) (draws : List Nat) (add : Nat) (h : ∀ t, m.get 0 t ≤ 32) (t : Nat) :
    (shareCredits m draws add).get 0 t ≤ 32 := by
  have h1 := credits_fold_le (fun t c left => draws.getD t 0 % (min (32 - c) left + 1))
    (fun t c left => by have := Nat.mod_lt (draws.getD t 0) (show 0 < min (32 - c) left + 1 by omega); omega) (List.range 4) (m, add) h
  exact credits_fold_le (fun _ c left => min (32 - c) left) (fun _ _ _ => Nat.min_le_left ..) (List.range 4) _ h1 t

end Sys2Proof.Machine
end

