-- ==== Sys2Proof/Laws/Step.lean ====
section
/-! SUPPORT. What a step can do, said once: a meaning acts on the block alone, and a command with operands that name something
completes. -/

namespace Sys2Proof.Machine

variable {s : State} {i : Instr} {f : Block → Block} {P : Block → Prop}

/-- A meaning on well-formed operands. -/
theorem State.on_wf (h : i.WellFormed = true) : s.on i f = .next { s with blk := f s.blk } := by
  simp [State.on, h]

/-- A meaning on operands that name nothing: no effect. -/
theorem State.on_bad (h : i.WellFormed = false) : s.on i f = .next s := by
  simp [State.on, h]

/-- A meaning has changed the block alone: by its effect, or, on operands that name nothing, not at all. -/
theorem State.on_next {t : State} (h : s.on i f = .next t) :
    t.pending = s.pending ∧ t.blk = if i.WellFormed then f s.blk else s.blk := by
  cases h
  exact ⟨rfl, rfl⟩

/-- A command completes where its effect satisfies the claim. -/
theorem completes_of_on (hw : i.WellFormed = true) (he : exec i s = s.on i f) (hP : P (f s.blk)) : Completes i s P :=
  ⟨{ s with blk := f s.blk }, by rw [he, State.on_wf hw], rfl, hP⟩

end Sys2Proof.Machine
end

