-- ==== Sys2Proof/Laws/Registers.lean ====
section
/-! SUPPORT. The map of the window: which register stands at an offset, and what a write of it in its own width does. -/

namespace Sys2Proof.Machine

variable {n : Nat}

theorem regAt_vecAddr (h : n < 16) : regAt (0x100 + 16 * n) = some (0x100 + 16 * n, 8, .vecAddr n) := by
  simp (disch := omega) only [regAt, Bool.and_eq_true, decide_eq_true_eq, if_neg, if_pos]
  simp only [show (0x100 + 16 * n - 0x100) / 16 = n by omega]

theorem regAt_vecData (h : n < 16) : regAt (0x108 + 16 * n) = some (0x108 + 16 * n, 4, .vecData n) := by
  simp (disch := omega) only [regAt, Bool.and_eq_true, decide_eq_true_eq, if_neg, if_pos]
  simp only [show (0x108 + 16 * n - 0x100) / 16 = n by omega]
  simp only [Option.some.injEq, Prod.mk.injEq, and_true]
  omega

theorem regAt_vecCtrl (h : n < 16) : regAt (0x10C + 16 * n) = some (0x10C + 16 * n, 4, .vecCtrl n) := by
  simp (disch := omega) only [regAt, Bool.and_eq_true, decide_eq_true_eq, if_neg, if_pos]
  simp only [show (0x10C + 16 * n - 0x100) / 16 = n by omega]
  simp only [Option.some.injEq, Prod.mk.injEq, and_true]
  omega

/-- A per-ring register: its word within the 64 bytes of ring `n`. -/
theorem regAt_ring (h : n < 23) {r : Nat} (hr : r < 64) : regAt (0x400 + 64 * n + r) =
    if r < 4 then some (0x400 + 64 * n, 4, .ringCtrl n)
    else if r < 8 then (if 8 ≤ n then some (0x400 + 64 * n + 4, 4, .stale n) else none)
    else if r < 16 then some (0x400 + 64 * n + 8, 8, .base n)
    else if r < 24 then some (0x400 + 64 * n + 16, 8, .pc n)
    else if r < 32 then (if 16 ≤ n then some (0x400 + 64 * n + 24, 8, .rm n) else none)
    else if r < 36 then (if 8 ≤ n then some (0x400 + 64 * n + 32, 4, .lost n) else none)
    else if r < 40 then (if n < 8 then some (0x400 + 64 * n + 36, 4, .permit n) else none)
    else if r < 44 then some (0x400 + 64 * n + 40, 4, .db n)
    else none := by
  simp only [regAt, Bool.and_eq_true, decide_eq_true_eq]
  rw [if_neg (by omega), if_neg (by omega), if_neg (by omega), if_pos (by omega)]
  simp only [show (0x400 + 64 * n + r - 0x400) / 64 = n by omega, show (0x400 + 64 * n + r) % 64 = r by omega]

theorem regAt_sticky (h : n < 104) : regAt (0x2000 + 8 * n) = some (0x2000 + 8 * n, 8, .sticky n) := by
  simp (disch := omega) only [regAt, Bool.and_eq_true, decide_eq_true_eq, if_neg, if_pos]
  simp only [show (0x2000 + 8 * n - 0x2000) / 8 = n by omega, show (0x2000 + 8 * n) / 8 * 8 = 0x2000 + 8 * n by omega]

theorem regAt_force (h : n < 104) : regAt (0x2400 + 8 * n) = some (0x2400 + 8 * n, 8, .force n) := by
  simp (disch := omega) only [regAt, Bool.and_eq_true, decide_eq_true_eq, if_neg, if_pos]
  simp only [show (0x2400 + 8 * n - 0x2400) / 8 = n by omega, show (0x2400 + 8 * n) / 8 * 8 = 0x2400 + 8 * n by omega]

theorem regAt_filter (h : n < 8) : regAt (0x3000 + 16 * n) = some (0x3000 + 16 * n, 4, .filter n) := by
  simp (disch := omega) only [regAt, Bool.and_eq_true, decide_eq_true_eq, if_neg, if_pos]
  simp only [show (0x3000 + 16 * n - 0x3000) / 16 = n by omega]

/-- A write that the register takes. -/
theorem Block.fcbWrite_ok {b b' : Block} {o w : Nat} {v : BitVec 64} {r : Reg} (hr : regAt o = some (o, w, r))
    (he : ¬ (0x20 ≤ o ∧ o < 0x30)) (hw : b.regWrite r v = .ok b') : b.fcbWrite o w v = b' := by
  unfold Block.fcbWrite
  simp only [Bool.and_eq_true, decide_eq_true_eq]
  rw [if_neg he]
  simp [hr, hw]

/-- A write that the register refuses. -/
theorem Block.fcbWrite_error {b : Block} {o w c : Nat} {v : BitVec 64} {r : Reg} (hr : regAt o = some (o, w, r))
    (he : ¬ (0x20 ≤ o ∧ o < 0x30)) (hw : b.regWrite r v = .error c) : b.fcbWrite o w v = b.outOfRange o c v := by
  unfold Block.fcbWrite
  simp only [Bool.and_eq_true, decide_eq_true_eq]
  rw [if_neg he]
  simp [hr, hw]

/-- A test that does not hold lets the write through. -/
@[simp] theorem guardW_false {c : Nat} {w : Wrote} : guardW false c w = w := rfl
/-- A test that holds refuses the write. -/
@[simp] theorem guardW_true {c : Nat} {w : Wrote} : guardW true c w = .error c := rfl

/-! ### The low bytes of a value -/

@[simp] theorem lowBytes_eight (v : BitVec 64) : lowBytes 8 v = v := rfl

/-- A value that fits is taken whole. -/
theorem lowBytes_of_lt {w : Nat} {v : BitVec 64} (h : v.toNat < 256 ^ w) : lowBytes w v = v := by
  unfold lowBytes
  split
  · rfl
  · rw [Nat.mod_eq_of_lt h, BitVec.ofNat_toNat, BitVec.setWidth_eq]

/-- The 32 low bits of a value are those of its four low bytes. -/
@[simp] theorem lowBytes_four_setWidth (v : BitVec 64) : (lowBytes 4 v).setWidth 32 = v.setWidth 32 := by
  apply BitVec.eq_of_toNat_eq
  simp [lowBytes]

end Sys2Proof.Machine
end

