-- ==== Sys2Proof/Tests/Slice0.lean ====
section
/-! SUPPORT. Tests of this model: worked examples of the spec, commands that are ill-formed, and for every statement with hypotheses a
state and operands that meet them, clause by clause. -/

namespace Sys2Proof.Tests
open Sys2Proof.Machine
set_option Elab.async false

/-! ### Small states -/

/-- A package that has read its straps: package 2. -/
def base : Block :=
  { now := 3200000, pkgid := 2, strapOk := true, members := [(2, { serial := 0, prio := 8, reach := true })],
    lead := { facts0 := { pkg := 2 }, facts1 := { pkg := 2 } } }
def on (f : Block → Block) : State := ⟨f base, []⟩
def onLead (f : Lead → Lead) : State := on fun b => b.modLead f
/-- An enabled record ring. -/
def rr : Machine.Ring := { en := true, log2 := 4, prod := 5, cons := 3 }
def cm : Commit :=
  { why := 0, epoch := true, waitAck := [], waitRcv := [], point := none, waitDrain := [], discarded := 0, scope := none, profile := 1 }
def pk (cls opc len tier : Nat) : UnitPkt :=
  { cls := cls, opc := opc, len := len, tier := tier, ord := false, poison := false, dsel := true, dest := niNode 2 132, addr := 64,
    tag := 3, uid := 5, pays := List.replicate (len + 1) (6 * 2 ^ 504), hparErr := false, dparErr := false, bufErr := false }
def lk : Lock := ⟨false, 64, niNode 2 132, 4, 100⟩
def rq : BitVec 128 := unitHdr 2 131 (pk 0 0 0 3) 7
def rp : RPkt := { hdr := rq, pays := [5], whole := true, seq := 1 }
def pg : Prog :=
  { pkt := { hdr := rq, pays := [5, 6], resolved := true }, hdr := unitHdr 2 131 (pk 0 8 1 3) 7, sent := 1, tier := none,
    wasPre := false, ports := [0], vc := 3, copy := 0 }

def hd : BitVec 128 := mkHdr (niNode 2 132) (niNode 2 131) REQ 0 3 0 64 1 false false
def fl : Flit := { hdr := hd, pay := 9 }
def fm : Flit := { hdr := mkHdr (niNode 2 131) 5 MGT 6 1017 0 0 2 false false, pay := 0 }
def tg : Tag := { uid := 9, since := some 3, hdr := rq }
def ab (opc : Nat) : AbortPkt := { hdr := mkHdr (niNode 2 131) 5 RSP opc 7 0 0 3 false false, pay := 0 }
def lq : Lookup := ⟨77, false, 5, 0⟩
def fr (ty : FType) (seq ack : Nat) (slots : List (Nat × Nat × Flit)) : Frame := ⟨ty, seq, ack, slots, [], false, 0, 0⟩
def onLink (a : Nat) (f : Link → Link) : State := on fun b => b.modLink a f
/-- A state with a flit on the wire into a port. -/
def wire (e p vc : Nat) (f : Flit) (g : Block → Block) : State := on fun b => { g b with wires := [(wkey e p, [(vc, f)])] }

/-- A word folded onto its low half. -/
def fold (k a : Nat) : Nat := a ^^^ a >>> k

theorem fold_xor (k a b : Nat) : fold k (a ^^^ b) = fold k a ^^^ fold k b := by
  simp only [fold, Nat.shiftRight_xor_distrib]
  ac_rfl

/-- The parity of the low 32 bits. -/
def parity (r : Nat) : Bool := (fold 1 (fold 2 (fold 4 (fold 8 (fold 16 r))))).testBit 0

theorem parity_xor (a b : Nat) : parity (a ^^^ b) = (parity a ^^ parity b) := by
  simp only [parity, fold_xor, Nat.testBit_xor]

theorem parity_powers : (powers 672 1).all parity = true := by decide +kernel

theorem powers_length : (powers 672 1).length = 672 := by decide +kernel

theorem decodeErr_none (e : BitVec 672) (s : Nat) (h0 : ¬ e = 0) (hs : residue e.toNat 672 0 = s) (hz : ¬ s = 0)
    (h1 : (powers 672 1).findIdx? (· == s) = none)
    (h2 : (List.range 672).find? (fun i => (powers 672 1).contains (s ^^^ (powers 672 1).getD i 0)) = none) :
    decodeErr e = none := by
  unfold decodeErr
  simp only [hs, h1, h2, if_neg h0, if_neg hz]

theorem odd_not_two (ps : List Nat) (s : Nat) (n : Nat) (hn : ps.length = n)
    (hp : ps.all parity = true) (hs : parity s = true) :
    (List.range n).find? (fun i => ps.contains (s ^^^ ps.getD i 0)) = none := by
  have hp : ∀ p ∈ ps, parity p = true := List.all_eq_true.1 hp
  rw [List.find?_eq_none]
  intro i hi hc
  have hm : ps.getD i 0 ∈ ps := by
    rw [List.getD_eq_getElem _ _ (by rw [hn]; exact List.mem_range.1 hi)]
    exact List.getElem_mem _
  have := hp _ (List.contains_iff_mem.1 hc)
  rw [parity_xor, hp _ hm, hs] at this
  exact absurd this (by decide)

/-- Three errors are uncorrectable: the generator is a multiple of x + 1, so that an odd residue is no sum of two powers of x
(02 R76, R77). -/
theorem test_three_errors_uncorrectable : decodeErr 7 = none := by
  refine decodeErr_none 7 7 ?_ ?_ ?_ ?_ (odd_not_two _ _ _ powers_length parity_powers ?_)
  · decide +kernel
  · decide +kernel
  · decide
  · decide +kernel
  · decide +kernel

def pa : Param := { version := 1, kind := 1, side := 2, die := 11, link := 11, pkg := 2, vcs := 14, rxok := true, tsrc := false, ridgeless := false, design := 0, leader := false, members := 0, leaderPkg := 0, serial := 0 }
def onTx (a : Nat) (st : LinkSt) (x : TimeX) : State :=
  on fun b => ((sides a).foldl (fun (b : Block) y => b.modLink y (fun l => { l with st := st })) b).modTx a (fun _ => x)
def onTime (f : TimeSys → TimeSys) : State := on fun b => b.modTime f
def onPort (k : Nat) (f : Pass → Pass) : State := on fun b => b.modPort k f
/-- A Pass port whose link runs. -/
def onRun (k : Nat) (f : Pass → Pass) : State := on fun b => (b.modPort k f).modLink (passAdp k) (fun l => { l with st := .active })
/-- A port that reads its far membership table. -/
def onJoin (k : Nat) (f : Pass → Pass) : State :=
  on fun b => ((b.modPort k (fun p => f { p with st := 1, step := 6 })).modLink (passAdp k) (fun l => { l with st := .active })).modLead
    (fun l => { l with bootRom := false })

def onDom (d : Nat) (f : Dom → Dom) : State := on fun b => b.modDom d f
def onScope (ty id : Nat) (f : Scope → Scope) : State :=
  on fun b => (b.modScope ty id f).modLead (fun l => { l with bootRom := false })
def onWsh (f : Wsh → Wsh) : State := on fun b => b.modWsh f
def msg (sev ty id : Nat) : Msg := { src := 9, kind := 5, sev := sev, scTy := ty, scId := id, time := 77 }
def fly (opc : Nat) : Flight := { ring := 2, index := 3, opc := opc, tag := 4, notify := true, scTy := 0, scId := 0 }
def onElem (o : Nat) (f : Elem → Elem) : State := on fun b => { b.modElem o f with now := scrubPass }

/-- The 64 bytes of a descriptor from its opcode, scope type, byte 9, SCOPE_ID and arguments (offset, length, value). -/
def desc (op ty b9 id : Nat) (args : List (Nat × Nat × Nat)) : List Byte :=
  ([(0, 1, op), (1, 1, 160), (2, 2, 0xABCD), (8, 1, ty), (9, 1, b9), (10, 2, id)] ++ args).foldl
    (fun (l : List Byte) (a : Nat × Nat × Nat) => l.take a.1 ++ leBytes a.2.2 a.2.1 ++ l.drop (a.1 + a.2.1)) (List.replicate 64 0)
def mkc (op ty b9 id : Nat) (args : List (Nat × Nat × Nat)) (buf : Option (List Byte) := none) : Cmd :=
  { ring := 3, desc := desc op ty b9 id args, buf := buf, bufOk := true }
/-- A state in which command ring 3 holds a descriptor. -/
def onR (f : Block → Block) : State :=
  on fun b => f { b.modLead (fun l => { l with who := some 0, bootRom := false }) with
    rings := [(3, { en := true, log2 := 4, prod := 1 }), (11, { en := true, log2 := 4 })] }
def im : FwImage :=
  { magic := 0x594C4831, format := 1, segments := 1, segtab := [(0, 1024, 1, 0, true)], size := 4096, keyHash := 0, sigOk := true,
    secver := 0, build := 77 }
theorem base_legal : base.RegsLegal :=
  ⟨by decide, by decide, by decide, by decide, by decide, by decide, by decide, fun _ => ⟨(by decide : (0x190A1400#32).toNat % 1024 = 0),
      (by decide : filterOk (0x190A1400#32).toNat = true)⟩,
    fun _ => rfl,
    fun _ => ⟨rfl, .inr ⟨(by decide : 10 ≤ 1000), (by decide : 1000 ≤ 1000000)⟩, (by decide : 0 < 2 ^ 32), (by decide : 0 < 16),
      (by decide : 0 < 16), (by decide : 0 < 256)⟩⟩

/-- A unit that has spent its Urgent credits. -/
def spent : State := on fun b => b.modNi 131 (fun x => { x with txTaken := [(3, 32)] })

theorem base_ordered : base.RingsOrdered :=
  ⟨fun _ _ => ⟨.inl rfl, fun h => Bool.noConfusion (h : false = true)⟩, fun _ h => (nomatch h), fun _ _ => ⟨rfl, fun _ => rfl⟩⟩

/-- The block after a command. -/
def after (i : Instr) (s : State) : Block := match exec i s with | .next t => t.blk | _ => s.blk

/-- A block whose lead is steward 0 of the I/O die. -/
def onLead0 (f : Block → Block) : State := on fun b => f (b.modLead (fun l => { l with who := some 0 }))

/-! ### Worked examples of the spec -/

/-- The header of the write-back of 02: every field of the 128 bits is what the text says. -/
theorem test_header_example :
    let h : BitVec 128 := 0x2C232424042B41E26200001A517E3A80
    hDest h = 0x2C23 ∧ hSrc h = 0x2424 ∧ hCls h = 0 ∧ hOpc h = 8 ∧ hTag h = 0x15A ∧ hLen h = 0 ∧ hAge h = 0x789 ∧ hEpoch h = true ∧
    hPart h = 0 ∧ hCairn h = true ∧ hEsc h = 0 ∧ hAddr h = 0x0D28BF1D ∧ hTier h = 1 ∧ hOrd h = false ∧ hPoison h = false := by
  decide

/-- 3.12.77.1 and 2.4.18.0 of 00 and 01: package, die, router, port. -/
theorem test_node_example :
    nodePkg 0x2424 = 2 ∧ nodeDie 0x2424 = 4 ∧ nodeR 0x2424 = 18 ∧ nodeL 0x2424 = 0 ∧
    nodePkg 0x3C9B = 3 ∧ nodeDie 0x3C9B = 12 ∧ nodeR 0x3C9B = 77 ∧ nodeL 0x3C9B = 1 := by decide

/-- Granule 13 of 1 GiB granules, slot 15 by hash 2, and the home that 0x246 names (06). -/
theorem test_map_example :
    granuleOf 0 0x0D28BF1D = 13 ∧ mapHash 2 0x0D28BF1D % 32 = 15 ∧ slotNode 0x246 = some 0x2C23 := by decide +kernel

/-- The late start of 05: accepted at B + 1,000,000, the switch comes at B + 1,024,000. -/
theorem test_switch_example : switchAt 0x100000F4240 0x10000000000 32000 = 0x100000FA000 := by decide

/-- The exchange of 07: theta 40, d 368, f -130,240, k -171,200. -/
theorem test_pass_exchange_example :
    let b := after (.passTimeReply 9 1000000328 1000000528) (on fun b => (b.modTime (fun t =>
      { t with
        parent := some 2, leader := false, locked := true, fresh := false, ds := [(2, [some 368])], f := -120000, exch := some ⟨9, 1000000000, 0⟩ })).modTb 12 (fun t => { t with ft := 1000000936 }))
    b.time.theta = 40 ∧ b.time.d = 368 ∧ b.time.f = -130240 ∧ (b.tb 12).kNext.map Prod.snd = some (-171200) := by decide +kernel

/-- A Tollgate's rate in 14's example falls from 1,000 to 875, 766 and 671. -/
theorem test_rate_falls :
    ([1000, 875, 766].map fun r =>
      ((after (.starveRebalance 0 (niNode 2 0)) (on fun b => ((b.modLead (fun l => { l with bootRom := false })).modStw (b.server 0) (fun x => { x with image := true })).modGate 183
        (fun g => { g with rate := [(1, r)], conf := [(1, 1000)] }))).gate 183).rateOf 1) = [875, 766, 671] := by decide +kernel

/-- It rises again from 671 to 796, 921 and 1,000. -/
theorem test_rate_rises :
    ([671, 796, 921].map fun r =>
      ((after (.rateRecovery 0) (on fun b => (b.modRegion 0 (fun x => { x with lastStarve := some 0 })).modGate 183
        (fun g => { g with rate := [(1, r)], conf := [(1, 1000)] }))).gate 183).rateOf 1) = [796, 921, 1000] := by decide +kernel

/-- What the driver of 15 reads of EVT1 after the overflow. -/
theorem test_ring_read_example :
    let b := base.modRing 17 (fun r => { r with
      en := true, markLost := true, sevmask := 15, vector := 1, coalesce := 3, log2 := 4, prod := 0x1000E, cons := 0xE, rel := 0xE, mark := 0xA, lost := 4 })
    b.regVal (.ringCtrl 17) = 0xAF103004 ∧ b.regVal (.pc 17) = 0x0001000E0000000E ∧ b.regVal (.rm 17) = 0x0000000E0000000A ∧
    b.regVal (.lost 17) = 4 := by decide

/-- The full ring of that example: one record more overwrites the oldest and passes the mark. -/
theorem test_ring_overflow_example :
    let r := (after .eventRecordWrite (onLead0 fun b => (b.modWsh (fun w => { w with held := [msg 0 0 0] })).modRing 17 (fun r =>
      { r with en := true, sevmask := 15, log2 := 4, prod := 0x1000A, cons := 0xA, rel := 0xA, mark := 0xA, markValid := true }))).ring 17
    r.prod = 0x1000B ∧ r.cons = 0xB ∧ r.rel = 0xB ∧ r.lost = 1 ∧ r.markValid = false ∧ r.markLost = true := by decide +kernel

/-- Its REWIND, with no valid mark, is ignored and recorded with cause 7. -/
theorem test_rewind_example :
    let b := after (.rewind 17 0) (on fun b => b.modRing 17 (fun r => { r with
      en := true, log2 := 4, cons := 0xE, rel := 0xE, mark := 0xA, prod := 0x1000E }))
    b.errValid = true ∧ b.errCause = 7 ∧ b.errOffset = 0x868 ∧ b.errValue = 0x80000000 ∧ (b.ring 17).cons = 0xE := by decide


/-! ### Ill-formed commands -/

/-- Commands of which every operand check of the start, the stewards, the Fords and the NIs refuses one. -/
theorem test_illformed_interfaces :
    ([.strapSampling [0], .strapSampling [0, 0, 0, 0, 0, 0, 0, 16], .bootSelftestDone 0 true, .ridgeIdentityTimeout 384, .clockUnlock 13,
      .timeBaseError 13, .unitPacket 0 (pk 0 0 0 3), .unitPacket 131 { pk 0 0 0 3 with pays := [] },
      .unitPacket 131 { pk 0 0 0 3 with cls := 8 }, .unitPacket 131 { pk 0 0 0 3 with opc := 64 },
      .unitPacket 131 { pk 0 0 0 3 with len := 8 }, .unitPacket 131 { pk 0 0 0 3 with tier := 4 }, .unitReceiveCredit 131 5,
      .unitReceiveCredit 0 0, .unitDelivery 0, .fordReset ⟨(.unitPort 0), false⟩, .fordResetAck ⟨(.adapterDie 0), true⟩,
      .fordResetDone ⟨(.adapterLink 0), false⟩,
      .fordStall (.passPort 8), .fordUnstable (.steward 0), .fordClockReturn (.alwaysOn 13), .fordReset ⟨(.telemetry 13), true⟩, .tollgateStart 0,
      .niPacketArrival 0 0 0, .niPacketArrival 131 7 0, .answerReceive 131 7 0, .mapFillReceipt 131 7 0] : List Instr).all
      (fun i => !i.WellFormed) = true := by decide +kernel

theorem test_illformed_timers :
    ([.tagOrphan 131 1024, .tagOrphan 0 0, .tagQuarantineEnd 131 1024, .lockSweep 0, .lockAmnesiaEnd 0, .mapLookupServe 32,
      .mapLookupTimeout 131 1024, .duplicateFilterRetire 0, .exitFilterRetire 8, .resetNotice 0 0 0, .fenceNotice 131 16 9 0,
      .fenceNotice 131 0 9 13, .epochCommit 0 false, .epochCommit 386 true, .epochCommitAck 0 false, .epochCommitAck 386 true,
      .drainQueryTick 32, .epochDrainReport 32, .mapBankCopyDone 32, .heartbeatSend 0, .heartbeatReceipt 0 0, .heartbeatMiss 0,
      .restartAnnounceExpiry 0, .imageBlockReceipt 0 true true, .mgtRequest 0xFFFF 0 1 0 0 true, .mgtRequest 0x2424 0 64 0 0 true,
      .starveRebalance 32 0, .rateRecovery 32, .vddFabOk 32, .profileRailWaitLimit 32, .gateSwitch 0, .switchInstantReceipt 0,
      .quietOverlayStart 0, .quietOverlayEnd 0, .cairnSlotRelease 32, .telemetryRecordWrite 13, .bandwidthWindowEnd 448, .queueSample 131,
      .counterWrap 0 64, .counterWrap 131 16] : List Instr).all (fun i => !i.WellFormed) = true := by decide +kernel

theorem test_illformed_links :
    ([.flitReceive 131 7 0 false, .flitReceive 0 7 0 false, .flitReceive 0 2 0 false, .arbitration 131, .creditReceive 0 7 false,
      .turnForecastReceive 448 0 false, .overdue 0 8 0 0, .overdue 0 0 21 0, .starve 131 0 0, .starve 0 6 0, .starve 0 0 21,
      .outputWatchdog 0 6, .linkWidthWindow 386 0, .linkWidthWindow 0 2, .linkWidenOnWait 0 7, .frameReceive 0 0 0 none 0,
      .frameReceive 386 0 1 none 0, .frameReceive 386 0 0 (some (fr .idle 0 0 [])) 0, .frameReceive 386 0 0 none 1, .frameReceive (passAdp 0) 0 0 none 0, .replayTimer 0, .linkRetrain 0, .linkFail 0, .phyTrainDone ⟨0, []⟩, .phyTrainDone ⟨(passAdp 0), [1]⟩,
      .phyTrainDone ⟨386, [34]⟩, .paramReceipt 0 none, .paramReceipt (passAdp 0) none, .creditInitReceipt 0 none 0, .creditInitReceipt (passAdp 0) none 0, .readyReceipt 0, .trainingLimit 0, .timeExchangeStart 6552, .timeReq 6552, .timeRsp 6552, .timeRes 6552,
      .timeExchangeRetry 6552, .timeApplyBoundary 13, .laneWindow 0, .wakeMessage 0, .wakeRepeat 0, .wakeTimeout 0,
      .quietWindowArm false 24, .quietWindowArm true 12, .linkQuiet 6552, .linkCalibrationDone 6552, .quietResume 6552] :
      List Instr).all (fun i => !i.WellFormed) = true := by decide +kernel

theorem test_illformed_pass_and_power :
    ([.alignReceipt 8 0 0 (List.replicate 18 0) (List.replicate 18 0) false false none, .alignReceipt 0 65536 0 (List.replicate 18 0)
        (List.replicate 18 0) false false none, .alignReceipt 0 0 65536 (List.replicate 18 0) (List.replicate 18 0) false false none,
      .alignReceipt 0 0 0 [] (List.replicate 18 0) false false none, .alignReceipt 0 0 0 (List.replicate 18 0) [] false false none,
      .alignReceipt 0 0 0 (List.replicate 18 0) (List.replicate 18 0) false false (some 18), .closeReceipt 8 1, .closeReceipt 0 0,
      .closeReceipt 0 4, .laneRotationStart 8, .shadowCompareDone 8 true, .passLaneCalibrationDone 8, .passLaneCalibrationLimit 8,
      .presenceChange 8 true, .buttonPress 8 (.up 20), .buttonStuck 8, .cableWake 8 .high, .cmisReadDone 8 true true 18, .cmisReadTimeout 8,
      .moduleReadyLimit 8, .join 8 0 [⟨3, 0, 8, []⟩], .join 0 0 [], .join 0 0 [⟨16, 0, 8, []⟩], .join 0 0 [⟨3, 0, 16, []⟩],
      .join 0 0 (List.replicate 17 ⟨3, 0, 8, []⟩), .abortWindowEnd 8, .steeringLimit 8, .cablePowerOff 8, .indicatorTimer 8,
      .passTimeRequest 8 0 0, .passTimeRequest 0 256 0, .passTimeReply 256 0 0, .memberTimeout 16, .domainIdleTimeout 272,
      .retentionCommit 272, .entryDrainLimit 272, .detectorArming 272, .domainWake 272 1 0, .domainWake 0 0 0, .domainWake 0 8 0,
      .wakeComplete 272 [], .wakeFail 272, .goldenReloadDone 272 0, .powerDownDrained 272, .powerDownTimeout 272] : List Instr).all
      (fun i => !i.WellFormed) = true := by decide +kernel

theorem test_illformed_faults_and_registers :
    ([.dieCollectorMessage 13 ⟨0, 0⟩, .sweepComplete 9 13 [], .sweepComplete 15 0 [], .wshPathLost 12, .scopeDrained 1 512,
      .scopeDrainTimeout 3 24, .scopeResetDone 4 12, .scopeTestDone 5 8 none, .scopeTestDone 5 7 (some (0, 0)),
      .scopeTestDone 5 7 (some (10, 0)), .scopeAdmissionStart 8 2, .tableScrub 0 2 0 false, .tableScrub 0 0 256 true,
      .tableScrub 131 1 0 false, .tableScrub 131 4 1024 false, .tableScrub (bankSrc 31) 5 66560 false, .tableWordReloaded 448 0 0,
      .mapBankRestored 23 true, .mapBankRestored 32 true, .ringStaleTimeout 7, .ringStaleTimeout 23, .hostPortError 23,
      .ringCtrlWrite 23 0, .wshStickyClear 104 0, .wshForceWrite 104 0, .vectorCtrlWrite 16 0, .passFilterWrite 8 0,
      .registerWrite 65536 8 0, .registerWrite 0 9 0, .post 23 0, .post 0 131072, .consumed 23 0, .consumed 8 131072, .read 23 0,
      .read 16 131072, .mark 23 0, .mark 16 131072, .rewind 23 0, .rewind 16 131072, .release 23 0, .release 16 131072, .clearLost 23 0,
      .clearLost 16 131072, .i3cWordSelect 256] : List Instr).all (fun i => !i.WellFormed) = true := by decide +kernel

/-- A descriptor on a ring that is none, and one of 63 bytes. -/
theorem test_illformed_commands :
    ([{ mkc 0 0 0 0 [] with ring := 8 }, { mkc 0 0 0 0 [] with desc := List.replicate 63 0 }] : List Cmd).all (fun c =>
      ([.nop c, .fence c, .query c, .profileSet c, .fwLoad c (some im), .mapWrite c, .mapCommit c, .routeWrite c, .routeCommit c,
        .partitionSet c, .regulatorSet c, .gateLoad c, .gateActivate c, .domainPower c, .idleTimerSet c, .domainReset c, .scopeFence c,
        .scopeReadmit c, .linkService c, .linkReturn c, .selftest c, .calibrate c, .lockBreak c, .faultForce c, .faultAck c, .traceArm c,
        .telemetryConfig c, .counterRead c, .timeSet c, .timeAdjust c] : List Instr).all (fun i => !i.WellFormed)) = true := by
  decide +kernel

/-! ### The hypotheses of the statements can be met -/

/-- The hypotheses of Obligations.RidgeLinksJoinNeighbours can be met, clause by clause. -/
theorem wit_RidgeLinksJoinNeighbours :
  (∃ k, k < 12) :=
  ⟨11, by decide +kernel⟩

/-- The hypotheses of Obligations.OutOfRangeWriteIsRecorded can be met, clause by clause. -/
theorem wit_OutOfRangeWriteIsRecorded :
  (∃ (o : Nat), ∃ (w : Nat), ∃ c, o < 65536 ∧ w ≤ 8 ∧ (¬ (0x20 ≤ o ∧ o < 0x30)) ∧ (regAt o = none ∧ c = 1 ∨ (∃ a n r, regAt o = some (a, n, r)
    ∧ (a ≠ o ∨ n ≠ w) ∧ c = 2) ∨ ((o = 0x0 ∨ o = 0x8 ∨ o = 0x10 ∨ o = 0x1000 ∨ o = 0x1010 ∨ o = 0x2820) ∧ w = 8 ∧ c = 3))) :=
  ⟨0x100, 4, 2, by decide, by decide, by decide, .inr (.inl ⟨_, _, _, rfl, by decide, rfl⟩)⟩

/-- The hypotheses of Claims.RegisterWriteSetsTheRegister can be met, clause by clause. -/
theorem wit_RegisterWriteSetsTheRegister :
  (∃ (n : Nat) (v : BitVec 64), n < 16 ∧ v.toNat % 4 = 0) ∧
  (∃ (n : Nat) (v : BitVec 64), 8 ≤ n ∧ n < 23 ∧ (v.toNat = 0 ∨ 10 ≤ v.toNat ∧ v.toNat ≤ 1000000)) ∧
  (∃ (s : State) (n : Nat) (v : BitVec 64), n < 23 ∧ v.toNat % 4096 = 0 ∧ (s.blk.ring n).en = false) ∧
  (∃ (s : State) (n : Nat) (v : BitVec 64), n < 8 ∧ (s.blk.ring n).permitLocked = false ∧ v.toNat < 2 ^ 32) ∧
  (∃ (v : BitVec 64), v.toNat &&& 0xFFFFFFFFE0E0E0E0 = 0) :=
  ⟨⟨15, 4, by decide +kernel⟩,
   ⟨22, 1000000, by decide +kernel⟩,
   ⟨on id, 22, 4096, by decide +kernel⟩,
   ⟨on id, 7, 0xFFFFFFFF, by decide +kernel⟩,
   ⟨0x1F1F1F1F, by decide +kernel⟩⟩

/-- The hypotheses of Claims.ErrLastClears can be met, clause by clause. -/
theorem wit_ErrLastClears :
  (∃ (v : BitVec 64), v.toNat &&& 0x70FF0000FFFF0000 = 0 ∧ v.getLsbD 63 = true) ∧
  (∃ (v : BitVec 64), v.toNat &&& 0x70FF0000FFFF0000 = 0 ∧ v.getLsbD 63 = false) :=
  ⟨⟨0x8000000000000000, by decide +kernel⟩,
   ⟨1, by decide +kernel⟩⟩

/-- The hypotheses of Claims.TimeRegisters can be met, clause by clause. -/
theorem wit_TimeRegisters :
  (∃ (s : State), s.blk.lead.profile = 0 ∧ s.blk.colTrained = false) ∧
  (∃ (s : State), (s.blk.lead.profile ≠ 0 ∨ s.blk.colTrained = true)) ∧
  (∃ (x : BitVec 32), x.toNat < 16) ∧
  (∃ (x : BitVec 32), 16 ≤ x.toNat) ∧
  (∃ (s : State) (v : BitVec 64), s.blk.ft 12 < v.toNat) ∧
  (∃ (s : State) (v : BitVec 64), v.toNat ≤ s.blk.ft 12) :=
  ⟨⟨State.reset, by decide +kernel⟩,
   ⟨on fun b => { b with colTrained := true }, by decide +kernel⟩,
   ⟨15, by decide +kernel⟩,
   ⟨16, by decide +kernel⟩,
   ⟨on id, 1, by decide +kernel⟩,
   ⟨on id, 0, by decide +kernel⟩⟩

/-- The hypotheses of Claims.VectorMask can be met, clause by clause. -/
theorem wit_VectorMask :
  (∃ (s : State) (n : Nat) (v : BitVec 32), n < 16 ∧ (v.toNat % 4 = 0 ∨ v.toNat % 4 = 2) ∧ v.toNat < 4 ∧ (s.blk.vec n).pending = true) ∧
  (∃ (s : State) (n : Nat) (v : BitVec 32), n < 16 ∧ (v.toNat % 4 = 0 ∨ v.toNat % 4 = 2) ∧ v.toNat < 4 ∧ (s.blk.vec n).pending = false) ∧
  (∃ (n : Nat) (v : BitVec 32), n < 16 ∧ (v.toNat = 1 ∨ v.toNat = 3)) ∧
  (∃ (n : Nat) (v : BitVec 32), n < 16 ∧ 4 ≤ v.toNat) :=
  ⟨⟨on fun b => b.modVec 15 (fun v => { v with pending := true }), 15, 2, by decide +kernel⟩,
   ⟨on id, 15, 0, by decide +kernel⟩,
   ⟨0, 3, by decide +kernel⟩,
   ⟨15, 4, by decide +kernel⟩⟩

/-- The hypotheses of Claims.PassFilter can be met, clause by clause. -/
theorem wit_PassFilter :
  (∃ (k : Nat) (pr : Nat) (bu : Nat) (mp : Nat) (v : BitVec 32), k < 8 ∧ pr < 1024 ∧ bu < 128 ∧ mp < 32 ∧ v = BitVec.ofNat 32 (pr * 2 ^ 22 +
    bu * 2 ^ 15 + mp * 2 ^ 10) ∧ 20 ≤ pr ∧ pr ≤ 1000 ∧ 5 ≤ bu ∧ bu ≤ 100 ∧ 2 ≤ mp ∧ mp ≤ 30) ∧
  (∃ (k : Nat) (pr : Nat) (bu : Nat) (mp : Nat) (v : BitVec 32), k < 8 ∧ pr < 1024 ∧ bu < 128 ∧ mp < 32 ∧ v = BitVec.ofNat 32 (pr * 2 ^ 22 +
    bu * 2 ^ 15 + mp * 2 ^ 10) ∧ (¬ (20 ≤ pr ∧ pr ≤ 1000 ∧ 5 ≤ bu ∧ bu ≤ 100 ∧ 2 ≤ mp ∧ mp ≤ 30))) :=
  ⟨⟨7, 1000, 100, 30, 0xFA327800, by decide +kernel⟩,
   ⟨7, 1001, 100, 30, 0xFA727800, by decide +kernel⟩⟩

/-- The hypotheses of Claims.WatershedRegisters can be met, clause by clause. -/
theorem wit_WatershedRegisters :
  (∃ (s : State) (w : Nat) (i : Nat) (v : BitVec 64), w < 104 ∧ i < 64 ∧ isSource (64 * w + i) = true ∧ v = BitVec.ofNat 64 (2 ^ i) ∧
    (s.blk.wsh.force.get 0 w).getLsbD i = false ∧ dieOf (64 * w + i) ∉ s.blk.wsh.pathLost) ∧
  (∃ (s : State) (w : Nat) (i : Nat) (v : BitVec 64), w < 104 ∧ i < 64 ∧ isSource (64 * w + i) = true ∧ v = BitVec.ofNat 64 (2 ^ i) ∧
    (s.blk.wsh.force.get 0 w).getLsbD i = false ∧ dieOf (64 * w + i) ∈ s.blk.wsh.pathLost) ∧
  (∃ (w : Nat) (v : BitVec 64), w < 104 ∧ v = BitVec.ofNat 64 (2 ^ 63)) :=
  ⟨⟨on id, 103, 32, 0x100000000, by decide +kernel⟩,
   ⟨on fun b => { b with wsh := { b.wsh with pathLost := [0] } }, 0, 0, 1, by decide +kernel⟩,
   ⟨103, 0x8000000000000000, by decide +kernel⟩⟩

/-- The hypotheses of Claims.RingEnable can be met, clause by clause. -/
theorem wit_RingEnable :
  (∃ (s : State) (n : Nat) (log2 : Nat) (v : BitVec 32), n < 23 ∧ (s.blk.ring n).en = false ∧ log2 < 32 ∧ v = BitVec.ofNat 32 (2 ^ 31 + log2)
    ∧ 4 ≤ log2 ∧ log2 ≤ 16) ∧
  (∃ (s : State) (n : Nat) (log2 : Nat) (v : BitVec 32), n < 23 ∧ (s.blk.ring n).en = false ∧ log2 < 32 ∧ v = BitVec.ofNat 32 (2 ^ 31 + log2)
    ∧ log2 = 0) ∧
  (∃ (s : State) (n : Nat) (log2 : Nat) (v : BitVec 32), n < 23 ∧ (s.blk.ring n).en = false ∧ log2 < 32 ∧ v = BitVec.ofNat 32 (2 ^ 31 + log2)
    ∧ (1 ≤ log2 ∧ log2 ≤ 3 ∨ 17 ≤ log2)) :=
  ⟨⟨State.reset, 22, 16, 0x80000010, by decide +kernel⟩,
   ⟨State.reset, 22, 0, 0x80000000, by decide +kernel⟩,
   ⟨State.reset, 22, 17, 0x80000011, by decide +kernel⟩⟩

/-- The hypotheses of Claims.PostAndConsumed can be met, clause by clause. -/
theorem wit_PostAndConsumed :
  (∃ (s : State) (n : Nat) (i : Nat), n < 23 ∧ i < 131072 ∧ (s.blk.ring n).en = true ∧ n < 8 ∧ (s.blk.ring n).isPtr i = true ∧ (s.blk.ring
    n).dist (s.blk.ring n).cons (s.blk.ring n).prod ≤ (s.blk.ring n).dist (s.blk.ring n).cons i ∧ (s.blk.ring n).dist (s.blk.ring n).cons i
    ≤ 2 ^ (s.blk.ring n).log2) ∧
  (∃ (s : State) (n : Nat) (i : Nat), n < 23 ∧ i < 131072 ∧ (s.blk.ring n).en = true ∧ n < 8 ∧ (¬ ((s.blk.ring n).isPtr i = true ∧ (s.blk.ring
    n).dist (s.blk.ring n).cons (s.blk.ring n).prod ≤ (s.blk.ring n).dist (s.blk.ring n).cons i ∧ (s.blk.ring n).dist (s.blk.ring n).cons i
    ≤ 2 ^ (s.blk.ring n).log2))) ∧
  (∃ (s : State) (n : Nat) (i : Nat), n < 23 ∧ i < 131072 ∧ (s.blk.ring n).en = true ∧ 8 ≤ n ∧ n < 16 ∧ (s.blk.ring n).isPtr i = true ∧
    (s.blk.ring n).dist (s.blk.ring n).cons i ≤ (s.blk.ring n).dist (s.blk.ring n).cons (s.blk.ring n).prod) :=
  ⟨⟨on fun b => b.modRing 7 (fun r => { r with en := true, log2 := 4, prod := 3 }), 7, 65536, by decide +kernel⟩,
   ⟨on fun b => b.modRing 7 (fun r => { r with en := true, log2 := 4, prod := 3 }), 7, 65537, by decide +kernel⟩,
   ⟨on fun b => b.modRing 15 (fun r => { r with en := true, log2 := 4, prod := 3 }), 15, 3, by decide +kernel⟩⟩

/-- The hypotheses of Claims.RecordRingDoorbells can be met, clause by clause. -/
theorem wit_RecordRingDoorbells :
  (∃ (s : State) (n : Nat) (i : Nat) (r : Ring), 16 ≤ n ∧ n < 23 ∧ i < 131072 ∧ s.blk.ring n = r ∧ r.en = true ∧ r.isPtr i = true ∧ r.dist
    r.rel r.cons ≤ r.dist r.rel i ∧ r.dist r.rel i ≤ r.dist r.rel r.prod) ∧
  (∃ (s : State) (n : Nat) (i : Nat) (r : Ring), 16 ≤ n ∧ n < 23 ∧ i < 131072 ∧ s.blk.ring n = r ∧ r.en = true ∧ r.isPtr i = true ∧ r.dist
    r.rel r.prod < r.dist r.rel i ∧ 1 ≤ r.dist i r.rel ∧ r.dist i r.rel ≤ 2 ^ r.log2) ∧
  (∃ (s : State) (n : Nat) (i : Nat) (r : Ring), 16 ≤ n ∧ n < 23 ∧ i < 131072 ∧ s.blk.ring n = r ∧ r.en = true ∧ r.isPtr i = true ∧ r.dist
    r.rel i ≤ r.dist r.rel r.cons) ∧
  (∃ (s : State) (n : Nat) (i : Nat) (r : Ring), 16 ≤ n ∧ n < 23 ∧ i < 131072 ∧ s.blk.ring n = r ∧ r.en = true ∧ r.isPtr i = true ∧
    r.markValid = true) ∧
  (∃ (s : State) (n : Nat) (i : Nat) (r : Ring), 16 ≤ n ∧ n < 23 ∧ i < 131072 ∧ s.blk.ring n = r ∧ r.en = true ∧ r.isPtr i = true ∧
    r.markValid = false) ∧
  (∃ (s : State) (n : Nat) (i : Nat) (r : Ring), 16 ≤ n ∧ n < 23 ∧ i < 131072 ∧ s.blk.ring n = r ∧ r.en = true ∧ r.isPtr i = true ∧ r.dist
    r.rel r.cons < r.dist r.rel i ∧ 1 ≤ r.dist i r.rel ∧ r.dist i r.rel ≤ 2 ^ r.log2) :=
  ⟨⟨on fun b => b.modRing 22 (fun _ => rr), 22, 5, rr, by decide +kernel⟩,
   ⟨on fun b => b.modRing 22 (fun _ => rr), 22, 65550, rr, by decide +kernel⟩,
   ⟨on fun b => b.modRing 22 (fun _ => rr), 22, 3, rr, by decide +kernel⟩,
   ⟨on fun b => b.modRing 22 (fun _ => { rr with markValid := true }), 22, 0, { rr with markValid := true }, by decide +kernel⟩,
   ⟨on fun b => b.modRing 22 (fun _ => rr), 22, 0, rr, by decide +kernel⟩,
   ⟨on fun b => b.modRing 22 (fun _ => rr), 22, 65550, rr, by decide +kernel⟩⟩

/-- The hypotheses of Claims.ClearLostI3cTap can be met, clause by clause. -/
theorem wit_ClearLostI3cTap :
  (∃ (s : State) (n : Nat) (i : Nat), n < 23 ∧ i < 131072 ∧ 8 ≤ n ∧ (s.blk.ring n).en = true) ∧
  (∃ (s : State) (n : Nat) (i : Nat), n < 23 ∧ i < 131072 ∧ i < 256 ∧ s.blk.strapOk = true) ∧
  (∃ (s : State) (n : Nat) (i : Nat), n < 23 ∧ i < 131072 ∧ (i ≤ 2 ∨ s.blk.immProfile = 11)) ∧
  (∃ (s : State) (n : Nat) (i : Nat), n < 23 ∧ i < 131072 ∧ 2 < i ∧ s.blk.immProfile ≠ 11) :=
  ⟨⟨on fun b => b.modRing 22 (fun _ => rr), 22, 131071, by decide +kernel⟩,
   ⟨on id, 22, 255, by decide +kernel⟩,
   ⟨on id, 22, 2, by decide +kernel⟩,
   ⟨on id, 22, 3, by decide +kernel⟩⟩

/-- The hypotheses of Obligations.StickyAnyNamesTheWords can be met, clause by clause. -/
theorem wit_StickyAnyNamesTheWords :
  (∃ (w : Nat), ∃ (j : Nat), ∃ n, w < 104 ∧ j < 2 ∧ 40 ≤ n) :=
  ⟨103, 1, 40, by decide +kernel⟩

/-- The hypotheses of Obligations.StickyBitsStayUntilCleared can be met, clause by clause. -/
theorem wit_StickyBitsStayUntilCleared :
  (∃ (s : State) (m x : Msg) (rest : List Msg) (err : BitVec 192) (ext : BitVec 136), s.blk.wsh.up = m :: rest ∧ m.receive err ext = (some x,
    false) ∧ (x.src, x.kind, x.time) ∉ s.blk.wsh.seen) ∧
  (∃ (i : Instr) (s t : State) (w j : Nat), exec i s = .next t ∧ (s.blk.wsh.sticky.get 0 w).getLsbD j = true ∧ (t.blk.wsh.sticky.get 0
    w).getLsbD j = false) :=
  ⟨⟨onWsh fun w => { w with up := [msg 3 0 0] }, msg 3 0 0, msg 3 0 0, [], 0, 0, by decide +kernel⟩,
   ⟨.wshStickyClear 103 (BitVec.ofNat 64 (2 ^ 63)), onWsh fun w => { w with sticky := [(103, BitVec.ofNat 64 (2 ^ 63))] }, _, 103, 63, rfl, by
    decide +kernel, by decide +kernel⟩⟩

/-- The hypotheses of Claims.ResetReleaseAndStraps can be met, clause by clause. -/
theorem wit_ResetReleaseAndStraps :
  (∃ (s : State) (v : Nat), v < 16 ∧ s.blk.strapOk = false) ∧
  (∃ (s : State) (l : List Nat), l.length = 8 ∧ (∀ x ∈ l, x < 16) ∧ (∃ x ∈ l, ∃ y ∈ l, x ≠ y) ∧ s.blk.strapOk = false) :=
  ⟨⟨State.reset, 15, by decide +kernel⟩,
   ⟨State.reset, [0, 0, 0, 0, 0, 0, 0, 15], by decide +kernel⟩⟩

/-- The hypotheses of Claims.SelfTestsAndIdentity can be met, clause by clause. -/
theorem wit_SelfTestsAndIdentity :
  (∃ (s : State) (n : Nat), isStw n = true ∧ (s.blk.stw n).self = 0 ∧ dieOf n < 12) ∧
  (∃ (s : State), (∀ k, k < 16 → ¬ (s.blk.stwUp (stwSrc 12 k) = true ∧ (s.blk.stw (stwSrc 12 k)).self = 1))) ∧
  (∃ (s : State) (a : Nat), isRidge a = true ∧ (s.blk.link (src (dieOf a) 384)).ident = none ∧ (s.blk.link (src (dieOf a) 385)).ident = none ∧
    s.blk.ridgelessAt a = false ∧ (s.blk.link a).st ≠ .active ∧ s.blk.linkStopped a = false) :=
  ⟨⟨on id, 451, by decide +kernel⟩,
   ⟨on fun b => { b with doms := (List.range 16).map (fun k => (stwDom (stwSrc 12 k), { st := 7 })) }, by decide +kernel⟩,
   ⟨on id, 386, by decide +kernel⟩⟩

/-- The hypotheses of Claims.ClockFaults can be met, clause by clause. -/
theorem wit_ClockFaults :
  (∃ (d : Nat), d < 12) ∧
  (∃ (s : State), s.blk.refclk = false) :=
  ⟨⟨11, by decide +kernel⟩,
   ⟨on fun b => { b with refclk := false }, by decide +kernel⟩⟩

/-- The hypotheses of Claims.Heartbeats can be met, clause by clause. -/
theorem wit_Heartbeats :
  (∃ (s : State) (n : Nat), isStw n = true ∧ s.blk.stwUp n = true ∧ 0 < s.blk.freeUnitTags (stwNi n)) ∧
  (∃ (s : State) (n : Nat) (skip : Nat) (q : Nat) (crc : BitVec 32), isStw n = true ∧ s.blk.stwUp n = true ∧ (s.blk.stw (buddy
    n)).hbSent[skip]? = some (q, crc)) :=
  ⟨⟨on id, stwSrc 12 15, by decide +kernel⟩,
   ⟨on fun b => b.modStw (buddy (stwSrc 12 15)) (fun x => { x with hbSent := [(6, 0), (7, 9)] }), stwSrc 12 15, 1, 7, 9, by decide +kernel⟩⟩

/-- The hypotheses of Claims.StewardLoss can be met, clause by clause. -/
theorem wit_StewardLoss :
  (∃ (s : State) (n : Nat), isStw n = true ∧ s.blk.stwUp n = true ∧ s.blk.stwUp (buddy n) = true ∧ (s.blk.stw (buddy n)).announced = none ∧
    dieOf n < 12) ∧
  (∃ (s : State) (n : Nat) (t : Nat), isStw n = true ∧ (s.blk.stw (buddy n)).announced = some t) ∧
  (∃ (s : State) (n : Nat) (t : Nat), isStw n = true ∧ (s.blk.stw n).announced = some t) :=
  ⟨⟨on id, src 11 451, by decide +kernel⟩,
   ⟨on fun b => b.modStw (buddy 450) (fun x => { x with announced := some 7 }), 450, 7, by decide +kernel⟩,
   ⟨on fun b => b.modStw 450 (fun x => { x with announced := some 7 }), 450, 7, by decide +kernel⟩⟩

/-- The hypotheses of Claims.StewardImage can be met, clause by clause. -/
theorem wit_StewardImage :
  (∃ (s : State) (n : Nat) (bd : BitVec 64) (todo : List Nat), isStw n = true ∧ s.blk.lead.load = some (bd, todo) ∧ n ∈ todo ∧ (s.blk.stw
    n).segFails = 2 ∧ (s.blk.ni (stwNi n)).msgq = []) ∧
  (∃ (s : State) (n : Nat) (bd : BitVec 64) (todo : List Nat), isStw n = true ∧ s.blk.lead.load = some (bd, todo) ∧ s.blk.lead.restarting =
    true ∧ s.blk.lead.flights = [] ∧ s.blk.lead.commit.isSome = true) :=
  ⟨⟨on fun b => (b.modLead (fun l => { l with load := some (9, [449, 450]) })).modStw 450 (fun x => { x with segFails := 2 }), 450, 9, [449,
    450], by decide +kernel⟩,
   ⟨onLead fun l => { l with load := some (9, [449]), restarting := true, commit := some cm }, 450, 9, [449], by decide +kernel⟩⟩

/-- The hypotheses of Obligations.RatesUnderStarvation can be met, clause by clause. -/
theorem wit_RatesUnderStarvation :
  (∃ (s : State) (g : Nat) (n : Nat) (t : Nat) (from_ : BitVec 16), g < 32 ∧ t < 4 ∧ n ∈ s.blk.drawers g ∧ s.blk.lead.bootRom = false ∧
    (s.blk.stw (s.blk.server g)).image = true ∧ s.blk.fencesFirst (s.blk.server g) = false ∧ (∀ u, (s.blk.region g).lastLower = some u → u +
    320000 ≤ s.blk.now) ∧ niNode s.blk.pkgid n ≠ canon from_) ∧
  (∃ (s : State) (g : Nat) (n : Nat) (t : Nat), g < 32 ∧ t < 4 ∧ n ∈ s.blk.drawers g ∧ s.blk.lead.bootRom = false ∧ (s.blk.stw (s.blk.server
    g)).image = true ∧ s.blk.fencesFirst (s.blk.server g) = false ∧ (∃ u, (s.blk.region g).lastLower = some u ∧ s.blk.now < u + 320000)) ∧
  (∃ (s : State) (g : Nat) (n : Nat) (t : Nat), g < 32 ∧ t < 4 ∧ n ∈ s.blk.drawers g ∧ s.blk.fencesFirst (s.blk.server g) = true) ∧
  (∃ (s : State) (g : Nat) (n : Nat) (t : Nat), g < 32 ∧ t < 4 ∧ n ∈ s.blk.drawers g ∧ (s.blk.region g).lastStarve.isSome = true ∧ (s.blk.gate
    n).rateOf t < (s.blk.gate n).confOf t) :=
  ⟨⟨on fun b => (b.modLead (fun l => { l with bootRom := false })).modStw (b.server 0) (fun x => { x with image := true }), 0, 183, 3, niNode 2
    0, by decide +kernel, by decide +kernel, (by decide +kernel), by decide +kernel, by decide +kernel, (by decide +kernel), (fun _ h =>
    nomatch h), by decide +kernel⟩,
   ⟨on fun b => ((b.modLead (fun l => { l with bootRom := false })).modStw (b.server 0) (fun x => { x with image := true })).modRegion 0 (fun r
    => { r with lastLower := some 2880001 }), 0, 183, 3, by decide +kernel, by decide +kernel, (by decide +kernel), by decide +kernel, by
    decide +kernel, (by decide +kernel), 2880001, by decide +kernel⟩,
   ⟨onWsh fun w => { w with lead := [msg 2 6 100] }, 0, 183, 3, by decide +kernel⟩,
   ⟨on fun b => (b.modRegion 0 (fun r => { r with lastStarve := some 5 })).modGate 183 (fun g =>
    { g with rate := [(3, 875)], conf := [(3, 1000)] }), 0, 183, 3, by decide +kernel⟩⟩

/-- The hypotheses of Claims.BandwidthWindow can be met, clause by clause. -/
theorem wit_BandwidthWindow :
  (∃ (e : Nat), hasCtrs e = true) :=
  ⟨6144, by decide +kernel⟩

/-- The hypotheses of Claims.TelemetryTimers can be met, clause by clause. -/
theorem wit_TelemetryTimers :
  (∃ (s : State) (e : Nat), isRouter e = true ∧ (s.blk.elem e).tel.enable % 2 = 1 ∧ s.blk.immProfile ≠ 11 ∧ s.blk.domSt e = 0 ∧
    s.blk.elemFenced e = false ∧ (s.blk.elem e).tel.samples = [] ∧ (s.blk.elem e).tel.onlyPort = none) ∧
  (∃ (s : State) (e : Nat), isRouter e = true ∧ (s.blk.elem e).tel.enable % 2 = 0 ∧ s.blk.immProfile ≠ 11 ∧ s.blk.domSt e = 0) ∧
  (∃ (s : State) (e : Nat) (c : Nat), hasCtrs e = true ∧ isRouter e = false ∧ c < 16 ∧ (s.blk.elem e).wrapRep.get 0 c < (s.blk.elem
    e).wraps.get 0 c) ∧
  (∃ (s : State) (g : Nat) (t : Nat) (rest : List Nat), g < 32 ∧ (s.blk.region g).cairns = t :: rest) ∧
  (∃ (s : State), ∃ (d : Nat), ∃ x, ∃ r, d < 13 ∧ s.blk.agents.get [] d = [x] ∧ x.ring = r ∧ s.blk.telPath d = true ∧ (∀ kv ∈ s.blk.elems,
    dieOf kv.1 = d → kv.2.tel.queue = []) ∧ s.blk.lead.who.isSome = true ∧ s.blk.lead.restarting = false ∧ (s.blk.ring r).en = true ∧
    (s.blk.ring r).err = false) :=
  ⟨⟨on fun b => b.modElem 0 (fun e => { e with tel := { e.tel with enable := 1 } }), 0, by decide +kernel⟩,
   ⟨on id, 0, by decide +kernel⟩,
   ⟨on fun b => b.modElem 131 (fun e => { e with wraps := [(15, 2)], wrapRep := [(15, 1)] }), 131, 15, by decide +kernel⟩,
   ⟨on fun b => b.modRegion 31 (fun r => { r with cairns := [7, 8] }), 31, 7, [8], by decide +kernel⟩,
   ⟨on fun b => { (b.modLead (fun l => { l with who := some 6592 })).modRing 21 (fun _ => rr) with agents := [(12, [⟨21, 0, 5⟩])] }, 12, ⟨21,
    0, 5⟩, 21, by decide +kernel⟩⟩

/-- The hypotheses of Claims.RingTimers can be met, clause by clause. -/
theorem wit_RingTimers :
  (∃ (s : State) (r : Nat), r < 23 ∧ (s.blk.ring r).en = true ∧ 8 ≤ r ∧ (s.blk.ring r).err = false ∧ (s.blk.ring r).stale ≠ 0 ∧ (s.blk.ring
    r).unread ≠ 0 ∧ (s.blk.vec (s.blk.ring r).vector).mask = false) :=
  ⟨on fun b => { b.modRing 22 (fun _ => rr) with vecs := [(0, { mask := false })] }, 22, by decide +kernel⟩

/-- The hypotheses of Claims.GateSwitch can be met, clause by clause. -/
theorem wit_GateSwitch :
  (∃ (s : State) (n : Nat) (S : Nat) (B : Nat), isNi n = true ∧ s.blk.rests n = false ∧ s.blk.lead.flights = [] ∧ (s.blk.gate n).queue = [] ∧
    (s.blk.gate n).pend = some (S, B)) ∧
  (∃ (s : State) (n : Nat) (S : Nat) (B : Nat), isNi n = true ∧ s.blk.rests n = false ∧ s.blk.lead.flights = [] ∧ (s.blk.gate n).queue = [] ∧
    (s.blk.gate n).pendMsg = some (S, B) ∧ s.blk.ftOf n ≤ S) ∧
  (∃ (s : State) (n : Nat) (S : Nat) (B : Nat), isNi n = true ∧ s.blk.rests n = false ∧ s.blk.lead.flights = [] ∧ (s.blk.gate n).queue = [] ∧
    (s.blk.gate n).pendMsg = some (S, B) ∧ S < s.blk.ftOf n) :=
  ⟨⟨on fun b => b.modGate 131 (fun g => { g with pend := some (9, 4) }), 131, 9, 4, by decide +kernel⟩,
   ⟨on fun b => b.modGate 131 (fun g => { g with pendMsg := some (0, 4) }), 131, 0, 4, by decide +kernel⟩,
   ⟨on fun b => { b.modGate 131 (fun g => { g with pendMsg := some (0, 4) }) with tbs := [(0, { ft := 1 })] }, 131, 0, 4, by decide +kernel⟩⟩

/-- The hypotheses of Claims.SwitchInstantIsTheFirstTurn can be met, clause by clause. -/
theorem wit_SwitchInstantIsTheFirstTurn :
  (∃ (acc : Nat) (base : Nat) (cycle : Nat), 0 < cycle ∧ acc + 6400 ≤ base) ∧
  (∃ acc base cycle : Nat, 0 < cycle ∧ base < acc + 6400) :=
  ⟨⟨10, 6410, 1, by decide +kernel⟩,
   ⟨10, 6409, 1, by decide⟩⟩

/-- The hypotheses of Claims.RouteEpochCommit can be met, clause by clause. -/
theorem wit_RouteEpochCommit :
  (∃ (s : State) (c : Commit) (e : Nat), isReceiver e = true ∧ s.blk.lead.commit = some c ∧ e ∈ c.waitRcv ∧ s.blk.lead.load = none ∧
    s.blk.asleep e = false) ∧
  (∃ (s : State) (c : Commit) (e : Nat), isReceiver e = true ∧ s.blk.lead.commit = some c ∧ e ∈ c.waitRcv ∧ s.blk.lead.load = none ∧
    s.blk.asleep e = true) ∧
  (∃ (s : State) (c : Commit) (e : Nat), isReceiver e = true ∧ s.blk.lead.commit = some c ∧ e ∉ c.waitRcv ∧ c.point = none ∧ (c.waitAck.filter
    (· != e) ≠ [] ∨ c.waitRcv ≠ [])) ∧
  (∃ (s : State) (c : Commit) (e : Nat), isReceiver e = true ∧ s.blk.lead.commit = some c ∧ c.waitRcv = [] ∧ c.point = none ∧ c.waitAck = [e]
    ∧ c.why = 0) :=
  ⟨⟨onLead fun l => { l with commit := some { cm with waitRcv := [131, 386] } }, { cm with waitRcv := [131, 386] }, 386, by decide +kernel⟩,
   ⟨on fun b => (b.modLead (fun l => { l with commit := some { cm with waitRcv := [386] } })).modScope 9 0 (fun x => { x with st := 3 }),
    { cm with waitRcv := [386] }, 386, by decide +kernel⟩,
   ⟨onLead fun l => { l with commit := some { cm with waitAck := [131, 386] } }, { cm with waitAck := [131, 386] }, 386, by decide +kernel⟩,
   ⟨onLead fun l => { l with commit := some { cm with waitAck := [386] } }, { cm with waitAck := [386] }, 386, by decide +kernel⟩⟩

/-- The hypotheses of Claims.RouteEpochDrain can be met, clause by clause. -/
theorem wit_RouteEpochDrain :
  (∃ (s : State), ∃ (c : Commit), ∃ (g : Nat), ∃ (t : Nat), ∃ k, g < 32 ∧ s.blk.lead.commit = some c ∧ c.point = some t ∧ k = (s.blk.now - t +
    us - 1) / us ∧ c.round ≠ some k) ∧
  (∃ (s : State), ∃ (c : Commit), ∃ (g : Nat), ∃ (t : Nat), ∃ k, g < 32 ∧ s.blk.lead.commit = some c ∧ c.point = some t ∧ k = (s.blk.now - t +
    us - 1) / us ∧ c.round = some k) ∧
  (∃ (s : State), ∃ (c : Commit), ∃ (g : Nat), ∃ (t : Nat), ∃ (n : Nat), ∃ k, g < 32 ∧ s.blk.lead.commit = some c ∧ c.point = some t ∧
    (s.blk.region g).report = some (k, n) ∧ (0 < n ∨ c.round ≠ some k)) ∧
  (∃ (s : State), ∃ (c : Commit), ∃ (g : Nat), ∃ (t : Nat), ∃ k, g < 32 ∧ s.blk.lead.commit = some c ∧ c.point = some t ∧ (s.blk.region
    g).report = some (k, 0) ∧ c.round = some k ∧ (∃ k ∈ c.waitDrain, k ≠ g)) ∧
  (∃ (s : State), ∃ (c : Commit), ∃ (g : Nat), ∃ (t : Nat), ∃ k, g < 32 ∧ s.blk.lead.commit = some c ∧ c.point = some t ∧ c.why = 0 ∧
    s.blk.lead.flights = [] ∧ s.blk.lead.commitQ = [] ∧ s.blk.lead.steerQ = [] ∧ (∀ k, k < 8 → (s.blk.port k).awaits = false) ∧
    (s.blk.region g).report = some (k, 0) ∧ c.round = some k ∧ c.waitDrain = [g]) ∧
  (∃ (s : State) (c : Commit) (g : Nat) (t : Nat), g < 32 ∧ s.blk.lead.commit = some c ∧ c.point = some t ∧ c.why = 0 ∧ s.blk.lead.flights =
    [] ∧ s.blk.lead.commitQ = [] ∧ s.blk.lead.steerQ = [] ∧ (∀ k, k < 8 → (s.blk.port k).awaits = false) ∧ s.blk.elems = []) :=
  ⟨⟨onLead fun l => { l with commit := some { cm with point := some 5, round := some 0 } }, { cm with point := some 5 , round := some 0 }, 31,
    5, _, by decide +kernel, by decide +kernel, (by decide +kernel), rfl, by decide +kernel⟩,
   ⟨onLead fun l => { l with commit := some { cm with point := some 3200000, round := some 0 } },
    { cm with point := some 3200000, round := some 0 }, 31, 3200000, 0, by decide +kernel⟩,
   ⟨on fun b => (b.modLead (fun l => { l with commit := some { cm with point := some 5 } })).modRegion 31 (fun r =>
    { r with report := some (3, 1) }), { cm with point := some 5 }, 31, 5, 1, 3, by decide +kernel⟩,
   ⟨on fun b => (b.modLead (fun l => { l with commit := some { cm with point := some 5, round := some 3, waitDrain := [3, 31] } })).modRegion
    31 (fun r => { r with report := some (3, 0) }), { cm with point := some 5, round := some 3, waitDrain := [3, 31] }, 31, 5, 3, by
    decide +kernel⟩,
   ⟨on fun b => (b.modLead (fun l => { l with commit := some { cm with point := some 5, round := some 3, waitDrain := [31] } })).modRegion 31
    (fun r => { r with report := some (3, 0) }), { cm with point := some 5, round := some 3, waitDrain := [31] }, 31, 5, 3, by
    decide +kernel⟩,
   ⟨onLead fun l => { l with commit := some { cm with point := some 5, waitDrain := [31] } }, { cm with point := some 5, waitDrain := [31] },
    31, 5, by decide +kernel⟩⟩

/-- The hypotheses of Claims.MapEpochs can be met, clause by clause. -/
theorem wit_MapEpochs :
  (∃ (s : State) (n : Nat) (gr : Nat), isNi n = true ∧ s.blk.lead.mapGran = some gr ∧ n ∈ s.blk.lead.mapRcv ∧ (s.blk.gate n).queue = [] ∧
    (s.blk.ni n).lookups = [] ∧ (s.blk.ni n).rels = []) ∧
  (∃ (s : State) (n : Nat) (gr : Nat), isNi n = true ∧ s.blk.lead.mapGran = some gr ∧ s.blk.lead.mapAck = [n] ∧ n ∉ s.blk.lead.mapRcv ∧
    s.blk.lead.mapPoint = none) ∧
  (∃ (s : State) (t : Nat), s.blk.lead.mapPoint = some t ∧ s.blk.lead.mapCopy = [] ∧ s.blk.oldLookups t = false) ∧
  (∃ (s : State) (g : Nat), g < 32 ∧ s.blk.lead.mapCopy = [g] ∧ s.blk.lead.flights = [] ∧ s.blk.map.wf = true) :=
  ⟨⟨onLead fun l => { l with mapGran := some 2, mapRcv := [4, 131] }, 131, 2, by decide +kernel⟩,
   ⟨onLead fun l => { l with mapGran := some 2, mapAck := [131] }, 131, 2, by decide +kernel⟩,
   ⟨onLead fun l => { l with mapPoint := some 5 }, 5, by decide +kernel⟩,
   ⟨onLead fun l => { l with mapCopy := [31] }, 31, by decide +kernel⟩⟩

/-- The hypotheses of Claims.MapServiceAndNotices can be met, clause by clause. -/
theorem wit_MapServiceAndNotices :
  (∃ (s : State) (g : Nat) (h : BitVec 128) (rest : List (BitVec 128)), s.blk.fatal = false ∧ 24 ≤ g ∧ g < 32 ∧ (s.blk.region g).lookq = h ::
    rest ∧ (s.blk.region g).bankOut = false ∧ (s.blk.elem (bankSrc g)).badRows = [] ∧ noUnit (nodeNi (s.blk.bankNode g)) = false) ∧
  (∃ (s : State), ∃ dest, s.blk.fatal = false ∧ nodeOk dest = true ∧ isNi (nodeNi dest) = true ∧ noUnit (nodeNi dest) = false ∧ s.blk.stwOut
    (nodeNi dest) = false ∧ s.blk.stwHeld (nodeNi dest) = none) ∧
  (∃ (s : State), ∃ (n : Nat), ∃ i, ∃ l, ∃ inc, s.blk.fatal = false ∧ isNi n = true ∧ (s.blk.ni n).locks = [(i, l)] ∧ l.broken = false ∧ l.inc
    ≠ inc ∧ canon l.owner = l.owner) ∧
  (∃ (s : State), ∃ (n : Nat), ∃ i, ∃ l, ∃ ty, ∃ id, s.blk.fatal = false ∧ isNi n = true ∧ scopeOk ty id = true ∧ (s.blk.ni n).locks = [(i,
    l)] ∧ l.broken = false ∧ nodePkg l.owner < 16 ∧ (ty, id) ∈ elemScopes (nodeNi l.owner)) :=
  ⟨⟨on fun b => b.modRegion 31 (fun r => { r with lookq := [rq] }), 31, rq, [], by decide +kernel⟩,
   ⟨on id, niNode 2 132, by decide +kernel⟩,
   ⟨on fun b => b.modNi 131 (fun x => { x with locks := [(15, lk)] }), 131, 15, lk, 5, by decide +kernel⟩,
   ⟨on fun b => b.modNi 131 (fun x => { x with locks := [(15, lk)] }), 131, 15, lk, 9, 0, by decide +kernel⟩⟩

/-- The hypotheses of Claims.UnitPacket can be met, clause by clause. -/
theorem wit_UnitPacket :
  (∃ (s : State) (n : Nat) (p : UnitPkt), isNi n = true ∧ p.WellFormed = true ∧ s.blk.fatal = false ∧ (s.blk.ni n).portUp = true ∧ noUnit n =
    false ∧ s.blk.domSt n = 0 ∧ (s.blk.ford (.unitPort n)).stopped = false ∧ (s.blk.ford (.unitPort n)).up = [] ∧ p.pays.length ≤
    (s.blk.txSync n).txHeld n p.tier ∧ (s.blk.ni n).fenced = false ∧ unitChecks p = true ∧ p.dsel = true ∧ p.dparErr = false ∧ p.bufErr =
    false ∧ isLockOp p.cls p.opc = false ∧ s.blk.oversize n (s.blk.gate n).active p.tier p.pays.length = false ∧ s.blk.reachable n (s.blk.ni
    n).epoch (canon p.dest) = true ∧ (s.blk.gate n).queue = [] ∧ (s.blk.ni n).lookups = [] ∧ (s.blk.ni n).rels = [] ∧ (holdsTag p.cls p.opc
    = true → (s.blk.ni n).free unitTags ≠ [])) ∧
  (∃ (s : State) (n : Nat) (p : UnitPkt), isNi n = true ∧ p.WellFormed = true ∧ s.blk.fatal = false ∧ (s.blk.ni n).portUp = true ∧ noUnit n =
    false ∧ s.blk.domSt n = 0 ∧ (s.blk.ford (.unitPort n)).stopped = false ∧ (s.blk.ford (.unitPort n)).up = [] ∧ p.pays.length ≤
    (s.blk.txSync n).txHeld n p.tier ∧ (s.blk.ni n).fenced = false ∧ unitChecks p = false) ∧
  (∃ (s : State) (n : Nat) (p : UnitPkt), isNi n = true ∧ p.WellFormed = true ∧ s.blk.fatal = false ∧ (s.blk.ni n).portUp = true ∧ noUnit n =
    false ∧ s.blk.domSt n = 0 ∧ (s.blk.ford (.unitPort n)).stopped = false ∧ (s.blk.ford (.unitPort n)).up = [] ∧ (s.blk.txSync n).txHeld n
    p.tier < p.pays.length) :=
  ⟨⟨on id, 131, pk 0 0 0 3, by decide +kernel⟩,
   ⟨on id, 131, { pk 0 0 0 3 with hparErr := true }, by decide +kernel⟩,
   ⟨spent, 131, pk 0 0 0 3, by decide +kernel⟩⟩

/-- The hypotheses of Claims.UnitPacketWaits can be met, clause by clause. -/
theorem wit_UnitPacketWaits :
  (∃ (s : State) (n : Nat) (p : UnitPkt), isNi n = true ∧ p.WellFormed = true ∧ s.blk.fatal = false ∧ (s.blk.ni n).portUp = true ∧ noUnit n =
    false ∧ (s.blk.ford (.unitPort n)).stopped = false ∧ s.blk.domSt n = 4 ∧ (s.blk.ford (.unitPort n)).up = [] ∧ p.pays.length ≤ 8) ∧
  (∃ (s : State) (n : Nat) (p : UnitPkt), isNi n = true ∧ p.WellFormed = true ∧ s.blk.fatal = false ∧ (s.blk.ni n).portUp = true ∧ noUnit n =
    false ∧ (s.blk.ford (.unitPort n)).stopped = false ∧ s.blk.domSt n = 4 ∧ (s.blk.ford (.unitPort n)).up = [] ∧ 8 < p.pays.length) :=
  ⟨⟨onDom 0 (fun d => { d with st := 4 }), 131, pk 0 0 0 3, by decide +kernel⟩,
   ⟨onDom 0 (fun d => { d with st := 4 }), 131, { pk 0 8 7 3 with pays := List.replicate 9 5 }, by decide +kernel⟩⟩

/-- The hypotheses of Claims.UnitDelivery can be met, clause by clause. -/
theorem wit_UnitDelivery :
  (∃ (s : State) (n : Nat) (p : RPkt), isNi n = true ∧ (s.blk.ni n).portUp = true ∧ (s.blk.ford (.unitPort n)).stopped = true ∧ (s.blk.ford
    (.unitPort n)).down = [] ∧ (s.blk.ni n).nextDelivery = some p ∧ (s.blk.elem n).ins = []) ∧
  (∃ (s : State) (n : Nat) (cls : Nat), isNi n = true ∧ (s.blk.ni n).portUp = true ∧ (s.blk.ford (.unitPort n)).stopped = false ∧ cls < 5) ∧
  (∃ (s : State) (n : Nat) (p : RPkt), isNi n = true ∧ (s.blk.ni n).portUp = true ∧ (s.blk.ford (.unitPort n)).stopped = false ∧ (s.blk.ni
    n).nextDelivery = some p ∧ (s.blk.elem n).ins = []) :=
  ⟨⟨on fun b => (b.modNi 131 (fun x => { x with rx := [rp], rxCred := [(0, 2)] })).modFord (.unitPort 131) (fun x =>
    { x with stopped := true }), 131, rp, by decide +kernel⟩,
   ⟨on id, 131, 4, by decide +kernel⟩,
   ⟨on fun b => b.modNi 131 (fun x => { x with rx := [rp], rxCred := [(0, 2)] }), 131, rp, by decide +kernel⟩⟩

/-- The hypotheses of Claims.TollgateStart can be met, clause by clause. -/
theorem wit_TollgateStart :
  (∃ (s : State), ∃ (n : Nat), ∃ p, ∃ q, ∃ a, ∃ r, isNi n = true ∧ s.blk.fatal = false ∧ (s.blk.ni n).fenced = false ∧ s.blk.domSt n = 0 ∧
    (s.blk.gate n).lastSend = none ∧ (s.blk.gate n).pre = none ∧ (s.blk.gate n).cur = some p ∧ p.tier = none ∧ p.ports = [q] ∧ peer n q =
    some (a, r) ∧ s.blk.outFenced n q = false ∧ s.blk.portsReady n [q] p.vc true = true) ∧
  (∃ (s : State), ∃ (n : Nat), ∃ p, ∃ ports, ∃ vc, isNi n = true ∧ s.blk.fatal = false ∧ (s.blk.ni n).fenced = false ∧ s.blk.domSt n = 0 ∧
    (s.blk.gate n).lastSend = none ∧ (s.blk.gate n).pre = none ∧ s.blk.closed n = false ∧ (s.blk.gate n).cur = none ∧ (s.blk.gate n).mgtq =
    [] ∧ (s.blk.gate n).ownq = [] ∧ s.blk.headOf n 3 = some p ∧ hCls p.hdr ≠ MGT ∧ s.blk.eligible n 3 p = true ∧ s.blk.reachable n (s.blk.ni
    n).epoch (hDest p.hdr) = true ∧ s.blk.injPlan n (setF (s.blk.stamp n p.hdr) 74 3 (p.pays.length - 1)) = some (ports, vc) ∧
    s.blk.portsReady n ports vc false = true) :=
  ⟨⟨on fun b => b.modGate 131 (fun g => { g with cur := some pg }), 131, pg, 0, 1, 5, by decide +kernel⟩,
   ⟨on fun b => b.modGate 131 (fun g => { g with queue := [(3, [⟨rq, [5], true, 0⟩])] }), 131, ⟨rq, [5], true, 0⟩, [0], 1, by decide +kernel⟩⟩

/-- The hypotheses of Claims.FordReset can be met, clause by clause. -/
theorem wit_FordReset :
  (∃ (s : State) (f : FordId), f.WellFormed = true ∧ (s.blk.ford f).quietReset = true ∧ (s.blk.ford f).stopped = false ∧ s.blk.sideOn
    (fordWake f) = true ∧ s.blk.sideOn (fordFar f) = true) ∧
  (∃ (s : State), ∃ (f : FordId), ∃ d, ∃ l, f.WellFormed = true ∧ (s.blk.ford f).quietReset = true ∧ (s.blk.ford f).stopped = false ∧ fordWake
    f = some (d, l) ∧ (s.blk.dom d).st = 4 ∧ (s.blk.dom d).unarmed = false ∧ s.blk.domFenced d = false) ∧
  (∃ (s : State) (f : FordId), f.WellFormed = true ∧ (s.blk.ford f).ack = true ∧ (s.blk.ford f).stopped = false) ∧
  (∃ (s : State) (f : FordId), f.WellFormed = true ∧ (s.blk.ford f).ack = true ∧ (s.blk.ford f).req = false ∧ ((s.blk.ford f).reqF = true ∨
    (s.blk.ford f).ackF = true)) ∧
  (∃ (s : State) (f : FordId), f.WellFormed = true ∧ (s.blk.ford f).ack = true ∧ (s.blk.ford f).req = false ∧ (s.blk.ford f).reqF = false ∧
    (s.blk.ford f).ackF = false) ∧
  (∃ (s : State) (f : FordId), f.WellFormed = true ∧ (s.blk.ford f).ackF = true ∧ (s.blk.ford f).reqF = false ∧ (s.blk.ford f).stopped = false
    ∧ (s.blk.ford f).req = false ∧ (s.blk.ford f).ack = false) :=
  ⟨⟨on id, .unitPort 131, by decide +kernel⟩,
   ⟨onDom 207 (fun d => { d with st := 4 }), .passPort 7, 207, 415, by decide +kernel⟩,
   ⟨on fun b => b.modFord (.passPort 7) (fun x => { x with ack := true }), .passPort 7, by decide +kernel⟩,
   ⟨on fun b => b.modFord (.passPort 7) (fun x => { x with ack := true, reqF := true }), .passPort 7, by decide +kernel⟩,
   ⟨on fun b => b.modFord (.passPort 7) (fun x => { x with ack := true }), .passPort 7, by decide +kernel⟩,
   ⟨on fun b => b.modFord (.passPort 7) (fun x => { x with ackF := true }), .passPort 7, by decide +kernel⟩⟩

/-- The hypotheses of Claims.FordClocks can be met, clause by clause. -/
theorem wit_FordClocks :
  (∃ (s : State) (f : FordId), f.WellFormed = true ∧ (s.blk.ford f).stalled = false ∧ s.blk.fordSilent f = false) ∧
  (∃ (s : State) (f : FordId), f.WellFormed = true ∧ s.blk.fordSilent f = true) ∧
  (∃ (s : State) (f : FordId), f.WellFormed = true ∧ (s.blk.ford f).stopped = true ∧ (s.blk.ford f).quietReset = true ∧ s.blk.sideOn (fordFar
    f) = true) ∧
  (∃ (s : State) (f : FordId), f.WellFormed = true ∧ (s.blk.ford f).stopped = false) :=
  ⟨⟨on id, .unitPort 131, by decide +kernel⟩,
   ⟨on fun b => { b with doms := [(200, { st := 4 })] }, .passPort 0, by decide +kernel⟩,
   ⟨on fun b => b.modFord (.telemetry 12) (fun x => { x with stopped := true }), .telemetry 12, by decide +kernel⟩,
   ⟨on id, .telemetry 12, by decide +kernel⟩⟩

/-- The hypotheses of Claims.PacketArrival can be met, clause by clause. -/
theorem wit_PacketArrival :
  (∃ (s : State), ∃ (n : Nat), ∃ (p : Nat), ∃ (vc : Nat), ∃ (f : Flit), ∃ (err : BitVec 672), ∃ (rest : List (Nat × Flit)), ∃ i, niIn n p =
    true ∧ isNi n = true ∧ s.blk.wires.get [] (wkey n p) = (vc, f) :: rest ∧ hCls f.hdr = REQ ∧ s.blk.elemFenced n = false ∧ s.blk.scFenced
    (linkScope n p).1 (linkScope n p).2 = false ∧ vc < vcCount n ∧ 0 < vcDepth n vc ∧ (s.blk.elem n).ins = [] ∧ err = 0 ∧ hLen f.hdr = 0 ∧
    opKnown REQ (hOpc f.hdr) = true ∧ isLockOp REQ (hOpc f.hdr) = false ∧ noUnit n = false ∧ s.blk.stwOut n = false ∧ (s.blk.ni
    n).mask.testBit (hPart f.hdr) = true ∧ s.blk.epProfile (hEpoch f.hdr) ≠ 8 ∧ (s.blk.ni n).room REQ = true ∧ (s.blk.ni n).rx = [] ∧
    (s.blk.ni n).msgq = [] ∧ i ∈ [Instr.niPacketArrival n p err, .flitReceive n p err false]) ∧
  (∃ (s : State) (n : Nat) (p : Nat) (vc : Nat) (f : Flit) (err : BitVec 672) (rest : List (Nat × Flit)), niIn n p = true ∧ isNi n = true ∧
    s.blk.wires.get [] (wkey n p) = (vc, f) :: rest ∧ hCls f.hdr = REQ ∧ s.blk.elemFenced n = false ∧ s.blk.scFenced (linkScope n p).1
    (linkScope n p).2 = false ∧ vc < vcCount n ∧ 0 < vcDepth n vc ∧ (s.blk.elem n).ins = [] ∧ decodeErr err = none) :=
  ⟨⟨wire 131 0 1 fl id, 131, 0, 1, fl, 0, [], .niPacketArrival 131 0 0, by decide +kernel⟩,
   ⟨wire 131 0 1 fl id, 131, 0, 1, fl, 7, [], by decide +kernel, by decide +kernel, (by decide +kernel), by decide +kernel, by decide +kernel,
    (by decide +kernel), by decide +kernel, by decide +kernel, (by decide +kernel), test_three_errors_uncorrectable⟩⟩

/-- The hypotheses of Claims.AnswerArrival can be met, clause by clause. -/
theorem wit_AnswerArrival :
  (∃ (s : State) (n : Nat) (p : Nat) (g : Tag) (a : AbortPkt), niIn n p = true ∧ isNi n = true ∧ noUnit n = false ∧ s.blk.wires.get [] (wkey n
    p) = [] ∧ s.blk.aborts = [a] ∧ nodePkg (hDest a.hdr) = s.blk.pkgid ∧ nodeNi (hDest a.hdr) = n ∧ hCls a.hdr = RSP ∧ g.dup = false ∧ (hTag
    a.hdr).toNat < 1016 ∧ (s.blk.ni n).tags.find (hTag a.hdr).toNat = some g ∧ g.quar = false ∧ g.since.isSome = true ∧ g.heldAbort = none ∧
    pWord a.pay 11 2 ≠ 129 ∧ hOpc a.hdr = 0x10) ∧
  (∃ (s : State) (n : Nat) (p : Nat) (g : Tag) (a : AbortPkt), niIn n p = true ∧ isNi n = true ∧ noUnit n = false ∧ s.blk.wires.get [] (wkey n
    p) = [] ∧ s.blk.aborts = [a] ∧ nodePkg (hDest a.hdr) = s.blk.pkgid ∧ nodeNi (hDest a.hdr) = n ∧ hCls a.hdr = RSP ∧ g.dup = false ∧ (hTag
    a.hdr).toNat < 1016 ∧ (s.blk.ni n).tags.find (hTag a.hdr).toNat = some g ∧ g.quar = false ∧ g.since.isSome = true ∧ g.heldAbort = none ∧
    pWord a.pay 11 2 ≠ 129 ∧ hOpc a.hdr = 0x11) ∧
  (∃ (s : State), ∃ (n : Nat), ∃ (p : Nat), ∃ (err : BitVec 672), ∃ vc, ∃ f, ∃ rest, ∃ l, niIn n p = true ∧ isNi n = true ∧ noUnit n = false ∧
    s.blk.wires.get [] (wkey n p) = (vc, f) :: rest ∧ err = 0 ∧ hCls f.hdr = MGT ∧ hOpc f.hdr = 6 ∧ hLen f.hdr = 0 ∧ s.blk.elemFenced n =
    false ∧ s.blk.scFenced (linkScope n p).1 (linkScope n p).2 = false ∧ vc < vcCount n ∧ 0 < vcDepth n vc ∧ (s.blk.elem n).ins = [] ∧
    (s.blk.ni n).rx = [] ∧ (s.blk.ni n).msgq = [] ∧ s.blk.epProfile (hEpoch f.hdr) ≠ 8 ∧ (s.blk.ni n).outstanding (hTag f.hdr).toNat = true
    ∧ (s.blk.ni n).rels = [] ∧ (s.blk.ni n).lookups = [((hTag f.hdr).toNat, l)] ∧ (s.blk.gate n).queue = [] ∧ (pByte f.pay 51).testBit 0 =
    (s.blk.ni n).mapEpoch) :=
  ⟨⟨on fun b => { (b.modNi 131 (fun x => { x with tags := [(7, tg)] })) with aborts := [ab 0x10] }, 131, 0, tg, ab 0x10, by decide +kernel⟩,
   ⟨on fun b => { (b.modNi 131 (fun x => { x with tags := [(7, tg)] })) with aborts := [ab 0x11] }, 131, 0, tg, ab 0x11, by decide +kernel⟩,
   ⟨wire 131 0 2 fm (fun b => b.modNi 131 (fun x => { x with tags := [(1017, { since := some 3 })], lookups := [(1017, lq)] })), 131, 0, 0, 2,
    fm, [], lq, by decide +kernel⟩⟩

/-- The hypotheses of Claims.NiTimers can be met, clause by clause. -/
theorem wit_NiTimers :
  (∃ (s : State), ∃ (n : Nat), ∃ (t : Nat), ∃ (g : Tag), ∃ t0, isNi n = true ∧ s.blk.refclk = true ∧ t < 1016 ∧ (s.blk.ni n).tags.find t =
    some g ∧ g.quar = false ∧ g.heldAbort = none ∧ g.since = some t0) ∧
  (∃ (s : State) (n : Nat) (t : Nat) (g : Tag), isNi n = true ∧ s.blk.refclk = true ∧ t < 1024 ∧ (s.blk.ni n).tags.find t = some g ∧ g.quar =
    true ∧ (s.blk.ni n).lookups = [] ∧ (s.blk.ni n).rels = [] ∧ (s.blk.gate n).queue = []) ∧
  (∃ (s : State), ∃ (n : Nat), ∃ i, ∃ l, isNi n = true ∧ s.blk.refclk = true ∧ (s.blk.ni n).locks = [(i, l)] ∧ l.broken = false ∧ l.expiry ≤
    s.blk.ftOf n ∧ s.blk.now % 3200 = 0 ∧ s.blk.domSt n = 0) ∧
  (∃ (s : State) (n : Nat), isNi n = true ∧ s.blk.refclk = true ∧ (s.blk.ni n).amnesiaTo ≠ 0) :=
  ⟨⟨on fun b => b.modNi 131 (fun x => { x with tags := [(1015, tg)] }), 131, 1015, tg, 3, by decide +kernel⟩,
   ⟨on fun b => b.modNi 131 (fun x => { x with tags := [(1023, { tg with quar := true })] }), 131, 1023, { tg with quar := true }, by
    decide +kernel⟩,
   ⟨on fun b => { (b.modNi 131 (fun x => { x with locks := [(15, lk)] })) with tbs := [(0, { ft := 100 })] }, 131, 15, lk, by decide +kernel⟩,
   ⟨on fun b => b.modNi 131 (fun x => { x with amnesiaTo := 900000000 }), 131, by decide +kernel⟩⟩

/-- The hypotheses of Claims.LookupAndFilterTimers can be met, clause by clause. -/
theorem wit_LookupAndFilterTimers :
  (∃ (s : State) (n : Nat) (k : Nat) (t : Nat) (l : Lookup), isNi n = true ∧ k < 8 ∧ t < 1024 ∧ s.blk.refclk = true ∧ (s.blk.ni n).lookups =
    [(t, l)] ∧ l.second = false ∧ noUnit n = false ∧ (∃ u, u ≠ t ∧ 1016 ≤ u ∧ u < 1024 ∧ (s.blk.ni n).tags.find u = none)) ∧
  (∃ (s : State), ∃ (n : Nat), ∃ (k : Nat), ∃ (t : Nat), ∃ e, ∃ u, ∃ rest, isNi n = true ∧ k < 8 ∧ t < 1024 ∧ s.blk.refclk = true ∧ (s.blk.ni
    n).dupf = (e, u, t) :: rest) ∧
  (∃ (s : State), ∃ (n : Nat), ∃ (k : Nat), ∃ (t : Nat), ∃ e, ∃ u, ∃ rest, isNi n = true ∧ k < 8 ∧ t < 1024 ∧ s.blk.refclk = true ∧
    (s.blk.port k).exitf = (e, u, t) :: rest) :=
  ⟨⟨on fun b => b.modNi 131 (fun x => { x with tags := [(1016, { since := some 3 })], lookups := [(1016, lq)] }), 131, 7, 1016, lq, by decide,
    by decide, by decide, by decide, by decide, by decide, by decide, 1023, by decide⟩,
   ⟨on fun b => b.modNi 131 (fun x => { x with dupf := [(1, 2, 50), (3, 4, 60)] }), 131, 7, 50, 1, 2, [(3, 4, 60)], by decide +kernel⟩,
   ⟨on fun b => b.modPort 7 (fun x => { x with exitf := [(1, 2, 50), (3, 4, 60)] }), 131, 7, 50, 1, 2, [(3, 4, 60)], by decide +kernel⟩⟩

/-- The hypotheses of Claims.FlitReceive can be met, clause by clause. -/
theorem wit_FlitReceive :
  (∃ (s : State) (e : Nat) (p : Nat), (meshIn e p = true ∨ (niIn e p = true ∧ (s.blk.elem e).ins = [])) ∧ s.blk.elemFenced e = false ∧
    s.blk.linkFenced e p = false ∧ s.blk.wires.get [] (wkey e p) = []) ∧
  (∃ (s : State) (e : Nat) (p : Nat) (vc : Nat) (f : Flit) (err : BitVec 672) (rest : List (Nat × Flit)), (meshIn e p = true ∨ (niIn e p =
    true ∧ (s.blk.elem e).ins = [])) ∧ s.blk.elemFenced e = false ∧ s.blk.linkFenced e p = false ∧ s.blk.wires.get [] (wkey e p) = (vc, f)
    :: rest ∧ meshIn e p = true ∧ err = 0 ∧ vc < vcCount e ∧ ((s.blk.elem e).vc p vc).q.length < vcDepth e vc ∧ ((s.blk.elem e).vc p
    vc).drop = false ∧ (((s.blk.elem e).vc p vc).rem = 0 → hCls f.hdr ≠ 7 ∧ hEsc f.hdr ≠ 3)) ∧
  (∃ (s : State) (e : Nat) (p : Nat) (vc : Nat) (f : Flit) (err : BitVec 672) (rest : List (Nat × Flit)), (meshIn e p = true ∨ (niIn e p =
    true ∧ (s.blk.elem e).ins = [])) ∧ s.blk.elemFenced e = false ∧ s.blk.linkFenced e p = false ∧ s.blk.wires.get [] (wkey e p) = (vc, f)
    :: rest ∧ decodeErr err = none ∧ vc < vcCount e ∧ ((s.blk.elem e).vc p vc).rem = 0 ∧ (s.blk.wsh.die.get [] (dieOf e)).length < 63) ∧
  (∃ (s : State) (e : Nat) (p : Nat) (vc : Nat) (f : Flit) (err : BitVec 672) (rest : List (Nat × Flit)), (meshIn e p = true ∨ (niIn e p =
    true ∧ (s.blk.elem e).ins = [])) ∧ s.blk.elemFenced e = false ∧ s.blk.linkFenced e p = false ∧ s.blk.wires.get [] (wkey e p) = (vc, f)
    :: rest ∧ err = 0 ∧ hCls f.hdr = REQ ∧ f.copy = 0 ∧ s.blk.takenBy (pkOf f) = none ∧ s.blk.headless (pkOf f) = false) ∧
  (∃ (s : State) (e : Nat) (p : Nat) (vc : Nat) (f : Flit) (err : BitVec 672) (rest : List (Nat × Flit)), (meshIn e p = true ∨ (niIn e p =
    true ∧ (s.blk.elem e).ins = [])) ∧ s.blk.elemFenced e = false ∧ s.blk.linkFenced e p = false ∧ s.blk.wires.get [] (wkey e p) = (vc, f)
    :: rest ∧ vc < vcCount e ∧ vcDepth e vc ≤ ((s.blk.elem e).vc p vc).q.length ∧ err = 0) ∧
  (∃ (s : State) (e : Nat) (p : Nat) (vc : Nat) (f : Flit) (err : BitVec 672) (rest : List (Nat × Flit)), (meshIn e p = true ∨ (niIn e p =
    true ∧ (s.blk.elem e).ins = [])) ∧ s.blk.elemFenced e = false ∧ s.blk.linkFenced e p = false ∧ s.blk.wires.get [] (wkey e p) = (vc, f)
    :: rest ∧ vc < vcCount e ∧ ((s.blk.elem e).vc p vc).q.length < vcDepth e vc ∧ ((s.blk.elem e).vc p vc).rem = 0 ∧ decodeErr err = none) :=
  ⟨⟨on id, 9, 2, by decide +kernel⟩,
   ⟨wire 9 2 1 fl id, 9, 2, 1, fl, 0, [], by decide +kernel⟩,
   ⟨wire 9 2 1 fl id, 9, 2, 1, fl, 7, [], by decide +kernel, by decide +kernel, (by decide +kernel), by decide +kernel,
    test_three_errors_uncorrectable, by decide +kernel⟩,
   ⟨wire 9 2 1 fl id, 9, 2, 1, fl, 0, [], by decide +kernel⟩,
   ⟨wire 9 2 1 fl (fun b => b.modElem 9 (fun e => e.setVc 2 1 { q := List.replicate (vcDepth 9 1) fl })), 9, 2, 1, fl, 0, [], by
    decide +kernel⟩,
   ⟨wire 9 2 1 fl id, 9, 2, 1, fl, 7, [], by decide +kernel, by decide +kernel, (by decide +kernel), by decide +kernel, by decide +kernel, (by
    decide +kernel), by decide +kernel, test_three_errors_uncorrectable⟩⟩

/-- The hypotheses of Claims.CreditsAndForecasts can be met, clause by clause. -/
theorem wit_CreditsAndForecasts :
  (∃ (s : State) (e : Nat) (p : Nat) (vc : Nat) (a : Nat) (q : Nat), meshOut e p = true ∧ peer e p = some (a, q) ∧ vc < vcCount a ∧
    s.blk.linkFenced e p = false ∧ s.blk.elemFenced e = false ∧ s.blk.crWires.get [] (wkey e p) = []) ∧
  (∃ (s : State), ∃ (e : Nat), ∃ (p : Nat), ∃ (vc : Nat), ∃ (a : Nat), ∃ (q : Nat), ∃ rest, meshOut e p = true ∧ peer e p = some (a, q) ∧ vc <
    vcCount a ∧ s.blk.linkFenced e p = false ∧ s.blk.elemFenced e = false ∧ s.blk.crWires.get [] (wkey e p) = vc :: rest ∧ 0 < ((s.blk.elem
    e).out p).used.get 0 vc) ∧
  (∃ (s : State), ∃ (e : Nat), ∃ (p : Nat), ∃ (vc : Nat), ∃ (a : Nat), ∃ (q : Nat), ∃ rest, meshOut e p = true ∧ peer e p = some (a, q) ∧ vc <
    vcCount a ∧ s.blk.linkFenced e p = false ∧ s.blk.elemFenced e = false ∧ s.blk.crWires.get [] (wkey e p) = vc :: rest ∧ ((s.blk.elem
    e).out p).used.get 0 vc = 0) ∧
  (∃ (s : State), ∃ (e : Nat), ∃ (p : Nat), ∃ (vc : Nat), ∃ (a : Nat), ∃ (q : Nat), ∃ (x : Nat), ∃ rest, meshOut e p = true ∧ peer e p = some
    (a, q) ∧ vc < vcCount a ∧ s.blk.linkFenced e p = false ∧ s.blk.elemFenced e = false ∧ s.blk.fcWires.get [] (wkey e p) = (vc, x) :: rest) :=
  ⟨⟨on id, 131, 0, 1, 1, 5, by decide +kernel⟩,
   ⟨on fun b => { (b.modElem 131 (fun e => e.setOut 0 { used := [(1, 1)] })) with crWires := [(wkey 131 0, [1, 4])] }, 131, 0, 1, 1, 5, [4], by
    decide +kernel⟩,
   ⟨on fun b => { b with crWires := [(wkey 131 0, [1, 4])] }, 131, 0, 1, 1, 5, [4], by decide +kernel⟩,
   ⟨on fun b => { b with fcWires := [(wkey 131 0, [(1, 5), (2, 3)])] }, 131, 0, 1, 1, 5, 5, [(2, 3)], by decide +kernel⟩⟩

/-- The hypotheses of Obligations.Arbitration can be met, clause by clause. -/
theorem wit_Arbitration :
  (∃ (s : State), ∃ r, ∃ p, ∃ vc, ∃ o, ∃ d, ∃ a, ∃ q, ∃ v, ∃ f, isRouter r = true ∧ vc < 32 ∧ s.blk.elemFenced r = false ∧ s.blk.domSt r = 0 ∧
    (s.blk.elem r).ins = [(p * 32 + vc, v)] ∧ v.q = [f] ∧ v.sent = 0 ∧ hLen f.hdr = 0 ∧ (s.blk.elem r).badRows = [] ∧ s.blk.decideRoute r p
    vc f.hdr = .go o d ∧ 0 < s.blk.freeCr r o d ∧ ((s.blk.elem r).out o).held.find d = none ∧ s.blk.outReady r o = true ∧ peer r o = some
    (a, q) ∧ s.blk.domSt a = 0) ∧
  (∃ (s : State), ∃ a, isDieAdp a = true ∧ (s.blk.elem a).ins = [] ∧ s.blk.elemFenced a = false ∧ s.blk.linkStopped a = false ∧ s.blk.domSt a
    = 0 ∧ s.blk.hclkOff a = false ∧ (s.blk.link a).st = .active ∧ (s.blk.link a).nakDue = true) :=
  ⟨⟨on fun b => b.modElem 1 (fun e => { e with ins := [(161, { q := [fl] })] }), 1, 5, 1, 1, 1, 2, 3, { q := [fl] }, fl, by decide +kernel⟩,
   ⟨onLink 386 fun l => { l with st := .active, nakDue := true }, 386, by decide +kernel⟩⟩

/-- The hypotheses of Claims.MeshTimers can be met, clause by clause. -/
theorem wit_MeshTimers :
  (∃ (s : State) (r : Nat) (p : Nat) (vc : Nat) (pos : Nat) (f : Flit), isRouter r = true ∧ p < 6 ∧ vc < 21 ∧ ((s.blk.elem r).vc p vc).q[pos]?
    = some f ∧ f.ovd = false ∧ ((s.blk.elem r).vc p vc).sent = 0 ∧ s.blk.refclk = true ∧ (s.blk.tb (dieOf r)).k.natAbs ≤ 2147484 ∧ (s.blk.tb
    (dieOf r)).frac < 2 ^ 32) ∧
  (∃ (s : State) (r : Nat) (p : Nat) (vc : Nat) (f : Flit), isRouter r = true ∧ p < 6 ∧ vc < 21 ∧ ((s.blk.elem r).vc p vc).q.head? = some f ∧
    ((s.blk.elem r).vc p vc).starved = false ∧ ((s.blk.elem r).vc p vc).sent = 0 ∧ (∃ o, ((s.blk.elem r).vc p vc).out = some o ∧
    s.blk.outWaking r o = false) ∧ (s.blk.elem r).lastStarve = none) ∧
  (∃ (s : State) (r : Nat) (p : Nat) (vc : Nat), isRouter r = true ∧ p < 6 ∧ vc < 21 ∧ (s.blk.elem r).obligated p = true ∧ s.blk.outWaking r p
    = false ∧ s.blk.elemFenced r = false) :=
  ⟨⟨on fun b => b.modElem 9 (fun e => e.setVc 5 20 { q := [fl] }), 9, 5, 20, 0, fl, by decide +kernel⟩,
   ⟨on fun b => b.modElem 9 (fun e => e.setVc 5 20 { q := [fl], out := some 1 }), 9, 5, 20, fl, by decide +kernel, by decide +kernel, (by
    decide +kernel), by decide +kernel, by decide +kernel, (by decide +kernel), ⟨1, by decide +kernel⟩, by decide +kernel⟩,
   ⟨on fun b => b.modElem 9 (fun e => e.setVc 0 1 { q := [fl], out := some 5 }), 9, 5, 20, by decide +kernel⟩⟩

/-- The hypotheses of Claims.LinkWidth can be met, clause by clause. -/
theorem wit_LinkWidth :
  (∃ (s : State) (e : Nat) (p : Nat), (isRouter e || isEndpoint e) = true ∧ p < 7 ∧ (peer e p).isSome = true ∧ ((s.blk.elem e).out p).narrow =
    true ∧ (∃ kv ∈ (s.blk.elem e).ins, kv.2.out = some p ∧ kv.2.sent = 0 ∧ kv.2.q ≠ [])) ∧
  (∃ (s : State), ∃ (e : Nat), ∃ (p : Nat), ∃ t, (isRouter e || isEndpoint e) = true ∧ p < 7 ∧ (peer e p).isSome = true ∧ ((s.blk.elem e).out
    p).narrow = true ∧ (s.blk.elem e).ins = [] ∧ (s.blk.elem e).headFrom = some t) :=
  ⟨⟨on fun b => b.modElem 9 (fun e => (e.setVc 0 1 { q := [fl], out := some 1 }).setOut 1 { narrow := true }), 9, 1, by decide +kernel⟩,
   ⟨on fun b => b.modElem 9 (fun e => { e.setOut 1 { e.out 1 with narrow := true } with headFrom := some 5 }), 9, 1, 5, by decide +kernel⟩⟩

/-- The hypotheses of Claims.FrameReceive can be met, clause by clause. -/
theorem wit_FrameReceive :
  (∃ (s : State) (a : Nat) (fr : Frame) (rest : List Frame), isDieAdp a = true ∧ (s.blk.link a).inbox = fr :: rest ∧ s.blk.linkStopped a =
    false ∧ s.blk.elemFenced a = false ∧ s.blk.hclkOff a = false ∧ (s.blk.link a).st = .active ∧ fr.pm = 0 ∧ fr.ty = .data ∧ fr.slots = [] ∧
    fr.cred = [] ∧ fr.seq = (s.blk.link a).expect ∧ (s.blk.link a).replay = []) ∧
  (∃ (s : State), ∃ (a : Nat), ∃ (fr : Frame), ∃ (rest : List Frame), ∃ i, ∃ vc, ∃ f, isDieAdp a = true ∧ (s.blk.link a).inbox = fr :: rest ∧
    s.blk.linkStopped a = false ∧ s.blk.elemFenced a = false ∧ s.blk.hclkOff a = false ∧ (s.blk.link a).st = .active ∧ fr.pm = 0 ∧ fr.ty =
    .data ∧ fr.slots = [(i, vc, f)] ∧ i < 15 ∧ vc < linkVcs a ∧ vc / perOf a = hCls f.hdr ∧ fr.cred = [] ∧ fr.seq = (s.blk.link a).expect ∧
    (s.blk.elem a).ins = [] ∧ f.pool = false ∧ 0 < (s.blk.advertised a).1.getD vc 0 ∧ s.blk.ingressOk a f.hdr = true ∧ (s.blk.link
    a).dropEpoch = none) ∧
  (∃ (s : State) (a : Nat) (fr : Frame) (rest : List Frame), isDieAdp a = true ∧ (s.blk.link a).inbox = fr :: rest ∧ s.blk.linkStopped a =
    false ∧ s.blk.elemFenced a = false ∧ s.blk.hclkOff a = false ∧ (s.blk.link a).st = .active ∧ fr.pm = 0 ∧ fr.ty = .data ∧ fr.slots = [] ∧
    0 < (fr.seq + 4096 - (s.blk.link a).expect) % 4096 ∧ (fr.seq + 4096 - (s.blk.link a).expect) % 4096 < 2048 ∧ (s.blk.link a).nakOut =
    false) ∧
  (∃ (s : State), ∃ (a : Nat), ∃ (fr : Frame), ∃ (rest : List Frame), ∃ err, isDieAdp a = true ∧ (s.blk.link a).inbox = fr :: rest ∧
    s.blk.linkStopped a = false ∧ s.blk.elemFenced a = false ∧ s.blk.hclkOff a = false ∧ (s.blk.link a).st = .active ∧ fr.pm = 0 ∧
    (s.blk.link a).nakOut = false ∧ (fr.ty = .data ∨ fr.ty = .idle) ∧ ((Frame.seen false (isRidge a) fr err).crcOk = false ∨ (Frame.seen
    false (isRidge a) fr err).slotsOk = false)) ∧
  (∃ (s : State), ∃ (a : Nat), ∃ (fr : Frame), ∃ (rest : List Frame), ∃ i, isDieAdp a = true ∧ (s.blk.link a).inbox = fr :: rest ∧
    s.blk.linkStopped a = false ∧ s.blk.elemFenced a = false ∧ s.blk.hclkOff a = false ∧ (s.blk.link a).st = .active ∧ fr.pm = 0 ∧ fr.ty =
    .idle ∧ fr.slots = [] ∧ fr.seq = (s.blk.link a).expect ∧ (s.blk.link a).replay.findIdx? (fun f => f.seq == fr.ack) = some i) ∧
  (∃ (s : State) (a : Nat) (fr : Frame) (rest : List Frame), isDieAdp a = true ∧ (s.blk.link a).inbox = fr :: rest ∧ s.blk.linkStopped a =
    false ∧ s.blk.elemFenced a = false ∧ s.blk.hclkOff a = false ∧ (s.blk.link a).st = .active ∧ fr.pm = 0 ∧ fr.ty = .nak ∧ fr.slots = [] ∧
    fr.seq = (s.blk.link a).expect ∧ (s.blk.link a).replay ≠ [] ∧ (∀ f ∈ (s.blk.link a).replay, f.seq ≠ fr.ack)) :=
  ⟨⟨onLink 386 fun l => { l with st := .active, inbox := [fr .data 0 0 []] }, 386, fr .data 0 0 [], [], by decide +kernel⟩,
   ⟨onLink 386 fun l => { l with st := .active, inbox := [fr .data 0 0 [(14, 1, fl)]] }, 386, fr .data 0 0 [(14, 1, fl)], [], 14, 1, fl, by
    decide +kernel⟩,
   ⟨onLink 386 fun l => { l with st := .active, inbox := [fr .data 2047 0 []] }, 386, fr .data 2047 0 [], [], by decide +kernel⟩,
   ⟨onLink 386 fun l => { l with st := .active, inbox := [fr .idle 0 0 []] }, 386, fr .idle 0 0 [], [], BitVec.ofNat 10280 (2 ^ 10100), by
    decide +kernel⟩,
   ⟨onLink 386 fun l => { l with st := .active, inbox := [fr .idle 0 4095 []], replay := [fr .data 4094 0 [], fr .data 4095 0 []] }, 386, fr
    .idle 0 4095 [], [], 1, by decide +kernel⟩,
   ⟨onLink 386 fun l => { l with st := .active, inbox := [fr .nak 0 4093 []], replay := [fr .data 4094 0 [], fr .data 4095 0 []] }, 386, fr
    .nak 0 4093 [], [], by decide +kernel⟩⟩

/-- The hypotheses of Claims.ReplayAndRetrain can be met, clause by clause. -/
theorem wit_ReplayAndRetrain :
  (∃ (s : State) (a : Nat), isDieAdp a = true ∧ s.blk.linkStopped a = false ∧ (s.blk.link a).replay ≠ [] ∧ (s.blk.link a).st = .active ∧
    (s.blk.link a).lastReplayEv = none ∧ s.blk.refclk = true) ∧
  (∃ (s : State) (a : Nat), isDieAdp a = true ∧ s.blk.linkStopped a = false ∧ 16 ≤ (s.blk.link a).replays ∧ (s.blk.link a).st = .active ∧
    (s.blk.link a).lastRetrain = none) ∧
  (∃ (s : State), ∃ (a : Nat), ∃ t, isDieAdp a = true ∧ s.blk.linkStopped a = false ∧ 16 ≤ (s.blk.link a).replays ∧ (s.blk.link a).st =
    .active ∧ (s.blk.link a).lastRetrain = some t ∧ s.blk.now < t + 3200000000) ∧
  (∃ (s : State) (a : Nat), isDieAdp a = true ∧ s.blk.linkStopped a = false ∧ (s.blk.link a).st = .retrain ∧ (s.blk.link a).retrained = false) :=
  ⟨⟨onLink 386 fun l => { l with st := .active, replay := [fr .data 4095 0 []] }, 386, by decide +kernel⟩,
   ⟨onLink 386 fun l => { l with st := .active, replays := 16 }, 386, by decide +kernel⟩,
   ⟨onLink 386 fun l => { l with st := .active, replays := 16, lastRetrain := some 3200000 }, 386, 3200000, by decide +kernel⟩,
   ⟨onLink 386 fun l => { l with st := .retrain }, 386, by decide +kernel⟩⟩

/-- The hypotheses of Obligations.LinkTraining can be met, clause by clause. -/
theorem wit_LinkTraining :
  (∃ (s : State) (a : Nat), isDieAdp a = true ∧ s.blk.ridgelessAt a = false ∧ (s.blk.link a).st = .phyTrain ∧ dieOf a ∉ s.blk.wsh.pathLost) ∧
  (∃ (s : State), ∃ (a : Nat), ∃ lane, ∃ i, ∃ sp, ∃ l, isDieAdp a = true ∧ s.blk.ridgelessAt a = false ∧ (s.blk.link a).st = .phyTrain ∧ i <
    linkLanes (isRidge a) ∧ (s.blk.link a).phys i = lane ∧ lane < linkLanes (isRidge a) + redundant a ∧ (s.blk.link a).idleLanes a = sp ::
    l) ∧
  (∃ (s : State), ∃ (a : Nat), ∃ lane, ∃ i, isDieAdp a = true ∧ s.blk.ridgelessAt a = false ∧ (s.blk.link a).st = .phyTrain ∧ i < linkLanes
    (isRidge a) ∧ (s.blk.link a).phys i = lane ∧ lane < linkLanes (isRidge a) + redundant a ∧ (s.blk.link a).idleLanes a = [] ∧ (s.blk.link
    a).attempts < 2 ∧ (s.blk.link (farAdp a)).attempts < 2) ∧
  (∃ (s : State) (a : Nat) (p : Param) (o : Option Param), isDieAdp a = true ∧ s.blk.ridgelessAt a = false ∧ o.getD (s.blk.ownParam (farAdp
    a)) = p ∧ (s.blk.link a).st = .param ∧ paramEarly a p = false ∧ s.blk.paramOk a p = true ∧ p.rxok = true) ∧
  (∃ (s : State) (a : Nat) (p : Param) (o : Option Param), isDieAdp a = true ∧ s.blk.ridgelessAt a = false ∧ o.getD (s.blk.ownParam (farAdp
    a)) = p ∧ (s.blk.link a).st = .param ∧ paramEarly a p = false ∧ s.blk.paramOk a p = false) ∧
  (∃ (s : State) (a : Nat) (pool : Nat) (m : Nat) (depths : List Nat) (c : Option (List Nat)), isDieAdp a = true ∧ s.blk.ridgelessAt a = false
    ∧ (c.map (fun l => (l, m))).getD (ownCredits (farAdp a)) = (depths, pool) ∧ (s.blk.link a).st = .creditInit ∧ (s.blk.link a).ciGot =
    false ∧ (∀ v, v < linkVcs a → vcDepth a v ≤ depths.getD v 0 ∧ depths.getD v 0 ≤ 15) ∧ (∀ v, linkVcs a ≤ v → v < 21 → depths.getD v 0 =
    0) ∧ pool ≤ 1024) ∧
  (∃ (s : State) (a : Nat), isDieAdp a = true ∧ s.blk.ridgelessAt a = false ∧ (s.blk.link a).st = .creditInit ∧ s.blk.linkStopped a = false ∧
    (s.blk.link a).ciGot = true) ∧
  (∃ (s : State) (a : Nat), isDieAdp a = true ∧ s.blk.ridgelessAt a = false ∧ (s.blk.link a).st = .ready ∧ s.blk.linkStopped a = false) ∧
  (∃ (s : State) (a : Nat), isDieAdp a = true ∧ s.blk.ridgelessAt a = false ∧ (s.blk.link a).st = .retrain ∧ s.blk.linkStopped a = false ∧
    (s.blk.link a).replay ≠ []) ∧
  (∃ (s : State) (a : Nat), isDieAdp a = true ∧ s.blk.ridgelessAt a = false ∧ (s.blk.link a).st = .phyTrain ∧ (s.blk.link a).attempts = 2 ∧
    (s.blk.scope (linkScope a 7).1 (linkScope a 7).2).st < 3) :=
  ⟨⟨onLink 386 fun l => { l with st := .phyTrain }, 386, by decide +kernel⟩,
   ⟨onLink 386 fun l => { l with st := .phyTrain }, 386, 5, 5, _, _, by decide +kernel, by decide +kernel, (by decide +kernel), by
    decide +kernel, by decide +kernel, (by decide +kernel), rfl⟩,
   ⟨onLink 386 fun l => { l with st := .phyTrain, badSpares := List.range' (linkLanes (isRidge 386)) (redundant 386), attempts := 1 }, 386, 5,
    5, by decide +kernel⟩,
   ⟨onLink 386 fun l => { l with st := .param }, 386, pa, some pa, by decide +kernel⟩,
   ⟨onLink 386 fun l => { l with st := .param }, 386, { pa with version := 2 }, some { pa with version := 2 }, by decide +kernel⟩,
   ⟨onLink 386 fun l => { l with st := .creditInit }, 386, 1024, 1024, (List.range 21).map (fun v => if v < linkVcs 386 then 15 else 0), some
    ((List.range 21).map (fun v => if v < linkVcs 386 then 15 else 0)), by decide +kernel⟩,
   ⟨onLink 386 fun l => { l with st := .creditInit, ciGot := true }, 386, by decide +kernel⟩,
   ⟨onLink 386 fun l => { l with st := .ready }, 386, by decide +kernel⟩,
   ⟨onLink 386 fun l => { l with st := .retrain, replay := [fr .data 1 0 []] }, 386, by decide +kernel⟩,
   ⟨onLink 386 fun l => { l with st := .phyTrain, attempts := 2 }, 386, by decide +kernel⟩⟩

/-- The hypotheses of Obligations.TimeExchange can be met, clause by clause. -/
theorem wit_TimeExchange :
  (∃ (s : State) (a : Nat) (x : TimeX), isDieAdp a = true ∧ s.blk.tx a = x ∧ s.blk.tx (farAdp a) = {} ∧ x.busy = false ∧ (s.blk.link a).st =
    .timeAlign ∧ (∃ d, d < 12 ∧ s.blk.timeSrc d = a)) ∧
  (∃ (s : State) (a : Nat) (x : TimeX), isDieAdp a = true ∧ s.blk.tx a = x ∧ s.blk.tx (farAdp a) = {} ∧ x.busy = true ∧ x.phase = 1 ∧
    s.blk.timeRuns (farAdp a) = true) ∧
  (∃ (s : State), ∃ (a : Nat), ∃ (x : TimeX), ∃ y, isDieAdp a = true ∧ s.blk.tx a = x ∧ s.blk.tx (farAdp a) = {} ∧ y =
    { x with t4 := s.blk.ftOf a } ∧ x.busy = true ∧ x.phase = 2 ∧ s.blk.timeRuns a = true ∧ y.dOf ≤ (if isRidge a then 64 else 48)) ∧
  (∃ (s : State), ∃ (a : Nat), ∃ (x : TimeX), ∃ y, isDieAdp a = true ∧ s.blk.tx a = x ∧ s.blk.tx (farAdp a) = {} ∧ y =
    { x with t4 := s.blk.ftOf a } ∧ x.busy = true ∧ x.phase = 2 ∧ s.blk.timeRuns a = true ∧ (if isRidge a then 64 else 48) < y.dOf ∧ x.tries
    < 3) ∧
  (∃ (s : State) (a : Nat) (x : TimeX), isDieAdp a = true ∧ s.blk.tx a = x ∧ s.blk.tx (farAdp a) = {} ∧ x.busy = true ∧ x.phase = 3 ∧
    s.blk.timeRuns (farAdp a) = true ∧ (isRidge a = true → ∃ d, d < 12 ∧ s.blk.timeSrc d = a) ∧ x.train = true) ∧
  (∃ (s : State) (a : Nat) (x : TimeX), isDieAdp a = true ∧ s.blk.tx a = x ∧ s.blk.tx (farAdp a) = {} ∧ x.busy = true ∧ x.phase = 3 ∧
    s.blk.timeRuns (farAdp a) = true ∧ (isRidge a = true → ∃ d, d < 12 ∧ s.blk.timeSrc d = a) ∧ x.train = false) ∧
  (∃ (s : State) (a : Nat) (x : TimeX), isDieAdp a = true ∧ s.blk.tx a = x ∧ s.blk.tx (farAdp a) = {} ∧ x.busy = true ∧ 3 ≤ x.tries ∧
    (s.blk.link a).st = .active) :=
  ⟨⟨onTx 6550 .timeAlign {}, 6550, {}, by decide +kernel, by decide +kernel, (by decide +kernel), by decide +kernel, by decide +kernel, 11, by
    decide +kernel⟩,
   ⟨onTx 6550 .timeAlign { busy := true, phase := 1 }, 6550, { busy := true, phase := 1 }, by decide +kernel⟩,
   ⟨onTx 6550 .timeAlign { busy := true, phase := 2, t2 := 96 }, 6550, { busy := true, phase := 2, t2 := 96 }, _, by decide +kernel, by
    decide +kernel, (by decide +kernel), rfl, by decide +kernel⟩,
   ⟨onTx 6550 .timeAlign { busy := true, phase := 2, t2 := 98, tries := 2 }, 6550, { busy := true, phase := 2, t2 := 98, tries := 2 }, _, by
    decide +kernel, by decide +kernel, (by decide +kernel), rfl, by decide +kernel⟩,
   ⟨onTx 6550 .timeAlign { busy := true, phase := 3, train := true }, 6550, { busy := true, phase := 3, train := true }, by decide +kernel, by
    decide +kernel, (by decide +kernel), by decide +kernel, by decide +kernel, (by decide +kernel), (fun h => absurd h (by decide +kernel)),
    by decide +kernel⟩,
   ⟨onTx 6550 .active { busy := true, phase := 3 }, 6550, { busy := true, phase := 3 }, by decide +kernel, by decide +kernel, (by
    decide +kernel), by decide +kernel, by decide +kernel, (by decide +kernel), (fun h => absurd h (by decide +kernel)), by decide +kernel⟩,
   ⟨onTx 6550 .active { busy := true, tries := 3 }, 6550, { busy := true, tries := 3 }, by decide +kernel⟩⟩

/-- The hypotheses of Claims.LanesAndQuietWindows can be met, clause by clause. -/
theorem wit_LanesAndQuietWindows :
  (∃ (s : State), ∃ (a : Nat), ∃ lane, ∃ c, isDieAdp a = true ∧ (s.blk.link a).laneCorr = [(lane, c)] ∧ 32 ≤ c ∧ lane ∉ (s.blk.link
    a).suspects ∧ (s.blk.link a).st = .active ∧ s.blk.effProfile ≠ 11) ∧
  (∃ (s : State) (a : Nat) (n : Nat), isDieAdp a = true ∧ n < 24 ∧ (s.blk.lead.quietDue.contains (colIo n) || s.blk.lead.quietDue.contains
    (colAdp n)) = true ∧ (s.blk.link (colIo n)).st = .active ∧ (s.blk.link (colAdp n)).st = .active ∧ (s.blk.link (colIo n)).quietAt = none
    ∧ (s.blk.link (colAdp n)).quietAt = none ∧ (∀ x ∈ dieNis (n / 2), (s.blk.gate x).quiet = none) ∧ s.blk.wsh.starveInt = [] ∧
    s.blk.wsh.lead = []) ∧
  (∃ (s : State) (a : Nat) (n : Nat) (t : Nat) (len : Nat) (m : Nat), isDieAdp a = true ∧ isNi n = true ∧ (s.blk.gate n).quiet = some (t, len,
    m) ∧ t ≤ s.blk.ftOf n) ∧
  (∃ (s : State) (a : Nat) (t : Nat), isDieAdp a = true ∧ (s.blk.link a).quietAt = some t ∧ (s.blk.link a).st = .active ∧ s.blk.linkStopped a
    = false) ∧
  (∃ (s : State), ∃ (a : Nat), ∃ lane, ∃ sp, ∃ l, isDieAdp a = true ∧ (s.blk.link a).st = .quiet ∧ (s.blk.link a).suspects = [lane] ∧
    (s.blk.link a).idleLanes a = sp :: l ∧ (∃ i, i < linkLanes (isRidge a) ∧ (s.blk.link a).phys i = lane)) ∧
  (∃ (s : State) (a : Nat) (t : Nat), isDieAdp a = true ∧ (s.blk.link a).quietAt = some t ∧ (s.blk.link a).st = .quiet ∧ (s.blk.link
    a).calDone = true ∧ (s.blk.link (farAdp a)).quietAt.isSome = true) :=
  ⟨⟨onLink 386 fun l => { l with st := .active, laneCorr := [(3, 32)] }, 386, 3, 32, by decide +kernel⟩,
   ⟨on fun b => ((b.modLead (fun l => { l with quietDue := [colAdp 23] })).modLink (colIo 23) (fun l => { l with st := .active })).modLink
    (colAdp 23) (fun l => { l with st := .active }), colAdp 23, 23, by decide +kernel⟩,
   ⟨on fun b => b.modGate 131 (fun g => { g with quiet := some (0, 300, 7) }), 386, 131, 0, 300, 7, by decide +kernel⟩,
   ⟨onLink 386 fun l => { l with st := .active, quietAt := some 100 }, 386, 100, by decide +kernel⟩,
   ⟨onLink 386 fun l => { l with st := .quiet, suspects := [3] }, 386, 3, _, _, by decide +kernel, by decide +kernel, (by decide +kernel), rfl,
    by decide +kernel⟩,
   ⟨on fun b => (b.modLink 386 (fun l => { l with st := .quiet, quietAt := some 100, calDone := true })).modLink (farAdp 386) (fun l =>
    { l with quietAt := some 100 }), 386, 100, by decide +kernel⟩⟩

/-- The hypotheses of Claims.LinkWake can be met, clause by clause. -/
theorem wit_LinkWake :
  (∃ (s : State) (a : Nat) (d : Nat), isDieAdp a = true ∧ domOf a = some d ∧ (s.blk.dom d).st = 4 ∧ (s.blk.dom d).unarmed = false ∧
    s.blk.elemFenced a = false) ∧
  (∃ (s : State) (a : Nat) (d : Nat) (t : Nat), isDieAdp a = true ∧ domOf a = some d ∧ (s.blk.link a).wakeFrom = some t ∧ (s.blk.link a).st =
    .retained ∧ t ≤ s.blk.now ∧ s.blk.refclk = true) :=
  ⟨⟨on fun b => b.modDom 176 (fun x => { x with st := 4 }), 386, 176, by decide +kernel⟩,
   ⟨onLink 386 fun l => { l with st := .retained, wakeFrom := some 3200000 }, 386, 176, 3200000, by decide +kernel⟩⟩

/-- The hypotheses of Claims.TimeBaseAddsItsIncrement can be met, clause by clause. -/
theorem wit_TimeBaseAddsItsIncrement :
  (∃ (t : Tb), -(2 ^ 32) < t.k ∧ t.k < 2 ^ 32 ∧ t.frac < 2 ^ 32) :=
  ⟨{ k := 1 - 2 ^ 32, frac := 2 ^ 32 - 1 }, by decide +kernel⟩

/-- The hypotheses of Claims.ApplyBoundaries can be met, clause by clause. -/
theorem wit_ApplyBoundaries :
  (∃ (s : State), ∃ (b1 : Block), ∃ x, ∃ k, b1 = s.blk.elapseFt 12 (markFrom (s.blk.ft 12) 0 (s.blk.tb 12).applied) ∧ s.blk.lead.flights = []
    ∧ (s.blk.tb 12).kNext = some (x, k) ∧ x ≤ b1.ft 12 ∧ s.blk.time.steps = false ∧ s.blk.time.pendAdj = 0) ∧
  (∃ (s : State) (b1 : Block), b1 = s.blk.elapseFt 12 (markFrom (s.blk.ft 12) 0 (s.blk.tb 12).applied) ∧ s.blk.lead.flights = [] ∧ (s.blk.tb
    12).kNext = none ∧ s.blk.time.steps = false) ∧
  (∃ (s : State), ∃ (b1 : Block), ∃ n, b1 = s.blk.elapseFt 12 (markFrom (s.blk.ft 12) 0 (s.blk.tb 12).applied) ∧ s.blk.lead.flights = [] ∧ n =
    s.blk.time.pendStep + s.blk.time.pendAdj ∧ s.blk.time.steps = true ∧ s.blk.time.pendSet = none ∧ (∀ d, d < 12 → (s.blk.tb d).step = 0)) ∧
  (∃ (s : State), ∃ (b1 : Block), ∃ v, ∃ n, b1 = s.blk.elapseFt 12 (markFrom (s.blk.ft 12) 0 (s.blk.tb 12).applied) ∧ s.blk.lead.flights = []
    ∧ s.blk.time.pendSet = some v ∧ n = (v : Int) - b1.ft 12 + s.blk.time.pendAdj ∧ (∀ d, d < 12 → (s.blk.tb d).step = 0)) ∧
  (∃ (s : State), ∃ (b1 : Block), ∃ d, ∃ b2, ∃ x, ∃ k, b1 = s.blk.elapseFt 12 (markFrom (s.blk.ft 12) 0 (s.blk.tb 12).applied) ∧
    s.blk.lead.flights = [] ∧ d < 12 ∧ b2 = s.blk.elapseFt d (markFrom (s.blk.ft d) 0 (s.blk.tb d).applied) ∧ (s.blk.tb d).kNext = some (x,
    k) ∧ x ≤ b2.ft d) :=
  ⟨⟨on fun b => b.modTb 12 (fun t => { t with kNext := some (4194304, 77) }), _, 4194304, 77, rfl, by decide +kernel⟩,
   ⟨on id, _, rfl, by decide +kernel⟩,
   ⟨onTime fun t => { t with pendAdj := 321 }, _, _, rfl, by decide +kernel, rfl, by decide +kernel⟩,
   ⟨onTime fun t => { t with pendSet := some 77777777 }, _, 77777777, _, rfl, by decide +kernel, rfl, rfl, by decide +kernel⟩,
   ⟨on fun b => b.modTb 11 (fun t => { t with kNext := some (4194304, 77) }), _, 11, _, 4194304, 77, rfl, by decide +kernel, by decide +kernel,
    rfl, by decide +kernel⟩⟩

/-- The hypotheses of Obligations.ParentExchange can be met, clause by clause. -/
theorem wit_ParentExchange :
  (∃ (s : State), ∃ (k : Nat), ∃ (n : Nat), ∃ (t2 : Nat), ∃ (t3 : Nat), ∃ (d : Nat), ∃ (theta : Int), ∃ (x : PassX), ∃ b1, n < 256 ∧ k < 8 ∧
    theta = (((s.blk.ft 12 : Int) - t3) - ((t2 : Int) - x.t1)).tdiv 2 ∧ d = ((((t2 : Int) - x.t1) + ((s.blk.ft 12 : Int) - t3)).tdiv
    2).toNat ∧ b1 = s.blk.elapseTo ((s.blk.now / ms + 1) * ms) ∧ s.blk.time.parent = some k ∧ s.blk.time.leader = false ∧ s.blk.time.exch =
    none ∧ s.blk.time.exchDue = false ∧ (s.blk.dom (200 + k)).st = 0 ∧ (s.blk.link (passAdp k)).st = .active ∧ (s.blk.port k).sinceAlign <
    27) ∧
  (∃ (s : State) (k : Nat) (n : Nat) (t2 : Nat) (t3 : Nat) (d : Nat) (theta : Int) (x : PassX), n < 256 ∧ k < 8 ∧ theta = (((s.blk.ft 12 :
    Int) - t3) - ((t2 : Int) - x.t1)).tdiv 2 ∧ d = ((((t2 : Int) - x.t1) + ((s.blk.ft 12 : Int) - t3)).tdiv 2).toNat ∧ (s.blk.link (passAdp
    k)).runs = true ∧ s.blk.linkStopped (passAdp k) = false ∧ (s.blk.port k).sinceAlign < 27) ∧
  (∃ (s : State) (k : Nat) (n : Nat) (t2 : Nat) (t3 : Nat) (d : Nat) (theta : Int) (x : PassX), n < 256 ∧ k < 8 ∧ theta = (((s.blk.ft 12 :
    Int) - t3) - ((t2 : Int) - x.t1)).tdiv 2 ∧ d = ((((t2 : Int) - x.t1) + ((s.blk.ft 12 : Int) - t3)).tdiv 2).toNat ∧ s.blk.time.exch =
    some x ∧ x.num = n ∧ s.blk.time.parent = some k ∧ (s.blk.time.fresh = true ∨ s.blk.time.leastD k = none)) ∧
  (∃ (s : State), ∃ (k : Nat), ∃ (n : Nat), ∃ (t2 : Nat), ∃ (t3 : Nat), ∃ (d : Nat), ∃ (theta : Int), ∃ (x : PassX), ∃ y, n < 256 ∧ k < 8 ∧
    theta = (((s.blk.ft 12 : Int) - t3) - ((t2 : Int) - x.t1)).tdiv 2 ∧ d = ((((t2 : Int) - x.t1) + ((s.blk.ft 12 : Int) - t3)).tdiv
    2).toNat ∧ s.blk.time.exch = some x ∧ x.num = n ∧ s.blk.time.parent = some k ∧ s.blk.time.fresh = false ∧ s.blk.time.leastD k = some y ∧
    y + 32 < d ∧ s.blk.time.badRun ≠ 7) ∧
  (∃ (s : State) (k : Nat) (n : Nat) (t2 : Nat) (t3 : Nat) (d : Nat) (theta : Int) (x : PassX), n < 256 ∧ k < 8 ∧ theta = (((s.blk.ft 12 :
    Int) - t3) - ((t2 : Int) - x.t1)).tdiv 2 ∧ d = ((((t2 : Int) - x.t1) + ((s.blk.ft 12 : Int) - t3)).tdiv 2).toNat ∧ s.blk.time.exch =
    some x ∧ s.blk.time.parent = some k ∧ s.blk.time.badRun = 7) ∧
  (∃ (s : State) (k : Nat) (n : Nat) (t2 : Nat) (t3 : Nat) (d : Nat) (theta : Int) (x : PassX), n < 256 ∧ k < 8 ∧ theta = (((s.blk.ft 12 :
    Int) - t3) - ((t2 : Int) - x.t1)).tdiv 2 ∧ d = ((((t2 : Int) - x.t1) + ((s.blk.ft 12 : Int) - t3)).tdiv 2).toNat ∧ s.blk.time.leader =
    false ∧ s.blk.time.holdover = false) :=
  ⟨⟨on fun b => (b.modTime (fun t => { t with parent := some 7, leader := false })).modLink (passAdp 7) (fun l => { l with st := .active }), 7,
    255, 0, 0, _, _, ⟨255, 0, 0⟩, _, by decide, by decide, rfl, rfl, rfl, by decide +kernel⟩,
   ⟨onRun 7 id, 7, 255, 0, 0, _, _, ⟨255, 0, 0⟩, by decide, by decide, rfl, rfl, by decide +kernel⟩,
   ⟨onTime fun t => { t with parent := some 7, leader := false, exch := some ⟨255, 0, 0⟩ }, 7, 255, 0, 0, _, _, ⟨255, 0, 0⟩, by decide, by
    decide, rfl, rfl, by decide +kernel⟩,
   ⟨onTime fun t =>
    { t with parent := some 7, leader := false, exch := some ⟨255, 0, 0⟩, fresh := false, ds := [(7, [some 9, none, some 5])], badRun := 6 },
    7, 255, 100, 24, _, _, ⟨255, 0, 0⟩, 5, by decide, by decide, rfl, rfl, by decide +kernel⟩,
   ⟨onTime fun t => { t with parent := some 7, leader := false, exch := some ⟨255, 0, 0⟩, badRun := 7 }, 7, 255, 0, 0, _, _, ⟨255, 0, 0⟩, by
    decide, by decide, rfl, rfl, by decide +kernel⟩,
   ⟨onTime fun t => { t with leader := false }, 7, 255, 0, 0, _, _, ⟨255, 0, 0⟩, by decide, by decide, rfl, rfl, by decide +kernel⟩⟩

/-- The hypotheses of Claims.PpsInput can be met, clause by clause. -/
theorem wit_PpsInput :
  (∃ (s : State), ∃ (x : Nat), ∃ n, ∃ theta, s.blk.time.leader = true ∧ n = (((s.blk.ft 12 : Int) - s.blk.time.ppsV) + second / 2) / second ∧
    theta = (s.blk.ft 12 : Int) - (s.blk.time.ppsV + n * second) ∧ s.blk.time.ppsArmed = true ∧ s.blk.time.ppsWait = none ∧
    s.blk.time.ppsLast = some x ∧ x ≤ s.blk.now ∧ 900 * ms ≤ s.blk.now - x ∧ s.blk.now - x ≤ 1100 * ms ∧ s.blk.time.locked = true ∧
    theta.natAbs ≤ 320 ∧ (s.blk.tb 12).kNext = none) ∧
  (∃ (s : State) (x : Nat), s.blk.time.leader = true ∧ s.blk.time.ppsArmed = true ∧ s.blk.time.ppsLast = some x ∧ (s.blk.now - x < 900 * ms ∨
    1100 * ms < s.blk.now - x) ∧ s.blk.time.ppsRejAt = none) ∧
  (∃ (s : State) (v : Nat) (t0 : Nat), s.blk.time.leader = true ∧ s.blk.time.ppsWait = some (v, t0) ∧ s.blk.time.ppsLast = none ∧ v < 2 ^ 64 ∧
    s.blk.lead.flights = []) :=
  ⟨⟨on fun b =>
    { (b.modTime (fun t => { t with ppsArmed := true, locked := true, ppsLast := some 0 })).modTb 12 (fun t => { t with ft := 320 }) with now := 900 * ms },
    0, _, _, rfl, rfl, rfl, by decide +kernel⟩,
   ⟨onTime fun t => { t with ppsArmed := true, ppsLast := some 0 }, 0, by decide +kernel⟩,
   ⟨onTime fun t => { t with ppsWait := some (2 ^ 64 - 1, 0) }, 2 ^ 64 - 1, 0, by decide +kernel⟩⟩

/-- The hypotheses of Claims.TimestampPins can be met, clause by clause. -/
theorem wit_TimestampPins :
  (∃ (s : State), ∃ m, m = s.blk.ft 12 / second * second ∧ s.blk.ft 12 < m + 2 ∧ s.blk.ts.ppsAt ≠ some m) ∧
  (∃ (s : State), ∃ m, m = s.blk.ft 12 / second * second ∧ (m + 2 ≤ s.blk.ft 12 ∨ s.blk.ts.ppsAt = some m)) ∧
  (∃ (s : State) (x : Nat), s.blk.ts.lastEdge = some x ∧ s.blk.now < x + 160) ∧
  (∃ (s : State), s.blk.ts.lastEdge = none ∧ s.blk.ts.lastEv = none) ∧
  (∃ (s : State) (x : Nat), s.blk.ts.lastEdge = none ∧ s.blk.ts.lastEv = some x ∧ s.blk.ft 12 < x + ms) ∧
  (∃ (s : State) (cap : Nat), s.blk.ts.waiting = some cap) ∧
  (∃ (s : State), s.blk.ts.armed = true) :=
  ⟨⟨on fun b => b.modTb 12 (fun t => { t with ft := second + 1 }), second, by decide +kernel⟩,
   ⟨on fun b => b.modTb 12 (fun t => { t with ft := second + 2 }), second, by decide +kernel⟩,
   ⟨on fun b => { b with ts := { b.ts with lastEdge := some 3199841 } }, 3199841, by decide +kernel⟩,
   ⟨on id, by decide +kernel⟩,
   ⟨on fun b => { b with ts := { b.ts with lastEv := some 0 } }, 0, by decide +kernel⟩,
   ⟨on fun b => { b with ts := { b.ts with waiting := some 5 } }, 5, by decide +kernel⟩,
   ⟨on id, by decide +kernel⟩⟩

/-- The hypotheses of Obligations.PassCables can be met, clause by clause. -/
theorem wit_PassCables :
  (∃ (s : State) (k : Nat), k < 8 ∧ s.blk.wsh.refLost = false ∧ (s.blk.port k).present = false ∧ (s.blk.port k).st = 0) ∧
  (∃ (s : State), ∃ (k : Nat), ∃ x, k < 8 ∧ s.blk.wsh.refLost = false ∧ (s.blk.port k).present = x) ∧
  (∃ (s : State) (k : Nat), k < 8 ∧ s.blk.wsh.refLost = false ∧ (s.blk.port k).present = true ∧ (s.blk.port k).st = 2) ∧
  (∃ (s : State) (k : Nat), k < 8 ∧ s.blk.wsh.refLost = false ∧ (s.blk.port k).present = true ∧ (s.blk.port k).st = 6) ∧
  (∃ (s : State) (k : Nat), k < 8 ∧ s.blk.wsh.refLost = false ∧ (s.blk.port k).step = 1 ∧ (s.blk.port k).st ≠ 10) ∧
  (∃ (s : State), ∃ (k : Nat), ∃ ok, ∃ lanes, k < 8 ∧ s.blk.wsh.refLost = false ∧ (s.blk.port k).step = 1 ∧ (ok = false ∨ lanes ≠ 18)) ∧
  (∃ (s : State) (k : Nat), k < 8 ∧ s.blk.wsh.refLost = false ∧ ((s.blk.port k).step = 1 ∨ (s.blk.port k).flagRead = true) ∧ (s.blk.port
    k).cmisFails < 2) ∧
  (∃ (s : State) (k : Nat), k < 8 ∧ s.blk.wsh.refLost = false ∧ ((s.blk.port k).step = 1 ∨ (s.blk.port k).flagRead = true) ∧ (s.blk.port
    k).cmisFails = 2) ∧
  (∃ (s : State) (k : Nat), k < 8 ∧ s.blk.wsh.refLost = false ∧ (s.blk.port k).st = 6 ∧ (s.blk.port k).pwr = true) ∧
  (∃ (s : State) (k : Nat), k < 8 ∧ s.blk.wsh.refLost = false ∧ (s.blk.port k).st = 0 ∧ (s.blk.port k).attn = .slow) :=
  ⟨⟨on id, 7, by decide +kernel⟩,
   ⟨onPort 7 fun p => { p with present := true }, 7, true, by decide +kernel⟩,
   ⟨onPort 7 fun p => { p with present := true, st := 2 }, 7, by decide +kernel⟩,
   ⟨onPort 7 fun p => { p with present := true, st := 6 }, 7, by decide +kernel⟩,
   ⟨onPort 7 fun p => { p with step := 1 }, 7, by decide +kernel⟩,
   ⟨onPort 7 fun p => { p with step := 1 }, 7, true, 17, by decide +kernel⟩,
   ⟨onPort 7 fun p => { p with flagRead := true, cmisFails := 1 }, 7, by decide +kernel⟩,
   ⟨onPort 7 fun p => { p with step := 1, cmisFails := 2 }, 7, by decide +kernel⟩,
   ⟨onPort 7 fun p => { p with st := 6, pwr := true }, 7, by decide +kernel⟩,
   ⟨onPort 7 fun p => { p with attn := .slow }, 7, by decide +kernel⟩⟩

/-- The hypotheses of Obligations.PassService can be met, clause by clause. -/
theorem wit_PassService :
  (∃ (s : State) (k : Nat) (held : Nat), k < 8 ∧ s.blk.wsh.refLost = false ∧ (s.blk.port k).button = false ∧ held < (s.blk.port k).buttonMs) ∧
  (∃ (s : State) (k : Nat) (held : Nat), k < 8 ∧ s.blk.wsh.refLost = false ∧ ((s.blk.port k).button = true ∨ (s.blk.port k).buttonMs ≤ held) ∧
    (s.blk.port k).stuck = false ∧ 20 ≤ held ∧ held ≤ (s.blk.port k).maxPress ∧ ((s.blk.port k).st = 2 ∨ (s.blk.port k).st = 3)) ∧
  (∃ (s : State) (k : Nat) (held : Nat), k < 8 ∧ s.blk.wsh.refLost = false ∧ ((s.blk.port k).button = true ∨ (s.blk.port k).buttonMs ≤ held) ∧
    (s.blk.port k).stuck = false ∧ 20 ≤ held ∧ held ≤ (s.blk.port k).maxPress ∧ (s.blk.port k).st = 4) ∧
  (∃ (s : State) (k : Nat) (held : Nat), k < 8 ∧ s.blk.wsh.refLost = false ∧ ((s.blk.port k).button = true ∨ (s.blk.port k).buttonMs ≤ held) ∧
    (s.blk.port k).stuck = false ∧ 20 ≤ held ∧ held ≤ (s.blk.port k).maxPress ∧ ((s.blk.port k).st = 5 ∨ (s.blk.port k).st = 9 ∨ (s.blk.port
    k).st = 1 ∨ (s.blk.port k).st = 0)) ∧
  (∃ (s : State) (k : Nat) (held : Nat), k < 8 ∧ s.blk.wsh.refLost = false ∧ ((s.blk.port k).button = true ∨ (s.blk.port k).buttonMs ≤ held) ∧
    (s.blk.port k).stuck = false ∧ 20 ≤ held ∧ held ≤ (s.blk.port k).maxPress ∧ (s.blk.port k).st = 7) ∧
  (∃ (s : State) (k : Nat) (held : Nat), k < 8 ∧ s.blk.wsh.refLost = false ∧ ((s.blk.port k).button = true ∨ (s.blk.port k).buttonMs ≤ held) ∧
    (s.blk.port k).stuck = false ∧ 20 ≤ held ∧ held ≤ (s.blk.port k).maxPress ∧ (s.blk.port k).st = 6 ∧ (s.blk.port k).present = true) ∧
  (∃ (s : State) (k : Nat) (held : Nat), k < 8 ∧ s.blk.wsh.refLost = false ∧ (s.blk.port k).button = true ∧ held < 20) ∧
  (∃ (s : State) (k : Nat) (held : Nat), k < 8 ∧ s.blk.wsh.refLost = false ∧ ((s.blk.port k).button = true ∨ (s.blk.port k).buttonMs ≤ held) ∧
    (s.blk.port k).stuck = false ∧ 20 ≤ held ∧ (s.blk.port k).maxPress < held) ∧
  (∃ (s : State) (k : Nat), k < 8 ∧ s.blk.wsh.refLost = false ∧ (s.blk.port k).st = 4 ∧ (s.blk.elapseTo ((s.blk.port k).since + 5 *
    second)).serviceOk k = true) ∧
  (∃ (s : State) (k : Nat), k < 8 ∧ s.blk.wsh.refLost = false ∧ (s.blk.port k).st = 4 ∧ (s.blk.elapseTo ((s.blk.port k).since + 5 *
    second)).serviceOk k = false) ∧
  (∃ (s : State) (k : Nat), k < 8 ∧ s.blk.wsh.refLost = false ∧ (s.blk.port k).st = 5 ∧ (s.blk.port k).sinceAlign < 25) ∧
  (∃ (s : State) (k : Nat), k < 8 ∧ s.blk.wsh.refLost = false ∧ (s.blk.port k).st = 9) ∧
  (∃ (s : State) (k : Nat) (c : Nat), k < 8 ∧ s.blk.wsh.refLost = false ∧ (s.blk.port k).st = 2 ∧ (c = 1 ∨ c = 2)) :=
  ⟨⟨on id, 7, 0, by decide +kernel⟩,
   ⟨onPort 7 fun p => { p with st := 3 }, 7, 5000, by decide +kernel⟩,
   ⟨onPort 7 fun p => { p with st := 4, button := true }, 7, 20, by decide +kernel⟩,
   ⟨onPort 7 fun p => { p with st := 9, button := true }, 7, 20, by decide +kernel⟩,
   ⟨onPort 7 fun p => { p with st := 7 }, 7, 5000, by decide +kernel⟩,
   ⟨onPort 7 fun p => { p with st := 6, present := true, button := true }, 7, 20, by decide +kernel⟩,
   ⟨onPort 7 fun p => { p with button := true }, 7, 19, by decide +kernel⟩,
   ⟨onPort 7 fun p => { p with st := 9 }, 7, 5001, by decide +kernel⟩,
   ⟨onPort 7 fun p => { p with st := 4 }, 7, by decide +kernel⟩,
   ⟨on fun b => { b.modPort 7 (fun p => { p with st := 4 }) with members := [(3, { serial := 1, prio := 8, reach := true })] }, 7, by
    decide +kernel⟩,
   ⟨onPort 7 fun p => { p with st := 5 }, 7, by decide +kernel⟩,
   ⟨onPort 7 fun p => { p with st := 9 }, 7, by decide +kernel⟩,
   ⟨onPort 7 fun p => { p with st := 2 }, 7, 2, by decide +kernel⟩⟩

/-- The hypotheses of Obligations.PassJoining can be met, clause by clause. -/
theorem wit_PassJoining :
  (∃ (s : State) (k : Nat) (d : Nat) (far : List FarMember), (Instr.join k d far).WellFormed = true ∧ s.blk.wsh.refLost = false ∧ (s.blk.port
    k).st = 1 ∧ (s.blk.port k).step = 6 ∧ (s.blk.link (passAdp k)).st = .active ∧ s.blk.lead.bootRom = false ∧ s.blk.lead.restarting = false
    ∧ 1920 < d) ∧
  (∃ (s : State), ∃ (k : Nat), ∃ (d : Nat), ∃ (far : List FarMember), ∃ kind, (Instr.join k d far).WellFormed = true ∧ s.blk.wsh.refLost =
    false ∧ (s.blk.port k).st = 1 ∧ (s.blk.port k).step = 6 ∧ (s.blk.link (passAdp k)).st = .active ∧ s.blk.lead.bootRom = false ∧
    s.blk.lead.restarting = false ∧ d ≤ 1920 ∧ s.blk.joinRefusal k far = some kind) ∧
  (∃ (s : State), ∃ (k : Nat), ∃ (d : Nat), ∃ (far : List FarMember), ∃ x, (Instr.join k d far).WellFormed = true ∧ s.blk.wsh.refLost = false
    ∧ (s.blk.port k).st = 1 ∧ (s.blk.port k).step = 6 ∧ (s.blk.link (passAdp k)).st = .active ∧ s.blk.lead.bootRom = false ∧
    s.blk.lead.restarting = false ∧ d ≤ 1920 ∧ s.blk.joinRefusal k far = none ∧ far = [x] ∧ x.id ≠ s.blk.pkgid) ∧
  (∃ (s : State), ∃ (k : Nat), ∃ (d : Nat), ∃ (far : List FarMember), ∃ x, (Instr.join k d far).WellFormed = true ∧ s.blk.wsh.refLost = false
    ∧ (s.blk.port k).st = 2 ∧ s.blk.lead.bootRom = false ∧ s.blk.lead.restarting = false ∧ far = [x] ∧ x.id ≠ s.blk.pkgid) ∧
  (∃ (s : State), ∃ (k : Nat), ∃ (d : Nat), ∃ (far : List FarMember), ∃ i, ∃ m, (Instr.join k d far).WellFormed = true ∧ s.blk.wsh.refLost =
    false ∧ i < 16 ∧ s.blk.members.find i = some m ∧ m.reach = false ∧ i ≠ s.blk.pkgid) :=
  ⟨⟨onJoin 7 id, 7, 1921, [⟨3, 5, 8, []⟩], by decide +kernel⟩,
   ⟨onJoin 7 fun p => { p with far := some (2, 5) }, 7, 1920, [⟨2, 5, 8, []⟩], 0x52, by decide +kernel⟩,
   ⟨onJoin 7 fun p => { p with far := some (3, 5) }, 7, 1920, [⟨3, 5, 8, []⟩], ⟨3, 5, 8, []⟩, by decide +kernel⟩,
   ⟨on fun b => (b.modPort 7 (fun p => { p with st := 2 })).modLead (fun l => { l with bootRom := false }), 7, 0, [⟨3, 5, 8, []⟩], ⟨3, 5, 8,
    []⟩, by decide +kernel⟩,
   ⟨on fun b => { b with members := [(15, { serial := 1, prio := 8, reach := false })] }, 7, 0, [⟨3, 5, 8, []⟩], 15,
    { serial := 1, prio := 8, reach := false }, by decide +kernel⟩⟩

/-- The hypotheses of Obligations.LaneRotation can be met, clause by clause. -/
theorem wit_LaneRotation :
  (∃ (s : State) (k : Nat) (num : Nat) (m : List Nat) (p : Pass) (x : Nat) (y : Nat), k < 8 ∧ num < 65536 ∧ m.length = 18 ∧ p = s.blk.port k ∧
    (x, y) = p.rotLanes ∧ (s.blk.link (passAdp k)).runs = true ∧ s.blk.linkStopped (passAdp k) = false ∧ p.calLeft = 0 ∧ p.rotStep = none ∧
    s.blk.rotReady k = true) ∧
  (∃ (s : State), ∃ (k : Nat), ∃ (num : Nat), ∃ (m : List Nat), ∃ (p : Pass), ∃ (x : Nat), ∃ (y : Nat), ∃ (t : Nat), ∃ mp, ∃ u, k < 8 ∧ num <
    65536 ∧ m.length = 18 ∧ p = s.blk.port k ∧ (x, y) = p.rotLanes ∧ (s.blk.link (passAdp k)).runs = true ∧ s.blk.linkStopped (passAdp k) =
    false ∧ p.calLeft = 0 ∧ p.rotStep = some (1, t) ∧ p.prop = some (mp, u)) ∧
  (∃ (s : State), ∃ (k : Nat), ∃ (num : Nat), ∃ (m : List Nat), ∃ (p : Pass), ∃ (x : Nat), ∃ (y : Nat), ∃ (t : Nat), ∃ mp, k < 8 ∧ num < 65536
    ∧ m.length = 18 ∧ p = s.blk.port k ∧ (x, y) = p.rotLanes ∧ (s.blk.link (passAdp k)).runs = true ∧ s.blk.linkStopped (passAdp k) = false
    ∧ p.calLeft = 0 ∧ (s.blk.ford (.passPort k)).stopped = false ∧ 27 ≤ p.sinceAlign ∧ s.blk.takesFrames (passAdp k) = true ∧ s.blk.domSt
    (passAdp k) = 0 ∧ (s.blk.elem (passAdp k)).ins = [] ∧ p.prop = some (mp, (p.alignTx + 1) % 65536) ∧ p.mapAck = true ∧ p.rotStep = some
    (1, t)) ∧
  (∃ (s : State), ∃ (k : Nat), ∃ (num : Nat), ∃ (m : List Nat), ∃ (p : Pass), ∃ (x : Nat), ∃ (y : Nat), ∃ (t : Nat), ∃ mp, k < 8 ∧ num < 65536
    ∧ m.length = 18 ∧ p = s.blk.port k ∧ (x, y) = p.rotLanes ∧ (s.blk.link (passAdp k)).runs = true ∧ s.blk.linkStopped (passAdp k) = false
    ∧ p.calLeft = 0 ∧ (s.blk.ford (.passPort k)).stopped = false ∧ 27 ≤ p.sinceAlign ∧ s.blk.takesFrames (passAdp k) = true ∧ s.blk.domSt
    (passAdp k) = 0 ∧ (s.blk.elem (passAdp k)).ins = [] ∧ p.prop = some (mp, (p.alignTx + 1) % 65536) ∧ p.mapAck = true ∧ p.rotStep = some
    (6, t)) ∧
  (∃ (s : State), ∃ (k : Nat), ∃ (num : Nat), ∃ (m : List Nat), ∃ (p : Pass), ∃ (x : Nat), ∃ (y : Nat), ∃ mp, k < 8 ∧ num < 65536 ∧ m.length =
    18 ∧ p = s.blk.port k ∧ (x, y) = p.rotLanes ∧ (s.blk.link (passAdp k)).runs = true ∧ s.blk.linkStopped (passAdp k) = false ∧ p.calLeft =
    0 ∧ (s.blk.ford (.passPort k)).stopped = false ∧ 27 ≤ p.sinceAlign ∧ s.blk.takesFrames (passAdp k) = true ∧ s.blk.domSt (passAdp k) = 0
    ∧ (s.blk.elem (passAdp k)).ins = [] ∧ p.prop = some (mp, (p.alignTx + 1) % 65536) ∧ p.mapAck = false) ∧
  (∃ (s : State) (k : Nat) (num : Nat) (m : List Nat) (p : Pass) (x : Nat) (y : Nat) (t : Nat), k < 8 ∧ num < 65536 ∧ m.length = 18 ∧ p =
    s.blk.port k ∧ (x, y) = p.rotLanes ∧ (s.blk.link (passAdp k)).runs = true ∧ s.blk.linkStopped (passAdp k) = false ∧ p.calLeft = 0 ∧
    p.rotStep = some (2, t) ∧ p.prop = none) ∧
  (∃ (s : State), ∃ (k : Nat), ∃ (num : Nat), ∃ (m : List Nat), ∃ (p : Pass), ∃ (x : Nat), ∃ (y : Nat), ∃ c, k < 8 ∧ num < 65536 ∧ m.length =
    18 ∧ p = s.blk.port k ∧ (x, y) = p.rotLanes ∧ (s.blk.link (passAdp k)).runs = true ∧ s.blk.linkStopped (passAdp k) = false ∧ p.calLeft =
    0 ∧ (laneBytes p.mapRx).find? (fun c => 0x20 ≤ c) = some c) ∧
  (∃ (s : State), ∃ (k : Nat), ∃ (num : Nat), ∃ (m : List Nat), ∃ (p : Pass), ∃ (x : Nat), ∃ (y : Nat), ∃ sp, k < 8 ∧ num < 65536 ∧ m.length =
    18 ∧ p = s.blk.port k ∧ (x, y) = p.rotLanes ∧ (s.blk.link (passAdp k)).runs = true ∧ s.blk.linkStopped (passAdp k) = false ∧ p.calLeft =
    0 ∧ (laneBytes p.mapRx).find? (fun c => 0x20 ≤ c) = none ∧ idleSpare p.mapRx = some sp ∧ s.blk.effProfile = 11 ∧ (s.blk.link (passAdp
    k)).suspects.contains sp = false) ∧
  (∃ (s : State), ∃ (k : Nat), ∃ (num : Nat), ∃ (m : List Nat), ∃ (p : Pass), ∃ (x : Nat), ∃ (y : Nat), ∃ l, k < 8 ∧ num < 65536 ∧ m.length =
    18 ∧ p = s.blk.port k ∧ (x, y) = p.rotLanes ∧ (s.blk.link (passAdp k)).runs = true ∧ s.blk.linkStopped (passAdp k) = false ∧ p.calLeft =
    0 ∧ l < 18 ∧ p.rotStep = none ∧ p.prop = none ∧ laneCode p.mapTx l = 0x10 ∧ s.blk.effProfile = 11) ∧
  (∃ (s : State) (k : Nat) (num : Nat) (m : List Nat) (p : Pass) (x : Nat) (y : Nat) (t : Nat), k < 8 ∧ num < 65536 ∧ m.length = 18 ∧ p =
    s.blk.port k ∧ (x, y) = p.rotLanes ∧ (s.blk.link (passAdp k)).runs = true ∧ s.blk.linkStopped (passAdp k) = false ∧ p.calLeft = 0 ∧
    p.rotStep = some (4, t) ∧ laneBytes (rotMap p.mapTx 6 p.rotLane x y) ≠ laneBytes p.mapTx) ∧
  (∃ (s : State), ∃ (k : Nat), ∃ (num : Nat), ∃ (m : List Nat), ∃ (p : Pass), ∃ (x : Nat), ∃ (y : Nat), ∃ l, ∃ sp, k < 8 ∧ num < 65536 ∧
    m.length = 18 ∧ p = s.blk.port k ∧ (x, y) = p.rotLanes ∧ (s.blk.link (passAdp k)).runs = true ∧ s.blk.linkStopped (passAdp k) = false ∧
    p.calLeft = 0 ∧ l < 18 ∧ p.rotStep = none ∧ p.prop = none ∧ laneCode p.mapTx l < 16 ∧ idleSpare p.mapTx = some sp) :=
  ⟨⟨onRun 7 fun p => { p with st := 2 }, 7, 65535, List.replicate 18 0, _, 0, 16, by decide +kernel, by decide +kernel, (by decide +kernel),
    rfl, by decide +kernel⟩,
   ⟨onRun 7 fun p => { p with st := 2, rotStep := some (1, 5), prop := some ([], 9) }, 7, 65535, List.replicate 18 0, _, 0, 16, 5, [], 9, by
    decide +kernel, by decide +kernel, (by decide +kernel), rfl, by decide +kernel⟩,
   ⟨onRun 7 fun p => { p with st := 2, rotStep := some (1, 5), sinceAlign := 27, prop := some ([], 1), mapAck := true }, 7, 65535,
    List.replicate 18 0, _, 0, 16, 5, [], by decide +kernel, by decide +kernel, (by decide +kernel), rfl, by decide +kernel⟩,
   ⟨onRun 7 fun p => { p with st := 2, rotStep := some (6, 5), sinceAlign := 27, prop := some ([], 1), mapAck := true }, 7, 65535,
    List.replicate 18 0, _, 0, 16, 5, [], by decide +kernel, by decide +kernel, (by decide +kernel), rfl, by decide +kernel⟩,
   ⟨onRun 7 fun p => { p with st := 2, sinceAlign := 27, prop := some ([], 1) }, 7, 65535, List.replicate 18 0, _, 0, 16, [], by
    decide +kernel, by decide +kernel, (by decide +kernel), rfl, by decide +kernel⟩,
   ⟨onRun 7 fun p => { p with st := 2, rotStep := some (2, 5) }, 7, 65535, List.replicate 18 0, _, 0, 16, 5, by decide +kernel, by
    decide +kernel, (by decide +kernel), rfl, by decide +kernel⟩,
   ⟨onRun 7 fun p => { p with st := 2, mapRx := [(16, 0x20)] }, 7, 65535, List.replicate 18 0, _, 0, 16, 0x20, by decide +kernel, by
    decide +kernel, (by decide +kernel), rfl, by decide +kernel⟩,
   ⟨on fun b => ((b.modLead (fun l => { l with profile := 11 })).modLink (passAdp 7) (fun l => { l with st := .active })), 7, 65535,
    List.replicate 18 0, _, _, _, 16, by decide +kernel, by decide +kernel, (by decide +kernel), rfl, rfl, by decide +kernel⟩,
   ⟨on fun b => ((b.modLead (fun l => { l with profile := 11 })).modLink (passAdp 7) (fun l => { l with st := .active })), 7, 65535,
    List.replicate 18 0, _, _, _, 16, by decide +kernel, by decide +kernel, (by decide +kernel), rfl, rfl, by decide +kernel⟩,
   ⟨onRun 7 fun p => { p with st := 2, rotStep := some (4, 5), mapTx := [(0, 0x12), (16, 0)] }, 7, 65535, List.replicate 18 0, _, 0, 16, 5, by
    decide +kernel, by decide +kernel, (by decide +kernel), rfl, by decide +kernel⟩,
   ⟨onRun 7 fun p => { p with st := 2 }, 7, 65535, List.replicate 18 0, _, 0, 16, 15, 16, by decide +kernel, by decide +kernel, (by
    decide +kernel), rfl, by decide +kernel⟩⟩

/-- The hypotheses of Obligations.EntryIntoRetention can be met, clause by clause. -/
theorem wit_EntryIntoRetention :
  (∃ (s : State) (d : Nat) (t : Nat), d < 272 ∧ s.blk.idleTimer d = some t ∧ (s.blk.dom d).st = 0 ∧ (s.blk.dom d).target = none ∧
    s.blk.domActive d = true ∧ s.blk.domIdle d = true ∧ d < 128) ∧
  (∃ (s : State), ∃ (d : Nat), ∃ (t : Nat), ∃ a, d < 272 ∧ s.blk.idleTimer d = some t ∧ (s.blk.dom d).st = 0 ∧ (s.blk.dom d).target = none ∧
    s.blk.domActive d = true ∧ s.blk.domIdle d = true ∧ d < 208 ∧ domAdp d = some a ∧ (s.blk.link a).st = .active) ∧
  (∃ (s : State) (d : Nat), d < 272 ∧ (s.blk.dom d).st = 1 ∧ s.blk.domIdle d = true ∧ (s.blk.dom d).target = none) ∧
  (∃ (s : State) (d : Nat), d < 272 ∧ (s.blk.dom d).st = 3 ∧ (s.blk.dom d).target = none) ∧
  (∃ (s : State) (d : Nat), d < 272 ∧ (s.blk.dom d).st = 1 ∧ s.blk.domIdle d = false ∧ (s.blk.dom d).target = none) ∧
  (∃ (s : State) (d : Nat), d < 272 ∧ (s.blk.dom d).st = 4 ∧ (s.blk.dom d).unarmed = true) :=
  ⟨⟨on fun b => (b.modLead (fun l => { l with applied := 4 })).modDom 127 (fun x => { x with timer := some 3 }), 127, 3, by decide +kernel⟩,
   ⟨on fun b => ((b.modLead (fun l => { l with applied := 4 })).modDom 207 (fun x => { x with timer := some 3 })).modLink 6559 (fun l =>
    { l with st := .active }), 207, 3, 6559, by decide +kernel⟩,
   ⟨onDom 271 fun x => { x with st := 1 }, 271, by decide +kernel⟩,
   ⟨onDom 271 fun x => { x with st := 3 }, 271, by decide +kernel⟩,
   ⟨wire (((domElems 0).filter isRouter).headD 0) 0 0 {} (fun b => b.modDom 0 (fun x => { x with st := 1 })), 0, by decide +kernel⟩,
   ⟨onDom 271 fun x => { x with st := 4, unarmed := true }, 271, by decide +kernel⟩⟩

/-- The hypotheses of Obligations.WakingDomains can be met, clause by clause. -/
theorem wit_WakingDomains :
  (∃ (s : State) (d : Nat) (code : Nat) (detail : Nat), (Instr.domainWake d code detail).WellFormed = true ∧ (s.blk.dom d).target = none ∧
    s.blk.domActive d = true ∧ (s.blk.dom d).st = 4 ∧ (s.blk.dom d).unarmed = false) ∧
  (∃ (s : State) (d : Nat) (code : Nat) (detail : Nat), (Instr.domainWake d code detail).WellFormed = true ∧ (s.blk.dom d).target = none ∧
    s.blk.domActive d = true ∧ 1 ≤ (s.blk.dom d).st ∧ (s.blk.dom d).st ≤ 3 ∧ (d < 128 ∨ 1 < code)) ∧
  (∃ (s : State) (d : Nat) (code : Nat) (detail : Nat), (Instr.domainWake d code detail).WellFormed = true ∧ (s.blk.dom d).target = none ∧ 1 ≤
    (s.blk.dom d).st ∧ (s.blk.dom d).st ≤ 3 ∧ 128 ≤ d ∧ code ≤ 1) ∧
  (∃ (s : State) (d : Nat) (code : Nat) (detail : Nat), (Instr.domainWake d code detail).WellFormed = true ∧ (s.blk.dom d).target = none ∧
    (s.blk.dom d).st = 4 ∧ (s.blk.dom d).unarmed = true ∧ (code = 3 ∨ code = 4)) ∧
  (∃ (s : State) (d : Nat) (code : Nat) (detail : Nat), (Instr.domainWake d code detail).WellFormed = true ∧ (s.blk.dom d).target = none ∧
    (s.blk.dom d).st = 7 ∧ code ≠ 6 ∧ code ≠ 7) ∧
  (∃ (s : State) (d : Nat) (code : Nat) (detail : Nat) (sigs : List (Nat × BitVec 32)), (Instr.domainWake d code detail).WellFormed = true ∧
    (s.blk.dom d).target = none ∧ (s.blk.dom d).st = 5 ∧ (s.blk.dom d).wakeFrom = 4 ∧ s.blk.domFenced d = false ∧ (∀ y ∈ sigs, ∀ v,
    (s.blk.dom d).sigs.find y.1 = some v → v = y.2)) ∧
  (∃ (s : State), ∃ (d : Nat), ∃ (code : Nat), ∃ (detail : Nat), ∃ (n : Nat), ∃ v, ∃ w, (Instr.domainWake d code detail).WellFormed = true ∧
    (s.blk.dom d).target = none ∧ (s.blk.dom d).st = 5 ∧ (s.blk.dom d).wakeFrom = 4 ∧ s.blk.domFenced d = false ∧ (s.blk.dom d).sigs.find n
    = some v ∧ v ≠ w ∧ bankKind n < 4 ∧ s.blk.stwUp (regionPair (domRegion d)) = true) ∧
  (∃ (s : State) (d : Nat) (code : Nat) (detail : Nat) (n : Nat), (Instr.domainWake d code detail).WellFormed = true ∧ (s.blk.dom d).target =
    none ∧ (s.blk.dom d).st = 6 ∧ (s.blk.dom d).noGold = false ∧ (s.blk.dom d).stale = [n] ∧ s.blk.domFenced d = false ∧ s.blk.reloadWaits d
    = false) ∧
  (∃ (s : State) (d : Nat) (code : Nat) (detail : Nat), (Instr.domainWake d code detail).WellFormed = true ∧ (s.blk.dom d).target = none ∧
    (s.blk.dom d).st = 6 ∧ s.blk.reloadWaits d = true) :=
  ⟨⟨on fun b => (b.modLead (fun l => { l with applied := 4 })).modDom 271 (fun x => { x with st := 4 }), 271, 1, 9, by decide +kernel⟩,
   ⟨on fun b => (b.modLead (fun l => { l with applied := 4 })).modDom 271 (fun x => { x with st := 3 }), 271, 7, 9, by decide +kernel⟩,
   ⟨onDom 200 fun x => { x with st := 3 }, 200, 1, 9, by decide +kernel⟩,
   ⟨onDom 271 fun x => { x with st := 4, unarmed := true }, 271, 4, 9, by decide +kernel⟩,
   ⟨onDom 271 fun x => { x with st := 7 }, 271, 1, 9, by decide +kernel⟩,
   ⟨onDom 271 fun x => { x with st := 5, wakeFrom := 4, sigs := [(768, 5)] }, 271, 1, 9, [(768, 5)], by decide +kernel, by decide +kernel, (by
    decide +kernel), by decide +kernel, by decide +kernel, fun y h v hv => by rcases List.mem_singleton.1 h with rfl; exact (Option.some.inj
    hv).symm⟩,
   ⟨onDom 271 fun x => { x with st := 5, wakeFrom := 4, sigs := [(768, 5)] }, 271, 1, 9, 768, 5, 6, by decide +kernel⟩,
   ⟨onDom 271 fun x => { x with st := 6, stale := [5] }, 271, 1, 9, 5, by decide +kernel⟩,
   ⟨on fun b => { b with doms := [(0, { st := 6 }), (1, { st := 6 })] }, 1, 1, 9, by decide +kernel⟩⟩

/-- The hypotheses of Obligations.PowerAndProfileChanges can be met, clause by clause. -/
theorem wit_PowerAndProfileChanges :
  (∃ (s : State) (d : Nat) (g : Nat), d < 272 ∧ g < 32 ∧ (s.blk.dom d).st = 8 ∧ s.blk.powerForced d = false ∧ s.blk.domIdle d = true ∧
    (s.blk.dom d).target = some 4 ∧ d < 128) ∧
  (∃ (s : State) (d : Nat) (g : Nat), d < 272 ∧ g < 32 ∧ (s.blk.dom d).st = 8 ∧ s.blk.powerForced d = false ∧ s.blk.domIdle d = true ∧
    (s.blk.dom d).target = some 7 ∧ (s.blk.dom d).excl = true) ∧
  (∃ (s : State) (d : Nat) (g : Nat), d < 272 ∧ g < 32 ∧ (s.blk.dom d).st = 8 ∧ s.blk.powerForced d = false ∧ (s.blk.dom d).target = some 4 ∧
    s.blk.domIdle d = false) ∧
  (∃ (s : State) (d : Nat) (g : Nat) (f : Flight), d < 272 ∧ g < 32 ∧ s.blk.draining = true ∧ s.blk.busyNis = 0 ∧ s.blk.lead.flights = [f] ∧
    f.opc = 3) ∧
  (∃ (s : State) (d : Nat) (g : Nat) (t : Nat) (f : Flight), d < 272 ∧ g < 32 ∧ s.blk.lead.drainFrom = some t ∧ s.blk.busyNis ≠ 0 ∧
    s.blk.lead.flights = [f] ∧ f.opc = 3) ∧
  (∃ (s : State) (d : Nat) (g : Nat) (t : Nat) (f : Flight), d < 272 ∧ g < 32 ∧ (s.blk.region g).applying = true ∧ s.blk.lead.switchFrom =
    some t ∧ s.blk.lead.flights = [f] ∧ f.opc = 3 ∧ s.blk.lead.drainFrom = none ∧ s.blk.lead.commit = none ∧ s.blk.lead.commitQ = []) :=
  ⟨⟨onDom 127 fun x => { x with st := 8, target := some 4 }, 127, 31, by decide +kernel⟩,
   ⟨onDom 271 fun x => { x with st := 8, target := some 7, excl := true }, 271, 31, by decide +kernel⟩,
   ⟨wire (((domElems 0).filter isRouter).headD 0) 0 0 {} (fun b => b.modDom 0 (fun x => { x with st := 8, target := some 4 })), 0, 31, by
    decide +kernel⟩,
   ⟨onLead fun l => { l with drainFrom := some 5, flights := [fly 3], profile := 10 }, 0, 31, fly 3, by decide +kernel⟩,
   ⟨on fun b => (b.modLead (fun l => { l with drainFrom := some 5, flights := [fly 3], profile := 10 })).modNi 131 (fun x =>
    { x with ledger := [0] }), 0, 31, 5, fly 3, by decide +kernel⟩,
   ⟨on fun b => (b.modRegion 31 (fun r => { r with applying := true })).modLead (fun l => { l with switchFrom := some 1, flights := [fly 3] }),
    0, 31, 1, fly 3, by decide +kernel⟩⟩

/-- The hypotheses of Obligations.MessagesAndFences can be met, clause by clause. -/
theorem wit_MessagesAndFences :
  (∃ (d : Nat) (m : Msg), d < 13 ∧ m.src < 8192 ∧ m.kind < 256 ∧ m.sev < 4 ∧ m.time < 2 ^ 64) ∧
  (∃ (s : State), ∃ (d : Nat), ∃ (m : Msg), ∃ (rest : List Msg), ∃ (err : BitVec 192), ∃ q, d < 13 ∧ s.blk.wsh.die.get [] d = m :: rest ∧ d ∉
    s.blk.wsh.pathLost ∧ q = rest ++ (s.blk.wsh.late.get [] d).take 1 ∧ q.length < 64 ∧ checkOk ((m.beat ^^^ err).toNat) 184 = false) ∧
  (∃ (s : State), ∃ (d : Nat), ∃ (m : Msg), ∃ (rest : List Msg), ∃ (err : BitVec 192), ∃ (ext : BitVec 136), ∃ x, d < 13 ∧ s.blk.wsh.die.get
    [] d = m :: rest ∧ d ∉ s.blk.wsh.pathLost ∧ m.receive err ext = (some x, false) ∧ x.sev ≠ 2) ∧
  (∃ (s : State), ∃ (d : Nat), ∃ (m : Msg), ∃ (rest : List Msg), ∃ (err : BitVec 192), ∃ (ext : BitVec 136), ∃ x, d < 13 ∧ s.blk.wsh.die.get
    [] d = m :: rest ∧ d ∉ s.blk.wsh.pathLost ∧ m.receive err ext = (some x, false) ∧ x.sev = 2 ∧ scopeOk x.scTy x.scId = true ∧ x.scTy ≠ 0
    ∧ x.kind ≠ 0xFE ∧ s.blk.repairAround x.scTy x.scId = none ∧ (s.blk.scope x.scTy x.scId).st ≠ 3) ∧
  (∃ (s : State) (d : Nat) (m : Msg) (rest : List Msg) (err : BitVec 192), d < 13 ∧ s.blk.wsh.up = m :: rest ∧ checkOk ((m.beat ^^^
    err).toNat) 184 = false) ∧
  (∃ (s : State), ∃ (d : Nat), ∃ (m : Msg), ∃ (rest : List Msg), ∃ (err : BitVec 192), ∃ (ext : BitVec 136), ∃ x, d < 13 ∧ s.blk.wsh.up = m ::
    rest ∧ m.receive err ext = (some x, false) ∧ (x.src, x.kind, x.time) ∈ s.blk.wsh.seen) ∧
  (∃ (s : State), ∃ (d : Nat), ∃ (m : Msg), ∃ (rest : List Msg), ∃ (err : BitVec 192), ∃ (ext : BitVec 136), ∃ x, d < 13 ∧ s.blk.wsh.up = m ::
    rest ∧ m.receive err ext = (some x, false) ∧ (x.src, x.kind, x.time) ∉ s.blk.wsh.seen ∧ x.kind ≠ 0x60) ∧
  (∃ (s : State) (d : Nat), d < 13 ∧ d < 12 ∧ d ∉ s.blk.wsh.pathLost) :=
  ⟨⟨12, msg 3 0 0, by decide +kernel⟩,
   ⟨onWsh fun w => { w with die := [(12, [msg 3 0 0])], late := [(12, [msg 1 0 0])] }, 12, msg 3 0 0, [], 1, [msg 1 0 0], by decide +kernel⟩,
   ⟨onWsh fun w => { w with die := [(12, [msg 3 0 0])] }, 12, msg 3 0 0, [], 0, 0, msg 3 0 0, by decide +kernel⟩,
   ⟨onWsh fun w => { w with die := [(12, [msg 2 6 100])] }, 12, msg 2 6 100, [], 0, 0, msg 2 6 100, by decide +kernel⟩,
   ⟨onWsh fun w => { w with up := [msg 3 0 0] }, 12, msg 3 0 0, [], 1, by decide +kernel⟩,
   ⟨onWsh fun w => { w with up := [msg 2 6 100], seen := [(9, 5, 77)] }, 12, msg 2 6 100, [], 0, 0, msg 2 6 100, by decide +kernel⟩,
   ⟨onWsh fun w => { w with up := [msg 3 0 0] }, 12, msg 3 0 0, [], 0, 0, msg 3 0 0, by decide +kernel⟩,
   ⟨on id, 11, by decide +kernel⟩⟩

/-- The hypotheses of Obligations.LeadReactionAndRecords can be met, clause by clause. -/
theorem wit_LeadReactionAndRecords :
  (∃ (s : State) (m : Msg) (rest : List Msg), s.blk.wsh.lead = m :: rest ∧ m.sev = 2 ∧ m.scTy ≠ 0 ∧ m.kind ≠ 0xFE) ∧
  (∃ (s : State) (m : Msg) (rest : List Msg) (f : Flight), s.blk.wsh.lead = m :: rest ∧ m.sev = 3 ∧ s.blk.lead.flights = [f] ∧ f.opc ≠ 2) ∧
  (∃ (s : State) (m : Msg), s.blk.refclk = true ∧ s.blk.wsh.nextRec = some m) :=
  ⟨⟨onWsh fun w => { w with lead := [msg 2 6 100] }, msg 2 6 100, [], by decide +kernel⟩,
   ⟨on fun b => (b.modWsh (fun w => { w with lead := [msg 3 0 0] })).modLead (fun l => { l with flights := [fly 8] }), msg 3 0 0, [], fly 8, by
    decide +kernel⟩,
   ⟨onWsh fun w => { w with held := [msg 3 0 0] }, msg 3 0 0, by decide +kernel⟩⟩

/-- The hypotheses of Obligations.RepairStates can be met, clause by clause. -/
theorem wit_RepairStates :
  (∃ (s : State) (ty : Nat) (id : Nat) (sc : Scope), scopeOk ty id = true ∧ sc = s.blk.scope ty id ∧ sc.st = 3 ∧ sc.swept = false ∧
    s.blk.scopePackets ty id = [] ∧ s.blk.lead.bootRom = true) ∧
  (∃ (s : State) (ty : Nat) (id : Nat) (sc : Scope), scopeOk ty id = true ∧ sc = s.blk.scope ty id ∧ sc.st = 3 ∧ sc.swept = false ∧
    s.blk.scopePackets ty id = [] ∧ s.blk.lead.bootRom = false ∧ sc.hold = false ∧ sc.retired = false ∧ ty ≠ 5) ∧
  (∃ (s : State) (ty : Nat) (id : Nat) (sc : Scope), scopeOk ty id = true ∧ sc = s.blk.scope ty id ∧ sc.st = 3 ∧ sc.swept = false ∧
    s.blk.scopePackets ty id = [] ∧ sc.hold = true ∧ s.blk.lead.flights = []) ∧
  (∃ (s : State) (ty : Nat) (id : Nat) (sc : Scope), scopeOk ty id = true ∧ sc = s.blk.scope ty id ∧ sc.st = 1 ∧ (s.blk.passDuties ty
    id).drained ty id = true) ∧
  (∃ (s : State) (ty : Nat) (id : Nat) (sc : Scope), scopeOk ty id = true ∧ sc = s.blk.scope ty id ∧ sc.st = 1 ∧ sc.force = false) ∧
  (∃ (s : State) (ty : Nat) (id : Nat) (sc : Scope), scopeOk ty id = true ∧ sc = s.blk.scope ty id ∧ sc.st = 1 ∧ sc.force = true) ∧
  (∃ (s : State) (ty : Nat) (id : Nat) (sc : Scope), scopeOk ty id = true ∧ sc = s.blk.scope ty id ∧ sc.st = 4) ∧
  (∃ (s : State) (ty : Nat) (id : Nat) (sc : Scope), scopeOk ty id = true ∧ sc = s.blk.scope ty id ∧ sc.st = 5 ∧ s.blk.bistWaits ty id = false
    ∧ s.blk.linksReady ty id = true) ∧
  (∃ (s : State) (ty : Nat) (id : Nat) (code : Nat) (sc : Scope), scopeOk ty id = true ∧ sc = s.blk.scope ty id ∧ sc.st = 5 ∧ s.blk.bistWaits
    ty id = false ∧ code < 10 ∧ code ∈ testsOf ty sc.selfTest ∧ ty ≠ 1 ∧ ty ≠ 2) ∧
  (∃ (s : State) (ty : Nat) (id : Nat) (sc : Scope), scopeOk ty id = true ∧ sc = s.blk.scope ty id ∧ sc.st = 6 ∧ sc.hold = false ∧ (ty = 5 →
    (s.blk.port id).fenceCause ≠ 3) ∧ s.blk.admitting = false ∧ s.blk.fencesFirst s.blk.leadSrc = false ∧ (∀ kv ∈ s.blk.scopes, kv.2.st = 6
    → kv.2.hold = false → sc.readyNo ≤ kv.2.readyNo)) ∧
  (∃ (s : State) (ty : Nat) (id : Nat) (t : Nat) (p : Nat) (l : List Nat) (sc : Scope), scopeOk ty id = true ∧ sc = s.blk.scope ty id ∧
    s.blk.lead.planeNotice = some (p, t, l) ∧ p < 2) :=
  ⟨⟨on fun b => b.modScope 3 5 (fun x => { x with st := 3 }), 3, 5, _, by decide +kernel, rfl, by decide +kernel⟩,
   ⟨onScope 3 5 fun x => { x with st := 3 }, 3, 5, _, by decide +kernel, rfl, by decide +kernel⟩,
   ⟨onScope 3 5 fun x => { x with st := 3, hold := true }, 3, 5, _, by decide +kernel, rfl, by decide +kernel⟩,
   ⟨onScope 3 5 fun x => { x with st := 1 }, 3, 5, _, by decide +kernel, rfl, by decide +kernel⟩,
   ⟨onScope 3 5 fun x => { x with st := 1 }, 3, 5, _, by decide +kernel, rfl, by decide +kernel⟩,
   ⟨onScope 3 5 fun x => { x with st := 1, force := true }, 3, 5, _, by decide +kernel, rfl, by decide +kernel⟩,
   ⟨onScope 3 5 fun x => { x with st := 4 }, 3, 5, _, by decide +kernel, rfl, by decide +kernel⟩,
   ⟨on fun b => (((scopeElems 3 5).filter isAdp).foldl (fun b a => b.modLink a (fun l => { l with st := .active })) (b.modScope 3 5 (fun x =>
    { x with st := 5 }))), 3, 5, _, by decide +kernel, rfl, by decide +kernel⟩,
   ⟨onScope 3 5 fun x => { x with st := 5 }, 3, 5, (testsOf 3 false).headD 0, _, by decide +kernel, rfl, by decide +kernel⟩,
   ⟨onScope 3 5 fun x => { x with st := 6, readyNo := 4 }, 3, 5, _, by decide +kernel, rfl, by decide +kernel⟩,
   ⟨onLead fun l => { l with planeNotice := some (1, 100, [4]) }, 3, 5, 100, 1, [4], _, by decide +kernel, rfl, by decide +kernel⟩⟩

/-- The hypotheses of Obligations.TableScrubbing can be met, clause by clause. -/
theorem wit_TableScrubbing :
  (∃ (s : State) (o : Nat) (table : Nat) (row : Nat) (g : Nat), tableOk o table row = true ∧ 24 ≤ g ∧ g < 32 ∧ s.blk.domSt (s.blk.ownerElem o)
    = 0 ∧ s.blk.elemFenced (s.blk.ownerElem o) = false ∧ (table = 5 → (s.blk.region (s.blk.ownerRegion o)).bankOut = false) ∧ (s.blk.elem
    o).rowHits.get 0 (rowKey table row) = 0) ∧
  (∃ (s : State) (o : Nat) (table : Nat) (row : Nat) (g : Nat), tableOk o table row = true ∧ 24 ≤ g ∧ g < 32 ∧ s.blk.domSt (s.blk.ownerElem o)
    = 0 ∧ s.blk.elemFenced (s.blk.ownerElem o) = false ∧ (table = 5 → (s.blk.region (s.blk.ownerRegion o)).bankOut = false) ∧ (s.blk.elem
    o).rowHits.get 0 (rowKey table row) = s.blk.now / scrubPass ∧ 0 < s.blk.now / scrubPass ∧ (s.blk.elem o).sparesUsed.get 0 table < 4) ∧
  (∃ (s : State) (o : Nat) (table : Nat) (row : Nat) (g : Nat), tableOk o table row = true ∧ 24 ≤ g ∧ g < 32 ∧ s.blk.domSt (s.blk.ownerElem o)
    = 0 ∧ s.blk.elemFenced (s.blk.ownerElem o) = false ∧ (table = 5 → (s.blk.region (s.blk.ownerRegion o)).bankOut = false) ∧ table = 4 ∧ 4
    ≤ (s.blk.elem o).sparesUsed.get 0 table) ∧
  (∃ (s : State) (o : Nat) (table : Nat) (row : Nat) (g : Nat), tableOk o table row = true ∧ 24 ≤ g ∧ g < 32 ∧ s.blk.domSt (s.blk.ownerElem o)
    = 0 ∧ s.blk.elemFenced (s.blk.ownerElem o) = false ∧ (table = 5 → (s.blk.region (s.blk.ownerRegion o)).bankOut = false) ∧ table < 4 ∧
    s.blk.stwUp (regionPair (s.blk.ownerRegion o)) = true ∧ (s.blk.elem o).sparesUsed.get 0 table < 4) ∧
  (∃ (s : State) (o : Nat) (table : Nat) (row : Nat) (g : Nat), tableOk o table row = true ∧ 24 ≤ g ∧ g < 32 ∧ s.blk.domSt (s.blk.ownerElem o)
    = 0 ∧ s.blk.elemFenced (s.blk.ownerElem o) = false ∧ (table = 5 → (s.blk.region (s.blk.ownerRegion o)).bankOut = false) ∧ table = 5 ∧ 24
    ≤ s.blk.ownerRegion o) ∧
  (∃ (s : State), ∃ (o : Nat), ∃ (table : Nat), ∃ (row : Nat), ∃ (g : Nat), ∃ w, tableOk o table row = true ∧ 24 ≤ g ∧ g < 32 ∧ s.blk.domSt
    (s.blk.ownerElem o) = 0 ∧ s.blk.elemFenced (s.blk.ownerElem o) = false ∧ (table = 5 → (s.blk.region (s.blk.ownerRegion o)).bankOut =
    false) ∧ isSpareRow w = true ∧ s.blk.effProfile = 11 ∧ (s.blk.elem o).sparesUsed.get 0 table < 4) ∧
  (∃ (s : State) (o : Nat) (table : Nat) (row : Nat) (g : Nat), tableOk o table row = true ∧ 24 ≤ g ∧ g < 32 ∧ rowKey table row ∈ (s.blk.elem
    o).badRows ∧ (s.blk.elem o).sparesUsed.get 0 table < 4) ∧
  (∃ (s : State) (o : Nat) (table : Nat) (row : Nat) (g : Nat), tableOk o table row = true ∧ 24 ≤ g ∧ g < 32 ∧ (s.blk.region g).bankOut =
    true) :=
  ⟨⟨onElem 3 id, 3, 0, 255, 31, by decide +kernel⟩,
   ⟨onElem 3 fun e => { e with rowHits := [(rowKey 0 255, 1)], sparesUsed := [(0, 3)] }, 3, 0, 255, 31, by decide +kernel⟩,
   ⟨onElem 131 fun e => { e with sparesUsed := [(4, 4)] }, 131, 4, 9, 31, by decide +kernel⟩,
   ⟨onElem 131 fun e => { e with sparesUsed := [(3, 3)] }, 131, 3, 0, 31, by decide +kernel⟩,
   ⟨onElem (bankSrc 31) id, bankSrc 31, 5, 66559, 31, by decide +kernel⟩,
   ⟨on fun b => b.modLead (fun l => { l with profile := 11 }), bankSrc 0, 5, 66559, 31, 131071, by decide +kernel⟩,
   ⟨onElem 3 fun e => { e with badRows := [rowKey 0 5], sparesUsed := [(0, 3)] }, 3, 0, 5, 31, by decide +kernel⟩,
   ⟨on fun b => b.modRegion 31 (fun r => { r with bankOut := true }), 3, 0, 5, 31, by decide +kernel⟩⟩

/-- The hypotheses of Obligations.CommandChecks can be met, clause by clause. -/
theorem wit_CommandChecks :
  (∃ (s : State) (i : Instr) (c : Cmd) (f : Form), formOf i = some (c, f) ∧ c.WellFormed = true ∧ (s.blk.readable c.ring = false ∨ (opcodeOf c
    ≠ f.op ∧ opcodeOf c ≤ 0x1D))) ∧
  (∃ (s : State) (i : Instr) (c : Cmd) (f : Form), formOf i = some (c, f) ∧ c.WellFormed = true ∧ s.blk.readable c.ring = true ∧ opcodeOf c =
    f.op ∧ s.blk.waitsOrder c = true) ∧
  (∃ (s : State), ∃ (i : Instr), ∃ (c : Cmd), ∃ (f : Form), ∃ st, ∃ fd, formOf i = some (c, f) ∧ c.WellFormed = true ∧ s.blk.readable c.ring =
    true ∧ (opcodeOf c = f.op ∨ (f.op = 0 ∧ 0x1D < opcodeOf c)) ∧ s.blk.waitsOrder c = false ∧ (s.blk.ring (c.ring + 8)).err = false ∧
    s.blk.fatal = false ∧ s.blk.refusal c f = some (st, fd)) ∧
  (∃ (s : State) (i : Instr) (c : Cmd) (f : Form), formOf i = some (c, f) ∧ c.WellFormed = true ∧ s.blk.readable c.ring = true ∧ (opcodeOf c =
    f.op ∨ (f.op = 0 ∧ 0x1D < opcodeOf c)) ∧ s.blk.waitsOrder c = false ∧ (s.blk.ring (c.ring + 8)).err = false ∧ s.blk.fatal = true ∧ f.op
    ≠ 2) :=
  ⟨⟨on id, .nop (mkc 0 0 0 0 []), mkc 0 0 0 0 [], nopForm, rfl, by decide +kernel⟩,
   ⟨onR fun b => b.modLead (fun l => { l with flights := [{ fly 8 with ring := 3 }] }), .nop (mkc 0 0 0 0 [(1, 1, 224)]), mkc 0 0 0 0 [(1, 1,
    224)], nopForm, rfl, by decide +kernel⟩,
   ⟨onR id, .nop (mkc 0 0 1 0 []), mkc 0 0 1 0 [], nopForm, stRange, 9, rfl, by decide +kernel⟩,
   ⟨onR fun b => { b with fatal := true }, .nop (mkc 0 0 0 0 []), mkc 0 0 0 0 [], nopForm, rfl, by decide +kernel⟩⟩

/-- The hypotheses of Obligations.SetupCommands can be met, clause by clause. -/
theorem wit_SetupCommands :
  (∃ (s : State) (c : Cmd), Served s.blk c nopForm) ∧
  (∃ (s : State) (c : Cmd), Served s.blk c fenceForm) ∧
  (∃ (s : State) (c : Cmd) (p : Nat), Served s.blk c (profileSetForm c) ∧ p = byteOf c 12 ∧ p ≠ 0 ∧ p ≠ 9 ∧ s.blk.effProfile ≠ 0 ∧ (∀ f ∈
    s.blk.lead.flights, f.opc ≠ 3) ∧ partProfile p = false ∧ s.blk.lead.profile = 9) ∧
  (∃ (s : State) (c : Cmd) (p : Nat), Served s.blk c (profileSetForm c) ∧ p = byteOf c 12 ∧ p ≠ 0 ∧ p ≠ 9 ∧ s.blk.effProfile ≠ 0 ∧ (∀ f ∈
    s.blk.lead.flights, f.opc ≠ 3) ∧ partProfile p = false ∧ s.blk.lead.profile ≠ 9 ∧ s.blk.lead.profile ≠ p ∧ s.blk.committing = false) ∧
  (∃ (s : State) (c : Cmd) (img : FwImage), Served s.blk c (fwLoadForm c (some img)) ∧ s.blk.lead.flights = [] ∧ s.blk.effProfile = 0 ∧
    shapeOk img = true ∧ s.blk.imageSigned img = true) ∧
  (∃ (s : State) (c : Cmd) (img : FwImage), Served s.blk c (fwLoadForm c (some img)) ∧ s.blk.lead.flights = [] ∧ s.blk.effProfile = 0 ∧
    shapeOk img = true ∧ s.blk.imageSigned img = false) :=
  ⟨⟨onR id, mkc 0 0 0 0 [], (by unfold Served; decide +kernel)⟩,
   ⟨onR id, mkc 1 0 0 0 [], (by unfold Served; decide +kernel)⟩,
   ⟨onR fun b => b.modLead (fun l => { l with profile := 9, ret := some 2, applied := 2 }), mkc 3 0 0 0 [(12, 1, 11)], 11,
    (by unfold Served; decide +kernel), by decide +kernel⟩,
   ⟨onR fun b => b.modLead (fun l => { l with profile := 3, applied := 3 }), mkc 3 0 0 0 [(12, 1, 10)], 10, (by unfold Served; decide +kernel),
    by decide +kernel⟩,
   ⟨onR id, mkc 4 0 0 0 [(16, 8, 4096), (24, 4, 4096)], im, (by unfold Served; decide +kernel), by decide +kernel⟩,
   ⟨onR id, mkc 4 0 0 0 [(16, 8, 4096), (24, 4, 4096)], { im with sigOk := false }, (by unfold Served; decide +kernel), by decide +kernel⟩⟩

/-- The hypotheses of Obligations.MapAndRouteCommands can be met, clause by clause. -/
theorem wit_MapAndRouteCommands :
  (∃ (s : State) (c : Cmd), Served s.blk c (mapWriteForm c) ∧ s.blk.lead.mapGran = none ∧ byteOf c 12 = 0) ∧
  (∃ (s : State) (c : Cmd), Served s.blk c (mapWriteForm c) ∧ s.blk.lead.mapGran = none ∧ byteOf c 12 = 1) ∧
  (∃ (s : State) (c : Cmd), Served s.blk c (mapWriteForm c) ∧ s.blk.lead.mapGran = none ∧ byteOf c 12 = 2) ∧
  (∃ (s : State) (c : Cmd), Served s.blk c (mapCommitForm c) ∧ s.blk.lead.mapGran = none ∧ (byteOf c 12 = s.blk.lead.gran ∨ s.blk.effProfile =
    10)) ∧
  (∃ (s : State) (c : Cmd), Served s.blk c (routeWriteForm c) ∧ s.blk.committing = false ∧ byteOf c 12 = 0 ∧ (∀ e ∈ routeWrites c,
    s.blk.entryFits e.1 e.2.1 e.2.2.1 = true)) ∧
  (∃ (s : State) (c : Cmd), Served s.blk c routeCommitForm ∧ s.blk.committing = false ∧ s.blk.routesOk = true) :=
  ⟨⟨onR id, mkc 5 0 0 0 [(12, 1, 0), (14, 2, 65534), (16, 4, 2), (32, 2, 0x1234), (34, 2, 0x77)], (by unfold Served; decide +kernel), by
    decide +kernel⟩,
   ⟨onR id, mkc 5 0 0 0 [(12, 1, 1), (14, 2, 5), (16, 4, 2), (24, 8, 4096)] (some [1, 2, 3, 4]), (by unfold Served; decide +kernel), by
    decide +kernel⟩,
   ⟨onR id, mkc 5 0 0 0 [(12, 1, 2), (13, 1, 0x48), (14, 2, 5), (16, 4, 1), (24, 8, 4096)] (some ((List.range 16).flatMap (fun i =>
    [BitVec.ofNat 8 (2 * i), 0x20, 0]))), (by unfold Served; decide +kernel), by decide +kernel⟩,
   ⟨onR id, mkc 6 0 0 0 [(12, 1, 0)], (by unfold Served; decide +kernel), by decide +kernel⟩,
   ⟨onR id, mkc 7 0 0 0 [(12, 1, 0), (14, 2, src 3 20), (16, 1, 34), (17, 1, 1), (32, 2, 0)], (by unfold Served; decide +kernel), by
    decide +kernel⟩,
   ⟨onR fun b => b.setFacts true (b.mkFacts none none 0), mkc 8 0 0 0 [], (by unfold Served; decide +kernel), by decide +kernel⟩⟩

/-- The hypotheses of Obligations.ServiceCommands can be met, clause by clause. -/
theorem wit_ServiceCommands :
  (∃ (s : State) (c : Cmd) (ns : List Nat), ns = s.blk.cmdNis (scopeTyOf c) (scopeIdOf c) ∧ Served s.blk c (partitionSetForm c) ∧ partProfile
    s.blk.immProfile = false ∧ byteOf c 12 = 0) ∧
  (∃ (s : State) (c : Cmd) (ns : List Nat), ns = s.blk.cmdNis (scopeTyOf c) (scopeIdOf c) ∧ Served s.blk c (partitionSetForm c) ∧ partProfile
    s.blk.immProfile = false ∧ byteOf c 12 = 1 ∧ scopeTyOf c ≠ 7) ∧
  (∃ (s : State), ∃ (c : Cmd), ∃ (ns : List Nat), ∃ ov, ns = s.blk.cmdNis (scopeTyOf c) (scopeIdOf c) ∧ ov = (List.range 4).any (fun t =>
    valueOf c t != unchanged && (s.blk.regulate c).budgetOf (s.blk.regulated c) t < (s.blk.regulate c).rateSum (s.blk.regulated c) t) ∧
    Served s.blk c (regulatorSetForm c) ∧ flagOf c 4 = false ∧ ov = false) ∧
  (∃ (s : State), ∃ (c : Cmd), ∃ (ns : List Nat), ∃ ov, ns = s.blk.cmdNis (scopeTyOf c) (scopeIdOf c) ∧ ov = (List.range 4).any (fun t =>
    valueOf c t != unchanged && (s.blk.regulate c).budgetOf (s.blk.regulated c) t < (s.blk.regulate c).rateSum (s.blk.regulated c) t) ∧
    Served s.blk c (regulatorSetForm c) ∧ flagOf c 4 = false ∧ ov = true) ∧
  (∃ (s : State) (c : Cmd) (ns : List Nat), ns = s.blk.cmdNis (scopeTyOf c) (scopeIdOf c) ∧ Served s.blk c (gateLoadForm c) ∧ (∀ n ∈ ns,
    (s.blk.gate n).pending = false)) ∧
  (∃ (s : State), ∃ (c : Cmd), ∃ (ns : List Nat), ∃ base, ∃ cycle, ns = s.blk.cmdNis (scopeTyOf c) (scopeIdOf c) ∧ base = fieldOf c 16 8 ∧
    cycle = (s.blk.gate (ns.headD 0)).shadow.cycle ∧ Served s.blk c gateActivateForm ∧ (∀ n ∈ ns, (s.blk.gate n).pending = false ∧
    (s.blk.gate n).shadow.valid = true ∧ (s.blk.gate n).shadow.cycle = cycle) ∧ base ≤ s.blk.ft 12 + second) ∧
  (∃ (s : State), ∃ (c : Cmd), ∃ (ns : List Nat), ∃ d, ns = s.blk.cmdNis (scopeTyOf c) (scopeIdOf c) ∧ d = scopeIdOf c ∧ Served s.blk c
    (domainPowerForm c) ∧ (byteOf c 12 = 1 ∨ byteOf c 12 = 2) ∧ s.blk.powerBarred d = false ∧ (byteOf c 12 = 2 → d < 200 ∨ 208 ≤ d) ∧ flagOf
    c 0 = false ∧ s.blk.powerCuts d (flagOf c 1) = false ∧ (∀ f ∈ s.blk.lead.flights, ¬(f.opc = 0x0D ∧ f.scId = d)) ∧ (s.blk.dom d).st = 0) ∧
  (∃ (s : State) (c : Cmd) (ns : List Nat), ns = s.blk.cmdNis (scopeTyOf c) (scopeIdOf c) ∧ Served s.blk c (idleTimerSetForm c)) :=
  ⟨⟨onR id, mkc 9 12 24 (niNode 2 131).toNat [(12, 1, 0), (16, 1, 7), (17, 1, 0xF0)], _, rfl, (by unfold Served; decide +kernel), by
    decide +kernel⟩,
   ⟨onR id, mkc 9 6 0 127 [(12, 1, 1), (17, 1, 0xFE)], _, rfl, (by unfold Served; decide +kernel), by decide +kernel⟩,
   ⟨onR id, mkc 0xA 12 8 (niNode 2 131).toNat [(16, 4, unchanged), (20, 4, 4096), (24, 4, unchanged), (28, 4, 0)], _, _, rfl, rfl,
    (by unfold Served; decide +kernel), by decide +kernel⟩,
   ⟨onR fun b => b.modRegion 0 (fun r => { r with budget := [(1, 1)] }), mkc 0xA 12 8 (niNode 2 131).toNat [(16, 4, unchanged), (20, 4, 4096),
    (24, 4, unchanged), (28, 4, 0)], _, _, rfl, rfl, (by unfold Served; decide +kernel), by decide +kernel⟩,
   ⟨onR id, mkc 0xB 12 0 (niNode 2 131).toNat [(16, 2, 4), (18, 1, 7), (19, 1, 254), (20, 2, 2), (32, 4, 0x11223344), (36, 4, 5)], _, rfl,
    (by unfold Served; decide +kernel), by decide +kernel⟩,
   ⟨onR id, mkc 0xC 12 0 (niNode 2 131).toNat [(16, 8, second)], _, _, _, rfl, rfl, rfl, (by unfold Served; decide +kernel), by decide +kernel⟩,
   ⟨onR id, mkc 0xD 14 2 3 [(12, 1, 1)], _, _, rfl, rfl, (by unfold Served; decide +kernel), by decide +kernel⟩,
   ⟨onR id, mkc 0xE 14 0 207 [(16, 4, 5)], _, rfl, (by unfold Served; decide +kernel)⟩⟩

/-- The hypotheses of Obligations.RepairCommands can be met, clause by clause. -/
theorem wit_RepairCommands :
  (∃ (s : State) (c : Cmd) (ty : Nat) (id : Nat) (sc : Scope), ty = scopeTyOf c ∧ id = scopeIdOf c ∧ sc = s.blk.scope ty id ∧
    s.blk.nestedRepair ty id = false ∧ s.blk.inRepair ty id = false ∧ s.blk.barred ty id = false ∧ (flagOf c 0 = true ∨ s.blk.noPath ty id
    (flagOf c 1) = false) ∧ Served s.blk c scopeFenceForm) ∧
  (∃ (s : State) (c : Cmd) (ty : Nat) (id : Nat) (sc : Scope), ty = scopeTyOf c ∧ id = scopeIdOf c ∧ sc = s.blk.scope ty id ∧
    s.blk.nestedRepair ty id = false ∧ s.blk.inRepair ty id = false ∧ s.blk.barred ty id = false ∧ (flagOf c 0 = true ∨ s.blk.noPath ty id
    (flagOf c 1) = false) ∧ Served s.blk c domainResetForm) ∧
  (∃ (s : State) (c : Cmd) (ty : Nat) (id : Nat) (sc : Scope), ty = scopeTyOf c ∧ id = scopeIdOf c ∧ sc = s.blk.scope ty id ∧
    s.blk.nestedRepair ty id = false ∧ s.blk.inRepair ty id = false ∧ s.blk.barred ty id = false ∧ (flagOf c 0 = true ∨ s.blk.noPath ty id
    (flagOf c 1) = false) ∧ Served s.blk c (selftestForm c) ∧ flagOf c 3 = false) ∧
  (∃ (s : State) (c : Cmd) (ty : Nat) (id : Nat) (sc : Scope), ty = scopeTyOf c ∧ id = scopeIdOf c ∧ sc = s.blk.scope ty id ∧ Served s.blk c
    scopeReadmitForm ∧ s.blk.nestedRepair ty id = false ∧ (∀ f ∈ s.blk.lead.flights, ¬(isRepairOp f.opc = true ∧ f.scTy = ty ∧ f.scId = id))
    ∧ sc.st = 3 ∧ (sc.hold = true ∨ sc.retired = true) ∧ sc.swept = true ∧ ty ≠ 5) ∧
  (∃ (s : State) (c : Cmd) (ty : Nat) (id : Nat) (sc : Scope), ty = scopeTyOf c ∧ id = scopeIdOf c ∧ sc = s.blk.scope ty id ∧ Served s.blk c
    scopeReadmitForm ∧ s.blk.nestedRepair ty id = false ∧ (∀ f ∈ s.blk.lead.flights, ¬(isRepairOp f.opc = true ∧ f.scTy = ty ∧ f.scId = id))
    ∧ sc.st = 6 ∧ s.blk.admitting = false) ∧
  (∃ (s : State) (c : Cmd) (ty : Nat) (id : Nat) (sc : Scope), ty = scopeTyOf c ∧ id = scopeIdOf c ∧ sc = s.blk.scope ty id ∧ Served s.blk c
    linkServiceForm ∧ s.blk.wsh.refLost = false ∧ ((s.blk.port id).st = 2 ∨ (s.blk.port id).st = 3) ∧ (flagOf c 0 = true ∨ s.blk.serviceOk
    id = true)) ∧
  (∃ (s : State) (c : Cmd) (ty : Nat) (id : Nat) (sc : Scope), ty = scopeTyOf c ∧ id = scopeIdOf c ∧ sc = s.blk.scope ty id ∧ Served s.blk c
    linkServiceForm ∧ s.blk.wsh.refLost = false ∧ ((s.blk.port id).st = 2 ∨ (s.blk.port id).st = 3) ∧ flagOf c 0 = false ∧ s.blk.serviceOk
    id = false) ∧
  (∃ (s : State) (c : Cmd) (ty : Nat) (id : Nat) (sc : Scope), ty = scopeTyOf c ∧ id = scopeIdOf c ∧ sc = s.blk.scope ty id ∧ Served s.blk c
    linkReturnForm ∧ (s.blk.port id).st = 7) ∧
  (∃ (s : State) (c : Cmd) (ty : Nat) (id : Nat) (sc : Scope), ty = scopeTyOf c ∧ id = scopeIdOf c ∧ sc = s.blk.scope ty id ∧ Served s.blk c
    (calibrateForm c) ∧ flagOf c 3 = false ∧ s.blk.inRepair ty id = false ∧ (∀ f ∈ s.blk.lead.flights, ¬(f.opc = 0x15 ∧ f.scTy = ty ∧ f.scId
    = id)) ∧ byteOf c 12 = 0xFF) ∧
  (∃ (s : State), ∃ (c : Cmd), ∃ (ty : Nat), ∃ (id : Nat), ∃ (sc : Scope), ∃ n, ∃ e, ty = scopeTyOf c ∧ id = scopeIdOf c ∧ sc = s.blk.scope ty
    id ∧ n = nodeNi (BitVec.ofNat 16 id) ∧ e = byteOf c 12 ∧ e ≠ 0xFF ∧ Served s.blk c (lockBreakForm c) ∧ (s.blk.ni n).locks.find e = none) ∧
  (∃ (s : State), ∃ (c : Cmd), ∃ (ty : Nat), ∃ (id : Nat), ∃ (sc : Scope), ∃ n, ∃ e, ∃ l, ty = scopeTyOf c ∧ id = scopeIdOf c ∧ sc =
    s.blk.scope ty id ∧ n = nodeNi (BitVec.ofNat 16 id) ∧ e = byteOf c 12 ∧ e ≠ 0xFF ∧ Served s.blk c (lockBreakForm c) ∧ (s.blk.ni
    n).locks.find e = some l ∧ l.broken = false) :=
  ⟨⟨onR id, mkc 0x10 3 7 5 [], _, _, _, rfl, rfl, rfl, by decide +kernel, by decide +kernel, (by decide +kernel), by decide +kernel,
    (by unfold Served; decide +kernel)⟩,
   ⟨onR id, mkc 0xF 3 7 5 [], _, _, _, rfl, rfl, rfl, by decide +kernel, by decide +kernel, (by decide +kernel), by decide +kernel,
    (by unfold Served; decide +kernel)⟩,
   ⟨onR id, mkc 0x14 3 7 5 [], _, _, _, rfl, rfl, rfl, by decide +kernel, by decide +kernel, (by decide +kernel), by decide +kernel,
    (by unfold Served; decide +kernel), by decide +kernel⟩,
   ⟨onR fun b => b.modScope 3 5 (fun x => { x with st := 3, hold := true, swept := true }), mkc 0x11 3 0 5 [], _, _, _, rfl, rfl, rfl,
    (by unfold Served; decide +kernel), by decide +kernel⟩,
   ⟨onR fun b => b.modScope 3 5 (fun x => { x with st := 6, hold := true, swept := true }), mkc 0x11 3 0 5 [], _, _, _, rfl, rfl, rfl,
    (by unfold Served; decide +kernel), by decide +kernel⟩,
   ⟨onR fun b => b.modPort 7 (fun p => { p with st := 3 }), mkc 0x12 5 0 7 [], _, _, _, rfl, rfl, rfl, (by unfold Served; decide +kernel), by
    decide +kernel⟩,
   ⟨onR fun b => { b.modPort 7 (fun p => { p with st := 2 }) with members := [(9, { serial := 4, prio := 8, reach := true })] }, mkc 0x12 5 0 7
    [], _, _, _, rfl, rfl, rfl, (by unfold Served; decide +kernel), by decide +kernel⟩,
   ⟨onR fun b => b.modPort 7 (fun p => { p with st := 7 }), mkc 0x13 5 0 7 [], _, _, _, rfl, rfl, rfl, (by unfold Served; decide +kernel), by
    decide +kernel⟩,
   ⟨onR id, mkc 0x15 5 0 7 [(12, 1, 0xFF)], _, _, _, rfl, rfl, rfl, (by unfold Served; decide +kernel), by decide +kernel⟩,
   ⟨onR id, mkc 0x16 12 8 (niNode 2 131).toNat [(12, 1, 15)], _, _, _, _, _, rfl, rfl, rfl, rfl, rfl, by decide +kernel,
    (by unfold Served; decide +kernel), by decide +kernel⟩,
   ⟨onR fun b => b.modNi 131 (fun x => { x with locks := [(15, lk)] }), mkc 0x16 12 8 (niNode 2 131).toNat [(12, 1, 15)], _, _, _, _, _, lk,
    rfl, rfl, rfl, rfl, rfl, by decide +kernel, (by unfold Served; decide +kernel), by decide +kernel⟩⟩

/-- The hypotheses of Obligations.FaultCounterTimeAndQueryCommands can be met, clause by clause. -/
theorem wit_FaultCounterTimeAndQueryCommands :
  (∃ (s : State), ∃ (c : Cmd), ∃ x, ∃ k, x = fieldOf c 12 2 ∧ k = byteOf c 14 ∧ Served s.blk c (faultForceForm c) ∧ s.blk.kindGiven x k = true
    ∧ k ≠ 0x60 ∧ kindSev x k ≠ 3 ∧ (kindSev x k = 2 → s.blk.escalates (s.blk.forcedScope x k).1 (s.blk.forcedScope x k).2 = false)) ∧
  (∃ (s : State), ∃ (c : Cmd), ∃ q, ∃ w, q = fieldOf c 16 4 ∧ w = (byteOf c 20 == 1) ∧ Served s.blk c (faultAckForm c) ∧ s.blk.wsh.wrote w q =
    true ∧ (∀ r ∈ s.blk.wsh.unack, r.upTo w q = true → r.msg.sev ≠ 3)) ∧
  (∃ (s : State) (c : Cmd), Served s.blk c (traceArmForm c)) ∧
  (∃ (s : State) (c : Cmd), Served s.blk c (telemetryConfigForm c) ∧ scopeTyOf c ≠ 12 ∧ s.blk.immProfile ≠ 11) ∧
  (∃ (s : State), ∃ (c : Cmd), ∃ e, ∃ i, e = fieldOf c 12 2 ∧ i = byteOf c 14 ∧ Served s.blk c (counterReadForm c) ∧ byteOf c 15 = 1 ∧ addrOf
    c = 0 ∧ (isRouter e = true → i < 62) ∧ s.blk.ctrsGone e = true) ∧
  (∃ (s : State), ∃ (c : Cmd), ∃ e, ∃ i, e = fieldOf c 12 2 ∧ i = byteOf c 14 ∧ Served s.blk c (counterReadForm c) ∧ byteOf c 15 = 1 ∧ addrOf
    c = 0 ∧ (isRouter e = true → i < 62) ∧ s.blk.ctrsGone e = false) ∧
  (∃ (s : State) (c : Cmd), Served s.blk c (timeSetForm c) ∧ s.blk.mayStep = true ∧ flagOf c 3 = false) ∧
  (∃ (s : State) (c : Cmd), Served s.blk c (timeSetForm c) ∧ s.blk.mayStep = true ∧ flagOf c 3 = true) ∧
  (∃ (s : State) (c : Cmd), Served s.blk c (timeAdjustForm c) ∧ s.blk.mayStep = true ∧ s.blk.adjustLate = false) ∧
  (∃ (s : State) (c : Cmd), Served s.blk c (timeAdjustForm c) ∧ s.blk.mayStep = true ∧ s.blk.adjustLate = true) ∧
  (∃ (s : State), ∃ (c : Cmd), ∃ bd, Served s.blk c (queryForm c) ∧ byteOf c 12 = 0 ∧ (s.blk.stw s.blk.leadSrc).build = some bd ∧
    s.blk.lead.profile ≠ 9) ∧
  (∃ (s : State), ∃ (c : Cmd), ∃ x, Served s.blk c (queryForm c) ∧ byteOf c 12 = 2 ∧ x = s.blk.dom (scopeIdOf c)) ∧
  (∃ (s : State) (c : Cmd), Served s.blk c (queryForm c) ∧ byteOf c 12 = 6 ∧ c.bufOk = true) ∧
  (∃ (s : State), ∃ (c : Cmd), ∃ p, Served s.blk c (queryForm c) ∧ byteOf c 12 = 10 ∧ p = s.blk.port (scopeIdOf c)) :=
  ⟨⟨onR id, mkc 0x17 0 0 0 [(12, 2, 3), (14, 1, 0xFE)], _, _, rfl, rfl, (by unfold Served; decide +kernel), by decide +kernel⟩,
   ⟨onR fun b => b.modWsh (fun w => { w with unack := [⟨6, false, msg 2 0 0⟩, ⟨7, false, msg 3 0 0⟩], seq := 8 }), mkc 0x18 0 8 0 [(16, 4, 6),
    (20, 1, 0)], _, _, rfl, rfl, (by unfold Served; decide +kernel), by decide +kernel⟩,
   ⟨onR id, mkc 0x19 12 0 (niNode 2 131).toNat [(12, 1, 9), (13, 1, 63)], (by unfold Served; decide +kernel)⟩,
   ⟨onR id, mkc 0x1A 13 0 5 [(16, 4, 50), (20, 1, 2), (21, 1, 1)], (by unfold Served; decide +kernel), by decide +kernel⟩,
   ⟨onR fun b => { b with doms := [(1, { st := 7 })] }, mkc 0x1B 0 8 0 [(12, 2, 3), (14, 1, 61), (15, 1, 1)], _, _, rfl, rfl,
    (by unfold Served; decide +kernel), by decide +kernel⟩,
   ⟨onR id, mkc 0x1B 0 8 0 [(12, 2, 3), (14, 1, 61), (15, 1, 1)], _, _, rfl, rfl, (by unfold Served; decide +kernel), by decide +kernel⟩,
   ⟨onR id, mkc 0x1C 0 0 0 [(16, 8, 12345)], (by unfold Served; decide +kernel), by decide +kernel⟩,
   ⟨onR id, mkc 0x1C 0 8 0 [(16, 8, second)], (by unfold Served; decide +kernel), by decide +kernel⟩,
   ⟨onR id, mkc 0x1D 0 0 0 [(16, 8, 2 ^ 64 - 1000)], (by unfold Served; decide +kernel), by decide +kernel⟩,
   ⟨onR fun b => b.modTb 12 (fun t => { t with ft := 0x200000 }), mkc 0x1D 0 0 0 [(16, 8, 320)], (by unfold Served; decide +kernel), by
    decide +kernel⟩,
   ⟨onR fun b => b.modStw b.leadSrc (fun x => { x with build := some 99 }), mkc 2 0 0 0 [(12, 1, 0)], 99, (by unfold Served; decide +kernel),
    by decide +kernel⟩,
   ⟨onR id, mkc 2 14 0 271 [(12, 1, 2)], _, (by unfold Served; decide +kernel), by decide +kernel, rfl⟩,
   ⟨onR id, mkc 2 0 0 0 [(12, 1, 6), (16, 2, 9), (18, 1, 1), (24, 8, 640)], (by unfold Served; decide +kernel), by decide +kernel⟩,
   ⟨onR id, mkc 2 5 0 7 [(12, 1, 10)], _, (by unfold Served; decide +kernel), by decide +kernel, rfl⟩⟩

/-- The hypotheses of Obligations.StepRunsTheFrontCommand can be met, clause by clause. -/
theorem wit_StepRunsTheFrontCommand :
  (∃ (c : Instr) (rest : List Instr) (s : State), s.pending = c :: rest) :=
  ⟨.nop (mkc 0 0 0 0 []), [.hostPortError 22], ⟨base, [.nop (mkc 0 0 0 0 []), .hostPortError 22]⟩, rfl⟩

/-- The hypotheses of Obligations.AnEmptyQueueLetsOneFclkPass can be met, clause by clause. -/
theorem wit_AnEmptyQueueLetsOneFclkPass :
  (∃ s : State, s.pending = [] ∧ s.blk.refclk = false) ∧
  (∃ s : State, s.pending = [] ∧ s.blk.refclk = true) :=
  ⟨⟨on fun b => { b with refclk := false }, rfl, rfl⟩,
   ⟨State.reset, rfl, rfl⟩⟩

/-- The hypotheses of Obligations.EveryCommandAnswers can be met, clause by clause. -/
theorem wit_EveryCommandAnswers :
  (∃ (i : Instr), i.WellFormed = false) :=
  ⟨.hostPortError 23, by decide +kernel⟩

/-- The hypotheses of Obligations.RegistersStayLegal can be met, clause by clause. -/
theorem wit_RegistersStayLegal :
  (∃ (s : State) (t : State), s.blk.RegsLegal ∧ step s = .next t) :=
  ⟨on id, _, base_legal, rfl⟩

/-- The hypotheses of Obligations.RingsStayInOrder can be met, clause by clause. -/
theorem wit_RingsStayInOrder :
  (∃ (s : State) (t : State), s.blk.RingsOrdered ∧ step s = .next t) :=
  ⟨on id, _, base_ordered, rfl⟩

/-- The hypotheses of Obligations.FrameOfRegistersAndStartup can be met, clause by clause. -/
theorem wit_FrameOfRegistersAndStartup :
  (∃ (i : Instr) (s : State) (t : State) (p : Part), family i ∈ [Family.registers, .startup, .stewards, .observe] ∧ exec i s = .next t ∧ p ∉
    touches i) :=
  ⟨.tapInstruction 1, State.reset, _, .now, by decide, rfl, by decide⟩

/-- The hypotheses of Obligations.FrameOfMeshAndInterfaces can be met, clause by clause. -/
theorem wit_FrameOfMeshAndInterfaces :
  (∃ (i : Instr) (s : State) (t : State) (p : Part), family i ∈ [Family.mesh, .ni] ∧ exec i s = .next t ∧ p ∉ touches i) :=
  ⟨.unitReceiveCredit 131 4, State.reset, _, .now, by decide, rfl, by decide⟩

/-- The hypotheses of Obligations.FrameOfLinksPassAndTime can be met, clause by clause. -/
theorem wit_FrameOfLinksPassAndTime :
  (∃ (i : Instr) (s : State) (t : State) (p : Part), family i ∈ [Family.links, .pass, .time] ∧ exec i s = .next t ∧ p ∉ touches i) :=
  ⟨.phyTrainDone ⟨386, []⟩, State.reset, _, .fords, by decide, rfl, by decide⟩

/-- The hypotheses of Obligations.FrameOfEpochsPowerAndFaults can be met, clause by clause. -/
theorem wit_FrameOfEpochsPowerAndFaults :
  (∃ (i : Instr) (s : State) (t : State) (p : Part), family i ∈ [Family.epochs, .power, .faults, .profiles] ∧ exec i s = .next t ∧ p ∉ touches
    i) :=
  ⟨.detectorArming 271, State.reset, _, .wsh, by decide, rfl, by decide⟩

/-- The hypotheses of Obligations.FrameOfRingCommands can be met, clause by clause. -/
theorem wit_FrameOfRingCommands :
  (∃ (i : Instr) (s : State) (t : State) (p : Part), family i = Family.commands ∧ exec i s = .next t ∧ p ∉ touches i) :=
  ⟨.nop (mkc 0 0 0 0 []), onR id, _, .wsh, by decide, rfl, by decide⟩

/-- The hypotheses of Obligations.OtherElementsAreLeftAlone can be met, clause by clause. -/
theorem wit_OtherElementsAreLeftAlone :
  (∃ (i : Instr) (s : State) (t : State) (n : Nat) (m : Nat), exec i s = .next t ∧ m ≠ n ∧ (∃ v, i = .vectorCtrlWrite n v)) ∧
  (∃ (i : Instr) (s : State) (t : State) (n : Nat) (m : Nat), exec i s = .next t ∧ m ≠ n ∧ ((∃ x, i ∈ [.post n x, .consumed n x, .read n x,
    .mark n x, .rewind n x, .release n x, .clearLost n x]) ∨ (∃ v, i = .ringCtrlWrite n v) ∨ i = .ringStaleTimeout n ∨ i = .hostPortError
    n)) ∧
  (∃ (i : Instr) (s : State) (t : State) (n : Nat) (m : Nat), exec i s = .next t ∧ m ≠ n ∧ (∃ v, i = .passFilterWrite n v)) ∧
  (∃ (i : Instr) (s : State) (t : State) (n : Nat) (m : Nat), exec i s = .next t ∧ m ≠ n ∧ (∃ c, i = .unitReceiveCredit n c)) ∧
  (∃ (i : Instr) (s : State) (t : State) (n : Nat) (m : Nat), exec i s = .next t ∧ m ≠ n ∧ ((∃ l, i = .phyTrainDone ⟨n, l⟩) ∨ i =
    .readyReceipt n) ∧ m ∉ sides n) ∧
  (∃ (i : Instr) (s : State) (t : State) (n : Nat) (m : Nat), exec i s = .next t ∧ m ≠ n ∧ ((∃ f side, (i = .fordResetAck ⟨f, side⟩ ∨ i =
    .fordResetDone ⟨f, side⟩) ∧ f.key = n) ∨ (∃ x, i = .fordClockReturn (.unitPort x) ∧ (FordId.unitPort x).key = n))) ∧
  (∃ (i : Instr) (s : State) (t : State) (n : Nat) (m : Nat) (c : Cmd), exec i s = .next t ∧ m ≠ n ∧ i ∈ [.nop c, .query c, .counterRead c,
    .faultAck c, .mapWrite c, .routeWrite c, .gateLoad c, .regulatorSet c, .idleTimerSet c] ∧ m ≠ c.ring ∧ m ≠ c.ring + 8) :=
  ⟨⟨.vectorCtrlWrite 15 1, State.reset, _, 15, 14, rfl, by decide, 1, rfl⟩,
   ⟨.post 7 0, State.reset, _, 7, 6, rfl, by decide, .inl ⟨0, by simp⟩⟩,
   ⟨.passFilterWrite 7 0, State.reset, _, 7, 6, rfl, by decide, 0, rfl⟩,
   ⟨.unitReceiveCredit 131 4, State.reset, _, 131, 132, rfl, by decide, 4, rfl⟩,
   ⟨.phyTrainDone ⟨386, []⟩, State.reset, _, 386, 384, rfl, by decide, .inl ⟨[], rfl⟩, by decide⟩,
   ⟨.fordResetAck ⟨(.passPort 7), false⟩, State.reset, _, (FordId.passPort 7).key, 0, rfl, by decide, .inl ⟨.passPort 7, false, .inl rfl, rfl⟩⟩,
   ⟨.nop (mkc 0 0 0 0 []), onR id, _, 0, 1, mkc 0 0 0 0 [], rfl, by decide, by simp, by decide, by decide⟩⟩

/-- The hypotheses of Obligations.TimeAndOutputsRunForward can be met, clause by clause. -/
theorem wit_TimeAndOutputsRunForward :
  (∃ (i : Instr) (s : State) (t : State), i ≠ .resetRelease ∧ exec i s = .next t) :=
  ⟨.linkFail 386, State.reset, _, by simp, rfl⟩

/-- The hypotheses of Obligations.HeaderFieldsStandInTheirBits can be met, clause by clause. -/
theorem wit_HeaderFieldsStandInTheirBits :
  (∃ (cls : Nat) (opc : Nat) (len : Nat) (tier : Nat), cls < 8 ∧ opc < 64 ∧ len < 8 ∧ tier < 4) :=
  ⟨7, 63, 7, 3, by decide +kernel⟩

end Sys2Proof.Tests
end

section
/-! PROOFS. The topology (spec/01_topology.md): source indices, and the Ridge adapters with the links that join them. -/

namespace Sys2Proof.Machine

/-! ### Source indices (01 R32) -/

@[simp] theorem dieOf_src {d l : Nat} (hl : l < 512) : dieOf (src d l) = d := by
  unfold dieOf src
  omega

@[simp] theorem locOf_src {d l : Nat} (hl : l < 512) : locOf (src d l) = l := by
  unfold locOf src
  omega

/-! ### Ridge adapters (01 R17, R32) -/

@[simp] theorem dieOf_ridgeW (d : Nat) : dieOf (ridgeW d) = d := dieOf_src (by decide)
@[simp] theorem dieOf_ridgeE (d : Nat) : dieOf (ridgeE d) = d := dieOf_src (by decide)
@[simp] theorem locOf_ridgeW (d : Nat) : locOf (ridgeW d) = 386 := locOf_src (by decide)
@[simp] theorem locOf_ridgeE (d : Nat) : locOf (ridgeE d) = 387 := locOf_src (by decide)

/-- An adapter of a compute die is none of the I/O die's. -/
theorem isColI_of_compute {a : Nat} (h : dieOf a < 12) : isColI a = false := by
  have hio : dieOf a ≠ 12 := Nat.ne_of_lt h
  simp [isColI, hio]

/-- The Ridge-East adapter of a die drives the Ridge link of the die's own number. -/
@[simp] theorem ridgeOfAdp_ridgeE (d : Nat) : ridgeOfAdp (ridgeE d) = d := by
  simp [ridgeOfAdp]

/-- The Ridge-West adapter of a die drives the Ridge link of the die before it on the ring. -/
@[simp] theorem ridgeOfAdp_ridgeW (d : Nat) : ridgeOfAdp (ridgeW d) = (d + 11) % 12 := by
  simp [ridgeOfAdp]

/-- East of a compute die lies the Ridge-West adapter of the next die on the ring. -/
theorem farAdp_ridgeE {d : Nat} (hd : d < 12) : farAdp (ridgeE d) = ridgeW ((d + 1) % 12) := by
  have hColC : isColC (ridgeE d) = false := by simp [isColC]
  have hColI : isColI (ridgeE d) = false := isColI_of_compute (by simpa using hd)
  simp [farAdp, hColC, hColI]

/-- West of a compute die lies the Ridge-East adapter of the die before it on the ring. -/
theorem farAdp_ridgeW {d : Nat} (hd : d < 12) : farAdp (ridgeW d) = ridgeE ((d + 11) % 12) := by
  have hColC : isColC (ridgeW d) = false := by simp [isColC]
  have hColI : isColI (ridgeW d) = false := isColI_of_compute (by simpa using hd)
  simp [farAdp, hColC, hColI]

/-- The die before the next die on the ring of twelve is the die itself. -/
theorem prev_next_die {d : Nat} (hd : d < 12) : ((d + 1) % 12 + 11) % 12 = d := by
  omega

/-- Settles O1: each end of a Ridge link is the far side of the other, on the ring of the twelve compute dies. -/
theorem ridgeLinksJoinNeighbours : Obligations.RidgeLinksJoinNeighbours := by
  intro k hk
  have hnext : (k + 1) % 12 < 12 := Nat.mod_lt _ (by decide)
  have hEast : farAdp (ridgeE k) = ridgeW ((k + 1) % 12) := farAdp_ridgeE hk
  have hBack : farAdp (ridgeW ((k + 1) % 12)) = ridgeE k := by
    rw [farAdp_ridgeW hnext, prev_next_die hk]
  have hWestLink : ridgeOfAdp (ridgeW ((k + 1) % 12)) = k := by
    rw [ridgeOfAdp_ridgeW, prev_next_die hk]
  have hWestDie : dieOf (farAdp (ridgeW k)) = (k + 11) % 12 := by
    rw [farAdp_ridgeW hk, dieOf_ridgeE]
  have hEastDie : dieOf (farAdp (ridgeE k)) = (k + 1) % 12 := by
    rw [hEast, dieOf_ridgeW]
  exact ⟨hEast, hBack, ridgeOfAdp_ridgeE k, hWestLink, hWestDie, ridgeOfAdp_ridgeW k, hEastDie, ridgeOfAdp_ridgeE k⟩

end Sys2Proof.Machine
end

section
/-! PROOFS. The header (spec/02_packets.md, R40): a header built from its fields as a number, and its fields read back. -/

namespace Sys2Proof.Machine

/-- The fields of a header stand side by side: as a number it is their sum, each at its lowest bit. -/
theorem mkHdr_toNat (dest src : BitVec 16) (cls opc : Nat) (tag : BitVec 10) (len : Nat) (addr : BitVec 46) (tier : Nat)
    (ord poison : Bool) :
    (mkHdr dest src cls opc tag len addr tier ord poison).toNat =
      dest.toNat * 2 ^ 112 + src.toNat * 2 ^ 96 + (cls % 8) * 2 ^ 93 + (opc % 64) * 2 ^ 87 + tag.toNat * 2 ^ 77 +
      (len % 8) * 2 ^ 74 + addr.toNat * 2 ^ 9 + (tier % 4) * 2 ^ 7 + ord.toNat * 2 ^ 6 + poison.toNat * 2 ^ 5 := by
  have hdest := dest.isLt
  have hsrc := src.isLt
  have htag := tag.isLt
  have haddr := addr.isLt
  have hord : (if ord then 64 else 0) = ord.toNat * 2 ^ 6 := by cases ord <;> rfl
  have hpoison : (if poison then 32 else 0) = poison.toNat * 2 ^ 5 := by cases poison <;> rfl
  have hord1 := ord.toNat_le
  have hpoison1 := poison.toNat_le
  rw [mkHdr, hord, hpoison, BitVec.toNat_ofNat]
  omega

/-- Each field of a header reads back from its bits; between ADDR and LEN, and below POISON, the bits are 0. -/
theorem hf_mkHdr (dest src : BitVec 16) (cls opc : Nat) (tag : BitVec 10) (len : Nat) (addr : BitVec 46) (tier : Nat)
    (ord poison : Bool) :
    let h := mkHdr dest src cls opc tag len addr tier ord poison
    hf h 112 16 = dest.toNat ∧ hf h 96 16 = src.toNat ∧ hf h 93 3 = cls % 8 ∧ hf h 87 6 = opc % 64 ∧ hf h 77 10 = tag.toNat ∧
    hf h 74 3 = len % 8 ∧ hf h 55 19 = 0 ∧ hf h 9 46 = addr.toNat ∧ hf h 7 2 = tier % 4 ∧ hf h 6 1 = ord.toNat ∧
    hf h 5 1 = poison.toNat ∧ hf h 0 5 = 0 := by
  have hdest := dest.isLt
  have hsrc := src.isLt
  have htag := tag.isLt
  have haddr := addr.isLt
  have hord := ord.toNat_le
  have hpoison := poison.toNat_le
  simp only [hf, mkHdr_toNat]
  omega

variable {h : BitVec 128} {lo w v : Nat}

/-- The bits of a header field are its number. -/
theorem extractLsb'_toNat_eq_hf : (h.extractLsb' lo w).toNat = hf h lo w := by
  rw [BitVec.extractLsb'_toNat, Nat.shiftRight_eq_div_pow, hf]

/-- A header field that holds the bits `x`. -/
theorem extractLsb'_eq_of_hf {x : BitVec w} (hx : hf h lo w = x.toNat) : h.extractLsb' lo w = x :=
  BitVec.eq_of_toNat_eq (extractLsb'_toNat_eq_hf.trans hx)

/-- A header field that holds a number as far as its width reaches. -/
theorem extractLsb'_eq_ofNat_of_hf (hv : hf h lo w = v % 2 ^ w) : h.extractLsb' lo w = BitVec.ofNat w v :=
  extractLsb'_eq_of_hf (hv.trans (BitVec.toNat_ofNat v w).symm)

/-- A header field of one bit. -/
theorem getLsbD_eq_of_hf {c : Bool} (hc : hf h lo 1 = c.toNat) : h.getLsbD lo = c := by
  rw [BitVec.getLsbD, Nat.testBit_eq_decide_div_mod_eq, show h.toNat / 2 ^ lo % 2 = c.toNat from hc]
  cases c <;> rfl

/-- Settles O60: the sum of the fields carries nothing from one field into the next, so that each reads back. -/
theorem headerFieldsStandInTheirBits : Obligations.HeaderFieldsStandInTheirBits := by
  intro dest src cls opc tag len addr tier ord poison _ _ _ _
  obtain ⟨hdest, hsrc, hcls, hopc, htag, hlen, hzero, haddr, htier, hord, hpoison, hrsv⟩ :=
    hf_mkHdr dest src cls opc tag len addr tier ord poison
  exact ⟨extractLsb'_eq_of_hf hdest, extractLsb'_eq_of_hf hsrc, extractLsb'_eq_ofNat_of_hf hcls, extractLsb'_eq_ofNat_of_hf hopc,
    extractLsb'_eq_of_hf htag, extractLsb'_eq_ofNat_of_hf hlen, extractLsb'_eq_of_hf hzero, extractLsb'_eq_of_hf haddr,
    extractLsb'_eq_ofNat_of_hf htier, getLsbD_eq_of_hf hord, getLsbD_eq_of_hf hpoison, extractLsb'_eq_of_hf hrsv⟩

end Sys2Proof.Machine
end

section
/-! PROOFS. What a claim says of a command's effect: the block that a completed command leaves, and the one message that a fault raises. -/

namespace Sys2Proof.Machine

/-- A claim of a command with well-formed operands is one of its meaning. -/
theorem Completes.effect {i : Instr} {s : State} {f : Block → Block} {P : Block → Prop} (h : Completes i s P)
    (hw : i.WellFormed = true) (he : exec i s = s.on i f) : P (f s.blk) := by
  obtain ⟨t, ht, _, hP⟩ := h
  obtain ⟨_, hblk⟩ := State.on_next (he ▸ ht)
  rwa [hblk, if_pos hw] at hP

/-- A collector that held nothing holds the message raised and no other. -/
theorem Raised.kinds {b b' : Block} {s k sev : Nat} (h : Raised b b' s k sev) (he : b.wsh.die.get [] (dieOf s) = []) :
    (b'.wsh.die.get [] (dieOf s)).map (·.kind) = [k] := by
  obtain ⟨m, _, hk, _, hm⟩ := h
  rw [if_pos (by rw [he]; decide), he] at hm
  rw [hm, List.nil_append, List.map_singleton, hk]

end Sys2Proof.Machine
end

section
/-! PROOFS. Arrivals at a fenced link (spec/04 R115; 11 R336): what is on its wires stays there. -/

namespace Sys2Proof.Machine

variable {b : Block} {n p : Nat}

/-- On a link that is fenced, or whose far end is, nothing comes off the wire. -/
theorem Block.arrive_of_linkFenced (h : b.linkFenced n p = true) (err : BitVec 672) (par : Bool) : b.arrive n p err par = b := by
  simp [Block.arrive, h]

/-- An NI whose input VCs are empty takes nothing. -/
theorem Block.pump_of_ins_nil (h : (b.elem (rxElem n)).ins = []) : b.pump n = b := by
  simp [Block.pump, h]

/-- An arrival over a fenced link at an NI whose input VCs are empty has no effect. -/
theorem Block.niArrival_of_linkFenced (hl : b.linkFenced n p = true) (hi : (b.elem (rxElem n)).ins = []) (kind : Nat) (err : BitVec 672) :
    b.niArrival n p kind err = b := by
  unfold Block.niArrival
  split
  · split
    · rw [Block.arrive_of_linkFenced hl, Block.pump_of_ins_nil hi]
    · rfl
  · rfl

/-- A request of one flit for the home agent at router (1, 3) of the I/O die. -/
def fencedWireFlit : Flit := { hdr := mkHdr (nodeId 0 12 25 0) (nodeId 0 0 1 1) REQ 0 0 0 0 0 false false }

/-- The flit stands on the wire into that home agent's NI, element 6322, on Plane A, and an output watchdog has just stopped cluster 100, in which the
router at the far end lies. -/
def fencedWire : State :=
  ⟨{ wires := [(wkey 6322 0, [(0, fencedWireFlit)])], scopes := [(scKey 6 100, { stopped := true, kind := 7 })] }, []⟩

/-- Refutes O18: an NI on the I/O die lies in no scope of its router, so that neither it nor its local link is fenced where the router's cluster
is. The link's far end is, though, so that the flit stays on the wire for the sweep (04 R115; 11 R336), where the statement has it received. -/
theorem not_arrivalsAtAnInterface : ¬ Obligations.ArrivalsAtAnInterface := by
  rintro ⟨hArrival, _⟩
  have hFar : fencedWire.blk.linkFenced 6322 0 = true := by decide
  obtain ⟨hWhole, _⟩ := hArrival fencedWire 6322 0 0 fencedWireFlit 0 [] (by decide) (by decide) rfl (by decide) (by decide) (by decide)
    (by decide) (by decide) (by decide)
  have hDone := hWhole rfl (by decide) (by decide) (by decide) (by decide) (by decide) (by decide) (by decide) (by decide) (by decide) (by decide)
    (.niPacketArrival 6322 0 0) (by simp)
  obtain ⟨hTaken, _⟩ := hDone.effect (f := fun b => b.niArrival 6322 0 0 0) (by decide) rfl
  rw [Block.niArrival_of_linkFenced hFar (by decide)] at hTaken
  exact absurd hTaken (by decide)

end Sys2Proof.Machine
end

section
/-! PROOFS. The timers of a network interface (spec/02 R68; 06 R190): a tag that ends, and the lookup that it carries. -/

namespace Sys2Proof.Machine

/-- At NI 131 tag 5 has been outstanding since reset, and is listed as the tag of a lookup at the alternate bank as well. -/
def orphanedLookup : State :=
  ⟨{ nis := [(131, { tags := [(5, { since := some 0 })], lookups := [(5, { granule := 77, second := true, at_ := 0, addr := 0 })] })] }, []⟩

/-- The end of that tag raises two messages: TAG_ORPHAN, and MAP_UNREACHABLE for the lookup. -/
theorem orphanedLookup_kinds :
    ((orphanedLookup.blk.tagOrphan 131 5).wsh.die.get [] (dieOf 131)).map (·.kind) = [0x0B, 0x11] := by decide +kernel

/-- Refutes O19: no premise of the tag's clause keeps the tag out of the lookups. In a state that lists one of the unit's tags as that of a second
lookup, the lookup fails with the tag (06 R190), and its message follows that of TAG_ORPHAN, where the statement has one message alone. The NI
gives its lookups reserved tags only (06 R178), but the statement speaks of every state. -/
theorem not_interfaceTimers : ¬ Obligations.InterfaceTimers := by
  rintro ⟨hTimers, _⟩
  obtain ⟨hOrphan, _⟩ := hTimers orphanedLookup 131 5 { since := some 0 } (by decide) rfl
  obtain ⟨_, hRaised, _⟩ := (hOrphan (by decide) rfl rfl rfl 0 rfl).effect (f := fun b => b.tagOrphan 131 5) (by decide) rfl
  have hOne := hRaised.kinds rfl
  rw [orphanedLookup_kinds] at hOne
  exact absurd hOne (by decide)

end Sys2Proof.Machine
end

section
/-! PROOFS. Flits that arrive at the NI of a Pass port (spec/01 R515): what it takes waits in the input VCs of the port. -/

namespace Sys2Proof.Machine

/-- A request of no known opcode for the NI of Pass port 0, element 6272, has come over the cable and stands at the front of an input VC of the
port. -/
def passNiWaiting : State :=
  ⟨{ elems := [(passAdp 0, { ins := [(0, { q := [{ hdr := mkHdr (nodeId 0 12 0 0) (nodeId 1 0 1 1) REQ 0x3F 0 0 0 0 false false }] })] })] }, []⟩

/-- FLIT_RECEIVE at the NI with a sideband parity error raises two messages: that of the parity, and that of the opcode of the request, which the
NI takes off the port's VC. -/
theorem passNiWaiting_kinds :
    (((passNiWaiting.blk.arrive 6272 0 0 true).pump 6272).wsh.die.get [] (dieOf 6272)).map (·.kind) = [0x04, 0x0D] := by decide +kernel

/-- Refutes O20: for an endpoint the statement has its own input VCs empty, but the NI of a Pass port takes its packets off those of the port
(01 R515). A packet that waits there is taken with the FCLK of a parity error and raises a message of its own beside the one that the
statement allows. -/
theorem not_flitsCreditsAndForecasts : ¬ Obligations.FlitsCreditsAndForecasts := by
  rintro ⟨hFlits, _⟩
  obtain ⟨hParity, _⟩ := hFlits passNiWaiting 6272 0 0 {} 0 [] (.inr ⟨by decide, rfl⟩) (by decide) (by decide)
  obtain ⟨hRaised, _⟩ := (hParity rfl).effect
    (f := fun b => if isEndpoint 6272 then (b.arrive 6272 0 0 true).pump 6272 else b.arrive 6272 0 0 true) (by decide) rfl
  rw [if_pos (by decide)] at hRaised
  have hOne := hRaised.kinds rfl
  rw [passNiWaiting_kinds] at hOne
  exact absurd hOne (by decide)

end Sys2Proof.Machine
end

section
/-! PROOFS. The unit port (spec/06 R173, R178): a packet for which no tag is left. -/

namespace Sys2Proof.Machine

variable {b : Block} {n : Nat} {p : UnitPkt}

/-- No tag is given out where the MGT requests of the steward behind the NI hold as many as are free. -/
theorem Block.allocTag_none_of_mgtHeld (uid : BitVec 12) (h : ((b.ni n).free unitTags).length ≤ b.mgtHeld n) :
    b.allocTag n unitTags uid = (none, b) := by
  unfold Block.allocTag
  split
  · rfl
  next t0 ts hfree =>
    rw [hfree, List.length_cons] at h
    simp [unitTags, Nat.lt_of_succ_le h]

/-- A packet that needs a tag where none is left is refused. -/
theorem Block.queueUnit_of_noTag (hh : holdsTag p.cls p.opc = true) (ht : ((b.ni n).free unitTags).length ≤ b.mgtHeld n) :
    b.queueUnit n p = b.refuseUnit n p := by
  simp [Block.queueUnit, hh, Block.allocTag_none_of_mgtHeld p.uid ht]

/-- A refused packet enters no queue. -/
theorem Block.refuseUnit_gates : (b.refuseUnit n p).gates = b.gates := by
  simp [Block.refuseUnit, Block.tellUnit, Block.forUnit]

/-- A refused packet leaves nothing in a Ford. -/
theorem Block.refuseUnit_fords : (b.refuseUnit n p).fords = b.fords := by
  simp [Block.refuseUnit, Block.tellUnit, Block.forUnit]

/-- A packet within its credits that passes the checks is queued, or refused for want of a tag. -/
theorem Block.unitTake_eq_queueUnit (hc : p.pays.length ≤ (b.txSync n).txHeld n p.tier) (hf : ((b.txSync n).ni n).fenced = false)
    (hu : unitChecks p = true) : b.unitTake n p = (b.txSync n).queueUnit n p := by
  simp [Block.unitTake, Nat.not_lt.mpr hc, hf, hu]

/-- A packet at a unit port that is up, of an NI whose domain is On, is taken. -/
theorem Block.unitPacket_eq_unitTake (hf : b.fatal = false) (hp : (b.ni n).portUp = true) (hu : noUnit n = false)
    (hs : (b.ford (.unitPort n)).stopped = false) (hc : (b.touch n).carries n = true) : b.unitPacket n p = (b.touch n).unitTake n p := by
  simp [Block.unitPacket, hf, hp, hu, hs, hc]

/-- Two units have been reset, and the RESET_NOTICEs of the lead steward, which sits behind NI 6324, are on their way to the 704 NIs. -/
def noticesOut : State :=
  ⟨{ now := 2048, lead := { who := some 0, resetN := [(niNode 0 131, 1, allNis), (niNode 0 132, 1, allNis)] } }, []⟩

/-- A read request of the lead steward. -/
def leadRequest : UnitPkt :=
  { cls := REQ, opc := 0, len := 0, tier := 3, ord := false, poison := false, dsel := true, dest := niNode 0 131, addr := 0, tag := 0, uid := 0,
    pays := [6 * 2 ^ 504], hparErr := false, dparErr := false, bufErr := false }

/-- The steward's notices hold every tag that is not in the NI's tag store. -/
theorem noticesOut_noTag :
    ((((noticesOut.blk.touch 6324).txSync 6324).ni 6324).free unitTags).length ≤ ((noticesOut.blk.touch 6324).txSync 6324).mgtHeld 6324 := by
  decide +kernel

/-- A request of the lead steward is refused. -/
theorem noticesOut_refuses :
    noticesOut.blk.unitPacket 6324 leadRequest = ((noticesOut.blk.touch 6324).txSync 6324).refuseUnit 6324 leadRequest := by
  have hCredits : leadRequest.pays.length ≤ ((noticesOut.blk.touch 6324).txSync 6324).txHeld 6324 leadRequest.tier := by decide +kernel
  have hOpen : (((noticesOut.blk.touch 6324).txSync 6324).ni 6324).fenced = false := by decide +kernel
  have hChecks : unitChecks leadRequest = true := by decide +kernel
  rw [Block.unitPacket_eq_unitTake rfl rfl (by decide) rfl (by decide), Block.unitTake_eq_queueUnit hCredits hOpen hChecks,
    Block.queueUnit_of_noTag rfl noticesOut_noTag]

/-- Refutes O16: the statement gives a tag to every packet of the unit while the tag store lists a free one. The MGT requests of the steward
behind an NI hold tags too, as a count (02 R65; notes/assumptions/103.md): with two notices out to every NI they hold all 1,016, and a request of
the lead steward is refused. -/
theorem not_unitPortAndTollgate : ¬ Obligations.UnitPortAndTollgate := by
  rintro ⟨hPacket, _⟩
  obtain ⟨hQueued, _⟩ := hPacket noticesOut 6324 leadRequest (by decide) (by decide) rfl rfl (by decide) (by decide) rfl rfl
  have hDone := hQueued (by decide +kernel) rfl (by decide +kernel) rfl rfl rfl (by decide) (by decide +kernel) (by decide +kernel) rfl rfl rfl
    (fun _ => by decide +kernel)
  obtain ⟨tag, hQueue, _⟩ := hDone.effect
    (f := fun b =>
      let b := b.unitPacket 6324 leadRequest
      if (b.ford (.unitPort 6324)).up.isEmpty then b else b.fordRouse (fordWake (.unitPort 6324))) (by decide) rfl
  have hFord : ((noticesOut.blk.unitPacket 6324 leadRequest).ford (.unitPort 6324)).up.isEmpty = true := by
    rw [noticesOut_refuses, Block.ford, Block.refuseUnit_fords]
    decide +kernel
  have hEmpty : (noticesOut.blk.unitPacket 6324 leadRequest).gates = [] := by
    rw [noticesOut_refuses, Block.refuseUnit_gates]
    decide +kernel
  simp only [hFord, if_true, Block.gate, hEmpty] at hQueue
  exact List.cons_ne_nil _ _ hQueue.symm

end Sys2Proof.Machine
end

section
/-! PROOFS. The frame (the parts that a command may change): which parts of the block each operation of the model changes at most, in the order
of the model's definitions. `Within ps b0 b` is invariant under an operation that changes parts of `ps` alone, so that `simp` takes a command's
effect apart operation by operation. -/

namespace Sys2Proof.Machine

/-- `b'` differs from `b` in no part but those listed. -/
def Block.Within (ps : List Part) (b b' : Block) : Prop := ∀ p, p ∉ ps → p.kept b b'

section
open Block (Within)
variable {ps qs : List Part} {b0 b b' : Block}

theorem Part.kept_refl (p : Part) (b : Block) : p.kept b b := by cases p <;> rfl
theorem Part.kept_symm {p : Part} (h : p.kept b b') : p.kept b' b := by cases p <;> exact Eq.symm h
theorem Part.kept_trans {p : Part} (h : p.kept b0 b) (h' : p.kept b b') : p.kept b0 b' := by
  cases p <;> exact Eq.trans h' h

@[simp] theorem Block.Within.refl (b : Block) : Within ps b b := fun p _ => p.kept_refl b

/-- A change of parts that are listed anyway. -/
theorem Block.Within.iff (h : Within qs b b') (hs : qs ⊆ ps) : Within ps b0 b' ↔ Within ps b0 b :=
  ⟨fun h0 p hp => Part.kept_trans (h0 p hp) (Part.kept_symm (h p (fun hq => hp (hs hq)))),
   fun h0 p hp => Part.kept_trans (h0 p hp) (h p (fun hq => hp (hs hq)))⟩

@[simp] theorem Block.within_ite {c : Prop} [Decidable c] {x y : Block} :
    Within ps b0 (if c then x else y) ↔ if c then Within ps b0 x else Within ps b0 y := by split <;> rfl

/-- A fold whose every step stays within some parts. -/
@[simp] theorem Block.within_foldl {α : Type} {f : Block → α → Block} {l : List α} (h : ∀ b a, Within ps b (f b a)) :
    Within ps b0 (l.foldl f b) ↔ Within ps b0 b := by
  induction l generalizing b with
  | nil => rfl
  | cons a l ih => rw [List.foldl_cons, ih]; exact (h b a).iff (List.Subset.refl _)

/-- The same of a fold within a fold. -/
@[simp] theorem Block.within_foldl_foldl {α β : Type} {f : Block → α → β → Block} {g : Block → α → List β} {l : List α}
    (h : ∀ b a c, Within ps b (f b a c)) :
    Within ps b0 (l.foldl (fun b a => (g b a).foldl (fun b c => f b a c) b) b) ↔ Within ps b0 b :=
  Block.within_foldl fun _ _ => (Block.within_foldl fun b c => h b _ c).2 (.refl _)

/-- The same of a fold that counts as it goes. -/
@[simp] theorem Block.within_foldl_pair {α β : Type} {f : Block × β → α → Block × β} {l : List α} {x : Block × β}
    (h : ∀ x a, Within ps x.1 (f x a).1) : Within ps b0 (l.foldl f x).1 ↔ Within ps b0 x.1 := by
  induction l generalizing x with
  | nil => rfl
  | cons a l ih => rw [List.foldl_cons, ih]; exact (h x a).iff (List.Subset.refl _)

@[simp] theorem Block.within_elim {α : Type} {o : Option α} {f : α → Block} (h : ∀ a, Within ps b (f a)) :
    Within ps b0 (o.elim b f) ↔ Within ps b0 b := by
  cases o with
  | none => rfl
  | some a => exact (h a).iff (List.Subset.refl _)

/-! ### A part set anew -/

@[simp] theorem Block.within_elems {x} (hs : .elems ∈ ps) : Within ps b0 { b with elems := x } ↔ Within ps b0 b :=
  Within.iff (qs := [.elems]) (fun p hp => by cases p <;> trivial) (by simp [hs])

@[simp] theorem Block.within_wires {x} (hs : .wires ∈ ps) : Within ps b0 { b with wires := x } ↔ Within ps b0 b :=
  Within.iff (qs := [.wires]) (fun p hp => by cases p <;> trivial) (by simp [hs])

@[simp] theorem Block.within_crWires {x} (hs : .crWires ∈ ps) : Within ps b0 { b with crWires := x } ↔ Within ps b0 b :=
  Within.iff (qs := [.crWires]) (fun p hp => by cases p <;> trivial) (by simp [hs])

@[simp] theorem Block.within_nis {x} (hs : .nis ∈ ps) : Within ps b0 { b with nis := x } ↔ Within ps b0 b :=
  Within.iff (qs := [.nis]) (fun p hp => by cases p <;> trivial) (by simp [hs])

@[simp] theorem Block.within_gates {x} (hs : .gates ∈ ps) : Within ps b0 { b with gates := x } ↔ Within ps b0 b :=
  Within.iff (qs := [.gates]) (fun p hp => by cases p <;> trivial) (by simp [hs])

@[simp] theorem Block.within_links {x} (hs : .links ∈ ps) : Within ps b0 { b with links := x } ↔ Within ps b0 b :=
  Within.iff (qs := [.links]) (fun p hp => by cases p <;> trivial) (by simp [hs])

@[simp] theorem Block.within_regions {x} (hs : .regions ∈ ps) : Within ps b0 { b with regions := x } ↔ Within ps b0 b :=
  Within.iff (qs := [.regions]) (fun p hp => by cases p <;> trivial) (by simp [hs])

@[simp] theorem Block.within_scopes {x} (hs : .scopes ∈ ps) : Within ps b0 { b with scopes := x } ↔ Within ps b0 b :=
  Within.iff (qs := [.scopes]) (fun p hp => by cases p <;> trivial) (by simp [hs])

@[simp] theorem Block.within_aborts {x} (hs : .aborts ∈ ps) : Within ps b0 { b with aborts := x } ↔ Within ps b0 b :=
  Within.iff (qs := [.aborts]) (fun p hp => by cases p <;> trivial) (by simp [hs])

@[simp] theorem Block.within_farOut {x} (hs : .farOut ∈ ps) : Within ps b0 { b with farOut := x } ↔ Within ps b0 b :=
  Within.iff (qs := [.farOut]) (fun p hp => by cases p <;> trivial) (by simp [hs])

@[simp] theorem Block.within_fcWires {x} (hs : .fcWires ∈ ps) : Within ps b0 { b with fcWires := x } ↔ Within ps b0 b :=
  Within.iff (qs := [.fcWires]) (fun p hp => by cases p <;> trivial) (by simp [hs])

@[simp] theorem Block.within_gold {x} (hs : .gold ∈ ps) : Within ps b0 { b with gold := x } ↔ Within ps b0 b :=
  Within.iff (qs := [.gold]) (fun p hp => by cases p <;> trivial) (by simp [hs])

@[simp] theorem Block.within_members {x} (hs : .members ∈ ps) : Within ps b0 { b with members := x } ↔ Within ps b0 b :=
  Within.iff (qs := [.members]) (fun p hp => by cases p <;> trivial) (by simp [hs])

/-! ### The elementary changes of the block -/

@[simp] theorem Block.modElem_within {e f} (hs : [.elems] ⊆ ps) :
    Within ps b0 (b.modElem e f) ↔ Within ps b0 b :=
  Within.iff (fun p hp => by cases p <;> trivial) hs

@[simp] theorem Block.modNi_within {n f} (hs : [.nis] ⊆ ps) :
    Within ps b0 (b.modNi n f) ↔ Within ps b0 b :=
  Within.iff (fun p hp => by cases p <;> trivial) hs

@[simp] theorem Block.modGate_within {n f} (hs : [.gates] ⊆ ps) :
    Within ps b0 (b.modGate n f) ↔ Within ps b0 b :=
  Within.iff (fun p hp => by cases p <;> trivial) hs

@[simp] theorem Block.modLink_within {a f} (hs : [.links] ⊆ ps) :
    Within ps b0 (b.modLink a f) ↔ Within ps b0 b :=
  Within.iff (fun p hp => by cases p <;> trivial) hs

@[simp] theorem Block.modPort_within {k f} (hs : [.ports] ⊆ ps) :
    Within ps b0 (b.modPort k f) ↔ Within ps b0 b :=
  Within.iff (fun p hp => by cases p <;> trivial) hs

@[simp] theorem Block.modDom_within {d f} (hs : [.doms] ⊆ ps) :
    Within ps b0 (b.modDom d f) ↔ Within ps b0 b :=
  Within.iff (fun p hp => by cases p <;> trivial) hs

@[simp] theorem Block.modRegion_within {g f} (hs : [.regions] ⊆ ps) :
    Within ps b0 (b.modRegion g f) ↔ Within ps b0 b :=
  Within.iff (fun p hp => by cases p <;> trivial) hs

@[simp] theorem Block.modStw_within {s f} (hs : [.stws] ⊆ ps) :
    Within ps b0 (b.modStw s f) ↔ Within ps b0 b :=
  Within.iff (fun p hp => by cases p <;> trivial) hs

@[simp] theorem Block.modScope_within {ty id f} (hs : [.scopes] ⊆ ps) :
    Within ps b0 (b.modScope ty id f) ↔ Within ps b0 b :=
  Within.iff (fun p hp => by cases p <;> trivial) hs

@[simp] theorem Block.modRing_within {r f} (hs : [.rings] ⊆ ps) :
    Within ps b0 (b.modRing r f) ↔ Within ps b0 b :=
  Within.iff (fun p hp => by cases p <;> trivial) hs

@[simp] theorem Block.modVec_within {v f} (hs : [.vecs] ⊆ ps) :
    Within ps b0 (b.modVec v f) ↔ Within ps b0 b :=
  Within.iff (fun p hp => by cases p <;> trivial) hs

@[simp] theorem Block.modWsh_within {f} (hs : [.wsh] ⊆ ps) :
    Within ps b0 (b.modWsh f) ↔ Within ps b0 b :=
  Within.iff (fun p hp => by cases p <;> trivial) hs

@[simp] theorem Block.modLead_within {f} (hs : [.lead] ⊆ ps) :
    Within ps b0 (b.modLead f) ↔ Within ps b0 b :=
  Within.iff (fun p hp => by cases p <;> trivial) hs

@[simp] theorem Block.modTime_within {f} (hs : [.time] ⊆ ps) :
    Within ps b0 (b.modTime f) ↔ Within ps b0 b :=
  Within.iff (fun p hp => by cases p <;> trivial) hs

@[simp] theorem Block.free_within {w} (hs : [.freeCtr] ⊆ ps) : Within ps b0 (b.free w).2 ↔ Within ps b0 b :=
  Within.iff (fun p hp => by cases p <;> trivial) hs

@[simp] theorem Block.bump_within {e i n} (hs : [.elems] ⊆ ps) :
    Within ps b0 (b.bump e i n) ↔ Within ps b0 b := by
  simp at hs; simp [bump, hs]

@[simp] theorem Block.bumpKind_within {s kind} (hs : [.elems] ⊆ ps) :
    Within ps b0 (b.bumpKind s kind) ↔ Within ps b0 b := by
  simp at hs
  unfold bumpKind; split <;> simp [hs]

@[simp] theorem Block.send_within {m} (hs : [.elems, .wsh] ⊆ ps) :
    Within ps b0 (b.send m) ↔ Within ps b0 b := by
  simp at hs; simp [send, hs]

@[simp] theorem Block.event_within {s kind pk det} (hs : [.elems, .wsh] ⊆ ps) :
    Within ps b0 (b.event s kind pk det) ↔ Within ps b0 b := by
  simp at hs; simp [event, hs]

@[simp] theorem Block.suppress_within {s kind} (hs : [.elems, .wsh] ⊆ ps) :
    Within ps b0 (b.suppress s kind) ↔ Within ps b0 b := by
  simp at hs; simp [suppress, hs]

@[simp] theorem Block.fault_within {s kind ty id pk det ext forced} (hs : [.elems, .scopes, .wsh] ⊆ ps) :
    Within ps b0 (b.fault s kind ty id pk det ext forced) ↔ Within ps b0 b := by
  simp at hs; simp [fault, hs]

@[simp] theorem Block.sendForced_within {s} (hs : [.elems, .wsh] ⊆ ps) :
    Within ps b0 (b.sendForced s) ↔ Within ps b0 b := by
  simp at hs; simp [sendForced, hs]

@[simp] theorem Block.flushForced_within {d} (hs : [.elems, .wsh] ⊆ ps) :
    Within ps b0 (b.flushForced d) ↔ Within ps b0 b := by
  simp at hs; simp [flushForced, hs]

@[simp] theorem Block.niEvent_within {n kind per pk det} (hs : [.elems, .nis, .wsh] ⊆ ps) :
    Within ps b0 (b.niEvent n kind per pk det) ↔ Within ps b0 b := by
  simp at hs
  unfold niEvent; split <;> simp [hs]

@[simp] theorem Block.discard_within {at_ kind h indet} (hs : [.elems, .aborts] ⊆ ps) :
    Within ps b0 (b.discard at_ kind h indet) ↔ Within ps b0 b := by
  simp at hs
  unfold discard; split
  · simp [hs]
  · split <;> simp [hs]

@[simp] theorem Block.hostWrite_within {o} (hs : [.hostOut] ⊆ ps) :
    Within ps b0 (b.hostWrite o) ↔ Within ps b0 b :=
  Within.iff (fun p hp => by cases p <;> trivial) hs

@[simp] theorem Block.irq_within {v} (hs : [.vecs, .hostOut] ⊆ ps) :
    Within ps b0 (b.irq v) ↔ Within ps b0 b := by
  simp at hs; simp [irq, hs]

/-! ### The clock -/

@[simp] theorem Block.elapse_within {n} (hs : [.now, .elems, .gates, .tbs] ⊆ ps) :
    Within ps b0 (b.elapse n) ↔ Within ps b0 b := by
  refine Within.iff (fun p hp => ?_) hs
  unfold elapse; split
  · exact p.kept_refl b
  · cases p <;> trivial

@[simp] theorem Block.elapseTo_within {t} (hs : [.now, .elems, .gates, .tbs] ⊆ ps) :
    Within ps b0 (b.elapseTo t) ↔ Within ps b0 b := by
  simp at hs; simp [elapseTo, hs]

@[simp] theorem Block.elapseFt_within {d x} (hs : [.now, .elems, .gates, .tbs] ⊆ ps) :
    Within ps b0 (b.elapseFt d x) ↔ Within ps b0 b := by
  simp at hs; simp [elapseFt, hs]

/-! ### The mesh (04) -/

@[simp] theorem Block.freeSlot_within {e p v f} (hs : [.crWires, .links] ⊆ ps) :
    Within ps b0 (b.freeSlot e p v f) ↔ Within ps b0 b := by
  simp at hs
  unfold freeSlot; split
  · simp [hs]
  · split <;> simp [hs]

@[simp] theorem Block.dropEntry_within {d} (hs : [.doms] ⊆ ps) :
    Within ps b0 (b.dropEntry d) ↔ Within ps b0 b := by
  simp at hs; simp [dropEntry, hs]

@[simp] theorem Block.touch_within {e} (hs : [.doms] ⊆ ps) :
    Within ps b0 (b.touch e) ↔ Within ps b0 b := by
  simp at hs
  unfold touch; split <;> simp [hs]

@[simp] theorem Block.emit_within {e ring ty addr fs} (hs : [.elems] ⊆ ps) :
    Within ps b0 (b.emit e ring ty addr fs) ↔ Within ps b0 b := by
  simp at hs; simp [emit, hs]

@[simp] theorem Block.hop_within {r inPort inVc out outVc f delivered discarded} (hs : [.elems] ⊆ ps) :
    Within ps b0 (b.hop r inPort inVc out outVc f delivered discarded) ↔ Within ps b0 b := by
  simp at hs; simp [hop, hs]

@[simp] theorem Block.purgeElem_within {e k} (hs : [.elems, .crWires, .links] ⊆ ps) :
    Within ps b0 (b.purgeElem e k) ↔ Within ps b0 b := by
  simp at hs
  exact within_foldl fun b a => by simp [hs]

@[simp] theorem Block.purgeNi_within {n k} (hs : [.nis] ⊆ ps) :
    Within ps b0 (b.purgeNi n k) ↔ Within ps b0 b := by
  simp at hs; simp [purgeNi, hs]

@[simp] theorem Block.purgeLink_within {a k} (hs : [.links] ⊆ ps) :
    Within ps b0 (b.purgeLink a k) ↔ Within ps b0 b := by
  simp at hs; simp [purgeLink, hs]

@[simp] theorem Block.purge_within {k} (hs : [.elems, .wires, .crWires, .nis, .gates, .links] ⊆ ps) :
    Within ps b0 (b.purge k) ↔ Within ps b0 b := by
  simp at hs
  refine (within_gates (by simp [hs])).trans ((within_foldl (by simp [hs])).trans ?_)
  exact (within_foldl fun b kv => by simp [hs]).trans (by simp [hs])

@[simp] theorem Block.dropPacket_within {e kind k indet} (hs : [.elems, .wires, .crWires, .nis, .gates, .links, .aborts] ⊆ ps) :
    Within ps b0 (b.dropPacket e kind k indet) ↔ Within ps b0 b := by
  simp at hs
  unfold dropPacket; split <;> simp [hs]

@[simp] theorem Block.linkFault_within {e p kind pk det ext} (hs : [.elems, .scopes, .wsh] ⊆ ps) :
    Within ps b0 (b.linkFault e p kind pk det ext) ↔ Within ps b0 b := by
  simp at hs; simp [linkFault, hs]

/-! ### The network interfaces (06) -/

@[simp] theorem Block.allocTag_within {n l uid} (hs : [.freeCtr, .nis] ⊆ ps) :
    Within ps b0 (b.allocTag n l uid).2 ↔ Within ps b0 b := by
  simp at hs
  unfold allocTag; split
  · rfl
  · split <;> simp [hs]

@[simp] theorem Block.freeTag_within {n t} (hs : [.nis, .doms] ⊆ ps) :
    Within ps b0 (b.freeTag n t) ↔ Within ps b0 b := by
  simp at hs; simp [freeTag, hs]

@[simp] theorem Block.quarTag_within {n t} (hs : [.nis, .doms] ⊆ ps) :
    Within ps b0 (b.quarTag n t) ↔ Within ps b0 b := by
  simp at hs; simp [quarTag, hs]

@[simp] theorem Block.endOwnTags_within {n} (hs : [.nis, .doms] ⊆ ps) :
    Within ps b0 (b.endOwnTags n) ↔ Within ps b0 b := by
  simp at hs; simp [endOwnTags, hs]

@[simp] theorem Block.forUnit_within {n h pays uid} (hs : [.nis] ⊆ ps) :
    Within ps b0 (b.forUnit n h pays uid) ↔ Within ps b0 b := by
  simp at hs; simp [forUnit, hs]

@[simp] theorem Block.tellUnit_within {n h opc kind uid} (hs : [.nis] ⊆ ps) :
    Within ps b0 (b.tellUnit n h opc kind uid) ↔ Within ps b0 b := by
  simp at hs; simp [tellUnit, hs]

@[simp] theorem Block.sendOwn_within {n h pays} (hs : [.gates, .aborts] ⊆ ps) :
    Within ps b0 (b.sendOwn n h pays) ↔ Within ps b0 b := by
  simp at hs
  simp [sendOwn, hs]

@[simp] theorem Block.sendMgt_within {n h pays} (hs : [.gates, .aborts] ⊆ ps) :
    Within ps b0 (b.sendMgt n h pays) ↔ Within ps b0 b := by
  simp at hs
  simp [sendMgt, hs]

@[simp] theorem Block.replyAbort_within {n h opc kind} (hs : [.gates, .aborts] ⊆ ps) :
    Within ps b0 (b.replyAbort n h opc kind) ↔ Within ps b0 b := by
  simp at hs; simp [replyAbort, hs]

@[simp] theorem Block.txReturn_within {n t k} (hs : [.nis] ⊆ ps) :
    Within ps b0 (b.txReturn n t k) ↔ Within ps b0 b := by
  simp at hs; simp [txReturn, hs]

@[simp] theorem Block.txSync_within {n} (hs : [.freeCtr, .nis] ⊆ ps) :
    Within ps b0 (b.txSync n) ↔ Within ps b0 b := by
  simp at hs
  simp [txSync, hs]

@[simp] theorem Block.refuseQueued_within {n t p opc kind} (hs : [.nis, .gates, .doms] ⊆ ps) :
    Within ps b0 (b.refuseQueued n t p opc kind) ↔ Within ps b0 b := by
  simp at hs; simp [refuseQueued, hs]

@[simp] theorem Block.refuseOversize_within {n l} (hs : [.elems, .nis, .gates, .doms, .wsh] ⊆ ps) :
    Within ps b0 (b.refuseOversize n l) ↔ Within ps b0 b := by
  simp at hs
  simp [refuseOversize, hs]

@[simp] theorem Block.putGold_within {s m} (hs : [.stws, .gold] ⊆ ps) :
    Within ps b0 (b.putGold s m) ↔ Within ps b0 b :=
  Within.iff (fun p hp => by cases p <;> trivial) hs

@[simp] theorem Block.keepGold_within {os} (hs : [.stws, .gold] ⊆ ps) :
    Within ps b0 (b.keepGold os) ↔ Within ps b0 b := by
  simp at hs
  simp [keepGold, hs]

@[simp] theorem Block.fetchGold_within {s} (hs : [.stws, .gold] ⊆ ps) :
    Within ps b0 (b.fetchGold s) ↔ Within ps b0 b := by
  simp at hs; simp [fetchGold, hs]

@[simp] theorem Block.loadGold_within {o} (hs : [.elems, .nis, .gates, .regions] ⊆ ps) :
    Within ps b0 (b.loadGold o) ↔ Within ps b0 b := by
  simp at hs
  unfold loadGold; split <;> simp [hs]

@[simp] theorem Block.sendLookup_within {n granule addr second} (hs : [.freeCtr, .nis, .gates, .aborts] ⊆ ps) :
    Within ps b0 (b.sendLookup n granule addr second) ↔ Within ps b0 b := by
  simp at hs
  unfold sendLookup; dsimp only; split <;> simp [hs]

@[simp] theorem Block.touchCache_within {n granule} (hs : [.nis] ⊆ ps) :
    Within ps b0 (b.touchCache n granule) ↔ Within ps b0 b := by
  simp at hs; simp [touchCache, hs]

@[simp] theorem Block.resolveTier_within {n t fuel} (hs : [.freeCtr, .elems, .nis, .gates, .doms, .wsh, .aborts] ⊆ ps) :
    Within ps b0 (b.resolveTier n t fuel) ↔ Within ps b0 b := by
  simp at hs
  induction fuel generalizing b with
  | zero => rfl
  | succ fuel ih =>
    unfold resolveTier; split
    · rfl
    · dsimp only; split <;> simp [ih, hs]

@[simp] theorem Block.releaseStray_within {n} (hs : [.freeCtr, .nis, .gates, .aborts] ⊆ ps) :
    Within ps b0 (b.releaseStray n) ↔ Within ps b0 b := by
  simp at hs
  have ht := allocTag_within (ps := ps) (b0 := b0) (b := b) (n := n) (l := ownTags) (uid := 0) (by simp [hs])
  unfold releaseStray; split
  · rfl
  · split
    all_goals (rename_i he; rw [he] at ht; simp [ht, hs])

@[simp] theorem Block.resolveNi_within {n} (hs : [.freeCtr, .elems, .nis, .gates, .doms, .wsh, .aborts] ⊆ ps) :
    Within ps b0 (b.resolveNi n) ↔ Within ps b0 b := by
  simp at hs; simp [resolveNi, hs]

@[simp] theorem Block.breakLock_within {n i cause} (hs : [.elems, .nis, .wsh] ⊆ ps) :
    Within ps b0 (b.breakLock n i cause) ↔ Within ps b0 b := by
  simp at hs
  unfold breakLock; split <;> simp [hs]

@[simp] theorem Block.breakLocks_within {n cause p} (hs : [.elems, .nis, .wsh] ⊆ ps) :
    Within ps b0 (b.breakLocks n cause p) ↔ Within ps b0 b := by
  simp at hs; simp [breakLocks, hs]

@[simp] theorem Block.modFord_within {f g} (hs : [.fords] ⊆ ps) : Within ps b0 (b.modFord f g) ↔ Within ps b0 b :=
  Within.iff (fun p hp => by cases p <;> trivial) hs

@[simp] theorem Block.flushOut_within {n kind} (hs : [.elems, .wires, .crWires, .nis, .gates, .links, .doms, .aborts] ⊆ ps) :
    Within ps b0 (b.flushOut n kind) ↔ Within ps b0 b := by
  simp at hs
  dsimp only [flushOut]
  simp [hs]

@[simp] theorem Block.flushNi_within {n kind why} (hs : [.elems, .wires, .crWires, .nis, .gates, .links, .doms, .wsh, .aborts] ⊆ ps) :
    Within ps b0 (b.flushNi n kind why) ↔ Within ps b0 b := by
  simp at hs
  simp [flushNi, hs]

@[simp] theorem Block.loseTables_within {e} (hs : [.elems, .nis, .gates] ⊆ ps) :
    Within ps b0 (b.loseTables e) ↔ Within ps b0 b := by
  simp at hs; simp [loseTables, hs]

@[simp] theorem Block.clearSteward_within {s fetched} (hs : [.stws, .gold] ⊆ ps) :
    Within ps b0 (b.clearSteward s fetched) ↔ Within ps b0 b := by
  simp at hs
  exact (within_gold hs.2).trans (by simp [hs])

@[simp] theorem Block.loadSegs_within {s bd} (hs : [.stws] ⊆ ps) :
    Within ps b0 (b.loadSegs s bd) ↔ Within ps b0 b := by
  simp at hs; simp [loadSegs, hs]

@[simp] theorem Block.bootSteward_within {s} (hs : [.stws, .gold] ⊆ ps) :
    Within ps b0 (b.bootSteward s) ↔ Within ps b0 b := by
  simp at hs; simp [bootSteward, hs]

@[simp] theorem Block.flushAgent_within {e kind} (hs : [.regions, .aborts] ⊆ ps) :
    Within ps b0 (b.flushAgent e kind) ↔ Within ps b0 b := by
  simp at hs
  simp [flushAgent, hs]

@[simp] theorem Block.newIncarnation_within {n} (hs : [.nis, .stws, .gold, .lead, .farOut] ⊆ ps) :
    Within ps b0 (b.newIncarnation n) ↔ Within ps b0 b := by
  simp at hs
  simp [newIncarnation, hs]

/-! ### Delivery at the network interfaces (06) -/

@[simp] theorem Block.memberOut_within {p ty id back} (hs : [.members] ⊆ ps) :
    Within ps b0 (b.memberOut p ty id back) ↔ Within ps b0 b := by
  simp at hs
  unfold memberOut; split
  · rfl
  · exact within_members hs

@[simp] theorem Block.farNotice_within {h} (hs : [.freeCtr, .lead, .members] ⊆ ps) :
    Within ps b0 (b.farNotice h) ↔ Within ps b0 b := by
  simp at hs
  simp [farNotice, hs]

@[simp] theorem Block.mgtServe_within {n h room k} (hs : [.freeCtr, .elems, .gates, .fords, .regions, .wsh, .lead, .members, .aborts] ⊆
    ps) :
    Within ps b0 (b.mgtServe n h room k) ↔ Within ps b0 b := by
  simp at hs
  unfold mgtServe; dsimp only; repeat' split
  all_goals simp [hs]

/-! ### The unit port (06) -/

@[simp] theorem Block.refuseUnit_within {n p} (hs : [.elems, .nis, .wsh] ⊆ ps) :
    Within ps b0 (b.refuseUnit n p) ↔ Within ps b0 b := by
  simp at hs; simp [refuseUnit, hs]

@[simp] theorem Block.queueUnit_within {n p} (hs : [.freeCtr, .elems, .nis, .gates, .doms, .wsh, .aborts] ⊆ ps) :
    Within ps b0 (b.queueUnit n p) ↔ Within ps b0 b := by
  simp at hs
  have ht : Within ps b0 (if holdsTag p.cls p.opc then b.allocTag n unitTags p.uid else (some p.tag.toNat, b)).2
      ↔ Within ps b0 b := by split <;> simp [hs]
  unfold queueUnit; dsimp only; split <;> simp [ht, hs]

@[simp] theorem Block.unitTake_within {n p} (hs : [.freeCtr, .elems, .nis, .gates, .doms, .scopes, .wsh, .aborts] ⊆ ps) :
    Within ps b0 (b.unitTake n p) ↔ Within ps b0 b := by
  simp at hs; simp [unitTake, hs]

@[simp] theorem Block.fordTake_within {n} (hs : [.freeCtr, .elems, .nis, .gates, .fords, .doms, .scopes, .wsh, .aborts] ⊆ ps) :
    Within ps b0 (b.fordTake n) ↔ Within ps b0 b := by
  simp at hs; simp [fordTake, hs]

/-! ### The adapters and their link layer (08) -/

@[simp] theorem Block.putFrame_within {a fr} (hs : [.elems, .links, .ports, .farOut] ⊆ ps) :
    Within ps b0 (b.putFrame a fr) ↔ Within ps b0 b := by
  simp at hs
  unfold putFrame; dsimp only; split
  · exact (within_farOut (by simp [hs])).trans (by simp [hs])
  · simp [hs]

@[simp] theorem Block.cutSent_within {a kind k} (hs : [.elems, .wires, .crWires, .nis, .gates, .links, .aborts] ⊆ ps) :
    Within ps b0 (b.cutSent a kind k) ↔ Within ps b0 b := by
  simp at hs; simp [cutSent, hs]

@[simp] theorem Block.linksDown_within {as kind} (hs : [.elems, .wires, .crWires, .nis, .gates, .links, .aborts] ⊆ ps) :
    Within ps b0 (b.linksDown as kind) ↔ Within ps b0 b := by
  simp at hs
  simp [linksDown, hs]

/-! ### The rings and the commands in flight (15) -/

@[simp] theorem Block.ringIrq_within {r due} (hs : [.rings, .vecs, .hostOut] ⊆ ps) :
    Within ps b0 (b.ringIrq r due) ↔ Within ps b0 b := by
  simp at hs; simp [ringIrq, hs]

@[simp] theorem Block.ringLost_within {r n} (hs : [.rings] ⊆ ps) :
    Within ps b0 (b.ringLost r n) ↔ Within ps b0 b := by
  simp at hs; simp [ringLost, hs]

@[simp] theorem Block.pushRec_within {r mk due} (hs : [.rings, .vecs, .hostOut] ⊆ ps) :
    Within ps b0 (b.pushRec r mk due) ↔ Within ps b0 b := by
  simp at hs; simp [pushRec, hs]

@[simp] theorem Block.writeCpl_within {ring index tag opc status field notify res} (hs : [.rings, .vecs, .hostOut] ⊆ ps) :
    Within ps b0 (b.writeCpl ring index tag opc status field notify res) ↔ Within ps b0 b := by
  simp at hs; simp [writeCpl, hs]

@[simp] theorem Block.finish_within {f status res} (hs : [.rings, .vecs, .lead, .hostOut] ⊆ ps) :
    Within ps b0 (b.finish f status res) ↔ Within ps b0 b := by
  simp at hs; simp [finish, hs]

@[simp] theorem Block.finishAll_within {p status res} (hs : [.rings, .vecs, .lead, .hostOut] ⊆ ps) :
    Within ps b0 (b.finishAll p status res) ↔ Within ps b0 b := by
  simp at hs; simp [finishAll, hs]

/-! ### The Tollgates (05) -/

@[simp] theorem Block.switchGate_within {n base} (hs : [.elems, .nis, .gates, .doms, .stws, .gold, .wsh] ⊆ ps) :
    Within ps b0 (b.switchGate n base) ↔ Within ps b0 b := by
  simp at hs; simp [switchGate, hs]

@[simp] theorem Block.gatesDone_within (hs : [.rings, .vecs, .lead, .hostOut] ⊆ ps) :
    Within ps b0 (b.gatesDone) ↔ Within ps b0 b := by
  simp at hs; simp [gatesDone, hs]

@[simp] theorem Block.switchIn_within {n late} (hs : [.elems, .nis, .gates, .doms, .stws, .gold, .wsh, .lead] ⊆ ps) :
    Within ps b0 (b.switchIn n late) ↔ Within ps b0 b := by
  simp at hs
  unfold switchIn; split <;> simp [hs]

@[simp] theorem Block.gateWake_within {n} (hs : [.elems, .nis, .gates, .doms, .stws, .gold, .wsh, .lead] ⊆ ps) :
    Within ps b0 (b.gateWake n) ↔ Within ps b0 b := by
  simp at hs
  unfold gateWake; dsimp only; split <;> simp [hs]

@[simp] theorem Block.emitSamples_within {r} (hs : [.elems] ⊆ ps) :
    Within ps b0 (b.emitSamples r) ↔ Within ps b0 b := by
  simp at hs; simp [emitSamples, hs]

@[simp] theorem Block.flushSamples_within {r} (hs : [.elems] ⊆ ps) :
    Within ps b0 (b.flushSamples r) ↔ Within ps b0 b := by
  simp at hs; simp [flushSamples, hs]

/-! ### The die-to-die links and their training (08; 19) -/

@[simp] theorem Block.pathBack_within {a} (hs : [.wsh] ⊆ ps) :
    Within ps b0 (b.pathBack a) ↔ Within ps b0 b := by
  simp at hs; simp [pathBack, hs]

@[simp] theorem Block.linkStep_within {a st} (hs : [.links, .ports, .wsh] ⊆ ps) :
    Within ps b0 (b.linkStep a st) ↔ Within ps b0 b := by
  simp at hs; simp [linkStep, hs]

@[simp] theorem Block.wakeDom_within {d code detail} (hs : [.doms] ⊆ ps) :
    Within ps b0 (b.wakeDom d code detail) ↔ Within ps b0 b := by
  simp at hs; simp [wakeDom, hs]

@[simp] theorem Block.sameWake_within {d code detail} (hs : [.doms] ⊆ ps) :
    Within ps b0 (b.sameWake d code detail) ↔ Within ps b0 b := by
  simp at hs; simp [sameWake, hs]

@[simp] theorem Block.sendWake_within {a} (hs : [.links, .farOut] ⊆ ps) :
    Within ps b0 (b.sendWake a) ↔ Within ps b0 b := by
  simp at hs
  unfold sendWake; split
  · exact (within_farOut hs.2).trans (by simp [hs])
  · rfl

@[simp] theorem Block.linkBack_within {a} (hs : [.links] ⊆ ps) :
    Within ps b0 (b.linkBack a) ↔ Within ps b0 b := by
  simp at hs; simp [linkBack, hs]

@[simp] theorem Block.abortEntry_within {d} (hs : [.links, .doms, .farOut] ⊆ ps) :
    Within ps b0 (b.abortEntry d) ↔ Within ps b0 b := by
  simp at hs
  unfold abortEntry; split <;> simp [hs]

/-! ### The Pass ports (09) -/

@[simp] theorem Block.portTo_within {k st} (hs : [.ports] ⊆ ps) :
    Within ps b0 (b.portTo k st) ↔ Within ps b0 b := by
  simp at hs; simp [portTo, hs]

@[simp] theorem Block.portEvent_within {k kind cause} (hs : [.elems, .wsh] ⊆ ps) :
    Within ps b0 (b.portEvent k kind cause) ↔ Within ps b0 b := by
  simp at hs; simp [portEvent, hs]

@[simp] theorem Block.advise_within {k} (hs : [.ports] ⊆ ps) :
    Within ps b0 (b.advise k) ↔ Within ps b0 b := by
  simp at hs; simp [advise, hs]

@[simp] theorem Block.exchangeBad_within {k} (hs : [.elems, .time, .wsh] ⊆ ps) :
    Within ps b0 (b.exchangeBad k) ↔ Within ps b0 b := by
  simp at hs; simp [exchangeBad, hs]

@[simp] theorem Block.chooseParent_within (hs : [.elems, .time, .wsh] ⊆ ps) :
    Within ps b0 (b.chooseParent) ↔ Within ps b0 b := by
  simp at hs
  unfold chooseParent; split <;> simp [hs]

@[simp] theorem Block.elect_within (hs : [.elems, .time, .wsh] ⊆ ps) :
    Within ps b0 (b.elect) ↔ Within ps b0 b := by
  simp at hs; simp [elect, hs]

@[simp] theorem Block.rookHold_within {k} (hs : [.elems, .ports, .wsh, .rings, .vecs, .lead, .hostOut] ⊆ ps) :
    Within ps b0 (b.rookHold k) ↔ Within ps b0 b := by
  simp at hs; simp [rookHold, hs]

@[simp] theorem Block.openPort_within {k} (hs : [.elems, .ports, .wsh, .rings, .vecs, .lead, .hostOut] ⊆ ps) :
    Within ps b0 (b.openPort k) ↔ Within ps b0 b := by
  simp at hs; simp [openPort, hs]

@[simp] theorem Block.openPorts_within (hs : [.elems, .ports, .wsh, .rings, .vecs, .lead, .hostOut] ⊆ ps) :
    Within ps b0 (b.openPorts) ↔ Within ps b0 b := by
  simp at hs; simp [openPorts, hs]

@[simp] theorem Block.propose_within {k m} (hs : [.ports] ⊆ ps) :
    Within ps b0 (b.propose k m) ↔ Within ps b0 b := by
  simp at hs; simp [propose, hs]

@[simp] theorem Block.rotStepTo_within {k st} (hs : [.ports] ⊆ ps) :
    Within ps b0 (b.rotStepTo k st) ↔ Within ps b0 b := by
  simp at hs
  unfold rotStepTo; split <;> simp [hs]

@[simp] theorem Block.rotEnd_within {k ok} (hs : [.elems, .ports, .wsh, .rings, .vecs, .lead, .hostOut] ⊆ ps) :
    Within ps b0 (b.rotEnd k ok) ↔ Within ps b0 b := by
  simp at hs; simp [rotEnd, hs]

@[simp] theorem Block.mapApplies_within {k} (hs : [.elems, .ports, .wsh, .rings, .vecs, .lead, .hostOut] ⊆ ps) :
    Within ps b0 (b.mapApplies k) ↔ Within ps b0 b := by
  simp at hs
  unfold mapApplies; dsimp only; split
  · rfl
  · split <;> simp [hs]

@[simp] theorem Block.sendAlign_within {k} (hs : [.elems, .links, .ports, .wsh, .rings, .vecs, .lead, .hostOut, .farOut] ⊆ ps) :
    Within ps b0 (b.sendAlign k) ↔ Within ps b0 b := by
  simp at hs
  unfold sendAlign; dsimp only; split <;> simp [hs]

@[simp] theorem Block.putPass_within {k fr} (hs : [.elems, .links, .ports, .wsh, .rings, .vecs, .lead, .hostOut, .farOut] ⊆ ps) :
    Within ps b0 (b.putPass k fr) ↔ Within ps b0 b := by
  simp at hs; simp [putPass, hs]

/-! ### Profiles, budgets and steering under way (13; 12) -/

@[simp] theorem Block.rebias_within {g p} (hs : [.doms] ⊆ ps) :
    Within ps b0 (b.rebias g p) ↔ Within ps b0 b := by
  simp at hs; simp [rebias, hs]

@[simp] theorem Block.applyProfile_within {p} (hs : [.elems, .nis, .doms, .regions, .lead] ⊆ ps) :
    Within ps b0 (b.applyProfile p) ↔ Within ps b0 b := by
  simp at hs
  unfold applyProfile
  extract_lets old b₁ b₂ b₃ b₄ b₅ b₆
  have h₂ : Within ps b0 b₂ ↔ Within ps b0 b := by simp [b₂, b₁, hs]
  have h₃ : Within ps b0 b₃ ↔ Within ps b0 b₂ := by simp [b₃, hs]
  have h₄ : Within ps b0 b₄ ↔ Within ps b0 b₃ := by simp [b₄, hs]
  have h₅ : Within ps b0 b₅ ↔ Within ps b0 b₄ := by simp [b₅, hs]
  have h₆ : Within ps b0 b₆ ↔ Within ps b0 b₅ := by simp [b₆, hs]
  rw [← h₂, ← h₃, ← h₄, ← h₅, ← h₆]
  split
  · exact Within.iff (qs := [.elems, .nis]) (fun p hp => by cases p <;> trivial) (by simp [hs])
  · rfl

@[simp] theorem Block.scaleRegion_within {g} (hs : [.gates, .regions, .stws, .gold] ⊆ ps) :
    Within ps b0 (b.scaleRegion g) ↔ Within ps b0 b := by
  simp at hs
  unfold scaleRegion; dsimp only; split
  · rfl
  · exact (within_foldl fun b t => by simp [hs]).trans (by simp [hs])

@[simp] theorem Block.scaleAll_within (hs : [.gates, .regions, .stws, .gold] ⊆ ps) :
    Within ps b0 (b.scaleAll) ↔ Within ps b0 b := by
  simp at hs; simp [scaleAll, hs]

@[simp] theorem Block.restoreBudgets_within (hs : [.gates, .regions, .stws, .gold] ⊆ ps) :
    Within ps b0 b.restoreBudgets ↔ Within ps b0 b := by
  simp at hs
  refine (keepGold_within (by simp [hs])).trans ?_
  exact Within.iff (qs := [.regions, .gates]) (fun p hp => by cases p <;> trivial) (by simp [hs])

@[simp] theorem Block.enterDegraded_within (hs : [.gates, .regions, .stws, .gold, .lead] ⊆ ps) :
    Within ps b0 (b.enterDegraded) ↔ Within ps b0 b := by
  simp at hs; simp [enterDegraded, hs]

@[simp] theorem Block.setFacts_within {ep f} (hs : [.lead] ⊆ ps) :
    Within ps b0 (b.setFacts ep f) ↔ Within ps b0 b := by
  simp at hs; simp [setFacts, hs]

@[simp] theorem Block.resetTabs_within {ep copy} (hs : [.elems, .stws, .gold] ⊆ ps) :
    Within ps b0 (b.resetTabs ep copy) ↔ Within ps b0 b := by
  simp at hs
  simp [resetTabs, hs]

@[simp] theorem Block.loadOthers_within (hs : [.lead] ⊆ ps) :
    Within ps b0 (b.loadOthers) ↔ Within ps b0 b := by
  simp at hs; simp [loadOthers, hs]

@[simp] theorem Block.startCommit_within {why scope} (hs : [.elems, .stws, .gold, .lead] ⊆ ps) :
    Within ps b0 (b.startCommit why scope) ↔ Within ps b0 b := by
  simp at hs; simp [startCommit, hs]

@[simp] theorem Block.wantCommit_within {why scope} (hs : [.elems, .stws, .gold, .lead] ⊆ ps) :
    Within ps b0 (b.wantCommit why scope) ↔ Within ps b0 b := by
  simp at hs
  unfold wantCommit; split <;> simp [hs]

@[simp] theorem Block.mayLeave_within (hs : [.elems, .stws, .gold, .lead] ⊆ ps) :
    Within ps b0 (b.mayLeave) ↔ Within ps b0 b := by
  simp at hs; simp [mayLeave, hs]

@[simp] theorem Block.takeEpoch_within {rcv ep} (hs : [.elems, .nis, .gates, .links, .doms, .wsh] ⊆ ps) :
    Within ps b0 (b.takeEpoch rcv ep) ↔ Within ps b0 b := by
  simp at hs; simp [takeEpoch, hs]

@[simp] theorem Block.clearScope_within {ty id} (hs : [.elems, .wires, .crWires, .fcWires, .nis, .gates, .links, .aborts] ⊆ ps) :
    Within ps b0 (b.clearScope ty id) ↔ Within ps b0 b := by
  simp at hs
  unfold clearScope
  extract_lets wipe clr ends b₁
  have hw : ∀ b0 b e p, Within ps b0 (wipe b e p) ↔ Within ps b0 b := fun b0 b e p => by
    refine Iff.trans ?_ (modElem_within (e := e) (f := fun el => el.setOut p { el.out p with used := [], held := [], wdog := 0, fc := [] }) (by simp [hs]))
    exact Within.iff (qs := [.wires, .crWires, .fcWires]) (fun p hp => by cases p <;> trivial) (by simp [hs])
  have hc : ∀ b0 b e p, Within ps b0 (clr b e p) ↔ Within ps b0 b := fun b0 b e p => by simp [clr, hs]
  have he : ∀ b0 b e p, Within ps b0 (ends b e p) ↔ Within ps b0 b := fun b0 b e p => by
    dsimp only [ends]; split <;> simp [hw, hc, hs]
  have h₁ : Within ps b0 b₁ ↔ Within ps b0 b := by dsimp only [b₁]; split <;> simp [he]
  rw [← h₁]
  simp [he, hs]

@[simp] theorem Block.scopeDone_within {ty id status} (hs : [.rings, .vecs, .lead, .hostOut] ⊆ ps) :
    Within ps b0 (b.scopeDone ty id status) ↔ Within ps b0 b := by
  simp at hs; simp [scopeDone, hs]

@[simp] theorem Block.closing_within {ty id} (hs : [.freeCtr, .doms, .scopes, .rings, .vecs, .lead, .hostOut] ⊆ ps) :
    Within ps b0 (b.closing ty id) ↔ Within ps b0 b := by
  simp at hs
  simp [closing, hs]

@[simp] theorem Block.makeActive_within {key} (hs : [.elems, .wires, .crWires, .fcWires, .nis, .gates, .links, .ports, .doms, .stws,
    .scopes, .gold, .wsh, .rings, .vecs, .lead, .aborts, .hostOut, .farOut] ⊆ ps) :
    Within ps b0 (b.makeActive key) ↔ Within ps b0 b := by
  simp at hs
  simp [makeActive, hs]

@[simp] theorem Block.leaveDegraded_within (hs : [.elems, .nis, .gates, .doms, .regions, .stws, .gold, .lead] ⊆ ps) :
    Within ps b0 (b.leaveDegraded) ↔ Within ps b0 b := by
  simp at hs; simp [leaveDegraded, hs]

@[simp] theorem Block.routeDoms_within {ds} (hs : [.doms, .rings, .vecs, .lead, .hostOut] ⊆ ps) :
    Within ps b0 (b.routeDoms ds) ↔ Within ps b0 b := by
  simp at hs; simp [routeDoms, hs]

@[simp] theorem Block.gateOff_within {d discarded} (hs : [.elems, .wires, .crWires, .nis, .gates, .links, .doms, .stws, .gold, .rings,
    .vecs, .lead, .aborts, .hostOut] ⊆ ps) :
    Within ps b0 (b.gateOff d discarded) ↔ Within ps b0 b := by
  simp at hs
  unfold gateOff; split <;> simp [hs]

@[simp] theorem Block.reachMembers_within (hs : [.members] ⊆ ps) : Within ps b0 b.reachMembers ↔ Within ps b0 b :=
  within_members (by simpa using hs)

@[simp] theorem Block.commitPoint_within {c} (hs : [.freeCtr, .elems, .wires, .crWires, .fcWires, .nis, .gates, .links, .ports, .time,
    .doms, .regions, .stws, .scopes, .gold, .wsh, .rings, .vecs, .lead, .members, .aborts, .hostOut, .farOut] ⊆ ps) :
    Within ps b0 (b.commitPoint c) ↔ Within ps b0 b := by
  simp at hs
  unfold commitPoint
  extract_lets b₁ b₂ b₃ b₄ leave b₅ b₆ b₇
  have h₂ : Within ps b0 b₂ ↔ Within ps b0 b := (within_regions (by simp [hs])).trans (by simp [b₁, hs])
  have h₄ : Within ps b0 b₄ ↔ Within ps b0 b₂ := by simp [b₄, b₃, hs]
  have h₅ : Within ps b0 b₅ ↔ Within ps b0 b₄ := by dsimp only [b₅]; split <;> simp [hs]
  have h₆ : Within ps b0 b₆ ↔ Within ps b0 b₄ := by
    dsimp only [b₆]; split
    · simp [h₅, hs]
    · simp [hs]
    · split <;> simp [hs]
    · rfl
  rw [← h₂, ← h₄, ← h₆]
  simp [b₇, hs]

@[simp] theorem Block.sendClose_within {k cause} (hs : [.elems, .links, .ports, .wsh, .rings, .vecs, .lead, .hostOut, .farOut] ⊆ ps) :
    Within ps b0 (b.sendClose k cause) ↔ Within ps b0 b := by
  simp at hs; simp [sendClose, hs]

@[simp] theorem Block.closePort_within {k cause} (hs : [.elems, .links, .ports, .time, .wsh, .rings, .vecs, .lead, .hostOut, .farOut] ⊆
    ps) :
    Within ps b0 (b.closePort k cause) ↔ Within ps b0 b := by
  simp at hs; simp [closePort, hs]

@[simp] theorem Block.nextCommit_within (hs : [.elems, .stws, .gold, .lead] ⊆ ps) :
    Within ps b0 (b.nextCommit) ↔ Within ps b0 b := by
  simp at hs
  unfold nextCommit; dsimp only; split <;> simp [hs]

@[simp] theorem Block.resealAborts_within {old} (hs : [.aborts] ⊆ ps) :
    Within ps b0 (b.resealAborts old) ↔ Within ps b0 b := by
  simp at hs
  simp [resealAborts, hs]

@[simp] theorem Block.retire_within (hs : [.elems, .wires, .crWires, .nis, .gates, .links, .ports, .time, .doms, .stws, .gold, .wsh,
    .rings, .vecs, .lead, .aborts, .hostOut, .farOut] ⊆ ps) :
    Within ps b0 (b.retire) ↔ Within ps b0 b := by
  simp at hs
  unfold retire
  split
  · rfl
  extract_lets ep b₁ b₂ b₃ b₄ b₅ b₆ b₇
  have h₄ : Within ps b0 b₄ ↔ Within ps b0 b := by simp [b₄, b₃, b₂, b₁, hs]
  have h₅ : Within ps b0 b₅ ↔ Within ps b0 b₄ := by
    dsimp only [b₅]; split
    · simp [hs]
    · simp [hs]
    · split <;> simp [hs]
    · rfl
  have h₆ : Within ps b0 b₆ ↔ Within ps b0 b₅ := by simp [b₆, hs]
  have h₇ : Within ps b0 b₇ ↔ Within ps b0 b₆ := by dsimp only [b₇]; split <;> simp [hs]
  rw [← h₄, ← h₅, ← h₆, ← h₇]
  simp [hs]

@[simp] theorem Block.dropOld_within {old} (hs : [.elems, .wires, .crWires, .nis, .gates, .links, .aborts] ⊆ ps) :
    Within ps b0 (b.dropOld old).1 ↔ Within ps b0 b := by
  simp at hs
  refine (within_links (by simp [hs])).trans ((within_foldl_pair fun x e => ?_).trans (by rfl))
  refine (within_foldl_pair fun y h => ?_).2 (.refl _)
  have hdrop : ∀ b' : Block, Within ps y.1 b' → Within ps y.1
      (if isRouter e then (b'.dropPacket e 0x15 h false).bump e 47 1 else b'.dropPacket e 0x15 h false) := by simp [hs]
  refine hdrop _ ?_
  split
  · split <;> simp [hs]
  · exact .refl _

/-! ### The epochs (03 R103; 06 R191) -/

@[simp] theorem Block.epochIn_within {rcv} (hs : [.elems, .nis, .gates, .links, .doms, .wsh, .lead] ⊆ ps) :
    Within ps b0 (b.epochIn rcv) ↔ Within ps b0 b := by
  simp at hs
  unfold epochIn; split <;> simp [hs]

@[simp] theorem Block.mapEpochIn_within {n} (hs : [.freeCtr, .elems, .nis, .gates, .doms, .wsh, .lead, .aborts] ⊆ ps) :
    Within ps b0 (b.mapEpochIn n) ↔ Within ps b0 b := by
  simp at hs; simp [mapEpochIn, hs]

@[simp] theorem Block.epochAck_within {rcv} (hs : [.freeCtr, .elems, .wires, .crWires, .fcWires, .nis, .gates, .links, .ports, .time,
    .doms, .regions, .stws, .scopes, .gold, .wsh, .rings, .vecs, .lead, .members, .aborts, .hostOut, .farOut] ⊆ ps) :
    Within ps b0 (b.epochAck rcv) ↔ Within ps b0 b := by
  simp at hs
  unfold epochAck; split <;> simp [hs]

@[simp] theorem Block.mapAckIn_within {n} (hs : [.lead] ⊆ ps) :
    Within ps b0 (b.mapAckIn n) ↔ Within ps b0 b := by
  simp at hs
  unfold mapAckIn; split <;> simp [hs]

/-! ### The stewards (14) -/

@[simp] theorem Block.newLead_within {old seq} (hs : [.elems, .stws, .gold, .rings, .vecs, .lead, .hostOut] ⊆ ps) :
    Within ps b0 (b.newLead old seq) ↔ Within ps b0 b := by
  simp at hs; simp [newLead, hs]

@[simp] theorem Block.reloadAnew_within {s served} (hs : [.elems, .doms, .stws, .gold, .lead] ⊆ ps) :
    Within ps b0 (b.reloadAnew s served) ↔ Within ps b0 b := by
  simp at hs; simp [reloadAnew, hs]

/-! ### The power domains (10) -/

@[simp] theorem Block.idleOut_within {d} (hs : [.now, .elems, .gates, .links, .tbs, .doms] ⊆ ps) :
    Within ps b0 (b.idleOut d) ↔ Within ps b0 b := by
  simp at hs
  unfold idleOut; split
  · rfl
  · dsimp only; split
    · rfl
    · split <;> simp [hs]

@[simp] theorem Block.stopCount_within {d} (hs : [.elems] ⊆ ps) :
    Within ps b0 (b.stopCount d) ↔ Within ps b0 b := by
  simp at hs; simp [stopCount, hs]

@[simp] theorem Block.resumeCount_within {d} (hs : [.elems] ⊆ ps) :
    Within ps b0 (b.resumeCount d) ↔ Within ps b0 b := by
  simp at hs; simp [resumeCount, hs]

@[simp] theorem Block.retain_within {d} (hs : [.elems, .doms] ⊆ ps) :
    Within ps b0 (b.retain d) ↔ Within ps b0 b := by
  simp at hs; simp [retain, hs]

@[simp] theorem Block.wakeEvent_within {d code detail} (hs : [.now, .elems, .gates, .links, .tbs, .doms, .farOut] ⊆ ps) :
    Within ps b0 (b.wakeEvent d code detail) ↔ Within ps b0 b := by
  simp at hs
  unfold wakeEvent; split <;> simp [hs]

@[simp] theorem Block.takeUp_within {d} (hs : [.elems, .nis, .gates, .links, .doms, .stws, .gold, .wsh, .lead] ⊆ ps) :
    Within ps b0 (b.takeUp d) ↔ Within ps b0 b := by
  simp at hs
  unfold takeUp
  extract_lets ep es b₁ b₂
  have h₂ : Within ps b0 b₂ ↔ Within ps b0 b := by simp [b₂, b₁, hs]
  rw [← h₂]
  exact within_foldl fun b n => by simp [hs]

@[simp] theorem Block.loseDomain_within {d} (hs : [.elems, .nis, .gates, .regions] ⊆ ps) :
    Within ps b0 (b.loseDomain d) ↔ Within ps b0 b := by
  simp at hs; simp [loseDomain, hs]

@[simp] theorem Block.dropInbox_within {a} (hs : [.elems, .wires, .crWires, .nis, .gates, .links, .aborts] ⊆ ps) :
    Within ps b0 (b.dropInbox a) ↔ Within ps b0 b := by
  simp at hs; simp [dropInbox, hs]

@[simp] theorem Block.fordFlush_within {fab fuel} (hs : [.elems, .wires, .crWires, .nis, .gates, .fords, .links, .doms, .stws, .gold,
    .wsh, .lead, .aborts, .farOut] ⊆ ps) :
    Within ps b0 (b.fordFlush fab fuel) ↔ Within ps b0 b := by
  simp at hs
  unfold fordFlush; split <;> simp [hs]

@[simp] theorem Block.stwTake_within {s} (hs : [.freeCtr, .elems, .gates, .fords, .regions, .wsh, .lead, .members, .aborts] ⊆ ps) :
    Within ps b0 (b.stwTake s) ↔ Within ps b0 b := by
  simp at hs; simp [stwTake, hs]

@[simp] theorem Block.fordSee_within {f} (hs : [.elems, .wires, .crWires, .nis, .gates, .fords, .links, .doms, .stws, .gold, .wsh, .lead,
    .aborts, .farOut] ⊆ ps) :
    Within ps b0 (b.fordSee f) ↔ Within ps b0 b := by
  simp at hs; simp [fordSee, hs]

@[simp] theorem Block.domOn_within {d} (hs : [.freeCtr, .elems, .wires, .crWires, .nis, .gates, .fords, .links, .ports, .doms, .regions,
    .stws, .scopes, .gold, .wsh, .rings, .vecs, .lead, .members, .aborts, .hostOut, .farOut] ⊆ ps) :
    Within ps b0 (b.domOn d) ↔ Within ps b0 b := by
  simp at hs
  unfold domOn
  extract_lets off b₁ b₂ b₃ b₄ b₅ b₆ b₇ b₈
  have h₃ : Within ps b0 b₃ ↔ Within ps b0 b := by simp [b₃, b₂, b₁, hs]
  have h₆ : Within ps b0 b₆ ↔ Within ps b0 b₃ := by simp [b₆, b₅, b₄, hs]
  have h₇ : Within ps b0 b₇ ↔ Within ps b0 b₆ := by dsimp only [b₇]; split <;> simp [hs]
  rw [← h₃, ← h₆, ← h₇]
  simp [b₈, hs]

@[simp] theorem Block.staleBank_within {d x} (hs : [.elems, .nis, .gates] ⊆ ps) :
    Within ps b0 (b.staleBank d x) ↔ Within ps b0 b := by
  simp at hs
  unfold staleBank; split <;> simp [hs]

@[simp] theorem Block.wakeDone_within {d sigs} (hs : [.now, .freeCtr, .elems, .wires, .crWires, .nis, .gates, .fords, .links, .ports,
    .tbs, .doms, .regions, .stws, .scopes, .gold, .wsh, .rings, .vecs, .lead, .members, .aborts, .hostOut, .farOut] ⊆ ps) :
    Within ps b0 (b.wakeDone d sigs) ↔ Within ps b0 b := by
  simp at hs; simp [wakeDone, hs]

@[simp] theorem Block.powerDone_within {d status n} (hs : [.rings, .vecs, .lead, .hostOut] ⊆ ps) :
    Within ps b0 (b.powerDone d status n) ↔ Within ps b0 b := by
  simp at hs; simp [powerDone, hs]

@[simp] theorem Block.powerOff_within {d discarded} (hs : [.now, .elems, .wires, .crWires, .nis, .gates, .links, .tbs, .doms, .stws,
    .gold, .rings, .vecs, .lead, .aborts, .hostOut] ⊆ ps) :
    Within ps b0 (b.powerOff d discarded) ↔ Within ps b0 b := by
  simp at hs; simp [powerOff, hs]

@[simp] theorem Block.discardDom_within {d} (hs : [.elems, .wires, .crWires, .nis, .gates, .links, .doms, .wsh, .aborts] ⊆ ps) :
    Within ps b0 (b.discardDom d).1 ↔ Within ps b0 b := by
  simp at hs
  unfold discardDom
  dsimp only
  refine (within_foldl (by simp [hs])).trans ?_
  refine (within_foldl_pair fun x e => (within_foldl_pair (by simp [hs])).2 (.refl _)).trans ?_
  refine (within_foldl_pair fun x e => (within_foldl_pair (by simp [hs])).2 (.refl _)).trans ?_
  split <;> simp [hs]

@[simp] theorem Block.powerStart_within {d} (hs : [.now, .elems, .wires, .crWires, .nis, .gates, .links, .tbs, .doms, .stws, .gold, .wsh,
    .rings, .vecs, .lead, .aborts, .hostOut, .farOut] ⊆ ps) :
    Within ps b0 (b.powerStart d) ↔ Within ps b0 b := by
  simp at hs
  unfold powerStart; split
  · rfl
  · simp [hs]

@[simp] theorem Block.powerTurn_within {d} (hs : [.now, .elems, .wires, .crWires, .nis, .gates, .links, .tbs, .doms, .stws, .gold, .wsh,
    .rings, .vecs, .lead, .aborts, .hostOut, .farOut] ⊆ ps) :
    Within ps b0 (b.powerTurn d) ↔ Within ps b0 b := by
  simp at hs; simp [powerTurn, hs]

/-! ### The Fords (07) -/

@[simp] theorem Block.fordUp_within {f} (hs : [.nis] ⊆ ps) : Within ps b0 (b.fordUp f) ↔ Within ps b0 b := by
  simp at hs
  unfold fordUp; split
  · rfl
  · split <;> simp [hs]

/-! ### The Watershed and the fences (11) -/

@[simp] theorem Block.endInner_within {ty id} (hs : [.scopes] ⊆ ps) :
    Within ps b0 (b.endInner ty id) ↔ Within ps b0 b := by
  simp at hs
  simp [endInner, hs]

@[simp] theorem Block.stopLinks_within {ty id kind} (hs : [.elems, .wires, .crWires, .nis, .gates, .links, .ports, .time, .wsh, .lead,
    .aborts] ⊆ ps) :
    Within ps b0 (b.stopLinks ty id kind) ↔ Within ps b0 b := by
  simp at hs; simp [stopLinks, hs]

@[simp] theorem Block.endNotices_within {ty id} (hs : [.nis, .fords] ⊆ ps) :
    Within ps b0 (b.endNotices ty id) ↔ Within ps b0 b := by
  simp at hs; simp [endNotices, hs]

@[simp] theorem Block.shut_within {ty id kind} (hs : [.elems, .wires, .crWires, .nis, .gates, .fords, .links, .ports, .time, .doms,
    .regions, .wsh, .rings, .vecs, .lead, .aborts, .hostOut] ⊆ ps) :
    Within ps b0 (b.shut ty id kind) ↔ Within ps b0 b := by
  simp at hs; simp [shut, hs]

@[simp] theorem Block.enterFence_within {ty id kind} (hs : [.elems, .wires, .crWires, .nis, .gates, .fords, .links, .ports, .time, .doms,
    .regions, .scopes, .wsh, .rings, .vecs, .lead, .aborts, .hostOut] ⊆ ps) :
    Within ps b0 (b.enterFence ty id kind) ↔ Within ps b0 b := by
  simp at hs; simp [enterFence, hs]

@[simp] theorem Block.fence_within {ty id kind} (hs : [.elems, .wires, .crWires, .nis, .gates, .fords, .links, .ports, .time, .doms,
    .regions, .scopes, .wsh, .rings, .vecs, .lead, .aborts, .hostOut] ⊆ ps) :
    Within ps b0 (b.fence ty id kind) ↔ Within ps b0 b := by
  simp at hs
  unfold fence; split <;> simp [hs]

@[simp] theorem Block.keepSticky_within {s} (hs : [.wsh] ⊆ ps) :
    Within ps b0 (b.keepSticky s) ↔ Within ps b0 b := by
  simp at hs; simp [keepSticky, hs]

@[simp] theorem Block.collect_within {d err extErr} (hs : [.elems, .wires, .crWires, .nis, .gates, .fords, .links, .ports, .time, .doms,
    .regions, .scopes, .wsh, .rings, .vecs, .lead, .aborts, .hostOut] ⊆ ps) :
    Within ps b0 (b.collect d err extErr) ↔ Within ps b0 b := by
  simp at hs
  unfold collect; split
  · rfl
  next m rest _ =>
  split
  · rfl
  generalize m.receive err extErr = got
  obtain ⟨_ | m, bad⟩ := got <;> simp [hs]

@[simp] theorem Block.fatalFence_within {kind} (hs : [.fatal, .fatalKind, .elems, .wires, .crWires, .fcWires, .nis, .gates, .links,
    .ports, .doms, .wsh, .rings, .vecs, .lead, .aborts, .hostOut, .farOut] ⊆ ps) :
    Within ps b0 (b.fatalFence kind) ↔ Within ps b0 b := by
  simp at hs
  unfold fatalFence; split
  · rfl
  extract_lets b₁ b₂ b₃ b₄ b₅
  have h₁ : Within ps b0 b₁ ↔ Within ps b0 b :=
    Within.iff (qs := [.fatal, .fatalKind]) (fun p hp => by cases p <;> trivial) (by simp [hs])
  have h₃ : Within ps b0 b₃ ↔ Within ps b0 b₁ := by simp [b₃, b₂, hs]
  rw [← h₁, ← h₃]
  clear_value b₃
  have h₄ : Within ps b0 b₄ ↔ Within ps b0 b₃ :=
    Within.iff (qs := [.elems, .wires, .crWires, .fcWires, .links]) (fun p hp => by cases p <;> trivial) (by simp [hs])
  have h₅ : Within ps b0 b₅ ↔ Within ps b0 b₄ := by simp [b₅, hs]
  rw [← h₄, ← h₅]
  clear_value b₅
  exact Within.iff (qs := [.gates, .aborts]) (fun p hp => by cases p <;> trivial) (by simp [hs])

@[simp] theorem Block.notLost_within {s} (hs : [.nis, .stws, .scopes, .lead] ⊆ ps) :
    Within ps b0 (b.notLost s) ↔ Within ps b0 b := by
  simp at hs; simp [notLost, hs]

theorem Block.mutualLoss_within {m} (hs : [.elems, .nis, .stws, .scopes, .gold, .wsh, .rings, .vecs, .lead, .hostOut] ⊆ ps)
    (h : b.mutualLoss m = some b') : Within ps b0 b' ↔ Within ps b0 b := by
  simp at hs
  unfold mutualLoss at h
  split at h
  · cases h
  split at h
  · cases h
  extract_lets low high b₁ b₂ lead b₃ at h
  have h₂ : Within ps b0 b₂ ↔ Within ps b0 b := by simp [b₂, b₁, hs]
  split at h
  · rw [← h₂, ← Option.some.inj h]
  · rw [← h₂, ← Option.some.inj h]; simp [b₃, hs]

@[simp] theorem Block.arrival_within {err extErr} (hs : [.fatal, .fatalKind, .elems, .wires, .crWires, .fcWires, .nis, .gates, .links,
    .ports, .doms, .stws, .scopes, .gold, .wsh, .rings, .vecs, .lead, .aborts, .hostOut, .farOut] ⊆ ps) :
    Within ps b0 (b.arrival err extErr) ↔ Within ps b0 b := by
  simp at hs
  unfold arrival
  -- the checker computes with the message's 184 bits unless the receipt is a variable
  obtain ⟨receive, hr⟩ : ∃ f, f = Msg.receive := ⟨_, rfl⟩
  rw [← hr]
  split
  · rfl
  next m rest _ =>
  extract_lets b₁
  have h₁ : Within ps b0 b₁ ↔ Within ps b0 b := by simp [b₁, hs]
  rw [← h₁]
  clear_value b₁
  generalize receive m err extErr = got
  obtain ⟨_ | m, bad⟩ := got
  · simp [hs]
  dsimp -zeta only
  extract_lets b₂ b₃ key first m' b₄ b₅ b₆ soon b₇
  have h₃ : Within ps b0 b₃ ↔ Within ps b0 b₁ := by simp [b₃, b₂, hs]
  rw [← h₃]
  clear_value b₃
  have h₄ : Within ps b0 b₄ ↔ Within ps b0 b₃ := by simp [b₄, hs]
  split
  · simp [hs]
  split
  next h => rw [mutualLoss_within (by simp [hs]) h, h₄]
  · rw [← h₄]
    clear_value b₄
    have h₆ : Within ps b0 b₆ ↔ Within ps b0 b₄ := by simp [b₆, b₅, hs]
    rw [← h₆]
    clear_value b₆
    simp [b₇, hs]

@[simp] theorem Block.cutCommit_within {seq ty id} (hs : [.rings, .vecs, .lead, .hostOut] ⊆ ps) :
    Within ps b0 (b.cutCommit seq ty id) ↔ Within ps b0 b := by
  simp at hs
  unfold cutCommit; split <;> simp [hs]

@[simp] theorem Block.cutSwitch_within {seq ty id} (hs : [.elems, .nis, .doms, .regions, .rings, .vecs, .lead, .hostOut] ⊆ ps) :
    Within ps b0 (b.cutSwitch seq ty id) ↔ Within ps b0 b := by
  simp at hs
  unfold cutSwitch; split <;> simp [hs]

@[simp] theorem Block.cutMap_within {seq ty id} (hs : [.nis, .regions, .rings, .vecs, .lead, .hostOut] ⊆ ps) :
    Within ps b0 (b.cutMap seq ty id) ↔ Within ps b0 b := by
  simp at hs
  unfold cutMap; split
  · rfl
  · refine (finishAll_within (by simp [hs])).trans ((modLead_within (by simp [hs])).trans ?_)
    exact Within.iff (qs := [.nis, .regions]) (fun p hp => by cases p <;> trivial) (by simp [hs])

@[simp] theorem Block.fenceAct_within {seq ty id} (hs : [.elems, .nis, .gates, .doms, .regions, .stws, .gold, .rings, .vecs, .lead,
    .hostOut, .farOut] ⊆ ps) :
    Within ps b0 (b.fenceAct seq ty id) ↔ Within ps b0 b := by
  simp at hs
  simp [fenceAct, hs]

@[simp] theorem Block.react_within (hs : [.elems, .nis, .gates, .doms, .regions, .stws, .gold, .wsh, .rings, .vecs, .lead, .hostOut,
    .farOut] ⊆ ps) :
    Within ps b0 (b.react) ↔ Within ps b0 b := by
  simp at hs
  unfold react; split <;> simp [hs]

@[simp] theorem Block.startReset_within {ty id} (hs : [.scopes] ⊆ ps) :
    Within ps b0 (b.startReset ty id) ↔ Within ps b0 b := by
  simp at hs; simp [startReset, hs]

@[simp] theorem Block.sweep_within {ty id unreadable} (hs : [.elems, .wires, .crWires, .nis, .gates, .links, .scopes, .aborts] ⊆ ps) :
    Within ps b0 (b.sweep ty id unreadable) ↔ Within ps b0 b := by
  simp at hs; simp [sweep, hs]

@[simp] theorem Block.toRings_within {r} (hs : [.rings, .vecs, .hostOut] ⊆ ps) :
    Within ps b0 (b.toRings r) ↔ Within ps b0 b := by
  simp at hs; simp [toRings, hs]

@[simp] theorem Block.putRec_within {r} (hs : [.wsh, .rings, .vecs, .hostOut] ⊆ ps) :
    Within ps b0 (b.putRec r) ↔ Within ps b0 b := by
  simp at hs; simp [putRec, hs]

@[simp] theorem Block.riseCheck_within {m} (hs : [.elems, .regions, .wsh] ⊆ ps) :
    Within ps b0 (b.riseCheck m) ↔ Within ps b0 b := by
  simp at hs
  unfold riseCheck; split <;> simp [hs]

@[simp] theorem Block.writeRecord_within (hs : [.now, .elems, .gates, .tbs, .regions, .wsh, .rings, .vecs, .hostOut] ⊆ ps) :
    Within ps b0 (b.writeRecord) ↔ Within ps b0 b := by
  simp at hs
  unfold writeRecord; dsimp only; split <;> simp [hs]

/-! ### Repair (12; 11 R333) -/

@[simp] theorem Block.closeRoutes_within {ty id} (hs : [.elems, .gates, .regions, .stws, .scopes, .gold, .lead] ⊆ ps) :
    Within ps b0 (b.closeRoutes ty id) ↔ Within ps b0 b := by
  simp at hs; simp [closeRoutes, hs]

@[simp] theorem Block.closeScope_within {ty id force offlined hold test} (hs : [.elems, .gates, .regions, .stws, .scopes, .gold, .lead,
    .farOut] ⊆ ps) :
    Within ps b0 (b.closeScope ty id force offlined hold test) ↔ Within ps b0 b := by
  simp at hs
  simp [closeScope, hs]

@[simp] theorem Block.planeGo_within (hs : [.elems, .gates, .regions, .stws, .scopes, .gold, .lead] ⊆ ps) :
    Within ps b0 (b.planeGo) ↔ Within ps b0 b := by
  simp at hs
  unfold planeGo; split <;> simp [hs]

@[simp] theorem Block.fencePlanned_within {ty id} (hs : [.elems, .wires, .crWires, .nis, .gates, .fords, .links, .ports, .time, .doms,
    .regions, .stws, .scopes, .gold, .wsh, .rings, .vecs, .lead, .aborts, .hostOut, .farOut] ⊆ ps) :
    Within ps b0 (b.fencePlanned ty id) ↔ Within ps b0 b := by
  simp at hs
  simp [fencePlanned, hs]

@[simp] theorem Block.passDuties_within {ty id} (hs : [.freeCtr, .elems, .doms, .regions, .stws, .gold, .rings, .vecs, .lead, .hostOut] ⊆
    ps) :
    Within ps b0 (b.passDuties ty id) ↔ Within ps b0 b := by
  simp at hs
  simp [passDuties, hs]

@[simp] theorem Block.reopen_within {ty id} (hs : [.elems, .doms, .stws, .scopes, .gold, .rings, .vecs, .lead, .hostOut] ⊆ ps) :
    Within ps b0 (b.reopen ty id) ↔ Within ps b0 b := by
  simp at hs; simp [reopen, hs]

@[simp] theorem Block.resetElem_within {e} (hs : [.elems, .nis, .gates, .fords, .doms, .regions, .stws, .gold, .lead, .farOut] ⊆ ps) :
    Within ps b0 (b.resetElem e) ↔ Within ps b0 b := by
  simp at hs; simp [resetElem, hs]

@[simp] theorem Block.startTrain_within {a} (hs : [.links, .ports, .wsh] ⊆ ps) :
    Within ps b0 (b.startTrain a) ↔ Within ps b0 b := by
  simp at hs; simp [startTrain, hs]

@[simp] theorem Block.trainLinks_within {ty id} (hs : [.links, .ports, .wsh] ⊆ ps) :
    Within ps b0 (b.trainLinks ty id) ↔ Within ps b0 b := by
  simp at hs
  exact within_foldl fun b a => by simp [hs]

@[simp] theorem Block.scopeReset_within {ty id} (hs : [.elems, .wires, .crWires, .fcWires, .nis, .gates, .fords, .links, .ports, .doms,
    .regions, .stws, .scopes, .gold, .wsh, .lead, .aborts, .farOut] ⊆ ps) :
    Within ps b0 (b.scopeReset ty id) ↔ Within ps b0 b := by
  simp at hs; simp [scopeReset, hs]

@[simp] theorem Block.testsPass_within {ty id} (hs : [.elems, .nis, .gates, .regions, .stws, .scopes, .gold, .rings, .vecs, .lead,
    .hostOut] ⊆ ps) :
    Within ps b0 (b.testsPass ty id) ↔ Within ps b0 b := by
  simp at hs; simp [testsPass, hs]

@[simp] theorem Block.testsFail_within {ty id code source} (hs : [.freeCtr, .elems, .wires, .crWires, .nis, .gates, .fords, .links,
    .ports, .time, .doms, .regions, .stws, .scopes, .gold, .wsh, .rings, .vecs, .lead, .aborts, .hostOut, .farOut] ⊆ ps) :
    Within ps b0 (b.testsFail ty id code source) ↔ Within ps b0 b := by
  simp at hs
  unfold testsFail; dsimp only; split <;> simp [hs]

@[simp] theorem Block.startAdmit_within {ty id} (hs : [.elems, .stws, .scopes, .gold, .lead] ⊆ ps) :
    Within ps b0 (b.startAdmit ty id) ↔ Within ps b0 b := by
  simp at hs; simp [startAdmit, hs]

@[simp] theorem Block.spareRow_within {o table row} (hs : [.elems, .wsh] ⊆ ps) :
    Within ps b0 (b.spareRow o table row) ↔ Within ps b0 b := by
  simp at hs; simp [spareRow, hs]

@[simp] theorem Block.scrubbed_within {o table row} (hs : [.elems, .wsh] ⊆ ps) :
    Within ps b0 (b.scrubbed o table row) ↔ Within ps b0 b := by
  simp at hs; simp [scrubbed, hs]

@[simp] theorem Block.tableWorn_within {o table} (hs : [.elems, .gates, .regions, .stws, .scopes, .gold, .lead, .farOut] ⊆ ps) :
    Within ps b0 (b.tableWorn o table) ↔ Within ps b0 b := by
  simp at hs
  unfold tableWorn; dsimp only; split <;> simp [hs]

@[simp] theorem Block.badWord_within {o table row forced} (hs : [.elems, .nis, .gates, .regions, .stws, .scopes, .gold, .wsh, .lead,
    .farOut] ⊆ ps) :
    Within ps b0 (b.badWord o table row forced) ↔ Within ps b0 b := by
  simp at hs
  unfold badWord; dsimp only
  split
  · simp [hs]
  split
  · simp [hs]
  split
  · simp [hs]
  split <;> simp [hs]

@[simp] theorem Block.spareFails_within {o table uncorrectable} (hs : [.elems, .wsh] ⊆ ps) :
    Within ps b0 (b.spareFails o table uncorrectable) ↔ Within ps b0 b := by
  simp at hs; simp [spareFails, hs]

/-! ### The profiles (13) -/

@[simp] theorem Block.drainEnd_within {status busy} (hs : [.rings, .vecs, .lead, .hostOut] ⊆ ps) :
    Within ps b0 (b.drainEnd status busy) ↔ Within ps b0 b := by
  simp at hs; simp [drainEnd, hs]

@[simp] theorem Block.switchDone_within (hs : [.rings, .vecs, .lead, .hostOut] ⊆ ps) :
    Within ps b0 (b.switchDone) ↔ Within ps b0 b := by
  simp at hs; simp [switchDone, hs]

/-! ### A descriptor is taken (15) -/

@[simp] theorem Block.take_within {c} (hs : [.rings] ⊆ ps) :
    Within ps b0 (b.take c) ↔ Within ps b0 b := by
  simp at hs; simp [take, hs]

/-! ### The commands of four families -/

@[simp] theorem Block.copyMap_within (hs : [.map, .groups] ⊆ ps) : Within ps b0 b.copyMap ↔ Within ps b0 b :=
  Within.iff (qs := [.map, .groups]) (fun p hp => by cases p <;> trivial) hs

/-- A command keeps to its frame where its effect does, on every block. -/
theorem within_of_on {i : Instr} {f : Block → Block} {s t : State} (hx : s.on i f = .next t)
    (h : ∀ b, Within (touches i) b (f b)) : Within (touches i) s.blk t.blk := by
  obtain ⟨-, hblk⟩ := State.on_next hx
  rw [hblk]; split
  · exact h s.blk
  · exact .refl _

/-- The frame of the commands of epochs (03 R103; 06 R191). -/
theorem epochs_within {i : Instr} {s t : State} (hf : family i = .epochs) (hx : exec i s = .next t) :
    Within (touches i) s.blk t.blk := by
  cases i <;> cases hf <;> dsimp only [exec] at hx
  case epochCommit rcv map => exact within_of_on hx fun b => by simp [touches]
  case epochCommitAck rcv map => exact within_of_on hx fun b => by simp [touches]
  case drainQueryTick g =>
    refine within_of_on hx fun b => ?_
    split
    · split <;> simp [touches]
    · simp
  case epochDrainReport g =>
    refine within_of_on hx fun b => ?_
    split <;> simp [touches]
  case epochDrainTimeout =>
    refine within_of_on hx fun b => ?_
    split
    · split <;> simp [touches]
    · simp
  case mapEpochRetire =>
    refine within_of_on hx fun b => ?_
    split <;> simp [touches]
  case mapBankCopyDone g => exact within_of_on hx fun b => by simp [touches]

/-- The frame of the commands of the power domains (10 R292). -/
theorem power_within {i : Instr} {s t : State} (hf : family i = .power) (hx : exec i s = .next t) :
    Within (touches i) s.blk t.blk := by
  cases i <;> cases hf <;> dsimp only [exec] at hx
  case powerDownDrained d =>
    refine within_of_on hx fun b => ?_
    dsimp only
    split
    · simp [touches]
    split
    · simp [touches]
    split
    · simp [touches]
    split <;> simp [touches]
  case powerDownTimeout d =>
    refine within_of_on hx fun b => ?_
    dsimp only
    split
    · simp [touches]
    split
    · simp [touches]
    split
    · simp [touches]
    cases domAdp d <;> simp [touches]
  all_goals exact within_of_on hx fun b => by simp [touches]

/-- The frame of the commands of faults and of repair (11 R312). -/
theorem faults_within {i : Instr} {s t : State} (hf : family i = .faults) (hx : exec i s = .next t) :
    Within (touches i) s.blk t.blk := by
  cases i <;> cases hf <;> dsimp only [exec] at hx
  case planeNoticeLimit =>
    refine within_of_on hx fun b => ?_
    split <;> simp [touches]
  case scopeTestDone ty id failed =>
    refine within_of_on hx fun b => ?_
    dsimp only
    split
    · simp
    · split <;> simp [touches]
  all_goals exact within_of_on hx fun b => by simp [touches]

/-- The frame of the commands of the profiles (13 R363). -/
theorem profiles_within {i : Instr} {s t : State} (hf : family i = .profiles) (hx : exec i s = .next t) :
    Within (touches i) s.blk t.blk := by
  cases i <;> cases hf <;> dsimp only [exec] at hx
  case profileDrainTimeout =>
    refine within_of_on hx fun b => ?_
    split <;> simp [touches]
  case profileRailWaitLimit g =>
    refine within_of_on hx fun b => ?_
    split
    · simp
    · split <;> simp [touches]
  all_goals exact within_of_on hx fun b => by simp [touches]

end

/-- Settles O56: each of the four families keeps to its frame, and a frame is a claim about every part. -/
theorem frameOfEpochsPowerAndFaults : Obligations.FrameOfEpochsPowerAndFaults := by
  intro i s t p hf hx hp
  simp only [List.mem_cons, List.not_mem_nil, or_false] at hf
  obtain hf | hf | hf | hf := hf
  · exact epochs_within hf hx p hp
  · exact power_within hf hx p hp
  · exact faults_within hf hx p hp
  · exact profiles_within hf hx p hp

end Sys2Proof.Machine
end

section
/-! PROOFS. The map's epoch (spec/06 R191; 16 R430), its lookups (06 R189), management requests (03 R109) and notices (06 R200; 11 R318). -/

namespace Sys2Proof.Machine

/-! ### Sparse tables written row by row -/

section
variable {α β : Type} {m : SMap α} {l : List β} {key : β → Nat} {val : β → α} {j : Nat}

/-- Rows other than those written keep what they held. -/
theorem SMap.find_foldl_set_of_notMem (h : ∀ x ∈ l, key x ≠ j) : (l.foldl (fun m x => m.set (key x) (val x)) m).find j = m.find j := by
  induction l generalizing m with
  | nil => rfl
  | cons x l ih =>
    rw [List.foldl_cons, ih fun y hy => h y (List.mem_cons_of_mem _ hy)]
    exact m.find_set_ne _ (h x List.mem_cons_self).symm

/-- Rows written once hold what was written. -/
theorem SMap.find_foldl_set_of_mem {x : β} (hn : (l.map key).Nodup) (hx : x ∈ l) :
    (l.foldl (fun m x => m.set (key x) (val x)) m).find (key x) = some (val x) := by
  induction l generalizing m with
  | nil => cases hx
  | cons y l ih =>
    rw [List.map_cons, List.nodup_cons] at hn
    obtain rfl | hx := List.mem_cons.1 hx
    · rw [List.foldl_cons, SMap.find_foldl_set_of_notMem, SMap.find_set_self]
      exact fun z hz he => hn.1 (List.mem_map.2 ⟨z, hz, he⟩)
    · exact ih hn.2 hx

/-- A row that no change reaches. -/
theorem SMap.get_foldl_mod_of_notMem {d : α} {ks : List Nat} {f : Nat → α → α} (h : j ∉ ks) :
    (ks.foldl (fun m k => m.mod d k (f k)) m).get d j = m.get d j := by
  induction ks generalizing m with
  | nil => rfl
  | cons k ks ih =>
    rw [List.mem_cons, not_or] at h
    rw [List.foldl_cons, ih h.2, SMap.get_mod_ne _ _ _ h.1]

/-- A row that one change reaches. -/
theorem SMap.get_foldl_mod_of_mem {d : α} {ks : List Nat} {f : Nat → α → α} (hn : ks.Nodup) (h : j ∈ ks) :
    (ks.foldl (fun m k => m.mod d k (f k)) m).get d j = f j (m.get d j) := by
  induction ks generalizing m with
  | nil => cases h
  | cons k ks ih =>
    obtain ⟨hk, hks⟩ := List.nodup_cons.1 hn
    rw [List.foldl_cons]
    obtain rfl | hj := List.mem_cons.1 h
    · rw [SMap.get_foldl_mod_of_notMem hk, SMap.get_mod_self]
    · have hne : j ≠ k := fun he => hk (he ▸ hj)
      rw [ih hks hj, SMap.get_mod_ne _ _ _ hne]

/-- Keys that rise from a bound are at least that bound, and stand once. -/
theorem SMap.nodup_of_risingFrom {lo : Nat} (h : SMap.risingFrom lo m = true) : (∀ e ∈ m, lo ≤ e.1) ∧ (m.map (·.1)).Nodup := by
  induction m generalizing lo with
  | nil => simp
  | cons e m ih =>
    obtain ⟨k, v⟩ := e
    simp only [SMap.risingFrom, Bool.and_eq_true, decide_eq_true_eq] at h
    obtain ⟨hlo, hm⟩ := h
    obtain ⟨hle, hn⟩ := ih hm
    refine ⟨?_, ?_⟩
    · rintro e he
      obtain rfl | he := List.mem_cons.1 he
      · exact hlo
      · exact (Nat.le_succ_of_le hlo).trans (hle e he)
    · rw [List.map_cons, List.nodup_cons]
      refine ⟨fun hk => ?_, hn⟩
      obtain ⟨e, he, rfl⟩ := List.mem_map.1 hk
      exact absurd (hle e he) (Nat.not_succ_le_self _)

/-- A row that is found is listed. -/
theorem SMap.mem_of_find {k : Nat} {v : α} (h : m.find k = some v) : (k, v) ∈ m := by
  induction m with
  | nil => cases h
  | cons e m ih =>
    obtain ⟨k', v'⟩ := e
    simp only [SMap.find] at h
    split at h
    · next hk => cases h; rw [hk]; exact List.mem_cons_self
    · exact List.mem_cons_of_mem _ (ih h)

/-- A row that is listed is found. -/
theorem SMap.find_ne_none_of_mem {e : Nat × α} (h : e ∈ m) : m.find e.1 ≠ none := by
  induction m with
  | nil => cases h
  | cons e' m ih =>
    obtain ⟨k', v'⟩ := e'
    simp only [SMap.find]
    split
    · exact Option.some_ne_none _
    · next hne =>
      obtain rfl | h := List.mem_cons.1 h
      · exact absurd rfl hne
      · exact ih h

/-- A selection of rows by their keys. -/
theorem SMap.find_filter (p : Nat → Bool) (m : SMap α) (k : Nat) :
    SMap.find (m.filter fun kv => p kv.1) k = if p k then m.find k else none := by
  induction m with
  | nil => simp [SMap.find]
  | cons e m ih =>
    obtain ⟨k', v'⟩ := e
    by_cases hk : k = k'
    · subst hk
      by_cases hp : p k = true <;> simp_all [SMap.find]
    · by_cases hp : p k' = true <;> simp_all [SMap.find]
end

/-! ### Commands that complete -/

/-- A message raised between two blocks is raised between any two with their collectors. -/
theorem Raised.of_wsh {a b b' c : Block} {s k sev : Nat} (h : Raised b b' s k sev) (ha : a.wsh = b.wsh) (hc : c.wsh = b'.wsh) :
    Raised a c s k sev := by
  rw [Raised, ha, hc]
  exact h

/-! ### The map's epoch -/

/-- An NI whose Tollgate, lookups and releases wait for nothing has nothing to resolve. -/
theorem Block.resolveNi_of_idle {b : Block} {n : Nat} (hq : (b.gate n).queue = []) (hl : (b.ni n).lookups = []) (hr : (b.ni n).rels = []) :
    b.resolveNi n = b := by
  have hq' : ∀ t, (b.gate n).q t = [] := fun t => by rw [Gate.q, hq]; rfl
  simp [resolveNi, releaseStray, hr, hl, List.range_succ, hq', resolveTier]

/-- Where no command is in flight none completes. -/
theorem Block.finishAll_of_flights_nil {b : Block} {p : Flight → Bool} {st : Nat} {res : Flight → List (Nat × Nat × Nat)}
    (h : b.lead.flights = []) : b.finishAll p st res = b := by
  simp [finishAll, h]

@[simp] theorem Block.copyMap_region (b : Block) (g : Nat) : b.copyMap.region g = b.region g := rfl

/-- Both copies of the map hold what the copy in force held. -/
theorem Block.copyMap_find {b : Block} (hw : b.map.wf = true) {e k : Nat} (he : e < 2) (hk : k < 65536) :
    b.copyMap.map.find (e * 65536 + k) = b.map.find ((if b.lead.mapEpoch then 65536 else 0) + k) := by
  obtain ⟨-, hnd⟩ := SMap.nodup_of_risingFrom (m := b.map) hw
  obtain ⟨new, hnew⟩ : ∃ new, new = if b.lead.mapEpoch then 1 else 0 := ⟨_, rfl⟩
  have hlt : new < 2 := by rw [hnew]; split <;> decide
  have hrow : (if b.lead.mapEpoch then 65536 else 0) = new * 65536 := by rw [hnew]; split <;> rfl
  have hin : ∀ x ∈ b.map.filter (fun kv => kv.1 / 65536 == new), x ∈ b.map ∧ x.1 / 65536 = new := fun x hx => by
    simpa using List.mem_filter.1 hx
  have hfind : ∀ e, SMap.find (b.map.filter fun kv => kv.1 / 65536 == new) (e * 65536 + k) =
      if e = new then b.map.find (e * 65536 + k) else none := fun e => by
    rw [SMap.find_filter (fun j => j / 65536 == new), show (e * 65536 + k) / 65536 = e by omega]
    simp only [beq_iff_eq]
  simp only [copyMap, ← hnew, hrow]
  by_cases hen : e = new
  · rw [SMap.find_foldl_set_of_notMem, hfind, if_pos hen, hen]
    exact fun x hx => by omega
  · rw [show e = 1 - new by omega]
    cases hv : b.map.find (new * 65536 + k) with
    | some v =>
      have hx : (new * 65536 + k, v) ∈ b.map.filter (fun kv => kv.1 / 65536 == new) :=
        List.mem_filter.2 ⟨SMap.mem_of_find hv, beq_iff_eq.2 (by omega)⟩
      have hkeys : ((b.map.filter (fun kv => kv.1 / 65536 == new)).map (fun kv => (1 - new) * 65536 + kv.1 % 65536)).Nodup := by
        refine (hnd.of_map.filter _).map_on fun x hx y hy hxy => ?_
        obtain ⟨hxm, hxn⟩ := hin x hx
        obtain ⟨hym, hyn⟩ := hin y hy
        exact List.inj_on_of_nodup_map hnd hxm hym (by omega)
      have hwritten := SMap.find_foldl_set_of_mem (m := b.map.filter fun kv => kv.1 / 65536 == new) (val := (·.2)) hkeys hx
      rwa [show (new * 65536 + k) % 65536 = k by omega] at hwritten
    | none =>
      rw [SMap.find_foldl_set_of_notMem, hfind, if_neg (by omega)]
      intro x hx hkey
      obtain ⟨hxm, hxn⟩ := hin x hx
      exact SMap.find_ne_none_of_mem hxm (by rwa [show x.1 = new * 65536 + k by omega])

/-- Region by region, the change of a region that each of a list of regions has. -/
theorem Block.foldl_modRegion_region {b : Block} {gs : List Nat} {f : Region → Region} {g : Nat} (hn : gs.Nodup) (hg : g ∈ gs) :
    (gs.foldl (fun b g => b.modRegion g f) b).region g = f (b.region g) := by
  have hmap : ∀ b : Block, (gs.foldl (fun b g => b.modRegion g f) b).regions = gs.foldl (fun m g => m.mod {} g f) b.regions := fun b => by
    clear hn hg
    induction gs generalizing b with
    | nil => rfl
    | cons g gs ih => exact ih (b.modRegion g f)
  rw [region, hmap]
  exact SMap.get_foldl_mod_of_mem (f := fun _ => f) hn hg

/-! ### Headers (02 R40) -/

section
variable (dest src : BitVec 16) (cls opc len tier : Nat) (tag : BitVec 10) (addr : BitVec 46) (ord poison : Bool)

theorem hOpc_mkHdr : hOpc (mkHdr dest src cls opc tag len addr tier ord poison) = opc % 64 := by
  obtain ⟨-, -, -, hopc, -⟩ := hf_mkHdr dest src cls opc tag len addr tier ord poison
  exact hopc

theorem hTag_mkHdr : hTag (mkHdr dest src cls opc tag len addr tier ord poison) = tag := by
  obtain ⟨-, -, -, -, htag, -⟩ := hf_mkHdr dest src cls opc tag len addr tier ord poison
  exact extractLsb'_eq_of_hf htag
end

/-- The map's epoch. -/
theorem mapEpochs : Claims.MapEpochs := by
  intro s n g gr t
  refine ⟨fun hn hgr hmem hq hl hr => ?_, fun hn hgr hack hrcv hp => ?_, fun hp hcopy hold => ?_, fun hg hcopy hfl hw => ?_⟩
  · refine completes_of_on (f := fun b => b.mapEpochIn n) hn rfl ?_
    have hgo : ¬ (!s.blk.lead.mapRcv.contains n || s.blk.lead.mapGran.isNone) = true := by simp [hmem, hgr]
    rw [Block.mapEpochIn, if_neg hgo, Block.resolveNi_of_idle (by simpa using hq) (by simpa using hl) (by simpa using hr)]
    exact ⟨Block.modNi_ni .., rfl⟩
  · refine completes_of_on (f := fun b => b.mapAckIn n) hn rfl ?_
    simp [Block.mapAckIn, hgr, hack, hrcv, hp]
  · refine completes_of_on rfl (show execMapEpochRetire s = s.on .mapEpochRetire _ from rfl) ?_
    simp only [hp, hcopy, hold, List.isEmpty_nil, Bool.not_true, Bool.or_false, Bool.false_eq_true, if_false]
    set banks := (List.range 32).filter (fun g => !(s.blk.region g).bankOut && !s.blk.regionQuiet g) with hbanks
    set b' := banks.foldl (fun b g => b.modRegion g fun r => { r with bankCopied := false })
      (s.blk.modLead fun l => { l with mapCopy := banks }) with hb'
    have hlead : b'.lead.mapCopy = banks := congrArg Lead.mapCopy
      ((Block.within_foldl (ps := [.regions]) (b0 := s.blk.modLead fun l => { l with mapCopy := banks }) (by simp)).2 (.refl _) .lead (by simp))
    refine ⟨fun k => ?_, fun k hk => ?_⟩
    · simp [hlead, hbanks]
    · rw [hb', Block.foldl_modRegion_region (List.nodup_range.filter _) (hlead ▸ hk : k ∈ banks)]
  · refine completes_of_on (by simpa [Instr.WellFormed] using hg) (show execMapBankCopyDone g s = s.on (.mapBankCopyDone g) _ from rfl) ?_
    rw [if_neg (by simp [hcopy])]
    dsimp only
    rw [if_neg (by simp [hcopy]), Block.finishAll_of_flights_nil]
    swap
    · exact hfl
    have hmap : ∀ e, e < 2 → ∀ k, k < 65536 →
        s.blk.copyMap.map.get 0 (e * 65536 + k) = s.blk.map.get 0 ((if s.blk.lead.mapEpoch then 65536 else 0) + k) := fun e he k hk => by
      rw [SMap.get_eq_find, Block.copyMap_find hw he hk, ← SMap.get_eq_find]
    refine ⟨rfl, rfl, rfl, by simp, fun k hk => ?_⟩
    have h0 := hmap 0 (by decide) k hk
    have h1 := hmap 1 (by decide) k hk
    rw [Nat.zero_mul, Nat.zero_add] at h0
    rw [Nat.one_mul] at h1
    exact ⟨h0.trans h1.symm, h0⟩

/-! ### Lookups, management requests and notices -/

/-- A management packet of an NI with a unit waits in its Tollgate. -/
theorem Block.sendMgt_of_unit {b : Block} {n : Nat} {h : BitVec 128} {pays : List (BitVec 512)} (hn : noUnit n = false) :
    b.sendMgt n h pays = b.modGate n (fun g => { g with mgtq := g.mgtq ++ [{ hdr := h, pays := pays, resolved := true }] }) := by
  simp [sendMgt, hn]

/-- The one lock of an NI that a notice names is broken, and the break is raised. -/
theorem Block.breakLocks_single {b : Block} {n cause i : Nat} {l : Lock} {p : Lock → Bool} (hl : (b.ni n).locks = [(i, l)])
    (hb : l.broken = false) (hp : p l = true) :
    ((b.breakLocks n cause p).ni n).locks = [(i, { l with broken := true })] ∧ Raised b (b.breakLocks n cause p) n 0x12 1 := by
  have hfind : (b.ni n).locks.find i = some l := by simp [hl, SMap.find]
  have hbreak : b.breakLocks n cause p = (b.modNi n (fun x => { x with locks := x.locks.set i { l with broken := true } })).event n 0x12 none
      (detK l.owner.toNat l.inc.toNat i cause) := by
    simp [breakLocks, hl, hb, hp, breakLock, SMap.find]
  rw [hbreak]
  refine ⟨by simp [hl, SMap.set], ?_⟩
  exact Raised.of_wsh (Block.event_raised (b := b.modNi n _) n 0x12 none _) rfl rfl

/-- Map lookups, management requests and notices. -/
theorem mapServiceAndNotices : Claims.MapServiceAndNotices := by
  intro s g n h rest hf
  refine ⟨fun hg hlt hq hout hbad hu => ?_, fun dest srcN tag addr hd hn hu hstw hheld => ?_, fun i l inc hn hl hb hinc hc => ?_,
    fun i l ty id hn hok hl hb hpkg hsc => ?_⟩
  · refine completes_of_on (f := fun b => b.mapServe g) (by simpa [Instr.WellFormed] using hlt) rfl ?_
    simp [Block.mapServe, hq, hout, hbad, Nat.not_lt.2 hg, Block.sendMgt_of_unit hu, hOpc_mkHdr, hTag_mkHdr]
  · refine completes_of_on (f := fun b => b.mgtRequest dest srcN 1 tag addr true) (by simp [Instr.WellFormed, hd]) rfl ?_
    have hknown : opKnown MGT 1 = true := by decide
    have hfar : ∀ h, ((s.blk.farNotice h).gate (nodeNi dest)).mgtq = (s.blk.gate (nodeNi dest)).mgtq := fun h => by
      have hw : Block.Within [.freeCtr, .lead, .members] s.blk (s.blk.farNotice h) := by simp
      rw [Block.gate, hw .gates (by decide), Block.gate]
    simp only [Block.mgtRequest, Block.mgtServe, hOpc_mkHdr, hTag_mkHdr, hknown, hu, hstw, hheld, Block.sendMgt_of_unit]
    by_cases hnote : nodePkg (hSrc (mkHdr (canon dest) srcN MGT 1 tag 0 addr 2 false false)) ≠ s.blk.pkgid ∧ nodeNi dest = stwNi s.blk.leadSrc
    · obtain ⟨hpkg, hlead⟩ := hnote
      simp [hpkg, ← hlead, hfar, hOpc_mkHdr, hTag_mkHdr]
    · simp [hnote, hOpc_mkHdr, hTag_mkHdr]
  · refine completes_of_on (show (Instr.resetNotice n l.owner inc).WellFormed = true from hn)
      (show execResetNotice n l.owner inc s = s.on _ _ from rfl) ?_
    obtain ⟨hlocks, hraised⟩ := Block.breakLocks_single (b := s.blk.modLead _) (cause := 1)
      (p := fun l' => l'.owner == canon l.owner && l'.inc != inc) hl hb (by simp [hc, hinc])
    exact ⟨hlocks, hraised.of_wsh rfl rfl⟩
  · refine completes_of_on (by simp [Instr.WellFormed, hn, hpkg, hok]) (show execFenceNotice n (nodePkg l.owner) ty id s = s.on _ _ from rfl) ?_
    obtain ⟨hlocks, hraised⟩ := Block.breakLocks_single (b := s.blk.modLead _) (cause := 2)
      (p := fun l' => nodePkg l'.owner == nodePkg l.owner && (elemScopes (nodeNi l'.owner)).contains (ty, id)) hl hb (by simp [hsc])
    exact ⟨hlocks, hraised.of_wsh rfl rfl⟩

/-- Settles O15: the map's epoch step by step, then the answer of a bank, of an endpoint and of a lock owner's notices. -/
theorem mapEpochsAndService : Obligations.MapEpochsAndService := ⟨mapEpochs, mapServiceAndNotices⟩

end Sys2Proof.Machine
end

section
/-! PROOFS. The ring commands of the map and the routes (spec/15 R405, R406; 16 R429 to R432): a descriptor that is served, its completion
entry, and what MAP_WRITE, MAP_COMMIT, ROUTE_WRITE and ROUTE_COMMIT write. -/

namespace Sys2Proof.Machine

open Block (Within)

/-! ### A descriptor that is served -/

section
variable {b x : Block} {c : Cmd} {f : Form} {run : Block → Verdict} {st fd : Nat} {res : List (Nat × Nat × Nat)}

/-- The block in which a descriptor's own conditions are judged: CONS has moved past it, its completion entry is reserved, and the turn has
passed (15 R405). -/
def Block.taken (b : Block) (c : Cmd) : Block := (b.take c).passTurn c.ring

/-- The block with other rings, and the turn elsewhere. -/
def Block.atTurn (b : Block) (rs : SMap Ring) (k : Nat) : Block := { b with rings := rs, lead := { b.lead with turn := k } }

theorem Block.taken_eq_atTurn : b.taken c = b.atTurn (b.take c).rings ((c.ring + 1) % 8) := rfl

/-- The profile of a commit that the driver orders. -/
theorem Block.commitProfile_route {scope : Option Nat} :
    b.commitProfile 0 scope = if b.lead.profile == 9 then b.lead.applied else b.lead.profile := by
  simp [Block.commitProfile]

section
variable {rs : SMap Ring} {k : Nat}

theorem Block.atTurn_asleep : (b.atTurn rs k).asleep = b.asleep := rfl
theorem Block.atTurn_effProfile : (b.atTurn rs k).effProfile = b.effProfile := rfl
theorem Block.atTurn_entryFits : (b.atTurn rs k).entryFits = b.entryFits := rfl
theorem Block.atTurn_committing : (b.atTurn rs k).committing = b.committing := rfl
theorem Block.atTurn_lead : (b.atTurn rs k).lead = { b.lead with turn := k } := rfl

theorem Block.atTurn_routesOk : (b.atTurn rs k).routesOk = b.routesOk := by
  unfold routesOk
  rw [commitProfile_route, commitProfile_route]
  rfl

end

theorem Block.taken_lead : (b.taken c).lead = (b.passTurn c.ring).lead := rfl
theorem Block.taken_map : (b.taken c).map = b.map := rfl
theorem Block.taken_groups : (b.taken c).groups = b.groups := rfl
theorem Block.taken_idleMap : (b.taken c).idleMap = b.idleMap := rfl

/-- A descriptor that nothing turns away is carried out (15 R406). -/
theorem Served.serve_eq (h : Served b c f) :
    b.serve c f run = (b.taken c).carryOut c ((b.ring c.ring).cons % 65536) (run (b.taken c)) := by
  obtain ⟨-, hread, hop, hwait, hfatal, hrefusal, -⟩ := h
  simp [Block.serve, hread, hop, hwait, hfatal, hrefusal, Block.taken]

/-- The completion ring of a descriptor that is read is enabled, and its PROD is not moved by the taking. -/
theorem Served.cplRing (h : Served b c f) :
    ((b.taken c).ring (c.ring + 8)).en = true ∧ ((b.taken c).ring (c.ring + 8)).err = false ∧
    ((b.taken c).ring (c.ring + 8)).prod = (b.ring (c.ring + 8)).prod := by
  obtain ⟨-, hread, -, -, -, -, herr⟩ := h
  have hen : (b.ring (c.ring + 8)).en = true := by
    simp only [Block.readable, Block.ready, Bool.and_eq_true] at hread
    obtain ⟨⟨⟨-, hen⟩, -⟩, -⟩ := hread
    exact hen
  have hne : c.ring + 8 ≠ c.ring := by omega
  simp [Block.taken, Block.take, Block.passTurn, Block.modRing_ring_ne (h := hne), hen, herr]

/-- What has been written into host memory stays there when an interrupt is raised. -/
theorem Block.mem_hostOut_ringIrq {r : Nat} {due : Bool} {o : HostOut} (h : o ∈ b.hostOut) : o ∈ (b.ringIrq r due).hostOut := by
  unfold ringIrq
  dsimp only
  split
  · unfold irq
    split
    · exact h
    · exact List.mem_cons_of_mem _ h
  · exact h

/-- A completion that the ring can take is written at its PROD (15 R405, R407). -/
theorem Block.complete_cplOf (hen : (x.ring (c.ring + 8)).en = true) (herr : (x.ring (c.ring + 8)).err = false)
    (hprod : (x.ring (c.ring + 8)).prod = (b.ring (c.ring + 8)).prod) (hft : x.ft 12 = b.ft 12) :
    CplOf b (x.complete c ((b.ring c.ring).cons % 65536) st fd res) c st fd res := by
  have hne : ¬ (!(x.ring (c.ring + 8)).en || (x.ring (c.ring + 8)).err) = true := by simp [hen, herr]
  rw [CplOf, complete, writeCpl, if_neg hne, ← hprod, ← hft]
  exact mem_hostOut_ringIrq List.mem_cons_self

/-- A descriptor that completes at once: its completion is in host memory; the rings, the vectors and host memory apart, the block is the one
that the command leaves. -/
theorem Served.done {ps : List Part} (h : Served b c f) (hrun : run (b.taken c) = .done st res x) (hx : Within ps (b.taken c) x)
    (hps : .rings ∉ ps ∧ .tbs ∉ ps) : CplOf b (b.serve c f run) c st 0 res ∧ Within [.rings, .vecs, .hostOut] x (b.serve c f run) ∧
      Within ([.rings, .vecs, .hostOut] ++ ps) (b.taken c) (b.serve c f run) := by
  obtain ⟨hen, herr, hprod⟩ := h.cplRing
  have hring : x.ring (c.ring + 8) = (b.taken c).ring (c.ring + 8) := by
    rw [Block.ring, hx .rings hps.1, ← Block.ring]
  have hft : x.ft 12 = b.ft 12 := by
    rw [Block.ft, Block.tb, hx .tbs hps.2]
    rfl
  have hcomplete : Within [.rings, .vecs, .hostOut] x (x.complete c ((b.ring c.ring).cons % 65536) st 0 res) := by simp [Block.complete]
  rw [h.serve_eq, hrun, Block.carryOut]
  rw [← hring] at hen herr hprod
  refine ⟨Block.complete_cplOf hen herr hprod hft, hcomplete, fun p hp => ?_⟩
  rw [List.mem_append, not_or] at hp
  exact Part.kept_trans (hx p hp.2) (hcomplete p hp.1)

/-- A descriptor that is accepted is in flight when its effect begins. -/
theorem Served.go {a k : Nat} {eff : Block → Block} (h : Served b c f) (hrun : run (b.taken c) = .go a k eff) :
    b.serve c f run = eff ((b.taken c).modLead (fun l => { l with
      flights := l.flights ++ [b.flightOf c ((b.ring c.ring).cons % 65536) a k] })) := by
  rw [h.serve_eq, hrun]
  rfl

end

@[simp] theorem Block.within_map {ps : List Part} {b0 b : Block} {x} (hs : .map ∈ ps) :
    Within ps b0 { b with map := x } ↔ Within ps b0 b :=
  Within.iff (qs := [.map]) (fun p hp => by cases p <;> trivial) (by simp [hs])

@[simp] theorem Block.within_groups {ps : List Part} {b0 b : Block} {x} (hs : .groups ∈ ps) :
    Within ps b0 { b with groups := x } ↔ Within ps b0 b :=
  Within.iff (qs := [.groups]) (fun p hp => by cases p <;> trivial) (by simp [hs])

/-! ### MAP_WRITE (06 R182 to R187; 16 R429) -/

/-- A granule entry that MAP_WRITE names reads back. -/
theorem Block.writeGranules_get {b : Block} {index n i : Nat} {v : Nat → Nat} (hi : i < n) :
    (b.writeGranules index ((List.range n).map v)).map.get 0 (b.idleMap * 65536 + index + i) = v i := by
  have hmem : (v i, i) ∈ ((List.range n).map v).zipIdx := by
    rw [List.mk_mem_zipIdx_iff_getElem?]
    simp [hi]
  have hkeys : (((List.range n).map v).zipIdx.map (fun x => b.idleMap * 65536 + index + x.2)).Nodup := by
    rw [show (fun x : Nat × Nat => b.idleMap * 65536 + index + x.2) = (b.idleMap * 65536 + index + ·) ∘ Prod.snd from rfl,
      ← List.map_map, List.zipIdx_map_snd]
    exact List.Nodup.map (fun j k hjk => Nat.add_left_cancel hjk) List.nodup_range'
  rw [SMap.get_eq_find, writeGranules]
  exact congrArg (Option.getD · 0) (SMap.find_foldl_set_of_mem (m := b.map) (val := (·.1)) hkeys hmem)

/-- MAP_WRITE of granules, whose entries stand in the descriptor or in the buffer: what it says of its completion and of the map. -/
theorem mapWrite_granules {s : State} {c : Cmd} {v : Nat → Nat} (h : Served s.blk c (mapWriteForm c))
    (hrun : (s.blk.taken c).mapWrite c = .done stOk [] ((s.blk.taken c).writeGranules (fieldOf c 14 2) ((List.range (fieldOf c 16 4)).map v)))
    (i : Nat) : Completes (.mapWrite c) s (fun b' => CplOf s.blk b' c stOk 0 [] ∧ b'.lead = (s.blk.passTurn c.ring).lead ∧
      b'.groups = s.blk.groups ∧ (i < fieldOf c 16 4 → b'.map.get 0 (s.blk.idleMap * 65536 + fieldOf c 14 2 + i) = v i)) := by
  refine completes_of_on h.1 (show execMapWrite c s = s.on (.mapWrite c) _ from rfl) ?_
  obtain ⟨hcpl, heff, hframe⟩ := h.done (run := fun b => b.mapWrite c) (ps := [.map]) hrun
    ((Block.within_map (by decide)).2 (.refl _)) (by decide)
  refine ⟨hcpl, (hframe .lead (by decide)).trans Block.taken_lead, (hframe .groups (by decide)).trans Block.taken_groups, fun hi => ?_⟩
  rw [heff .map (by decide), ← Block.taken_idleMap (b := s.blk) (c := c)]
  exact Block.writeGranules_get hi

theorem mapWrites {s : State} {c : Cmd} (i : Nat) (h : Served s.blk c (mapWriteForm c)) (hg : s.blk.lead.mapGran = none) :
    (byteOf c 12 = 0 → Completes (.mapWrite c) s (fun b' => CplOf s.blk b' c stOk 0 [] ∧ b'.lead = (s.blk.passTurn c.ring).lead ∧
      b'.groups = s.blk.groups ∧
      (i < fieldOf c 16 4 → b'.map.get 0 (s.blk.idleMap * 65536 + fieldOf c 14 2 + i) = fieldOf c (32 + 2 * i) 2))) ∧
    (byteOf c 12 = 1 → Completes (.mapWrite c) s (fun b' => CplOf s.blk b' c stOk 0 [] ∧ b'.lead = (s.blk.passTurn c.ring).lead ∧
      b'.groups = s.blk.groups ∧
      (i < fieldOf c 16 4 → b'.map.get 0 (s.blk.idleMap * 65536 + fieldOf c 14 2 + i) = bufOf c (2 * i) 2))) ∧
    (byteOf c 12 = 2 → Completes (.mapWrite c) s (fun b' => CplOf s.blk b' c stOk 0 [] ∧ b'.lead = (s.blk.passTurn c.ring).lead ∧ b'.map = s.blk.map ∧
      b'.groups.find (s.blk.idleMap * 1024 + fieldOf c 14 2) = some (byteOf c 13 / 32, byteOf c 13 / 8 % 4, slotsOf c))) := by
  have hgran : (s.blk.taken c).lead.mapGran.isSome = false := by
    rw [show (s.blk.taken c).lead.mapGran = s.blk.lead.mapGran from rfl, hg]; rfl
  refine ⟨fun hk => mapWrite_granules (v := fun i => fieldOf c (32 + 2 * i) 2) h (by simp [Block.mapWrite, hgran, hk]) i,
    fun hk => mapWrite_granules (v := fun i => bufOf c (2 * i) 2) h (by simp [Block.mapWrite, hgran, hk]) i, fun hk => ?_⟩
  refine completes_of_on h.1 (show execMapWrite c s = s.on (.mapWrite c) _ from rfl) ?_
  obtain ⟨hcpl, heff, hframe⟩ := h.done (run := fun b => b.mapWrite c) (ps := [.groups]) (st := stOk) (res := [])
    (x := { s.blk.taken c with
      groups := (s.blk.taken c).groups.set ((s.blk.taken c).idleMap * 1024 + fieldOf c 14 2) (byteOf c 13 / 32, byteOf c 13 / 8 % 4, slotsOf c) })
    (by simp [Block.mapWrite, hgran, hk]) ((Block.within_groups (by decide)).2 (.refl _)) (by decide)
  refine ⟨hcpl, (hframe .lead (by decide)).trans Block.taken_lead, (hframe .map (by decide)).trans Block.taken_map, ?_⟩
  rw [heff .groups (by decide), ← Block.taken_idleMap (b := s.blk) (c := c)]
  dsimp only
  rw [SMap.find_set_self]

/-! ### MAP_COMMIT (06 R191; 16 R430) -/

/-- The banks answer from the new epoch when a map commit starts. -/
theorem Block.startMap_region {b : Block} {g r : Nat} (hr : r < 32) : ((b.startMap g).region r).bankEpoch = !b.lead.mapEpoch := by
  have hmem : r ∈ List.range 32 := List.mem_range.2 hr
  unfold startMap
  dsimp only
  split
  · simp only [modLead_region_of]
    rw [foldl_modRegion_region List.nodup_range hmem]
  · simp only [modLead_region_of]
    rw [foldl_modRegion_region List.nodup_range hmem]

/-- A map commit that starts has its granule size wait for the commit point, and leaves the commands in flight. -/
theorem Block.startMap_lead {b : Block} {g : Nat} :
    (b.startMap g).lead.mapGran = some g ∧ (b.startMap g).lead.flights = b.lead.flights := by
  have hlead : ∀ (ns rs : List Nat) (f : Ni → Ni) (r : Region → Region),
      (rs.foldl (fun (b : Block) g => b.modRegion g r) (ns.foldl (fun (b : Block) n => b.modNi n f) b)).lead = b.lead := fun ns rs f r =>
    (show Within [.nis, .regions] b _ by simp) .lead (by decide)
  unfold startMap
  dsimp only
  split <;> simp [hlead]

theorem mapCommits {s : State} {c : Cmd} (i : Nat) (h : Served s.blk c (mapCommitForm c)) (hg : s.blk.lead.mapGran = none)
    (hsize : byteOf c 12 = s.blk.lead.gran ∨ s.blk.effProfile = 10) :
    Completes (.mapCommit c) s (fun b' => b'.lead.mapGran = some (byteOf c 12) ∧ (i < 32 → (b'.region i).bankEpoch = !s.blk.lead.mapEpoch) ∧
      Taken s.blk b' c (allNis.filter (fun n => !s.blk.asleep n)).length 0) := by
  refine completes_of_on h.1 (show execMapCommit c s = s.on (.mapCommit c) _ from rfl) ?_
  have hgran : (s.blk.taken c).lead.mapGran.isSome = false := by
    rw [Block.taken_eq_atTurn, Block.atTurn_lead, hg]; rfl
  have hfit : (byteOf c 12 != (s.blk.taken c).lead.gran && (s.blk.taken c).effProfile != 10) = false := by
    rw [Block.taken_eq_atTurn, Block.atTurn_lead, Block.atTurn_effProfile]
    obtain hsize | hsize := hsize <;> simp [hsize]
  have hasleep : (s.blk.taken c).asleep = s.blk.asleep := Block.taken_eq_atTurn ▸ Block.atTurn_asleep
  have hepoch : (s.blk.taken c).lead.mapEpoch = s.blk.lead.mapEpoch := by
    rw [Block.taken_eq_atTurn, Block.atTurn_lead]
  dsimp only
  rw [h.go (by rw [if_neg (by simp [hgran]), if_neg (by simp [hfit]), hasleep])]
  obtain ⟨hsome, hflights⟩ := Block.startMap_lead (b := (s.blk.taken c).modLead fun l => { l with
    flights := l.flights ++ [s.blk.flightOf c ((s.blk.ring c.ring).cons % 65536) (allNis.filter (fun n => !s.blk.asleep n)).length 0] })
    (g := byteOf c 12)
  refine ⟨hsome, fun hi => ?_, ?_⟩
  · rw [Block.startMap_region hi, ← hepoch]
    rfl
  · rw [Taken, hflights]
    exact List.mem_append_right _ List.mem_cons_self

/-! ### ROUTE_WRITE (03 R98; 16 R432) -/

/-- Entries are written into the table of their router one after the other. -/
theorem Block.foldl_entry_tab {ws : List (Nat × Nat × Nat × Nat)} {b : Block} {r lo : Nat} (h : ∀ e ∈ ws, e.1 = r) :
    ((ws.foldl (fun (b : Block) e => (b.modElem e.1 (fun el => { el with tab := el.tab.set (lo + e.2.1) e.2.2.1 })).keepGold [e.1]) b).elem r).tab =
      ws.foldl (fun m e => m.set (lo + e.2.1) e.2.2.1) (b.elem r).tab := by
  induction ws generalizing b with
  | nil => rfl
  | cons e ws ih =>
    have hgold : ∀ (b : Block), (b.keepGold [e.1]).elems = b.elems := fun b => (show Within [.stws, .gold] b _ by simp) .elems (by decide)
    rw [List.foldl_cons, ih fun e he => h e (List.mem_cons_of_mem _ he), List.foldl_cons, ← h e List.mem_cons_self]
    rw [Block.elem, hgold, ← Block.elem, Block.modElem_elem]

theorem routeWrites_of_inline {c : Cmd} (h : byteOf c 12 = 0) : routeWrites c =
    (List.range (byteOf c 17)).map (fun i => (fieldOf c 14 2, byteOf c 16 + i, fieldOf c (32 + 2 * i) 2, 32 + 2 * i)) := by
  simp [routeWrites, h]

/-- An entry that stands in the descriptor reads back from the idle table. -/
theorem Block.find_foldl_inline {c : Cmd} {m : SMap Nat} {lo i : Nat} (h : byteOf c 12 = 0) (hi : i < byteOf c 17) :
    ((routeWrites c).foldl (fun m e => m.set (lo + e.2.1) e.2.2.1) m).find (lo + (byteOf c 16 + i)) = some (fieldOf c (32 + 2 * i) 2) := by
  rw [routeWrites_of_inline h, List.foldl_map]
  refine SMap.find_foldl_set_of_mem (key := fun i => lo + (byteOf c 16 + i)) (val := fun i => fieldOf c (32 + 2 * i) 2) ?_ (List.mem_range.2 hi)
  exact List.Nodup.map (fun j k hjk => Nat.add_left_cancel (Nat.add_left_cancel hjk)) List.nodup_range

theorem routeWrites_complete {s : State} {c : Cmd} (i : Nat) (h : Served s.blk c (routeWriteForm c)) (hc : s.blk.committing = false)
    (hk : byteOf c 12 = 0) (hfit : ∀ e ∈ routeWrites c, s.blk.entryFits e.1 e.2.1 e.2.2.1 = true) :
    Completes (.routeWrite c) s (fun b' => CplOf s.blk b' c stOk 0 [] ∧ b'.lead = (s.blk.passTurn c.ring).lead ∧
      (i < byteOf c 17 → (b'.elem (fieldOf c 14 2)).tab.find ((if s.blk.lead.epoch then 0 else 256) + (byteOf c 16 + i)) =
        some (fieldOf c (32 + 2 * i) 2))) := by
  refine completes_of_on h.1 (show execRouteWrite c s = s.on (.routeWrite c) _ from rfl) ?_
  have hnone : (routeWrites c).find? (fun e => !(s.blk.taken c).entryFits e.1 e.2.1 e.2.2.1) = none := by
    rw [List.find?_eq_none, Block.taken_eq_atTurn, Block.atTurn_entryFits]
    simpa using fun r i v k he => hfit (r, i, v, k) he
  have hcommitting : (s.blk.taken c).committing = false := by
    rw [Block.taken_eq_atTurn, Block.atTurn_committing, hc]
  have hepoch : (s.blk.taken c).lead.epoch = s.blk.lead.epoch := by
    rw [Block.taken_eq_atTurn, Block.atTurn_lead]
  have hrun : (s.blk.taken c).routeWrite c = .done stOk [] ((routeWrites c).foldl (fun (b : Block) e =>
      (b.modElem e.1 (fun el => { el with tab := el.tab.set ((if s.blk.lead.epoch then 0 else 256) + e.2.1) e.2.2.1 })).keepGold [e.1])
      (s.blk.taken c)) := by
    simp [Block.routeWrite, hnone, hcommitting, hepoch]
  obtain ⟨hcpl, heff, hframe⟩ := h.done (run := fun b => b.routeWrite c) (ps := [.elems, .stws, .gold]) hrun (by simp) (by decide)
  refine ⟨hcpl, (hframe .lead (by decide)).trans Block.taken_lead, fun hi => ?_⟩
  rw [Block.elem, heff .elems (by decide), ← Block.elem, Block.foldl_entry_tab, Block.find_foldl_inline hk hi]
  rw [routeWrites_of_inline hk]
  simp

/-! ### ROUTE_COMMIT (03 R103 steps 1 and 2; 16 R432) -/

theorem Block.modLead_asleep {b : Block} {f : Lead → Lead} : (b.modLead f).asleep = b.asleep := rfl

theorem Block.setFacts_asleep {b : Block} {ep : Bool} {f : Facts} : (b.setFacts ep f).asleep = b.asleep := modLead_asleep

theorem Block.setFacts_lead {b : Block} {ep : Bool} {f : Facts} :
    (b.setFacts ep f).lead.flights = b.lead.flights ∧ (b.setFacts ep f).lead.epoch = b.lead.epoch := by
  cases ep <;> exact ⟨rfl, rfl⟩

/-- The loading of the image waits in the lead; commands in flight and the epoch stand. -/
theorem Block.loadOthers_lead {b : Block} : b.loadOthers.lead.flights = b.lead.flights ∧ b.loadOthers.lead.epoch = b.lead.epoch := by
  unfold loadOthers
  dsimp only
  split
  · exact ⟨rfl, rfl⟩
  · exact ⟨rfl, rfl⟩

/-- What a commit that the driver orders begins with: every receiver that neither rests nor is fenced is to acknowledge the new epoch. -/
theorem Block.startCommit_route {b : Block} : (b.startCommit 0 none).lead.flights = b.lead.flights ∧
    (b.startCommit 0 none).lead.epoch = b.lead.epoch ∧ ∃ m, (b.startCommit 0 none).lead.commit = some m ∧ m.why = 0 ∧ m.epoch = !b.lead.epoch ∧
      m.waitAck = receivers.filter (fun e => !b.asleep e) ∧ m.point = none := by
  unfold startCommit
  extract_lets ep p incl excl facts b1 rs b2 ds
  have hrs : rs = receivers.filter (fun e => !b.asleep e) := by
    rw [← setFacts_asleep]
    rfl
  have hlead : b1.lead.flights = b.lead.flights ∧ b1.lead.epoch = b.lead.epoch := setFacts_lead
  obtain ⟨hflights, hepoch⟩ := loadOthers_lead (b := b1)
  exact ⟨hflights.trans hlead.1, hepoch.trans hlead.2, _, rfl, rfl, rfl, hrs, rfl⟩

theorem routeCommits {s : State} {c : Cmd} (h : Served s.blk c routeCommitForm) (hc : s.blk.committing = false) (hok : s.blk.routesOk = true) :
    Completes (.routeCommit c) s (fun b' => Taken s.blk b' c 0 0 ∧ b'.lead.epoch = s.blk.lead.epoch ∧ ∃ m, b'.lead.commit = some m ∧ m.why = 0 ∧
      m.epoch = !s.blk.lead.epoch ∧ m.waitAck = receivers.filter (fun e => !s.blk.asleep e) ∧ m.point = none) := by
  refine completes_of_on h.1 (show execRouteCommit c s = s.on (.routeCommit c) _ from rfl) ?_
  have hcommitting : (s.blk.taken c).committing = false := by
    rw [Block.taken_eq_atTurn, Block.atTurn_committing, hc]
  have hroutes : (s.blk.taken c).routesOk = true := by
    rw [Block.taken_eq_atTurn, Block.atTurn_routesOk, hok]
  have hepoch : (s.blk.taken c).lead.epoch = s.blk.lead.epoch := by
    rw [Block.taken_eq_atTurn, Block.atTurn_lead]
  have hasleep : (s.blk.taken c).asleep = s.blk.asleep := Block.taken_eq_atTurn ▸ Block.atTurn_asleep
  rw [h.go (by rw [if_neg (by simp [hcommitting]), if_neg (by simp [hroutes])])]
  obtain ⟨hflights, hsame, m, hm, hwhy, hnew, hwait, hpoint⟩ := Block.startCommit_route (b := (s.blk.taken c).modLead fun l => { l with
    flights := l.flights ++ [s.blk.flightOf c ((s.blk.ring c.ring).cons % 65536) 0 0] })
  rw [Block.modLead_asleep, hasleep] at hwait
  refine ⟨?_, hsame.trans hepoch, m, hm, hwhy, hnew.trans (congrArg _ hepoch), hwait, hpoint⟩
  rw [Taken, hflights]
  exact List.mem_append_right _ List.mem_cons_self

/-- Settles O43: each of the four commands is served as its own lemma says. -/
theorem mapAndRouteCommands : Obligations.MapAndRouteCommands := by
  unfold Obligations.MapAndRouteCommands
  exact fun s c i => ⟨mapWrites i, mapCommits i, routeWrites_complete i, routeCommits⟩

end Sys2Proof.Machine
end

section
/-! PROOFS. The epoch of the routes (spec/03 R103 to R108): its commit, the drain of the old epoch, and its retirement. -/

namespace Sys2Proof.Machine

open Block (Within)

/-! ### EPOCH_COMMIT (03 R103 steps 2 and 3, R108) -/

section
variable {b : Block} {e n : Nat}

/-- A change of an NI that leaves its epoch alone. -/
theorem Block.modNi_epoch {f : Ni → Ni} (h : ∀ x, (f x).epoch = x.epoch) : ((b.modNi n f).ni e).epoch = (b.ni e).epoch := by
  by_cases he : e = n
  · rw [he, modNi_ni, h]
  · rw [modNi_ni_ne (h := he)]

theorem Block.freeTag_epoch {t : Nat} : ((b.freeTag n t).ni e).epoch = (b.ni e).epoch := by
  have htouch : (b.touch n).ni e = b.ni e := by
    rw [ni, (show Within [.doms] b (b.touch n) by simp) .nis (by decide), ← ni]
  rw [freeTag]
  refine (modNi_epoch (by exact fun _ => rfl)).trans ?_
  split
  · rfl
  · rw [htouch]

theorem Block.niEvent_epoch {k per : Nat} {pk : Option (BitVec 128)} {det : BitVec 32} :
    ((b.niEvent n k per pk det).ni e).epoch = (b.ni e).epoch := by
  have hsuppress : (b.suppress n k).ni e = b.ni e := by
    rw [ni, (show Within [.elems, .wsh] b (b.suppress n k) by simp) .nis (by decide), ← ni]
  have hevent : (b.event n k pk det).ni e = b.ni e := by
    rw [ni, (show Within [.elems, .wsh] b (b.event n k pk det) by simp) .nis (by decide), ← ni]
  have hnoted : (((b.event n k pk det).modNi n fun x => { x with lastEv := x.lastEv.set k b.now }).ni e).epoch = (b.ni e).epoch := by
    rw [← hevent]
    exact modNi_epoch fun _ => rfl
  unfold niEvent
  split
  · split
    · rw [hsuppress]
    · exact hnoted
  · exact hnoted

theorem Block.refuseQueued_epoch {t opc kind : Nat} {p : QPkt} : ((b.refuseQueued n t p opc kind).ni e).epoch = (b.ni e).epoch := by
  unfold refuseQueued
  extract_lets b1 b2 b3
  have h2 : (b2.ni e).epoch = (b.ni e).epoch := modNi_epoch fun _ => rfl
  have h3 : (b3.ni e).epoch = (b2.ni e).epoch := by
    simp only [b3]
    split
    · rw [freeTag_epoch]
    · rfl
  rw [tellUnit, forUnit]
  exact (modNi_epoch (by exact fun _ => rfl)).trans (h3.trans h2)

theorem Block.refuseOversize_epoch {l : GateList} : ((b.refuseOversize n l).ni e).epoch = (b.ni e).epoch := by
  have hqueue : ∀ (ps : List QPkt) (t : Nat) (b : Block), ((ps.foldl (fun b p => if b.oversize n l t p.pays.length then
      (b.refuseQueued n t p 0x14 0x0F).niEvent n 0x0F ms (some p.hdr) (detNi p.hdr) else b) b).ni e).epoch = (b.ni e).epoch := by
    intro ps t
    induction ps with
    | nil => exact fun _ => rfl
    | cons p ps ih =>
      intro b
      rw [List.foldl_cons, ih]
      split
      · rw [niEvent_epoch, refuseQueued_epoch]
      · rfl
  unfold refuseOversize
  generalize List.range 4 = ts
  induction ts generalizing b with
  | nil => rfl
  | cons t ts ih => rw [List.foldl_cons, ih, hqueue]

/-- A receiver that takes an epoch injects under it. -/
theorem Block.takeEpoch_epoch {ep : Bool} : ((b.takeEpoch e ep).ni e).epoch = ep := by
  unfold takeEpoch
  extract_lets det x old b1 b2
  have h1 : (b1.ni e).epoch = ep := by simp only [b1, modNi_ni]
  have h2 : (b2.ni e).epoch = ep := by
    simp only [b2]
    split
    · exact h1
    · exact h1
  split
  · rw [refuseOversize_epoch, h2]
  · exact h2

end

theorem Block.takeEpoch_lead {b : Block} {e : Nat} {ep : Bool} : (b.takeEpoch e ep).lead = b.lead :=
  (show Within [.elems, .nis, .gates, .links, .doms, .wsh] b _ by simp) .lead (by decide)

theorem epochCommit_taken {s : State} {c : Commit} {e : Nat} (he : isReceiver e = true) (hc : s.blk.lead.commit = some c)
    (hrcv : e ∈ c.waitRcv) (hload : s.blk.lead.load = none) (hup : s.blk.asleep e = false) :
    Completes (.epochCommit e false) s (fun b' => (b'.ni e).epoch = c.epoch ∧
      b'.lead.commit = some { c with waitRcv := c.waitRcv.filter (· != e) }) := by
  refine completes_of_on he (show execEpochCommit e false s = s.on (.epochCommit e false) _ from rfl) ?_
  have hb : s.blk.epochIn e = (s.blk.modLead fun l => { l with
      commit := some { c with waitRcv := c.waitRcv.filter (· != e) } }).takeEpoch e c.epoch := by
    rw [Block.epochIn, hc]
    dsimp only
    rw [if_neg (by simp [hrcv, hload]), Block.modLead_asleep, if_neg (by simp [hup])]
  rw [if_neg Bool.false_ne_true, hb]
  refine ⟨Block.takeEpoch_epoch, ?_⟩
  rw [Block.takeEpoch_lead]
  rfl

theorem epochCommit_asleep {s : State} {c : Commit} {e : Nat} (he : isReceiver e = true) (hc : s.blk.lead.commit = some c)
    (hrcv : e ∈ c.waitRcv) (hload : s.blk.lead.load = none) (hup : s.blk.asleep e = true) :
    Completes (.epochCommit e false) s (fun b' => b'.nis = s.blk.nis ∧ e ∈ b'.lead.sleepers ∧
      b'.lead.commit = some { c with waitRcv := c.waitRcv.filter (· != e), waitAck := c.waitAck.filter (· != e) }) := by
  refine completes_of_on he (show execEpochCommit e false s = s.on (.epochCommit e false) _ from rfl) ?_
  have hb : s.blk.epochIn e = s.blk.modLead fun l => { l with
      commit := some { c with waitRcv := c.waitRcv.filter (· != e), waitAck := c.waitAck.filter (· != e) },
      sleepers := if l.sleepers.contains e then l.sleepers else l.sleepers ++ [e] } := by
    rw [Block.epochIn, hc]
    dsimp only
    rw [if_neg (by simp [hrcv, hload]), Block.modLead_asleep, if_pos hup]
    rfl
  rw [if_neg Bool.false_ne_true, hb]
  refine ⟨rfl, ?_, rfl⟩
  dsimp only [Block.modLead]
  split
  · next hmem => exact List.contains_iff_mem.1 hmem
  · exact List.mem_append_right _ List.mem_cons_self

/-! ### EPOCH_COMMIT_ACK and the commit point (03 R103 steps 3 and 4) -/

theorem epochCommitAck_waits {s : State} {c : Commit} {e : Nat} (he : isReceiver e = true) (hc : s.blk.lead.commit = some c)
    (hrcv : e ∉ c.waitRcv) (hpoint : c.point = none) (hleft : c.waitAck.filter (· != e) ≠ [] ∨ c.waitRcv ≠ []) :
    Completes (.epochCommitAck e false) s (fun b' =>
      b' = s.blk.modLead (fun l => { l with commit := some { c with waitAck := c.waitAck.filter (· != e) } })) := by
  refine completes_of_on he (show execEpochCommitAck e false s = s.on (.epochCommitAck e false) _ from rfl) ?_
  have hmore : ¬ ((c.waitAck.filter (· != e)).isEmpty && c.waitRcv.isEmpty) = true := by
    rw [Bool.and_eq_true, List.isEmpty_iff, List.isEmpty_iff]
    tauto
  rw [if_neg Bool.false_ne_true, Block.epochAck, hc]
  dsimp only
  rw [if_neg (by simp [hrcv, hpoint]), if_neg hmore]

section
variable {b : Block} {c : Commit}

/-- Completing commands ends their flights; the rest of the lead stands. -/
theorem Block.finishAll_lead {p : Flight → Bool} {st : Nat} {res : Flight → List (Nat × Nat × Nat)} :
    ∃ fl, (b.finishAll p st res).lead = { b.lead with flights := fl } := by
  unfold finishAll
  generalize b.lead.flights.filter p = fs
  induction fs generalizing b with
  | nil => exact ⟨_, rfl⟩
  | cons f fs ih =>
    have hfinish : (b.finish f st (res f)).lead = { b.lead with flights := b.lead.flights.erase f } :=
      (show Within [.rings, .vecs, .hostOut] (b.modLead fun l => { l with flights := l.flights.erase f }) _ by simp [finish]) .lead (by decide)
    obtain ⟨fl, hfl⟩ := ih (b := b.finish f st (res f))
    exact ⟨fl, by rw [List.foldl_cons, hfl, hfinish]⟩

/-- Domains enter routing: commands in flight end; the rest of the lead stands. -/
theorem Block.routeDoms_lead {ds : List Nat} : ∃ fl, (b.routeDoms ds).lead = { b.lead with flights := fl } := by
  unfold routeDoms
  generalize ds.filter _ = ds
  induction ds generalizing b with
  | nil => exact ⟨_, rfl⟩
  | cons d ds ih =>
    rw [List.foldl_cons]
    obtain ⟨fl, hfl⟩ := ih (b := (b.modDom d fun x => { x with offRoute := false }).finishAll
      (fun f => f.opc == 0x0D && f.scId == d && f.a == 0) stOk (fun _ => [(16, 4, 0), (20, 1, 0)]))
    obtain ⟨fl', hfl'⟩ := finishAll_lead (b := b.modDom d fun x => { x with offRoute := false })
      (p := fun f => f.opc == 0x0D && f.scId == d && f.a == 0) (st := stOk) (res := fun _ => [(16, 4, 0), (20, 1, 0)])
    exact ⟨fl, by rw [hfl, hfl']; rfl⟩

/-- A commit that is in flight stays: another waits behind it (03 R107). -/
theorem Block.mayLeave_lead (h : b.lead.commit = some c) : b.mayLeave.lead.commit = some c ∧ b.mayLeave.lead.epoch = b.lead.epoch := by
  unfold mayLeave wantCommit
  split
  · exact ⟨h, rfl⟩
  · rw [h]
    exact ⟨h, rfl⟩

/-- The commit point of a commit that the driver ordered: the new epoch is in force, and every region is to report. -/
theorem Block.commitPoint_route (h : c.why = 0) : (b.commitPoint c).lead.epoch = c.epoch ∧ (b.commitPoint c).lead.commit =
    some { c with waitAck := [], waitRcv := [], point := some b.now, round := none, waitDrain := List.range 32 } := by
  unfold commitPoint
  extract_lets b1 b2 b3 b4 leave active b5 b6
  have h3 : b3 = b2 := if_pos h
  obtain ⟨fl, hfl⟩ := routeDoms_lead (b := b3) (ds := c.doms)
  have h5 : b5 = b4 := by
    simp only [b5, h]
  have h6 : b6.lead = { b1.lead with flights := fl } := by
    rw [(show Within [.members, .elems, .time, .wsh] b5 b6 by simp [b6]) .lead (by decide), h5]
    exact hfl.trans (by rw [h3])
  have hepoch : b6.lead.epoch = c.epoch := by rw [h6]; rfl
  have hcommit : b6.lead.commit =
      some { c with waitAck := [], waitRcv := [], point := some b.now, round := none, waitDrain := List.range 32 } := by
    rw [h6]; rfl
  split
  · have hscale : b6.scaleAll.lead = b6.lead :=
      (show Within [.gates, .regions, .stws, .gold] b6 b6.scaleAll by simp) .lead (by decide)
    obtain ⟨hc, he⟩ := mayLeave_lead (b := b6.scaleAll) (by rw [hscale, hcommit])
    exact ⟨by rw [he, hscale, hepoch], hc⟩
  · exact ⟨hepoch, hcommit⟩

end

theorem epochCommitAck_last {s : State} {c : Commit} {e : Nat} (he : isReceiver e = true) (hc : s.blk.lead.commit = some c)
    (hrcv : c.waitRcv = []) (hpoint : c.point = none) (hack : c.waitAck = [e]) (hwhy : c.why = 0) :
    Completes (.epochCommitAck e false) s (fun b' => b'.lead.epoch = c.epoch ∧
      b'.lead.commit = some { c with waitAck := [], point := some s.blk.now, round := none, waitDrain := List.range 32 }) := by
  refine completes_of_on he (show execEpochCommitAck e false s = s.on (.epochCommitAck e false) _ from rfl) ?_
  have hlast : c.waitAck.filter (· != e) = [] := by simp [hack]
  rw [if_neg Bool.false_ne_true, Block.epochAck, hc]
  dsimp only
  rw [if_neg (by simp [hrcv, hpoint]), hlast, if_pos (by simp [hrcv])]
  obtain ⟨hepoch, hcommit⟩ := Block.commitPoint_route (b := s.blk.modLead fun l => { l with commit := some { c with waitAck := [] } })
    (c := { c with waitAck := [] }) hwhy
  refine ⟨hepoch, hcommit.trans ?_⟩
  rw [← hrcv]
  rfl

theorem routeEpochCommit : Claims.RouteEpochCommit := fun _ _ _ he hc =>
  ⟨epochCommit_taken he hc, epochCommit_asleep he hc, epochCommitAck_waits he hc, epochCommitAck_last he hc⟩

/-! ### What a region counts (03 R104): the passing of time changes nothing of it -/

/-- The packets that an input VC holds a flit of, or is to get one of. -/
def Vc.packets (v : Vc) : List Pk := v.q.map pkOf ++ if v.rem > 0 then [(v.rhdr, v.rcopy)] else []

theorem Block.packetsAt_eq {b : Block} {e : Nat} : b.packetsAt e = pksOf ((b.elem e).ins.flatMap (fun kv => kv.2.packets) ++
    (List.range 8).flatMap (fun p => (b.wires.get [] (wkey e p)).map (fun x => pkOf x.2))) := rfl

theorem Vc.ageBy_packets {v : Vc} {ft u : Nat} : (v.ageBy ft u).packets = v.packets := by
  unfold ageBy packets
  dsimp only
  rw [List.map_map]
  congr 2
  funext f
  dsimp only [Function.comp]
  split <;> rfl

theorem SMap.flatMap_mapVals {α β : Type} {m : SMap α} {f : Nat → α → α} {g : α → List β} (h : ∀ k v, g (f k v) = g v) :
    (m.mapVals f).flatMap (fun kv => g kv.2) = m.flatMap (fun kv => g kv.2) := by
  simp [SMap.mapVals, List.flatMap_map, h]

theorem Elem.bump_ins {el : Elem} {i n : Nat} : (el.bump i n).ins = el.ins := by
  unfold bump
  dsimp only
  split
  · rfl
  · split
    · rfl
    · rfl

theorem Elem.foldl_bump_ins {ps : List Nat} {el : Elem} {c : Nat → Bool} {i : Nat → Nat} {n : Nat} :
    (ps.foldl (fun x p => if c p then Elem.bump x (i p) n else x) el).ins = el.ins := by
  induction ps generalizing el with
  | nil => rfl
  | cons p ps ih =>
    rw [List.foldl_cons, ih]
    split
    · exact bump_ins
    · rfl

theorem Elem.ageBy_packets {el : Elem} {e ft u : Nat} :
    (el.ageBy e ft u).ins.flatMap (fun kv => kv.2.packets) = el.ins.flatMap (fun kv => kv.2.packets) := by
  have hins : (el.ageBy e ft u).ins = el.ins.mapVals (fun _ v => v.ageBy ft u) := by
    unfold ageBy
    dsimp only
    split
    · exact bump_ins
    · rfl
  rw [hins]
  exact SMap.flatMap_mapVals fun _ _ => Vc.ageBy_packets

section
variable {b : Block} {e g n t : Nat}

theorem Block.elemElapse_packets {el : Elem} :
    (b.elemElapse n e el).ins.flatMap (fun kv => kv.2.packets) = el.ins.flatMap (fun kv => kv.2.packets) := by
  unfold elemElapse
  extract_lets paused el1 ins outs el2 el3 el4
  have hins : ins.flatMap (fun kv => kv.2.packets) = el.ins.flatMap (fun kv => kv.2.packets) := by
    rw [← Elem.ageBy_packets]
    refine SMap.flatMap_mapVals fun _ v => ?_
    split
    · split
      · rfl
      · rfl
    · rfl
  have h3 : el3.ins = ins := Elem.foldl_bump_ins
  have h4 : el4.ins = ins := by
    simp only [el4]
    split
    · exact Elem.bump_ins.trans h3
    · exact h3
  rw [← hins]
  split
  · split
    · rw [Elem.bump_ins, h4]
    · rw [h4]
  · rfl

theorem Block.elapse_packetsAt : (b.elapse n).packetsAt e = b.packetsAt e := by
  have helem : ((b.elapse n).elem e).ins.flatMap (fun kv => kv.2.packets) = (b.elem e).ins.flatMap (fun kv => kv.2.packets) := by
    unfold elapse elem
    split
    · rfl
    · rw [SMap.get_eq_find, SMap.get_eq_find, SMap.find_mapVals]
      cases b.elems.find e with
      | none => rfl
      | some el => exact elemElapse_packets
  have hwires : (b.elapse n).wires = b.wires := by simp
  rw [packetsAt_eq, packetsAt_eq, helem, hwires]

/-- What is said of the keys of a table says nothing of its values. -/
theorem SMap.flatMap_filter_mapVals {α β : Type} {m : SMap α} {f : Nat → α → α} {p : Nat → Bool} {F : Nat → List β} :
    (List.filter (fun kv => p kv.1) (m.mapVals f)).flatMap (fun kv => F kv.1) = (List.filter (fun kv => p kv.1) m).flatMap (fun kv => F kv.1) := by
  simp [SMap.mapVals, List.filter_map, List.flatMap_map, Function.comp_def]

theorem Block.elapse_drainCount {ep : Bool} : (b.elapse n).drainCount g ep = b.drainCount g ep := by
  have hlink : ∀ e, (b.elapse n).link e = b.link e := by simp
  simp only [drainCount, elapse_packetsAt, hlink]
  congr 3
  unfold elapse
  split
  · rfl
  · exact SMap.flatMap_filter_mapVals (p := fun e => (isRouter e && regionOf e == g) || (isAdp e && attachedTo e g))
      (F := fun e => b.packetsAt e ++ (b.link e).replay.flatMap (fun fr => fr.slots.map (fun s => pkOf s.2.2)))

theorem Block.elapseTo_drainCount {ep : Bool} : (b.elapseTo t).drainCount g ep = b.drainCount g ep := by
  unfold elapseTo
  split
  · exact elapse_drainCount
  · rfl

theorem Block.elapseTo_regionQuiet : (b.elapseTo t).regionQuiet g = b.regionQuiet g := by
  simp [regionQuiet, scFenced]

/-- A table written for every index below a bound. -/
theorem SMap.get_foldl_set_range {m : SMap Nat} {d : Nat} (hg : g < n) (read : Nat → Nat) :
    ((List.range n).foldl (fun m g => m.set g (read g)) m).get d g = read g := by
  have hkeys : ((List.range n).map (fun g => g)).Nodup := by rw [List.map_id']; exact List.nodup_range
  rw [SMap.get_eq_find, SMap.find_foldl_set_of_mem (key := fun g => g) hkeys (List.mem_range.2 hg), Option.getD_some]

/-- The count of a region in a round that begins. -/
theorem Block.drainRound_counts {c : Commit} {k : Nat} (hg : g < 32) (hk : c.round ≠ some k) : (b.drainRound c k).counts.get 0 g =
    if b.regionQuiet g then 0 else min 65535 (b.drainCount g (!c.epoch)) := by
  have hne : ¬ (c.round == some k) = true := by simpa using hk
  rw [drainRound, if_neg hne]
  dsimp only
  rw [SMap.get_foldl_set_range hg (fun g => if b.regionQuiet g then 0 else min 65535 (b.drainCount g (!c.epoch)))]

theorem Block.drainRound_same {c : Commit} {k : Nat} (hk : c.round = some k) : b.drainRound c k = c := by
  rw [drainRound, if_pos (by simp [hk])]

theorem Block.drainRound_next {c : Commit} {k : Nat} (hk : c.round ≠ some k) :
    (b.drainRound c k).round = some k ∧ (b.drainRound c k).waitDrain = List.range 32 := by
  have hne : ¬ (c.round == some k) = true := by simpa using hk
  rw [drainRound, if_neg hne]
  exact ⟨rfl, rfl⟩

end

/-! ### DRAIN_QUERY_TICK (03 R103 step 5) -/

section
variable {s : State} {c : Commit} {g t k n : Nat}

/-- The block after a drain query: time has passed up to the round, whose counts the lead keeps, and the region has its report. -/
def Block.queried (b : Block) (c : Commit) (g t k : Nat) : Block :=
  ((b.elapseTo (t + k * us)).modLead (fun l => { l with commit := some ((b.elapseTo (t + k * us)).drainRound c k) })).modRegion g
    (fun r => { r with report := some (k, ((b.elapseTo (t + k * us)).drainRound c k).counts.get 0 g) })

theorem execDrainQueryTick_eq {P : Block → Prop} (hg : g < 32) (hc : s.blk.lead.commit = some c) (ht : c.point = some t)
    (hk : k = (s.blk.now - t + us - 1) / us) (hP : P (s.blk.queried c g t k)) : Completes (.drainQueryTick g) s P := by
  refine completes_of_on (decide_eq_true hg) (show execDrainQueryTick g s = s.on (.drainQueryTick g) _ from rfl) ?_
  rw [hc]
  dsimp only
  rw [ht]
  dsimp only
  rw [← hk]
  exact hP

theorem Block.queried_report {b : Block} :
    ((b.queried c g t k).region g).report = some (k, ((b.elapseTo (t + k * us)).drainRound c k).counts.get 0 g) := by
  simp [queried]

theorem Block.queried_commit {b : Block} : (b.queried c g t k).lead.commit = some ((b.elapseTo (t + k * us)).drainRound c k) := rfl

theorem drainQueries (hg : g < 32) (hc : s.blk.lead.commit = some c) (ht : c.point = some t) (hk : k = (s.blk.now - t + us - 1) / us) :
    (c.round ≠ some k → Completes (.drainQueryTick g) s (fun b' => (b'.region g).report =
      some (k, if s.blk.regionQuiet g then 0 else min 65535 (s.blk.drainCount g (!c.epoch))) ∧
      ∃ c', b'.lead.commit = some c' ∧ c'.round = some k ∧ c'.waitDrain = List.range 32)) ∧
    (c.round = some k → Completes (.drainQueryTick g) s (fun b' => (b'.region g).report = some (k, c.counts.get 0 g) ∧
      b'.lead.commit = some c)) := by
  refine ⟨fun hne => execDrainQueryTick_eq hg hc ht hk ⟨?_, _, Block.queried_commit, Block.drainRound_next hne⟩,
    fun heq => execDrainQueryTick_eq hg hc ht hk ⟨?_, ?_⟩⟩
  · rw [Block.queried_report, Block.drainRound_counts hg hne, Block.elapseTo_regionQuiet, Block.elapseTo_drainCount]
  · rw [Block.queried_report, Block.drainRound_same heq]
  · rw [Block.queried_commit, Block.drainRound_same heq]

/-! ### EPOCH_DRAIN_REPORT (03 R103 step 6) -/

/-- A report that counts packets, or is of an earlier round. -/
theorem epochDrainReport_waits (hg : g < 32) (hc : s.blk.lead.commit = some c)
    (hr : (s.blk.region g).report = some (k, n)) (hn : 0 < n ∨ c.round ≠ some k) :
    Completes (.epochDrainReport g) s (fun b' => b' = s.blk.modRegion g (fun r => { r with report := none })) := by
  refine completes_of_on (decide_eq_true hg) (show execEpochDrainReport g s = s.on (.epochDrainReport g) _ from rfl) ?_
  have hwait : (c.point.isNone || c.round != some k || n != 0) = true := by
    obtain hn | hn := hn
    · simp [Nat.pos_iff_ne_zero.1 hn]
    · simp [hn]
  rw [hc, hr]
  dsimp only
  rw [if_pos hwait]

/-- The block when a zero report of the round has reached the lead. -/
def Block.reported (b : Block) (c : Commit) (g : Nat) : Block :=
  (b.modRegion g (fun r => { r with report := none })).modLead (fun l => { l with
    commit := some { c with waitDrain := c.waitDrain.filter (· != g) } })

/-- A zero report of the round: with the last region's the old epoch retires. -/
theorem epochDrainReport_zero {P : Block → Prop} (hg : g < 32) (hc : s.blk.lead.commit = some c) (ht : c.point = some t)
    (hr : (s.blk.region g).report = some (k, 0)) (hk : c.round = some k)
    (hP : P (if (c.waitDrain.filter (· != g)).isEmpty then (s.blk.reported c g).retire else s.blk.reported c g)) :
    Completes (.epochDrainReport g) s P := by
  refine completes_of_on (decide_eq_true hg) (show execEpochDrainReport g s = s.on (.epochDrainReport g) _ from rfl) ?_
  rw [hc, hr]
  dsimp only
  rw [if_neg (by simp [ht, hk])]
  exact hP

theorem epochDrainReport_counts (hg : g < 32) (hc : s.blk.lead.commit = some c) (ht : c.point = some t)
    (hr : (s.blk.region g).report = some (k, 0)) (hk : c.round = some k) (hleft : ∃ k ∈ c.waitDrain, k ≠ g) :
    Completes (.epochDrainReport g) s (fun b' => b'.lead.commit = some { c with waitDrain := c.waitDrain.filter (· != g) }) := by
  refine epochDrainReport_zero hg hc ht hr hk ?_
  rw [if_neg (by simpa using hleft)]
  rfl

end

/-! ### The retirement of the old epoch (03 R103 steps 6 and 7, R105) -/

section
variable {b : Block} {c : Commit} {ep : Bool}

theorem Block.setFacts_facts {f : Facts} : (b.setFacts (!ep) f).facts (!ep) = f ∧ (b.setFacts (!ep) f).facts ep = b.facts ep := by
  cases ep <;> exact ⟨rfl, rfl⟩

theorem Block.facts_of_lead {b' : Block} (h0 : b'.lead.facts0 = b.lead.facts0) (h1 : b'.lead.facts1 = b.lead.facts1) :
    b'.facts ep = b.facts ep := by
  rw [facts, facts, h0, h1]

/-- A domain that is gated off while no command is in flight leaves the lead as it is. -/
theorem Block.gateOff_lead {d n : Nat} (h : b.lead.flights = []) : (b.gateOff d n).lead = b.lead := by
  unfold gateOff
  extract_lets b1 b2
  have h2 : b2.lead = b.lead := by
    refine (show Within [.elems, .wires, .crWires, .nis, .gates, .links, .stws, .gold, .aborts] b b2 from ?_) .lead (by decide)
    simp only [b2, b1]
    split
    · split
      · simp
      · simp
    · split
      · simp
      · simp
  rw [finishAll_of_flights_nil]
  · exact h2
  · exact congrArg Lead.flights h2 |>.trans h

theorem Block.foldl_gateOff_lead {ds : List Nat} {n : Nat} (h : b.lead.flights = []) :
    (ds.foldl (fun b d => b.gateOff d n) b).lead = b.lead := by
  induction ds generalizing b with
  | nil => rfl
  | cons d ds ih =>
    have hd := gateOff_lead (d := d) (n := n) h
    rw [List.foldl_cons, ih (by rw [hd, h]), hd]

/-- With no commit waiting none starts. -/
theorem Block.nextCommit_eq (h : b.lead.commitQ = []) : b.nextCommit = b.modLead (fun l => { l with commitQ := [] }) := by
  unfold nextCommit
  extract_lets stays
  rw [h]
  simp [modLead, h]

theorem Block.nextCommit_lead (h : b.lead.commitQ = []) : b.nextCommit.lead = b.lead := by
  rw [nextCommit_eq h, modLead, ← h]

/-- What the retirement may change when the driver ordered the commit and nothing waits behind it. -/
def retireParts : List Part := [.elems, .wires, .crWires, .nis, .gates, .links, .doms, .stws, .gold, .rings, .vecs, .lead, .aborts, .hostOut]

/-- The old epoch of a commit that the driver ordered retires, while no command is in flight and no commit waits: both epochs have the facts of
the new one, and the routes are committed. -/
theorem Block.retire_route (hc : b.lead.commit = some c) (hwhy : c.why = 0) (hf : b.lead.flights = []) (hq : b.lead.commitQ = [])
    (hs : b.lead.steerQ = []) (ha : ∀ k, k < 8 → (b.port k).awaits = false) :
    Within retireParts b b.retire ∧
    b.retire.lead = { (b.setFacts (!c.epoch) (b.facts c.epoch)).lead with commit := none, routeOk := true } := by
  obtain ⟨x, hx⟩ : ∃ x, x = b.retire := ⟨_, rfl⟩
  rw [← hx]
  unfold retire at hx
  split at hx
  · next h => rw [hc] at h; cases h
  next c' h =>
  rw [hc] at h
  cases h
  extract_lets ep b1 b2 b3 b4 b5 b6 b7 at hx
  have h1 : b1.lead = (b.setFacts (!c.epoch) (b.facts c.epoch)).lead :=
    (show Within [.elems, .stws, .gold, .aborts] (b.setFacts (!ep) (b.facts ep)) b1 by simp [b1]) .lead (by decide)
  obtain ⟨hflights, hqueue, hsteer⟩ : b1.lead.flights = [] ∧ b1.lead.commitQ = [] ∧ b1.lead.steerQ = [] := by
    rw [h1, setFacts]
    cases c.epoch <;> exact ⟨hf, hq, hs⟩
  have h3 : b3.lead = { b1.lead with commit := none } :=
    (show Within [.doms] b2 b3 by simp [b3]) .lead (by decide)
  have h4 : b4.lead = b3.lead := foldl_gateOff_lead (by rw [h3]; exact hflights)
  have h5 : b5 = b4.modLead (fun l => { l with routeOk := true }) := by
    simp only [b5, hwhy]
    exact finishAll_of_flights_nil (by rw [modLead, h4, h3]; exact hflights)
  have hwithin : Within retireParts b b5 := by
    simp [h5, b4, b3, b2, b1, retireParts]
  have h6 : b6 = b5 := by
    refine if_neg ?_
    have hport : ∀ k, b5.port k = b.port k := fun k => by rw [port, hwithin .ports (by decide), ← port]
    simpa [hwhy, hport] using ha
  have h7 : b7 = b5 := by
    have hnone : b6.lead.steerQ = [] := by rw [h6, h5, modLead, h4, h3]; exact hsteer
    simp only [b7, hnone]
    exact h6
  have hlead : b5.lead = { b1.lead with commit := none, routeOk := true } := by rw [h5, modLead, h4, h3]
  have hwait : b5.lead.commitQ = [] := by rw [hlead]; exact hqueue
  rw [hx, h7]
  refine ⟨?_, ?_⟩
  · rw [nextCommit_eq hwait]
    simpa [retireParts] using hwithin
  · rw [nextCommit_lead hwait, hlead, h1]

/-- What the retirement of a commit that the driver ordered leaves in the lead, from a block whose lead and Pass ports are those of `b0` but for the
commit's own record. -/
theorem Block.retire_outcome {b0 : Block} (hl : b.lead = { b0.lead with commit := some c }) (hp : b.ports = b0.ports) (hwhy : c.why = 0)
    (hf : b0.lead.flights = []) (hq : b0.lead.commitQ = []) (hs : b0.lead.steerQ = []) (ha : ∀ k, k < 8 → (b0.port k).awaits = false) :
    b.retire.lead.commit = none ∧ b.retire.lead.routeOk = true ∧ b.retire.facts (!c.epoch) = b0.facts c.epoch ∧
      b.retire.facts c.epoch = b0.facts c.epoch ∧ b.retire.wsh = b.wsh := by
  obtain ⟨hwithin, hlead⟩ := retire_route (b := b) (c := c) (by rw [hl]) hwhy (by rw [hl]; exact hf) (by rw [hl]; exact hq) (by rw [hl]; exact hs)
    (fun k hk => by rw [port, hp]; exact ha k hk)
  have hfacts : b.facts c.epoch = b0.facts c.epoch := facts_of_lead (by rw [hl]) (by rw [hl])
  obtain ⟨hold, hnew⟩ := setFacts_facts (b := b) (ep := c.epoch) (f := b.facts c.epoch)
  refine ⟨by rw [hlead], by rw [hlead], ?_, ?_, hwithin .wsh (by decide)⟩
  · rw [← hfacts, ← hold]
    exact facts_of_lead (by rw [hlead]) (by rw [hlead])
  · rw [← hfacts, ← hnew]
    exact facts_of_lead (by rw [hlead]) (by rw [hlead])

end

section
variable {s : State} {c : Commit} {g t k : Nat}

theorem epochDrainReport_last (hg : g < 32) (hc : s.blk.lead.commit = some c) (ht : c.point = some t)
    (hwhy : c.why = 0) (hf : s.blk.lead.flights = []) (hq : s.blk.lead.commitQ = []) (hs : s.blk.lead.steerQ = [])
    (ha : ∀ k, k < 8 → (s.blk.port k).awaits = false) (hr : (s.blk.region g).report = some (k, 0)) (hk : c.round = some k)
    (hlast : c.waitDrain = [g]) : Completes (.epochDrainReport g) s (fun b' => b'.lead.commit = none ∧ b'.lead.routeOk = true ∧
      b'.facts (!c.epoch) = s.blk.facts c.epoch ∧ b'.facts c.epoch = s.blk.facts c.epoch) := by
  refine epochDrainReport_zero hg hc ht hr hk ?_
  rw [if_pos (by simp [hlast])]
  obtain ⟨hcommit, hok, hold, hnew, -⟩ := Block.retire_outcome (b := s.blk.reported c g) (b0 := s.blk)
    (c := { c with waitDrain := c.waitDrain.filter (· != g) }) rfl rfl hwhy hf hq hs ha
  exact ⟨hcommit, hok, hold, hnew⟩

/-- At the drain limit, when what was left of the old epoch has been discarded, EPOCH_DRAIN_TIMEOUT is raised; lead and Pass ports stand. -/
theorem Block.dropOld_event {b : Block} {old : Bool} {det : BitVec 32} {x : Block × Nat} (hx : (b.elapseTo t).dropOld old = x) :
    Raised b (x.1.event x.1.leadSrc 0x15 none det) b.leadSrc 0x15 1 ∧ (x.1.event x.1.leadSrc 0x15 none det).lead = b.lead ∧
    (x.1.event x.1.leadSrc 0x15 none det).ports = b.ports := by
  have hdrop : Within [.now, .tbs, .elems, .wires, .crWires, .nis, .gates, .links, .aborts] b x.1 := by simp [← hx]
  have hsrc : x.1.leadSrc = b.leadSrc := by rw [leadSrc, hdrop .lead (by decide), ← leadSrc]
  have hevent : Within [.elems, .wsh] x.1 (x.1.event x.1.leadSrc 0x15 none det) := by simp
  refine ⟨?_, (hevent .lead (by decide)).trans (hdrop .lead (by decide)), (hevent .ports (by decide)).trans (hdrop .ports (by decide))⟩
  have hsev : kindSev x.1.leadSrc 0x15 = 1 := by simp [kindSev]
  have hraised := event_raised (b := x.1) x.1.leadSrc 0x15 none det
  rw [hsev, hsrc] at hraised
  exact hraised.of_wsh (hdrop .wsh (by decide)).symm (by rw [hsrc])

/-- The drain limit: `x` is the block from which the old epoch has been discarded, and the number of packets. -/
theorem epochDrainTimeout_of_dropped {P : Block → Prop} {x : Block × Nat} (hc : s.blk.lead.commit = some c) (ht : c.point = some t)
    (hx : (s.blk.elapseTo (t + 320000)).dropOld (!c.epoch) = x)
    (hP : P ((x.1.event x.1.leadSrc 0x15 none (detN x.2)).modLead (fun l => { l with
      commit := some { c with waitDrain := [], discarded := x.2 } })).retire) : Completes .epochDrainTimeout s P := by
  refine completes_of_on rfl (show execEpochDrainTimeout s = s.on .epochDrainTimeout _ from rfl) ?_
  -- the discard stands for a function of its own, so that no check of the cases below evaluates it
  obtain ⟨dropOld, hdrop⟩ : ∃ f, f = Block.dropOld := ⟨_, rfl⟩
  rw [← hdrop] at hx ⊢
  rw [hc]
  dsimp only
  split
  · next t' ht' =>
    rw [ht] at ht'
    cases ht'
    rw [hx]
    exact hP
  · next ht' =>
    rw [ht] at ht'
    cases ht'

theorem epochDrainTimeout_retires (hc : s.blk.lead.commit = some c) (ht : c.point = some t) (hwhy : c.why = 0)
    (hf : s.blk.lead.flights = []) (hq : s.blk.lead.commitQ = []) (hs : s.blk.lead.steerQ = [])
    (ha : ∀ k, k < 8 → (s.blk.port k).awaits = false) : Completes .epochDrainTimeout s (fun b' =>
      b'.lead.commit = none ∧ b'.lead.routeOk = true ∧ b'.facts (!c.epoch) = s.blk.facts c.epoch ∧ Raised s.blk b' s.blk.leadSrc 0x15 1) := by
  generalize hx : (s.blk.elapseTo (t + 320000)).dropOld (!c.epoch) = x
  obtain ⟨hraised, hlead, hports⟩ := Block.dropOld_event (det := detN x.2) hx
  refine epochDrainTimeout_of_dropped hc ht hx ?_
  generalize x.1.event x.1.leadSrc 0x15 none (detN x.2) = y at hraised hlead hports ⊢
  obtain ⟨hcommit, hok, hold, -, hwsh⟩ := Block.retire_outcome (b0 := s.blk)
    (b := y.modLead fun l => { l with commit := some { c with waitDrain := [], discarded := x.2 } })
    (c := { c with waitDrain := [], discarded := x.2 }) (by rw [Block.modLead, hlead]) (by rw [Block.modLead_ports, hports]) hwhy hf hq hs ha
  exact ⟨hcommit, hok, hold, hraised.of_wsh rfl hwsh⟩

end

theorem routeEpochDrain : Claims.RouteEpochDrain := fun _ _ _ _ _ hg hc ht =>
  ⟨fun _ hk => drainQueries hg hc ht hk, fun _ hr hn => epochDrainReport_waits hg hc hr hn,
    fun _ hr hk hleft => epochDrainReport_counts hg hc ht hr hk hleft,
    fun hwhy hf hq hs ha => ⟨fun _ hr hk hlast => epochDrainReport_last hg hc ht hwhy hf hq hs ha hr hk hlast,
      fun _ => epochDrainTimeout_retires hc ht hwhy hf hq hs ha⟩⟩

/-- Settles O14: the commit by the cases of EPOCH_COMMIT and its acknowledgement, the drain by those of the query, the report and the limit. -/
theorem routeEpochs : Obligations.RouteEpochs := ⟨routeEpochCommit, routeEpochDrain⟩

end Sys2Proof.Machine
end

section
/-! PROOFS. Arbitration (spec/04 R118, R119; 08 R243): the one packet that waits at a router, and the NAK that an adapter owes. -/

namespace Sys2Proof.Machine

open Block (Within)

/-! ### What a router sends (04 R118, R119) -/

section
variable {b : Block} {r p vc o d a q : Nat}

/-- The buffers of an element and the state of its outputs. -/
def Elem.traffic (el : Elem) : SMap Vc × SMap Out := (el.ins, el.outs)

@[simp] theorem Elem.bump_traffic {el : Elem} {i n : Nat} : (el.bump i n).traffic = el.traffic := by
  unfold bump
  dsimp only
  split
  · rfl
  · split <;> rfl

@[simp] theorem Block.bump_traffic {i n : Nat} : ((b.bump r i n).elem r).traffic = (b.elem r).traffic := by
  simp [bump]

@[simp] theorem Block.hop_traffic {f : Flit} {dl dc : Bool} : ((b.hop r p vc o d f dl dc).elem r).traffic = (b.elem r).traffic := by
  unfold hop
  split
  · rfl
  · simp only [bump_traffic, emit, modElem_elem]
    rfl

/-- The forecasts of an FCLK go out on wires of their own; what the router keeps of them is neither a buffer nor an output. -/
theorem Block.forecastsOut_keeps {vals : List (Nat × Nat)} :
    ((b.forecastsOut r vals).elem r).traffic = (b.elem r).traffic ∧ (b.forecastsOut r vals).wires = b.wires := by
  obtain ⟨g, hg, hwires⟩ : ∃ g : Elem → Elem, (∀ el, (g el).traffic = el.traffic) ∧
      Within [.fcWires] (b.modElem r g) (b.forecastsOut r vals) := by
    unfold forecastsOut
    extract_lets el cur keys due now turn b1
    refine ⟨_, ?_, (Block.within_foldl fun y k => ?_).2 (.refl b1)⟩
    · intro el; rfl
    · split <;> simp
  refine ⟨?_, hwires .wires (by decide)⟩
  rw [elem, hwires .elems (by decide), ← elem, modElem_elem, hg]

/-- A flit that leaves over a link stands on the wire, and has taken a credit of the VC that it goes to. -/
theorem Block.sendFlit_sends {inPort inVc prog : Nat} {f : Flit} (hp : peer r o = some (a, q)) :
    (b.sendFlit r o d inPort inVc prog f).wires.get [] (wkey a q) = b.wires.get [] (wkey a q) ++ [(d, f)] ∧
    ((b.sendFlit r o d inPort inVc prog f).elem r).ins = (b.elem r).ins ∧
    (((b.sendFlit r o d inPort inVc prog f).elem r).out o).used.get 0 d = ((b.elem r).out o).used.get 0 d + 1 := by
  unfold sendFlit
  rw [hp]
  dsimp -zeta only
  extract_lets tail b1 b2
  have h2 : (b2.elem r).ins = (b.elem r).ins ∧ ((b2.elem r).out o).used.get 0 d = ((b.elem r).out o).used.get 0 d + 1 := by
    simp only [b2, modElem_elem]
    split <;> simp [b1, Elem.setOut, Elem.out, elem]
  have hwires : b2.wires.get [] (wkey a q) = b.wires.get [] (wkey a q) ++ [(d, f)] := by simp [b2, b1]
  split
  · obtain ⟨hins, houts⟩ := Prod.mk.inj (bump_traffic (b := b2) (r := r) (i := o) (n := 1))
    refine ⟨by rw [← hwires]; rfl, hins.trans h2.1, ?_⟩
    rw [Elem.out, houts]
    exact h2.2
  · exact ⟨hwires, h2⟩

/-- The counters and the hop record that follow a flit leave the buffers, the outputs and the wires as they are. -/
theorem Block.grantOne_sends {reqs : List Req} {g : Req} (hp : peer r g.out = some (a, q)) (hopen : b.outShut r g.out (g.sent = 0) = false)
    (hq : ((b.elem r).vc g.inPort g.vc).q = [g.flit]) :
    (((b.grantOne r reqs g).elem r).vc g.inPort g.vc).q = [] ∧
    (∃ f, (b.grantOne r reqs g).wires.get [] (wkey a q) = b.wires.get [] (wkey a q) ++ [(g.dvc, f)] ∧ f.hdr = g.flit.hdr ∧ f.pay = g.flit.pay) ∧
    (((b.grantOne r reqs g).elem r).out g.out).used.get 0 g.dvc = ((b.elem r).out g.out).used.get 0 g.dvc + 1 := by
  unfold grantOne
  rw [hp]
  dsimp -zeta only
  rw [if_neg (by simp [hopen])]
  extract_lets v tail ovd f0 f v' b1 b2 b3 pre b4 head b5 b6
  obtain ⟨hwires, hins, hused⟩ := sendFlit_sends (b := b2) (d := g.dvc) (inPort := g.inPort) (inVc := g.vc) (prog := g.sent) (f := f) hp
  have h2 : Within [.crWires, .links] b1 b2 := by simp [b2]
  have hfinal : ∀ x : Block, Within [.elems] b3 x → (x.elem r).traffic = (b3.elem r).traffic → ((x.elem r).vc g.inPort g.vc).q = [] ∧
      (∃ f, x.wires.get [] (wkey a q) = b.wires.get [] (wkey a q) ++ [(g.dvc, f)] ∧ f.hdr = g.flit.hdr ∧ f.pay = g.flit.pay) ∧
      ((x.elem r).out g.out).used.get 0 g.dvc = ((b.elem r).out g.out).used.get 0 g.dvc + 1 := by
    intro x hx htraffic
    obtain ⟨hxins, hxouts⟩ := Prod.mk.inj htraffic
    have h1 : b2.elem r = b1.elem r := by rw [elem, h2 .elems (by decide), ← elem]
    refine ⟨?_, ⟨f, ?_, rfl, rfl⟩, ?_⟩
    · rw [Elem.vc, hxins, hins, h1]
      simp [b1, Elem.setVc, v', v, hq]
    · rw [hx .wires (by decide), hwires, h2 .wires (by decide)]
      rfl
    · rw [Elem.out, hxouts]
      refine hused.trans ?_
      rw [h1]
      simp [b1, Elem.setVc, Elem.out]
  have h6 : Within [.elems] b3 b6 ∧ (b6.elem r).traffic = (b3.elem r).traffic := by
    simp only [b6, b5, b4]
    constructor
    · simp
    · (repeat' split) <;> simp
  split
  · exact hfinal _ (by simpa using h6.1) (by simpa using h6.2)
  · exact hfinal _ h6.1 h6.2

/-! ### What a router decides (03 R81; 04 R118) -/

/-- The ages of an element's packets leave its outputs, its table and its worn rows. -/
theorem Elem.ageBy_keeps {el : Elem} {e ft u : Nat} : (el.ageBy e ft u).ins = el.ins.mapVals (fun _ v => v.ageBy ft u) ∧
    (el.ageBy e ft u).outs = el.outs ∧ (el.ageBy e ft u).tab = el.tab ∧ (el.ageBy e ft u).badRows = el.badRows := by
  unfold ageBy bump
  dsimp only
  split
  · split
    · exact ⟨rfl, rfl, rfl, rfl⟩
    · split <;> exact ⟨rfl, rfl, rfl, rfl⟩
  · exact ⟨rfl, rfl, rfl, rfl⟩

/-- A VC with one flit, whose head has not left, has that flit after any time, overdue or not. -/
theorem Vc.ageBy_single {v : Vc} {f : Flit} {ft u : Nat} (h : v.q = [f]) :
    ∃ g, (v.ageBy ft u).q = [g] ∧ g.hdr = f.hdr ∧ g.pay = f.pay := by
  unfold ageBy
  dsimp only
  rw [h]
  refine ⟨_, List.map_singleton, ?_⟩
  split <;> exact ⟨rfl, rfl⟩

section
variable {f : Elem → Elem}

/-- The decision at a router reads of the router its table and its outputs. -/
theorem Block.decideRoute_modElem {h : BitVec 128} (ht : (f (b.elem r)).tab = (b.elem r).tab) (ho : (f (b.elem r)).outs = (b.elem r).outs) :
    (b.modElem r f).decideRoute r p vc h = b.decideRoute r p vc h := by
  have hentry : (b.modElem r f).entry r = b.entry r := by
    funext ep idx
    unfold entry
    rw [modElem_elem, ht]
    rfl
  have hroute : (b.modElem r f).routeOf r = b.routeOf r := by
    funext i h
    unfold routeOf
    rw [hentry]
  have hfree : (b.modElem r f).freeCr r = b.freeCr r := by
    funext o d
    unfold freeCr
    rw [modElem_elem, ho]
    rfl
  have hcol : (b.modElem r f).colPort r = b.colPort r := by
    funext o d
    unfold colPort
    rw [hfree]
    rfl
  unfold decideRoute
  rw [hroute, hfree, hcol, modElem_elem, ho]
  rfl

end

section
variable {v : Vc} {f : Flit}

/-- Where one packet waits, whose decision is an output, that output is all that is decided. -/
theorem Block.decideAll_single (hins : (b.elem r).ins = [(p * 32 + vc, v)]) (hvc : vc < 32) (hq : v.q = [f]) (hs : v.sent = 0)
    (hbad : (b.elem r).badRows = []) (hd : b.decideRoute r p vc f.hdr = .go o d) :
    b.decideAll r = b.modElem r (fun el => el.setVc p vc { v with out := some o, dvc := some d }) := by
  have hp : (p * 32 + vc) / 32 = p := by omega
  have hv : (p * 32 + vc) % 32 = vc := by omega
  have hget : (b.elem r).vc p vc = v := by simp [Elem.vc, hins, SMap.get]
  simp [decideAll, hins, hp, hv, hget, hq, hs, hbad, hd]

/-- The one packet that waits, with an output decided, a credit and a free downstream VC, is the one request. -/
theorem Block.requests_single (hins : (b.elem r).ins = [(p * 32 + vc, v)]) (hvc : vc < 32) (hq : v.q = [f]) (hs : v.sent = 0)
    (ho : v.out = some o) (hd : v.dvc = some d) (hcr : 0 < b.freeCr r o d) (hheld : ((b.elem r).out o).held.find d = none) :
    b.requests r = [⟨p, vc, o, d, rankKey (b.ftOf r) f p vc, f, 0⟩] := by
  have hp : (p * 32 + vc) / 32 = p := by omega
  have hv : (p * 32 + vc) % 32 = vc := by omega
  simp [requests, hins, hp, hv, hq, hs, ho, hd, hcr, hheld, insertReq]

/-- A domain that is On is open to its neighbours. -/
theorem Block.outShut_of_on (hp : peer r o = some (a, q)) (hon : b.domSt a = 0) (head : Bool) : b.outShut r o head = false := by
  have hcarries : b.carries a = true := by simp [carries, hon]
  have hclosed : b.closed a = false := by
    unfold domSt at hon
    unfold closed
    split <;> simp_all
  simp [outShut, hp, hcarries, hclosed]

/-- One waiting packet of one flit, with an output decided, a credit, a free downstream VC and an output that can take it: it is granted. -/
theorem Block.arbitrate_single (hopen : b.elemFenced r = false) (hon : b.domSt r = 0) (hins : (b.elem r).ins = [(p * 32 + vc, v)]) (hvc : vc < 32)
    (hq : v.q = [f]) (hs : v.sent = 0) (hbad : (b.elem r).badRows = []) (hd : b.decideRoute r p vc f.hdr = .go o d)
    (hcr : 0 < b.freeCr r o d) (hheld : ((b.elem r).out o).held.find d = none) (hready : b.outReady r o = true)
    (hp : peer r o = some (a, q)) (hfar : b.domSt a = 0) :
    (((b.arbitrate r).elem r).vc p vc).q = [] ∧
    (∃ g, (b.arbitrate r).wires.get [] (wkey a q) = b.wires.get [] (wkey a q) ++ [(d, g)] ∧ g.hdr = f.hdr ∧ g.pay = f.pay) ∧
    (((b.arbitrate r).elem r).out o).used.get 0 d = ((b.elem r).out o).used.get 0 d + 1 := by
  unfold arbitrate
  rw [if_neg (by simp [hopen, carries, hon])]
  extract_lets b1 reqs grants b2
  obtain ⟨haged, houts, htab, hrows⟩ := Elem.ageBy_keeps (el := b.elem r) (e := r) (ft := b.ftOf r) (u := 0)
  obtain ⟨f1, hq1, hhdr, hpay⟩ := Vc.ageBy_single (ft := b.ftOf r) (u := 0) hq
  have hb1 : b1 = (b.modElem r fun el => el.ageBy r (b.ftOf r) 0).modElem r
      (fun el => el.setVc p vc { v.ageBy (b.ftOf r) 0 with out := some o, dvc := some d }) := by
    refine decideAll_single (f := f1) ?_ hvc hq1 hs ?_ ?_
    · rw [modElem_elem, haged, hins]; rfl
    · rw [modElem_elem, hrows, hbad]
    · rw [decideRoute_modElem htab houts, hhdr, hd]
  have hins1 : (b1.elem r).ins = [(p * 32 + vc, { v.ageBy (b.ftOf r) 0 with out := some o, dvc := some d })] := by
    simp [hb1, Elem.setVc, haged, hins, SMap.mapVals, SMap.set]
  have houts1 : (b1.elem r).outs = (b.elem r).outs := by simp [hb1, Elem.setVc, houts]
  have hfree1 : b1.freeCr r o d = b.freeCr r o d := by
    unfold freeCr
    rw [houts1, hb1]
    rfl
  have hreqs : reqs = [⟨p, vc, o, d, rankKey (b1.ftOf r) f1 p vc, f1, 0⟩] :=
    requests_single hins1 hvc hq1 hs rfl rfl (hfree1 ▸ hcr) (by rw [Elem.out, houts1]; exact hheld)
  have hready1 : b1.outReady r o = true := by
    rw [← hready]
    unfold outReady
    rw [Elem.out, houts1, hb1]
    rfl
  have hgrants : grants = [⟨p, vc, o, d, rankKey (b1.ftOf r) f1 p vc, f1, 0⟩] := by
    simp [grants, hreqs, hready1, grantReqs]
  have hb2 : b2 = b1.grantOne r reqs ⟨p, vc, o, d, rankKey (b1.ftOf r) f1 p vc, f1, 0⟩ := by
    simp only [b2, hgrants, List.foldl_cons, List.foldl_nil]
  obtain ⟨hgone, ⟨g, hwire, hghdr, hgpay⟩, hused⟩ := grantOne_sends (b := b1) (reqs := reqs)
    (g := ⟨p, vc, o, d, rankKey (b1.ftOf r) f1 p vc, f1, 0⟩) hp (outShut_of_on hp (by rw [hb1]; exact hfar) _)
    (by rw [Elem.vc, hins1]; simpa [SMap.get] using hq1)
  rw [← hb2] at hgone hwire hused
  obtain ⟨htraffic, hwires⟩ := forecastsOut_keeps (b := b2) (r := r) (vals := forecastVals (b2.elem r) reqs grants)
  obtain ⟨hfins, hfouts⟩ := Prod.mk.inj htraffic
  refine ⟨?_, ⟨g, ?_, hghdr.trans hhdr, hgpay.trans hpay⟩, ?_⟩
  · rw [Elem.vc, hfins]
    exact hgone
  · rw [hwires, hwire, hb1]
    rfl
  · rw [Elem.out, hfouts]
    refine hused.trans ?_
    rw [Elem.out, houts1, ← Elem.out]

end

end

/-! ### The turn of an adapter (08 R243) -/

/-- An adapter of a die link is no router and no Pass port. -/
theorem isAdp_of_isDieAdp {a : Nat} (h : isDieAdp a = true) : isAdp a = true ∧ isRouter a = false ∧ isPass a = false := by
  refine ⟨by simp_all [isDieAdp, isAdp], ?_⟩
  simp only [isDieAdp, isColC, isColI, isRidge, isRouter, isPass, Bool.or_eq_true, Bool.and_eq_true, decide_eq_true_eq, beq_iff_eq,
    Bool.or_eq_false_iff, Bool.and_eq_false_iff, decide_eq_false_iff_not, beq_eq_false_iff_ne] at h ⊢
  omega

section
variable {b : Block} {a : Nat}

/-- An adapter whose link owes a NAK sends that before anything else. -/
theorem Block.adpEgress_nak (hclk : b.hclkOff a = false) (hrun : b.linkStopped a = false) (hcarries : b.carries a = true)
    (hst : (b.link a).st = .active) (hnak : (b.link a).nakDue = true) :
    b.adpEgress a = ((b.modLink a (fun l => { l with nakDue := false })).putFrame a
      { ty := .nak, seq := (b.link a).next, ack := (b.link a).ackNo, slots := [], cred := [], rply := false, pm := 0 }).bump a 10 1 := by
  simp [adpEgress, hclk, hrun, hcarries, Link.runs, hst, hnak]

/-- The turn of an adapter of a die link that is ACTIVE: with nothing to bring into the mesh, it is a frame towards the link. -/
theorem Block.linkTurn_active (hpass : isPass a = false) (hopen : b.elemFenced a = false) (hcarries : b.carries a = true)
    (hclk : b.hclkOff a = false) (hst : (b.link a).st = .active) (hins : (b.elem a).ins = []) : b.linkTurn a = b.adpEgress a := by
  have hingress : b.adpIngress a = b := by simp [adpIngress, ranked, hins]
  have hturn : b.adpTurn a = b.adpEgress a := by simp [adpTurn, hopen, hcarries, passNiServe, hpass, hingress]
  simp [linkTurn, hclk, hpass, trainFrame, hst, hturn]

/-- A frame over a die link goes to the far side's inbox; no other part of a link changes. -/
theorem Block.putFrame_links {fr : Frame} (hpass : isPass a = false) :
    (b.putFrame a fr).links = (b.modLink (farAdp a) (fun l => { l with inbox := l.inbox ++ [fr] })).links := by
  simp [putFrame, hpass, modLink]

/-- A change of one link that leaves a part of it leaves that part of every link. -/
theorem Block.modLink_keeps {α : Type} {i j : Nat} {f : Link → Link} (part : Link → α) (h : ∀ l, part (f l) = part l) :
    part ((b.modLink i f).link j) = part (b.link j) := by
  by_cases hj : j = i
  · rw [hj, modLink_link, h]
  · rw [modLink_link_ne (h := hj)]

/-- The NAK that is sent is no longer due, and stands in the far side's inbox. -/
theorem Block.putFrame_nak {fr : Frame} (hpass : isPass a = false) :
    let x := ((b.modLink a (fun l => { l with nakDue := false })).putFrame a fr).bump a 10 1
    (x.link a).nakDue = false ∧ (x.link (farAdp a)).inbox = (b.link (farAdp a)).inbox ++ [fr] := by
  intro x
  have hx : x.links = ((b.modLink a (fun l => { l with nakDue := false })).modLink (farAdp a) (fun l => { l with inbox := l.inbox ++ [fr] })).links :=
    putFrame_links hpass
  constructor
  · rw [link, hx, ← link]
    refine (modLink_keeps Link.nakDue (by exact fun _ => rfl)).trans ?_
    rw [modLink_link]
  · rw [link, hx, ← link, modLink_link]
    exact congrArg (· ++ [fr]) (modLink_keeps Link.inbox (by exact fun _ => rfl))

end

/-- Settles O21: a router's one packet by the grant of its one request, an adapter's NAK by the first choice of what it sends. -/
theorem arbitration : Obligations.Arbitration := by
  intro s
  refine ⟨fun r p vc o d a q v f hr hvc hopen hon hins hq hs _ hbad hd hcr hheld hready hp hfar => ?_,
    fun a ha hins hopen hrun hon hclk hst hnak => ?_⟩
  · refine completes_of_on (by simp [Instr.WellFormed, hr]) (show execArbitration r s = s.on (.arbitration r) _ from rfl) ?_
    rw [if_pos hr]
    exact Block.arbitrate_single hopen hon hins hvc hq hs hbad hd hcr hheld hready hp hfar
  · obtain ⟨hadp, hrouter, hpass⟩ := isAdp_of_isDieAdp ha
    have hcarries : s.blk.carries a = true := by simp [Block.carries, hon]
    refine completes_of_on (by simp [Instr.WellFormed, hadp]) (show execArbitration a s = s.on (.arbitration a) _ from rfl) ?_
    rw [if_neg (by simp [hrouter]), Block.linkTurn_active hpass hopen hcarries hclk hst hins, Block.adpEgress_nak hclk hrun hcarries hst hnak]
    obtain ⟨hsent, hinbox⟩ := Block.putFrame_nak (b := s.blk) (a := a) (fr :=
      { ty := .nak, seq := (s.blk.link a).next, ack := (s.blk.link a).ackNo, slots := [], cred := [], rply := false, pm := 0 }) hpass
    exact ⟨hsent, _, hinbox, rfl, rfl, rfl⟩

end Sys2Proof.Machine
end

section
/-! PROOFS. The timers of the mesh and the width of its links (spec/04 R121 to R123, R129, R130, R135; 13 R367). -/

namespace Sys2Proof.Machine

open Block (Within)

/-! ### What time changes of an element (04 R121 to R123, R129, R135) -/

/-- An element whose event counters alone differ. -/
def Elem.Counts (el el' : Elem) : Prop := ∃ c o w, el' = { el with ctr := c, ovf := o, wraps := w }

section
variable {el el' el'' : Elem}

theorem Elem.Counts.refl (el : Elem) : el.Counts el := ⟨_, _, _, rfl⟩

theorem Elem.Counts.trans (h : el.Counts el') (h' : el'.Counts el'') : el.Counts el'' := by
  obtain ⟨_, _, _, rfl⟩ := h
  obtain ⟨_, _, _, rfl⟩ := h'
  exact ⟨_, _, _, rfl⟩

theorem Elem.bump_counts {i n : Nat} : el.Counts (el.bump i n) := by
  unfold bump
  dsimp only
  split
  · exact .refl el
  · split <;> exact ⟨_, _, _, rfl⟩

theorem Elem.foldl_bump_counts {ps : List Nat} {c : Nat → Bool} {i : Nat → Nat} {n : Nat} :
    el.Counts (ps.foldl (fun x p => if c p then Elem.bump x (i p) n else x) el) := by
  induction ps generalizing el with
  | nil => exact .refl el
  | cons p ps ih =>
    rw [List.foldl_cons]
    split
    · exact bump_counts.trans ih
    · exact ih

/-- The flits that an element holds age; of its outputs no width changes, and no count of the window. -/
def Elem.Ages (ft u : Nat) (el el' : Elem) : Prop :=
  (∀ k, (el'.ins.get {} k).q = ((el.ins.get {} k).ageBy ft u).q) ∧
  (∀ p, (el'.out p).narrow = (el.out p).narrow ∧ (el'.out p).winFlits = (el.out p).winFlits) ∧ el'.lastStarve = el.lastStarve

theorem Elem.Ages.counts {ft u : Nat} (h : el.Ages ft u el') (hc : el'.Counts el'') : el.Ages ft u el'' := by
  obtain ⟨_, _, _, rfl⟩ := hc
  exact h

theorem SMap.get_mapVals {α : Type} {d : α} {m : SMap α} {f : Nat → α → α} {k : Nat} (h : f k d = d) :
    SMap.get d (m.mapVals f) k = f k (SMap.get d m k) := by
  rw [SMap.get_eq_find, SMap.get_eq_find, SMap.find_mapVals]
  cases m.find k with
  | none => exact h.symm
  | some v => rfl

@[simp] theorem Vc.ageBy_default {ft u : Nat} : Vc.ageBy {} ft u = {} := rfl

theorem Elem.ageBy_ages {e ft u : Nat} : el.Ages ft u (el.ageBy e ft u) := by
  have h : el.Ages ft u { el with ins := el.ins.mapVals (fun _ v => v.ageBy ft u) } :=
    ⟨fun k => congrArg Vc.q (SMap.get_mapVals (f := fun _ (v : Vc) => v.ageBy ft u) Vc.ageBy_default), fun p => ⟨rfl, rfl⟩, rfl⟩
  unfold ageBy
  dsimp only
  split
  · exact h.counts bump_counts
  · exact h

/-- Watchdogs run on without any change of a width. -/
theorem SMap.foldl_wdog {m : SMap Out} {ps : List Nat} {c paused : Nat → Bool} {n p : Nat} :
    let m' := ps.foldl (fun (m : SMap Out) p =>
      let o := m.get {} p
      if c p then (if paused p then m else m.set p { o with wdog := o.wdog + n })
      else if o.wdog = 0 then m else m.set p { o with wdog := 0 }) m
    (m'.get {} p).narrow = (m.get {} p).narrow ∧ (m'.get {} p).winFlits = (m.get {} p).winFlits := by
  have hset : ∀ (m : SMap Out) (k w : Nat), ((m.set k { m.get {} k with wdog := w }).get {} p).narrow = (m.get {} p).narrow ∧
      ((m.set k { m.get {} k with wdog := w }).get {} p).winFlits = (m.get {} p).winFlits := fun m k w => by
    rw [SMap.get_set]
    split
    · next h => rw [h]; exact ⟨rfl, rfl⟩
    · exact ⟨rfl, rfl⟩
  induction ps generalizing m with
  | nil => exact ⟨rfl, rfl⟩
  | cons k ps ih =>
    rw [List.foldl_cons]
    obtain ⟨hn, hw⟩ := ih (m := if c k then (if paused k then m else m.set k { m.get {} k with wdog := (m.get {} k).wdog + n })
      else if (m.get {} k).wdog = 0 then m else m.set k { m.get {} k with wdog := 0 })
    refine ⟨hn.trans ?_, hw.trans ?_⟩
    all_goals (repeat' split) <;> simp [hset]

end

section
variable {b : Block} {e n t : Nat} {el : Elem}

theorem Block.elemElapse_ages :
    el.Ages (b.ftOf e) (((b.tb (dieOf e)).elapse n).ft / 16 - b.ftOf e / 16) (b.elemElapse n e el) := by
  unfold elemElapse
  extract_lets paused el1 ins outs el2 el3 el4
  obtain ⟨hq, hout, hstarve⟩ : el.Ages (b.ftOf e) (((b.tb (dieOf e)).elapse n).ft / 16 - b.ftOf e / 16) el1 := Elem.ageBy_ages
  have h2 : el.Ages (b.ftOf e) (((b.tb (dieOf e)).elapse n).ft / 16 - b.ftOf e / 16) el2 := by
    refine ⟨fun k => ?_, fun p => ?_, hstarve⟩
    · rw [← hq]
      simp only [el2, ins]
      rw [SMap.get_mapVals]
      · split
        · split <;> rfl
        · rfl
      · rfl
    · obtain ⟨hn, hw⟩ := SMap.foldl_wdog (m := el1.outs) (ps := List.range 8) (c := el1.obligated) (paused := paused) (n := n) (p := p)
      exact ⟨hn.trans (hout p).1, hw.trans (hout p).2⟩
  refine h2.counts ?_
  have h3 : el2.Counts el3 := Elem.foldl_bump_counts
  have h4 : el3.Counts el4 := by
    simp only [el4]
    split
    · exact Elem.bump_counts
    · exact .refl _
  split
  · split
    · exact (h3.trans h4).trans Elem.bump_counts
    · exact h3.trans h4
  · exact .refl _

/-- An element when FCLKs have passed: as time leaves it, or, where nothing is listed of it, as it was. -/
theorem Block.elapse_elem (hn : n ≠ 0) (hr : b.refclk = true) : (b.elapse n).elem e = b.elemElapse n e (b.elem e) ∨
    b.elem e = {} ∧ (b.elapse n).elem e = {} := by
  unfold elapse elem
  rw [if_neg (by simp [hn, hr]), SMap.get_eq_find, SMap.get_eq_find, SMap.find_mapVals]
  cases b.elems.find e with
  | none => exact .inr ⟨rfl, rfl⟩
  | some el => exact .inl rfl

theorem Block.elapse_of_stopped (h : n = 0 ∨ b.refclk = false) : b.elapse n = b := by
  unfold elapse
  obtain h | h := h <;> simp [h]

/-- The passing of time leaves the widths, the counts of the window, and the time of the last STARVE. -/
theorem Block.elapse_out {p : Nat} : (((b.elapse n).elem e).out p).narrow = ((b.elem e).out p).narrow ∧
    (((b.elapse n).elem e).out p).winFlits = ((b.elem e).out p).winFlits ∧ ((b.elapse n).elem e).lastStarve = (b.elem e).lastStarve := by
  by_cases h : n = 0 ∨ b.refclk = false
  · rw [elapse_of_stopped h]
    exact ⟨rfl, rfl, rfl⟩
  · rw [not_or, Bool.not_eq_false] at h
    obtain he | ⟨he, he'⟩ := elapse_elem (e := e) h.1 h.2
    · obtain ⟨-, hout, hstarve⟩ := elemElapse_ages (b := b) (e := e) (n := n) (el := b.elem e)
      rw [he]
      exact ⟨(hout p).1, (hout p).2, hstarve⟩
    · rw [he, he']
      exact ⟨rfl, rfl, rfl⟩

theorem Block.elapseTo_out {p : Nat} : (((b.elapseTo t).elem e).out p).narrow = ((b.elem e).out p).narrow ∧
    (((b.elapseTo t).elem e).out p).winFlits = ((b.elem e).out p).winFlits ∧ ((b.elapseTo t).elem e).lastStarve = (b.elem e).lastStarve := by
  unfold elapseTo
  split
  · exact elapse_out
  · exact ⟨rfl, rfl, rfl⟩

end

/-! ### OVERDUE (04 R121 to R123) -/

/-- A packet is covered by one of the list without repeats that it is in. -/
theorem exists_covers_of_mem {l : List Pk} {k : Pk} (h : k ∈ l) : ∃ x ∈ pksOf l, x.covers k = true := by
  have hkeep : ∀ (l acc : List Pk), (∃ x ∈ acc, x.covers k = true) ∨ k ∈ l →
      ∃ x ∈ l.foldl (fun l k => if l.any (fun x => sameId x.1 k.1 && x.2 == k.2) then l else l ++ [k]) acc, x.covers k = true := by
    intro l
    induction l with
    | nil => simp
    | cons y l ih =>
      intro acc h
      refine ih _ ?_
      dsimp only
      rw [List.mem_cons] at h
      obtain ⟨x, hx, hc⟩ | rfl | h := h
      · refine .inl ⟨x, ?_, hc⟩
        split
        · exact hx
        · exact List.mem_append_left _ hx
      · split
        · next hany =>
          obtain ⟨x, hx, hsame⟩ := List.any_eq_true.1 hany
          obtain ⟨hid, hcopy⟩ := Bool.and_eq_true_iff.1 hsame
          refine .inl ⟨x, hx, ?_⟩
          exact Bool.and_eq_true_iff.2 ⟨beq_iff_eq.2 (beq_iff_eq.1 hid).symm, by simp [beq_iff_eq.1 hcopy]⟩
        · exact .inl ⟨k, by simp, by simp [Pk.covers, sameId]⟩
      · exact .inr h
  exact hkeep l [] (.inr h)

section
variable {v : Vc} {ft u pos : Nat} {f : Flit}

theorem Vc.ageBy_hdrs : (v.ageBy ft u).q.map (·.hdr) = v.q.map (·.hdr) := by
  unfold ageBy
  dsimp only
  rw [List.map_map]
  congr 1
  funext f
  dsimp only [Function.comp]
  split <;> rfl

/-- The overdue bit stays. -/
theorem Vc.ageBy_ovd (h : v.q[pos]? = some f) (ho : f.ovd = true) : ∃ g, (v.ageBy ft u).q[pos]? = some g ∧ g.ovd = true := by
  unfold ageBy
  simp only [List.getElem?_map, h, Option.map_some]
  refine ⟨_, rfl, ?_⟩
  split
  · rfl
  · exact ho

/-- A packet whose age reaches 2,000 within the time that passes is overdue. -/
theorem Vc.ageBy_due (h : v.q[pos]? = some f) (hdue : toOverdue ft f.hdr ≤ u) : ∃ g, (v.ageBy ft u).q[pos]? = some g ∧ g.ovd = true := by
  by_cases ho : f.ovd = true
  · exact ageBy_ovd h ho
  have hmem : pkOf f ∈ (v.q.filter (fun f => !f.ovd && decide (toOverdue ft f.hdr ≤ u))).map pkOf :=
    List.mem_map_of_mem (List.mem_filter.2 ⟨List.mem_of_getElem? h, by simp [ho, hdue]⟩)
  have hcov : (v.due ft u).any (fun k => k.covers (pkOf f)) = true := List.any_eq_true.2 (exists_covers_of_mem hmem)
  unfold ageBy
  simp only [List.getElem?_map, h, Option.map_some]
  exact ⟨_, rfl, by rw [if_pos hcov]⟩

end

/-- The FCLKs that a time base needs for a moment bring it there (07 R212). -/
theorem Tb.elapse_fclkTo {t : Tb} {x : Nat} (hk : t.k.natAbs ≤ 2147484) : x ≤ (t.elapse (t.fclkTo x)).ft := by
  unfold fclkTo elapse
  dsimp only
  generalize hr : (2 ^ 32 + t.k : Int) = r
  have hpos : 0 < r := by omega
  generalize ha : (((x * 2 ^ 32 : Nat) : Int) - ((t.ft * 2 ^ 32 + t.frac : Nat) : Int) + r - 1) = a
  have hdiv := Int.mul_ediv_add_emod a r
  have hmod := Int.emod_lt_of_pos a hpos
  have hnat : a / r ≤ ((a / r).toNat : Int) := Int.self_le_toNat _
  have hmul : r * (a / r) ≤ ((a / r).toNat : Int) * r := by nlinarith
  generalize ((a / r).toNat : Int) * r = y at hmul ⊢
  generalize r * (a / r) = z at hdiv hmul
  omega

theorem Tb.fclkTo_pos {t : Tb} {x : Nat} (hk : t.k.natAbs ≤ 2147484) (hf : t.frac < 2 ^ 32) (hx : t.ft < x) : t.fclkTo x ≠ 0 := by
  unfold fclkTo
  dsimp only
  generalize hr : (2 ^ 32 + t.k : Int) = r
  have hpos : 0 < r := by omega
  have hone : 1 ≤ (((x * 2 ^ 32 : Nat) : Int) - ((t.ft * 2 ^ 32 + t.frac : Nat) : Int) + r - 1) / r := by
    rw [Int.le_ediv_iff_mul_le hpos]
    omega
  omega

section
variable {r p vc pos : Nat} {f : Flit}

/-- Time up to the moment at which a packet becomes overdue sets its bit, and keeps the headers of the VC. -/
theorem Block.setOverdue_sets {b : Block} (hq : ((b.elem r).vc p vc).q[pos]? = some f) (ho : f.ovd = false) (hr : b.refclk = true)
    (hk : (b.tb (dieOf r)).k.natAbs ≤ 2147484) (hfrac : (b.tb (dieOf r)).frac < 2 ^ 32) :
    (((b.setOverdue r p vc pos).elem r).vc p vc).q.map (·.hdr) = ((b.elem r).vc p vc).q.map (·.hdr) ∧
    ∃ g, (((b.setOverdue r p vc pos).elem r).vc p vc).q[pos]? = some g ∧ g.ovd = true := by
  unfold setOverdue
  rw [hq]
  dsimp -zeta only
  rw [if_neg (by simp [ho])]
  extract_lets b1
  have hlast : (((b1.modElem r fun el => el.ageBy r (b1.ftOf r) 0).elem r).vc p vc).q = (((b1.elem r).vc p vc).ageBy (b1.ftOf r) 0).q := by
    rw [modElem_elem]
    exact Elem.ageBy_ages.1 _
  rw [hlast, Vc.ageBy_hdrs]
  by_cases hx : (b.ftOf r / 16 + toOverdue (b.ftOf r) f.hdr) * 16 ≤ b.ftOf r
  · have hb1 : b1 = b := if_pos hx
    rw [hb1]
    exact ⟨rfl, Vc.ageBy_due hq (by omega)⟩
  · have hb1 : b1 = b.elapse ((b.tb (dieOf r)).fclkTo ((b.ftOf r / 16 + toOverdue (b.ftOf r) f.hdr) * 16)) := if_neg hx
    have hreach := Tb.elapse_fclkTo (x := (b.ftOf r / 16 + toOverdue (b.ftOf r) f.hdr) * 16) hk
    obtain he | ⟨he, -⟩ := elapse_elem (b := b) (e := r) (Tb.fclkTo_pos hk hfrac (Nat.lt_of_not_le hx)) hr
    · have hages := elemElapse_ages (b := b) (e := r) (el := b.elem r)
        (n := (b.tb (dieOf r)).fclkTo ((b.ftOf r / 16 + toOverdue (b.ftOf r) f.hdr) * 16))
      rw [← he, ← hb1] at hages
      obtain ⟨hvc, -⟩ := hages
      obtain ⟨g, hg, hovd⟩ := Vc.ageBy_due (u := _) hq (Nat.le_sub_of_add_le' (Nat.le_div_iff_mul_le (by decide) |>.2 hreach))
      refine ⟨?_, Vc.ageBy_ovd (f := g) ?_ hovd⟩
      · rw [Elem.vc, hvc, Vc.ageBy_hdrs]
        rfl
      · rw [Elem.vc, hvc]
        exact hg
    · rw [he] at hq
      cases hq

/-! ### STARVE (04 R129, R130) -/

/-- An event of an element counts there, and changes nothing else of it. -/
theorem Block.event_counts {b : Block} {kind : Nat} {pk : Option (BitVec 128)} {det : BitVec 32} :
    (b.elem r).Counts ((b.event r kind pk det).elem r) := by
  have hkind : (b.elem r).Counts ((b.bumpKind r kind).elem r) := by
    unfold bumpKind
    split
    · rw [bump, modElem_elem]
      exact Elem.bump_counts
    · exact .refl _
  exact hkind

/-- An event leaves the interrupts of starved packets that wait for the stewards. -/
theorem Block.event_starveInt {b : Block} {kind : Nat} {pk : Option (BitVec 128)} {det : BitVec 32} :
    (b.event r kind pk det).wsh.starveInt = b.wsh.starveInt := by
  have hkind : (b.bumpKind r kind).wsh = b.wsh := (show Within [.elems] b _ by simp) .wsh (by decide)
  unfold event send
  dsimp only [modWsh]
  rw [← hkind]
  split <;> rfl

theorem Block.starveAt_raises {b : Block} {o : Nat} (hq : ((b.elem r).vc p vc).q.head? = some f)
    (hstarved : ((b.elem r).vc p vc).starved = false) (hs : ((b.elem r).vc p vc).sent = 0) (ho : ((b.elem r).vc p vc).out = some o)
    (hwake : b.outWaking r o = false) (hlast : (b.elem r).lastStarve = none) :
    let b' := b.starveAt r p vc
    ((b'.elem r).vc p vc).starved = true ∧ Raised b b' r 0x08 0 ∧ b'.wsh.starveInt = b.wsh.starveInt ++ [(regionOf r, hSrc f.hdr)] ∧
      (b'.elem r).lastStarve = some b'.now := by
  intro b'
  have hb' : b' = b.starveAt r p vc := rfl
  clear_value b'
  unfold starveAt at hb'
  extract_lets v b1 v1 b2 limited at hb'
  rw [show v.q.head? = some f from hq, show v.out = some o from ho] at hb'
  dsimp -zeta only at hb'
  rw [if_neg (by simp [v, hstarved, hs, hwake])] at hb'
  extract_lets b3 b4 at hb'
  obtain ⟨-, -, hlast1⟩ := elapseTo_out (b := b) (e := r) (p := p) (t := b.now + (25600 - v.wait))
  obtain ⟨c, o', w, hcount⟩ := Elem.bump_counts (el := b1.elem r) (i := 41) (n := 1)
  have h2 : b2.elem r = ({ b1.elem r with ctr := c, ovf := o', wraps := w } : Elem).setVc p vc { v1 with starved := true } := by
    simp only [b2, bump, modElem_elem, hcount]
  have hlimited : limited = false := by
    simp only [limited, h2, Elem.setVc, b1, hlast1, hlast]
  rw [if_neg (by simp [hlimited])] at hb'
  obtain ⟨c4, o4, w4, h4⟩ := event_counts (b := b3) (r := r) (kind := 0x08) (pk := some f.hdr)
    (det := detP p vc o (hCls f.hdr) (hTier f.hdr) (min 65535 (v1.wait / 16)))
  have hwsh : b2.wsh = b.wsh := (show Within [.now, .elems, .gates, .tbs] b b2 by simp [b2, b1]) .wsh (by decide)
  have hraised := event_raised (b := b3) r 0x08 (some f.hdr) (detP p vc o (hCls f.hdr) (hTier f.hdr) (min 65535 (v1.wait / 16)))
  rw [hb']
  refine ⟨?_, ?_, ?_, ?_⟩
  · simp only [b4, modElem_elem, Elem.vc, h4]
    simp [b3, h2, Elem.setVc]
  · obtain ⟨m, hsrc, hkind, hsev, hm⟩ := hraised
    refine ⟨m, hsrc, hkind, hsev.trans (by simp [kindSev]), ?_⟩
    rw [show b3.wsh.die = b.wsh.die by simp [b3, modWsh, hwsh], show b3.wsh.late = b.wsh.late by simp [b3, modWsh, hwsh]] at hm
    exact hm
  · refine event_starveInt.trans ?_
    simp only [b3, modWsh, hwsh]
  · simp only [modElem_elem]
    rfl

/-! ### The output watchdog (04 R135) -/

theorem Block.elapseTo_escalates {b : Block} {t ty id : Nat} : (b.elapseTo t).escalates ty id = b.escalates ty id := by
  simp [escalates, planeInRepair, planeCarries, aboutToClose, ioStwLeft, stwUp, scFenced]

/-- A Containable fault is raised as such, or as Fatal where 11 R319 escalates it. -/
theorem Block.fault_raised_containable {b : Block} {src kind ty id : Nat} {pk ext : Option (BitVec 128)} {det : BitVec 32} {forced : Bool}
    (h : kindSev src kind = 2) : Raised b (b.fault src kind ty id pk det ext forced) src kind (if b.escalates ty id then 3 else 2) := by
  simpa [h] using fault_raised b src kind ty id pk det ext forced

theorem Block.watchdogBite_fences {b : Block} (hob : (b.elem r).obligated p = true) (hwake : b.outWaking r p = false)
    (hopen : b.elemFenced r = false) : Raised b (b.watchdogBite r p) r 0x07 (if b.escalates 6 (clusterOf r) then 3 else 2) ∧
      ((b.watchdogBite r p).scope 6 (clusterOf r)).stopped = true := by
  have hsev : kindSev r 0x07 = 2 := by simp [kindSev]
  unfold watchdogBite
  rw [if_neg (by simp [hob, hwake, hopen])]
  extract_lets b1 el by_
  refine ⟨?_, fault_stopped b1 r 0x07 6 (clusterOf r) _ _ none false (by decide) (by rw [hsev])⟩
  rw [← elapseTo_escalates]
  exact (fault_raised_containable (b := b1) hsev).of_wsh (by simp [b1]) rfl

end

theorem meshTimers : Claims.MeshTimers := by
  intro s r p vc pos f hr hp hvc
  refine ⟨fun hq ho hs href hk hfrac => ?_, fun hq hstarved hs ⟨o, ho, hwake⟩ hlast => ?_, fun hob hwake hopen => ?_⟩
  · have hp8 : p < 8 := by omega
    exact completes_of_on (by simp [Instr.WellFormed, isElem, hr, hp8, hvc])
      (show execOverdue r p vc pos s = s.on (.overdue r p vc pos) _ from rfl) (Block.setOverdue_sets hq ho href hk hfrac)
  · exact completes_of_on (by simp [Instr.WellFormed, hr, hp, hvc]) (show execStarve r p vc s = s.on (.starve r p vc) _ from rfl)
      (Block.starveAt_raises hq hstarved hs ho hwake hlast)
  · exact completes_of_on (by simp [Instr.WellFormed, hr, hp]) (show execOutputWatchdog r p s = s.on (.outputWatchdog r p) _ from rfl)
      (Block.watchdogBite_fences hob hwake hopen)

/-! ### The width of a link (13 R367) -/

section
variable {b : Block} {e p t now : Nat}

@[simp] theorem Out.setWidth_narrow {o : Out} {half : Bool} : (o.setWidth half now).narrow = half := by
  unfold setWidth
  split
  · next h => exact beq_iff_eq.1 h
  · rfl

@[simp] theorem Elem.setOut_out {el : Elem} {o : Out} : (el.setOut p o).out p = o := by simp [setOut, out]

/-- The end of a window: what it counted decides the width in profile 4, and the count starts anew. -/
theorem Block.widthWindow_width : (((b.widthWindow e p).elem e).out p).winFlits = 0 ∧ (((b.widthWindow e p).elem e).out p).narrow =
    (decide (b.immProfile = 4) && (if ((b.elem e).out p).narrow then decide (((b.elem e).out p).winFlits < 5120)
      else decide (((b.elem e).out p).winFlits < 3200))) := by
  unfold widthWindow
  extract_lets b1 o narrow
  obtain ⟨hn, hw, -⟩ := elapseTo_out (b := b) (e := e) (p := p) (t := b.lead.winFrom + (b.now - b.lead.winFrom + 12799) / 12800 * 12800)
  have hprofile : b1.immProfile = b.immProfile := by simp [b1, immProfile]
  have hnarrow : narrow = (decide (b.immProfile = 4) && (if ((b.elem e).out p).narrow then decide (((b.elem e).out p).winFlits < 5120)
      else decide (((b.elem e).out p).winFlits < 3200))) := by
    simp only [narrow, o, b1, hn, hw] at hprofile ⊢
    rw [hprofile]
    by_cases h : b.immProfile = 4 <;> simp [h]
  rw [modElem_elem, Elem.setOut_out]
  exact ⟨rfl, Out.setWidth_narrow.trans hnarrow⟩

/-- A direction widens for a head that has waited since FCLK `t`. -/
def Block.widenAt (b : Block) (e p t : Nat) : Block :=
  (b.elapseTo (t + 64)).modElem e (fun el => el.setOut p ((el.out p).setWidth false (b.elapseTo (t + 64)).now))

theorem Block.widenAt_narrow : (((b.widenAt e p t).elem e).out p).narrow = false := by simp [widenAt]

/-- A head that waits in an input VC for a narrow direction widens it. -/
theorem Block.widen_of_waiting {kv : Nat × Vc} (hnarrow : ((b.elem e).out p).narrow = true) (hkv : kv ∈ (b.elem e).ins)
    (hout : kv.2.out = some p) (hsent : kv.2.sent = 0) (hq : kv.2.q ≠ []) : ∃ t, b.widen e p = b.widenAt e p t := by
  unfold widen
  extract_lets el waits most from_
  have hwaits : waits.isEmpty = false := by
    rw [List.isEmpty_eq_false_iff_exists_mem]
    exact ⟨kv, List.mem_filter.2 ⟨hkv, by simp [hout, hsent, hq]⟩⟩
  have hfrom : from_ = some (b.now - most) := by simp only [from_, hwaits, Bool.false_eq_true, if_false]
  rw [hfrom]
  dsimp only
  rw [if_neg (by simp [el, hnarrow])]
  exact ⟨_, rfl⟩

/-- A head that waits in an endpoint, none waiting in an input VC, widens the narrow direction. -/
theorem Block.widen_of_headFrom (hnarrow : ((b.elem e).out p).narrow = true) (hins : (b.elem e).ins = []) (hhead : (b.elem e).headFrom = some t) :
    b.widen e p = b.widenAt e p t := by
  simp [widen, widenAt, hnarrow, hins, hhead]

end

theorem linkWidth : Claims.LinkWidth := by
  intro s e p he hp hpeer
  have hwf : (decide (isRouter e || isEndpoint e) && decide (p < 7) && (peer e p).isSome) = true := by simp [he, hp, hpeer]
  refine ⟨?_, fun hnarrow ⟨kv, hkv, hout, hsent, hq⟩ => ?_, fun t hnarrow hins hhead => ?_⟩
  · exact completes_of_on (by simpa [Instr.WellFormed] using hwf)
      (show execLinkWidthWindow e p s = s.on (.linkWidthWindow e p) _ from rfl) Block.widthWindow_width
  · refine completes_of_on (by simpa [Instr.WellFormed] using hwf) (show execLinkWidenOnWait e p s = s.on (.linkWidenOnWait e p) _ from rfl) ?_
    obtain ⟨t, ht⟩ := Block.widen_of_waiting hnarrow hkv hout hsent hq
    rw [ht]
    exact Block.widenAt_narrow
  · refine completes_of_on (by simpa [Instr.WellFormed] using hwf) (show execLinkWidenOnWait e p s = s.on (.linkWidenOnWait e p) _ from rfl) ?_
    rw [Block.widen_of_headFrom hnarrow hins hhead]
    exact ⟨Block.widenAt_narrow, fun href => Block.elapseTo_now _ _ href⟩

/-- Settles O22: the three timers of the mesh, then the two commands of the link width. -/
theorem meshTimersAndLinkWidth : Obligations.MeshTimersAndLinkWidth := ⟨meshTimers, linkWidth⟩

end Sys2Proof.Machine
end

section
/-! PROOFS. The frame of the commands of the mesh and of the network interfaces (spec/04 R112; 06 R170). -/

namespace Sys2Proof.Machine

section
open Block (Within)
variable {ps : List Part} {b0 b b' : Block}

/-! ### The wires of the mesh (04) -/

@[simp] theorem Block.touchPort_within {e p} (hs : [.doms] ⊆ ps) : Within ps b0 (b.touchPort e p) ↔ Within ps b0 b := by
  simp at hs
  unfold touchPort; dsimp only
  split
  · split <;> simp [hs]
  · simp [hs]

@[simp] theorem Block.telCount_within {e i n} (hs : [.elems] ⊆ ps) : Within ps b0 (b.telCount e i n) ↔ Within ps b0 b := by
  simp at hs; simp [telCount, hs]

@[simp] theorem Block.corrected_within {e p vc h} (hs : [.elems, .wsh] ⊆ ps) : Within ps b0 (b.corrected e p vc h) ↔ Within ps b0 b := by
  simp at hs
  unfold corrected; split <;> simp [hs]

@[simp] theorem Block.store_within {e p vc f} (hs : [.elems, .doms] ⊆ ps) : Within ps b0 (b.store e p vc f) ↔ Within ps b0 b := by
  simp at hs; simp [store, hs]

@[simp] theorem Block.arrive_within {e p err par} (hs : [.elems, .wires, .crWires, .nis, .gates, .links, .doms, .scopes, .wsh, .aborts] ⊆ ps) :
    Within ps b0 (b.arrive e p err par) ↔ Within ps b0 b := by
  simp at hs
  unfold arrive
  split
  · rfl
  split
  · split <;> simp [hs]
  next vc f rest _ =>
  extract_lets b₁ v known head dec hdr side b₂ b₃
  clear_value hdr side
  have h₂ : Within ps b0 b₂ ↔ Within ps b0 b := by
    dsimp only [b₂]; split <;> simp [b₁, hs]
  rw [← h₂]
  have h₃ : Within ps b0 b₃ ↔ Within ps b0 b₂ := by simp [b₃, hs]
  clear_value b₃ b₂ dec
  split
  · simp [h₃, hs]
  · extract_lets f' b₄
    have h₄ : Within ps b0 b₄ ↔ Within ps b0 b₂ := by simp [b₄, hs]
    rw [← h₄]
    cases side <;> simp [hs]

@[simp] theorem Block.sendFlit_within {e p vc inPort inVc prog f} (hs : [.elems, .wires] ⊆ ps) :
    Within ps b0 (b.sendFlit e p vc inPort inVc prog f) ↔ Within ps b0 b := by
  simp at hs
  unfold sendFlit; split <;> simp [hs]

@[simp] theorem Block.backParity_within {e p par} (hs : [.elems, .scopes, .wsh] ⊆ ps) :
    Within ps b0 (b.backParity e p par) ↔ Within ps b0 b := by
  simp at hs; simp [backParity, hs]

@[simp] theorem Block.creditBack_within {e p par} (hs : [.elems, .crWires, .doms, .scopes, .wsh] ⊆ ps) :
    Within ps b0 (b.creditBack e p par) ↔ Within ps b0 b := by
  simp at hs
  unfold creditBack; split <;> simp [hs]

@[simp] theorem Block.forecastIn_within {e p par} (hs : [.elems, .fcWires, .scopes, .wsh] ⊆ ps) :
    Within ps b0 (b.forecastIn e p par) ↔ Within ps b0 b := by
  simp at hs
  unfold forecastIn; split <;> simp [hs]

@[simp] theorem Block.forecastsOut_within {e vals} (hs : [.elems, .fcWires] ⊆ ps) :
    Within ps b0 (b.forecastsOut e vals) ↔ Within ps b0 b := by
  simp at hs
  unfold forecastsOut; dsimp only
  refine (within_foldl fun b k => ?_).trans (by simp [hs])
  split <;> simp [hs]

/-! ### The router family (04) -/

@[simp] theorem Block.decideAll_within {r} (hs : [.elems, .wires, .crWires, .nis, .gates, .links, .aborts] ⊆ ps) :
    Within ps b0 (b.decideAll r) ↔ Within ps b0 b := by
  simp at hs
  refine within_foldl fun b kv => ?_
  extract_lets p vc v
  split
  · exact .refl b
  split
  · split <;> simp [hs]
  extract_lets idx row dr
  have hdrop : ∀ kind, Within ps b (dr kind) := fun kind => by simp [dr, hs]
  split
  · exact hdrop 0
  split
  · exact hdrop _
  · simp [hs]
  · simp [hs]

@[simp] theorem Block.grantOne_within {r reqs g} (hs : [.elems, .wires, .crWires, .links, .doms] ⊆ ps) :
    Within ps b0 (b.grantOne r reqs g) ↔ Within ps b0 b := by
  simp at hs
  unfold grantOne; split <;> simp [hs]

@[simp] theorem Block.arbitrate_within {r} (hs : [.elems, .wires, .crWires, .fcWires, .nis, .gates, .links, .doms, .aborts] ⊆ ps) :
    Within ps b0 (b.arbitrate r) ↔ Within ps b0 b := by
  simp at hs; simp [arbitrate, hs]

@[simp] theorem Block.setOverdue_within {e p vc pos} (hs : [.now, .elems, .gates, .tbs] ⊆ ps) :
    Within ps b0 (b.setOverdue e p vc pos) ↔ Within ps b0 b := by
  simp at hs
  unfold setOverdue; split <;> simp [hs]

@[simp] theorem Block.starveAt_within {r p vc} (hs : [.now, .elems, .gates, .tbs, .wsh] ⊆ ps) :
    Within ps b0 (b.starveAt r p vc) ↔ Within ps b0 b := by
  simp at hs
  unfold starveAt; dsimp only; split <;> simp [hs]

@[simp] theorem Block.watchdogBite_within {r p} (hs : [.now, .elems, .gates, .tbs, .scopes, .wsh] ⊆ ps) :
    Within ps b0 (b.watchdogBite r p) ↔ Within ps b0 b := by
  simp at hs; simp [watchdogBite, hs]

@[simp] theorem Block.widthWindow_within {e p} (hs : [.now, .elems, .gates, .tbs] ⊆ ps) :
    Within ps b0 (b.widthWindow e p) ↔ Within ps b0 b := by
  simp at hs; simp [widthWindow, hs]

@[simp] theorem Block.widen_within {e p} (hs : [.now, .elems, .gates, .tbs] ⊆ ps) :
    Within ps b0 (b.widen e p) ↔ Within ps b0 b := by
  simp at hs
  unfold widen; dsimp only; split <;> simp [hs]

/-! ### Answers, lookups and the lock keeper (06) -/

@[simp] theorem Block.reply_within {n h opc pay} (hs : [.gates, .aborts] ⊆ ps) :
    Within ps b0 (b.reply n h opc pay) ↔ Within ps b0 b := by
  simp at hs; simp [reply, hs]

@[simp] theorem Block.lookupFailed_within {n t} (hs : [.freeCtr, .elems, .nis, .gates, .doms, .wsh, .aborts] ⊆ ps) :
    Within ps b0 (b.lookupFailed n t) ↔ Within ps b0 b := by
  simp at hs
  unfold lookupFailed; split <;> simp [hs]

@[simp] theorem Block.lockOp_within {n h pay arr} (hs : [.nis, .gates, .aborts] ⊆ ps) :
    Within ps b0 (b.lockOp n h pay arr) ↔ Within ps b0 b := by
  simp at hs
  unfold lockOp
  extract_lets x inc owner expiry opc set held grant stale
  have hset : ∀ i l, Within ps b0 (set i l b) ↔ Within ps b0 b := by simp [set, hs]
  have hstale : Within ps b0 stale ↔ Within ps b0 b := by simp [stale, hs]
  clear_value stale
  split
  · split
    · split <;> simp [hset, hs]
    · exact hstale
  · extract_lets me
    repeat' split
    all_goals simp [hset, hstale, hs]

@[simp] theorem Block.markDup_within {h} (hs : [.nis] ⊆ ps) : Within ps b0 (b.markDup h) ↔ Within ps b0 b := by
  simp at hs; simp [markDup, hs]

/-! ### What arrives at a network interface (06; 02 R65 to R71) -/

@[simp] theorem Block.stray_within {n h pay k} (hs : [.freeCtr, .elems, .nis, .gates, .wsh, .aborts] ⊆ ps) :
    Within ps b0 (b.stray n h pay k) ↔ Within ps b0 b := by
  simp at hs; simp [stray, hs]

@[simp] theorem Block.toRx_within {n e uid} (hs : [.nis] ⊆ ps) : Within ps b0 (b.toRx n e uid) ↔ Within ps b0 b := by
  simp at hs; simp [toRx, hs]

@[simp] theorem Block.answerArrive_within {n e} (hs : [.freeCtr, .elems, .nis, .gates, .doms, .wsh, .aborts] ⊆ ps) :
    Within ps b0 (b.answerArrive n e) ↔ Within ps b0 b := by
  simp at hs
  unfold answerArrive
  extract_lets h pay t x ab forSettle b₁ b₂
  have h₁ : Within ps b0 b₁ ↔ Within ps b0 b := by simp [b₁, hs]
  have h₂ : Within ps b0 b₂ ↔ Within ps b0 b := by simp [b₂, hs]
  split
  · split <;> simp [h₁, hs]
  split
  · simp [hs]
  split
  · simp [hs]
  split
  · simp [hs]
  next g _ =>
  split
  · simp [hs]
  split
  · simp [h₂, hs]
  split
  · split <;> simp [hs]
  · simp [hs]

@[simp] theorem Block.fill_within {n t pay} (hs : [.freeCtr, .elems, .nis, .gates, .doms, .wsh, .aborts] ⊆ ps) :
    Within ps b0 (b.fill n t pay) ↔ Within ps b0 b := by
  simp at hs
  unfold fill; split <;> simp [hs]

@[simp] theorem Block.mgtAnswer_within {n h pay} (hs : [.freeCtr, .elems, .nis, .gates, .doms, .wsh, .aborts] ⊆ ps) :
    Within ps b0 (b.mgtAnswer n h pay) ↔ Within ps b0 b := by
  simp at hs; simp [mgtAnswer, hs]

@[simp] theorem Block.mgtArrive_within {n e} (hs : [.freeCtr, .elems, .nis, .gates, .fords, .doms, .regions, .wsh, .lead, .members,
    .aborts] ⊆ ps) :
    Within ps b0 (b.mgtArrive n e) ↔ Within ps b0 b := by
  simp at hs; simp [mgtArrive, hs]

@[simp] theorem Block.dropRest_within {n k h} (hs : [.nis] ⊆ ps) : Within ps b0 (b.dropRest n k h) ↔ Within ps b0 b := by
  simp at hs; simp [dropRest, hs]

@[simp] theorem Block.rxHead_within {n k f} (hs : [.nis] ⊆ ps) : Within ps b0 (b.rxHead n k f) ↔ Within ps b0 b := by
  simp at hs; simp [rxHead, hs]

@[simp] theorem Block.rxBody_within {n k f} (hs : [.nis] ⊆ ps) : Within ps b0 (b.rxBody n k f) ↔ Within ps b0 b := by
  simp at hs; simp [rxBody, hs]

@[simp] theorem Block.rxTail_within {n k} (hs : [.freeCtr, .elems, .nis, .gates, .fords, .doms, .regions, .wsh, .lead, .members,
    .aborts] ⊆ ps) :
    Within ps b0 (b.rxTail n k) ↔ Within ps b0 b := by
  simp at hs
  unfold rxTail; dsimp only
  split
  · simp [hs]
  · split <;> simp [hs]

theorem Block.filterDup_within {n f} (hs : [.elems, .nis] ⊆ ps) (h : b.filterDup n f = some b') : Within ps b0 b' ↔ Within ps b0 b := by
  simp at hs
  unfold filterDup at h
  extract_lets hd dup l early b₁ at h
  have h₁ : Within ps b0 b₁ ↔ Within ps b0 b := by simp [b₁, hs]
  split at h
  · rw [← Option.some.inj h]
  split at h
  · cases h
  · rw [← h₁, ← Option.some.inj h]; simp [hs]

@[simp] theorem Block.headArrive_within {n k f} (hs : [.freeCtr, .elems, .nis, .gates, .fords, .doms, .regions, .wsh, .lead, .members,
    .aborts] ⊆ ps) :
    Within ps b0 (b.headArrive n k f) ↔ Within ps b0 b := by
  simp at hs
  unfold headArrive
  extract_lets h cls guarded
  split
  · simp [hs]
  split
  · simp [hs]
  next b₁ hb₁ =>
  rw [← filterDup_within (by simp [hs]) hb₁]
  repeat' split
  all_goals simp [hs]

theorem Block.takeFlit_within {n k} (hs : [.freeCtr, .elems, .crWires, .nis, .gates, .fords, .links, .doms, .regions, .wsh, .lead,
    .members, .aborts] ⊆ ps) (h : b.takeFlit n k = some b') :
    Within ps b0 b' ↔ Within ps b0 b := by
  simp at hs
  unfold takeFlit at h
  extract_lets e v at h
  split at h
  · cases h
  split at h
  · cases h
  extract_lets tail b₁ b₂ b₃ at h
  have h₂ : Within ps b0 b₂ ↔ Within ps b0 b := by simp [b₂, b₁, hs]
  have h₃ : Within ps b0 b₃ ↔ Within ps b0 b₂ := by simp [b₃, hs]
  rw [← h₂]
  split at h
  · rw [← Option.some.inj h]; simp [hs]
  split at h
  · rw [← Option.some.inj h]; simp [hs]
  · rw [← h₃, ← Option.some.inj h]; simp [hs]

@[simp] theorem Block.pumpVc_within {n k fuel} (hs : [.freeCtr, .elems, .crWires, .nis, .gates, .fords, .links, .doms, .regions, .wsh,
    .lead, .members, .aborts] ⊆ ps) :
    Within ps b0 (b.pumpVc n k fuel) ↔ Within ps b0 b := by
  induction fuel generalizing b with
  | zero => rfl
  | succ fuel ih =>
    unfold pumpVc; split
    next b' hb' => rw [ih, takeFlit_within hs hb']
    · rfl

@[simp] theorem Block.pump_within {n} (hs : [.freeCtr, .elems, .crWires, .nis, .gates, .fords, .links, .doms, .regions, .wsh, .lead,
    .members, .aborts] ⊆ ps) :
    Within ps b0 (b.pump n) ↔ Within ps b0 b := by
  simp at hs; simp [pump, hs]

@[simp] theorem Block.niArrival_within {n p kind err} (hs : [.freeCtr, .elems, .wires, .crWires, .nis, .gates, .fords, .links, .doms,
    .regions, .scopes, .wsh, .lead, .members, .aborts] ⊆ ps) :
    Within ps b0 (b.niArrival n p kind err) ↔ Within ps b0 b := by
  simp at hs
  unfold niArrival; split <;> simp [hs]

theorem Block.abortArrive_within {n} (hs : [.freeCtr, .elems, .nis, .gates, .doms, .wsh, .aborts] ⊆ ps)
    (h : b.abortArrive n = some b') : Within ps b0 b' ↔ Within ps b0 b := by
  simp at hs
  unfold abortArrive at h
  split at h
  · cases h
  · rw [← Option.some.inj h]; simp [hs]

@[simp] theorem Block.abortArrive_getD_within {n} (hs : [.freeCtr, .elems, .nis, .gates, .doms, .wsh, .aborts] ⊆ ps) :
    Within ps b0 ((b.abortArrive n).getD b) ↔ Within ps b0 b := by
  cases h : b.abortArrive n with
  | none => rfl
  | some b' => exact abortArrive_within hs h

@[simp] theorem Block.answerIn_within {n p err} (hs : [.freeCtr, .elems, .wires, .crWires, .nis, .gates, .fords, .links, .doms, .regions,
    .scopes, .wsh, .lead, .members, .aborts] ⊆ ps) :
    Within ps b0 (b.answerIn n p err) ↔ Within ps b0 b := by
  simp at hs
  unfold answerIn; split <;> simp [hs]

@[simp] theorem Block.noticeAck_within {pkg} (hs : [.elems, .gates, .regions, .stws, .scopes, .gold, .lead] ⊆ ps) :
    Within ps b0 (b.noticeAck pkg) ↔ Within ps b0 b := by
  simp at hs
  unfold noticeAck; split <;> simp [hs]

@[simp] theorem Block.mgtRequest_within {dest srcN opc tag addr room} (hs : [.freeCtr, .elems, .gates, .fords, .regions, .wsh, .lead,
    .members, .aborts] ⊆ ps) :
    Within ps b0 (b.mgtRequest dest srcN opc tag addr room) ↔ Within ps b0 b := by
  simp at hs; simp [mgtRequest, hs]

/-! ### The timers of a network interface (02 R68; 06 R189, R201) -/

@[simp] theorem Block.tagOrphan_within {n t} (hs : [.now, .freeCtr, .elems, .nis, .gates, .tbs, .doms, .wsh, .aborts] ⊆ ps) :
    Within ps b0 (b.tagOrphan n t) ↔ Within ps b0 b := by
  simp at hs
  unfold tagOrphan
  split
  · split
    · split
      · rfl
      · dsimp only; split <;> simp [hs]
    · rfl
  · rfl

@[simp] theorem Block.quarantineEnd_within {n t} (hs : [.now, .freeCtr, .elems, .nis, .gates, .tbs, .doms, .wsh, .aborts] ⊆ ps) :
    Within ps b0 (b.quarantineEnd n t) ↔ Within ps b0 b := by
  simp at hs
  unfold quarantineEnd; split <;> simp [hs]

@[simp] theorem Block.lockSweep_within {n} (hs : [.now, .elems, .nis, .gates, .tbs, .wsh] ⊆ ps) :
    Within ps b0 (b.lockSweep n) ↔ Within ps b0 b := by
  simp at hs; simp [lockSweep, hs]

@[simp] theorem Block.mapServe_within {g} (hs : [.now, .elems, .wires, .gates, .tbs, .regions, .aborts] ⊆ ps) :
    Within ps b0 (b.mapServe g) ↔ Within ps b0 b := by
  simp at hs
  unfold mapServe; dsimp only; split
  · rfl
  · simp [hs]

/-! ### The unit port and the Tollgate (05; 06) -/

@[simp] theorem Block.unitPacket_within {n p} (hs : [.freeCtr, .elems, .nis, .gates, .fords, .doms, .scopes, .wsh, .aborts] ⊆ ps) :
    Within ps b0 (b.unitPacket n p) ↔ Within ps b0 b := by
  simp at hs; simp [unitPacket, hs]

@[simp] theorem Block.handOver_within {n o} (hs : [.nis, .fords] ⊆ ps) : Within ps b0 (b.handOver n o) ↔ Within ps b0 b := by
  simp at hs; simp [handOver, hs]

@[simp] theorem Block.deliver_within {n} (hs : [.freeCtr, .elems, .crWires, .nis, .gates, .fords, .links, .doms, .regions, .wsh, .lead,
    .members, .aborts] ⊆ ps) :
    Within ps b0 (b.deliver n) ↔ Within ps b0 b := by
  simp at hs
  unfold deliver; dsimp only; split
  · rfl
  · split <;> simp [hs]

@[simp] theorem Block.cairnTurn_within {n h} (hs : [.elems, .nis, .regions] ⊆ ps) :
    Within ps b0 (b.cairnTurn n h).2 ↔ Within ps b0 b := by
  simp at hs
  unfold cairnTurn; dsimp only
  split
  · rfl
  split
  · simp [hs]
  · split <;> simp [hs]

@[simp] theorem Block.injFlit_within {n p} (hs : [.elems, .wires, .nis, .gates] ⊆ ps) :
    Within ps b0 (b.injFlit n p) ↔ Within ps b0 b := by
  simp at hs
  unfold injFlit
  extract_lets f b₁ ctr b₂ b₃ tail
  have h₂ : Within ps b0 b₂ ↔ Within ps b0 b := by simp [b₂, b₁, hs]
  have h₃ : Within ps b0 b₃ ↔ Within ps b0 b₂ := by dsimp only [b₃]; split <;> simp [hs]
  rw [← h₂, ← h₃]
  simp [hs]

theorem Block.startPkt_within {n q tier} (hs : [.elems, .wires, .nis, .gates, .doms, .regions] ⊆ ps)
    (h : b.startPkt n q tier = some b') : Within ps b0 b' ↔ Within ps b0 b := by
  simp at hs
  unfold startPkt at h
  extract_lets hd crc pays hd' at h
  split at h
  · cases h
  split at h
  · cases h
  next ports vc _ _ =>
  have hc : Within ps b0 (if tier.isSome = true then b.cairnTurn n hd' else (hd', b)).2 ↔ Within ps b0 b := by split <;> simp [hs]
  generalize (if tier.isSome = true then b.cairnTurn n hd' else (hd', b)) = turn at h hc
  obtain ⟨hd'', b₁⟩ := turn
  rw [← hc, ← Option.some.inj h]
  simp [hs]

theorem Block.startTier_within {n t} (hs : [.elems, .wires, .nis, .gates, .doms, .regions] ⊆ ps)
    (h : b.startTier n t = some b') : Within ps b0 b' ↔ Within ps b0 b := by
  simp at hs
  unfold startTier at h
  split at h
  · cases h
  split at h
  · rw [← Option.some.inj h]; simp [hs]
  split at h
  · cases h
  · obtain ⟨b₁, hb₁, rfl⟩ := Option.map_eq_some_iff.1 h
    rw [← startPkt_within (by simp [hs]) hb₁]
    simp [hs]

@[simp] theorem Block.pickMgt_within {n} (hs : [.elems, .wires, .nis, .gates, .doms, .regions] ⊆ ps) :
    Within ps b0 (b.pickMgt n) ↔ Within ps b0 b := by
  simp at hs
  unfold pickMgt; split
  · split
    next b₁ hb₁ => rw [← startPkt_within (b' := b₁) (by simp [hs]) hb₁]; simp [hs]
    · rfl
  · rfl

@[simp] theorem Block.pickTier_within {n} (hs : [.elems, .wires, .nis, .gates, .doms, .regions] ⊆ ps) :
    Within ps b0 (b.pickTier n) ↔ Within ps b0 b := by
  unfold pickTier
  cases h : (((b.startTier n 3).or (b.startTier n 2)).or (b.startTier n 1)).or (b.startTier n 0) with
  | none => rfl
  | some b' =>
    simp only [Option.or_eq_some_iff] at h
    obtain ((h | ⟨-, h⟩) | ⟨-, h⟩) | ⟨-, h⟩ := h <;> exact startTier_within hs h

@[simp] theorem Block.pick_within {n} (hs : [.elems, .wires, .nis, .gates, .doms, .regions] ⊆ ps) :
    Within ps b0 (b.pick n) ↔ Within ps b0 b := by
  simp at hs
  unfold pick; dsimp only
  split
  · simp [hs]
  split
  · split
    next b₁ hb₁ => rw [← startPkt_within (b' := b₁) (by simp [hs]) hb₁]; simp [hs]
    · simp [hs]
  · simp [hs]

@[simp] theorem Block.cutFenced_within {n} (hs : [.elems, .wires, .crWires, .nis, .gates, .links, .aborts] ⊆ ps) :
    Within ps b0 (b.cutFenced n) ↔ Within ps b0 b := by
  simp at hs
  refine within_foldl fun b p => ?_
  dsimp only
  split
  · exact .refl b
  split
  · simp [hs]
  · split <;> simp [hs]

@[simp] theorem Block.shedHead_within {n t} (hs : [.nis, .gates, .doms] ⊆ ps) : Within ps b0 (b.shedHead n t) ↔ Within ps b0 b := by
  simp at hs
  unfold shedHead; split <;> simp [hs]

@[simp] theorem Block.noteHead_within {n} (hs : [.elems] ⊆ ps) : Within ps b0 (b.noteHead n) ↔ Within ps b0 b := by
  simp at hs; simp [noteHead, hs]

@[simp] theorem Block.tollgate_within {n} (hs : [.elems, .wires, .crWires, .nis, .gates, .links, .doms, .regions, .aborts] ⊆ ps) :
    Within ps b0 (b.tollgate n) ↔ Within ps b0 b := by
  simp at hs
  unfold tollgate
  extract_lets b₁ g wait busy b₂
  have h₁ : Within ps b0 b₁ ↔ Within ps b0 b := by simp [b₁, hs]
  have h₂ : Within ps b0 b₂ ↔ Within ps b0 b₁ := by simp [b₂, hs]
  rw [← h₁]
  clear_value b₂ b₁
  split
  · rfl
  split
  · extract_lets pre
    have hpre : ∀ b', pre = some b' → (Within ps b0 b' ↔ Within ps b0 b₂) := by
      intro b' hb'
      dsimp only [pre] at hb'
      split at hb'
      · split at hb'
        · split at hb'
          · obtain ⟨b₃, hb₃, rfl⟩ := Option.map_eq_some_iff.1 hb'
            rw [← startTier_within (by simp [hs]) hb₃]
            simp [hs]
          · cases hb'
        · cases hb'
      · cases hb'
    rw [← h₂]
    clear_value pre
    split
    · exact hpre _ rfl
    · simp [hs]
  · split <;> simp [hs]

/-! ### The adapters and their turns (03; 08; 09) -/

@[simp] theorem Block.adpSend_within {a vc used} (hs : [.elems, .wires, .crWires, .nis, .gates, .links, .doms, .aborts] ⊆ ps) :
    Within ps b0 (b.adpSend a vc used).1 ↔ Within ps b0 b := by
  simp at hs
  unfold adpSend
  extract_lets v held fenced
  split
  · rfl
  next f _ =>
  extract_lets tail send
  have hsend : ∀ outs d, Within ps b0 (send outs d).1 ↔ Within ps b0 b := fun outs d => by
    dsimp only [send]
    split
    · simp [hs]
    split
    · refine within_foldl fun b p => ?_
      split <;> simp [hs]
    · simp [hs]
  split
  · split
    · simp [hs]
    split
    · simp [hs]
    · exact hsend _ _
  split
  · dsimp only
    split <;> simp [hsend, hs]
  · rfl
  · simp [hs]

@[simp] theorem Block.adpIngress_within {a} (hs : [.elems, .wires, .crWires, .nis, .gates, .links, .doms, .aborts] ⊆ ps) :
    Within ps b0 (b.adpIngress a) ↔ Within ps b0 b := by
  simp at hs
  exact within_foldl_pair fun x k => by simp [hs]

theorem Block.exitFilter_within {k h} (hs : [.elems, .ports] ⊆ ps) (he : b.exitFilter k h = some b') : Within ps b0 b' ↔ Within ps b0 b := by
  simp at hs
  unfold exitFilter at he
  split at he
  · rw [← Option.some.inj he]
  extract_lets l early b₁ at he
  have h₁ : Within ps b0 b₁ ↔ Within ps b0 b := by simp [b₁, hs]
  split at he
  · cases he
  · rw [← h₁, ← Option.some.inj he]; simp [hs]

theorem Block.takeForLink_within {a p vc i} {x : Block × List (Nat × Nat × Flit)}
    (hs : [.elems, .wires, .crWires, .nis, .gates, .links, .ports] ⊆ ps) (hx : b.takeForLink a p vc i = some x) :
    Within ps b0 x.1 ↔ Within ps b0 b := by
  simp at hs
  unfold takeForLink at hx
  extract_lets v l holder mine ded pool k at hx
  split at hx
  · cases hx
  next f _ =>
  extract_lets filt tail at hx
  have hfilt : ∀ b', filt = some b' → (Within ps b0 b' ↔ Within ps b0 b) := fun b' hb' => by
    dsimp only [filt] at hb'
    split at hb'
    · exact exitFilter_within (by simp [hs]) hb'
    · rw [← Option.some.inj hb']
  clear_value filt
  split at hx
  · rw [← Option.some.inj hx]; simp [hs]
  next b₁ =>
  split at hx
  · cases hx
  · rw [← hfilt b₁ rfl, ← Option.some.inj hx]; simp [hs]

@[simp] theorem Block.fillSlots_within {a fuel acc} (hs : [.elems, .wires, .crWires, .nis, .gates, .links, .ports] ⊆ ps) :
    Within ps b0 (b.fillSlots a fuel acc).1 ↔ Within ps b0 b := by
  induction fuel generalizing b acc with
  | zero => rfl
  | succ fuel ih =>
    unfold fillSlots; dsimp only
    split
    · rfl
    split
    next b₁ slots hx =>
      -- whatever input gave the flit, the block is as that input leaves it
      refine ih.trans (List.foldlRecOn (motive := fun m => ∀ x, m = some x → (Within ps b0 x.1 ↔ Within ps b0 b)) _ _ ?_ ?_ _ hx)
      · exact fun x hx => by cases hx
      · intro m hm k _ x hx
        cases m with
        | some y => exact hm x hx
        | none => exact takeForLink_within hs hx
    · rfl

@[simp] theorem Block.abortSlot_within {a acc} (hs : [.links, .aborts] ⊆ ps) :
    Within ps b0 (b.abortSlot a acc).1 ↔ Within ps b0 b := by
  simp at hs
  unfold abortSlot; dsimp only
  split
  · rfl
  split
  · rfl
  split <;> simp [hs]

@[simp] theorem Block.linkRest_within {a} (hs : [.links, .doms] ⊆ ps) : Within ps b0 (b.linkRest a) ↔ Within ps b0 b := by
  simp at hs
  unfold linkRest; dsimp only; split
  · rfl
  · split <;> simp [hs]

@[simp] theorem Block.passNiServe_within {a} (hs : [.freeCtr, .elems, .crWires, .nis, .gates, .fords, .links, .doms, .regions, .wsh, .lead,
    .members, .aborts] ⊆ ps) :
    Within ps b0 (b.passNiServe a) ↔ Within ps b0 b := by
  simp at hs; simp [passNiServe, hs]

@[simp] theorem Block.adpEgress_within {a} (hs : [.elems, .wires, .crWires, .nis, .gates, .links, .ports, .doms, .aborts, .farOut] ⊆ ps) :
    Within ps b0 (b.adpEgress a) ↔ Within ps b0 b := by
  simp at hs
  unfold adpEgress
  split
  · rfl
  extract_lets l base quiet room
  split
  · rfl
  split
  · simp [hs]
  split
  · split <;> simp [hs]
  have hfill : Within ps b0 (if quiet || !room then (b, []) else b.fillSlots a 16 []).1 ↔ Within ps b0 b := by split <;> simp [hs]
  generalize (if quiet || !room then (b, []) else b.fillSlots a 16 []) = filled at hfill ⊢
  obtain ⟨b₁, slots⟩ := filled
  rw [← hfill]
  dsimp -zeta only
  have habort : Within ps b0 (if quiet || !room then (b₁, slots) else b₁.abortSlot a slots).1 ↔ Within ps b0 b₁ := by split <;> simp [hs]
  generalize (if quiet || !room then (b₁, slots) else b₁.abortSlot a slots) = filled at habort ⊢
  obtain ⟨b₂, slots⟩ := filled
  rw [← habort]
  simp [hs]

@[simp] theorem Block.adpTurn_within {a} (hs : [.freeCtr, .elems, .wires, .crWires, .nis, .gates, .fords, .links, .ports, .doms, .regions,
    .wsh, .lead, .members, .aborts, .farOut] ⊆ ps) :
    Within ps b0 (b.adpTurn a) ↔ Within ps b0 b := by
  simp at hs; simp [adpTurn, hs]

@[simp] theorem Block.linkTurn_within {a} (hs : [.freeCtr, .elems, .wires, .crWires, .nis, .gates, .fords, .links, .ports, .doms, .regions,
    .wsh, .rings, .vecs, .lead, .members, .aborts, .hostOut, .farOut] ⊆ ps) :
    Within ps b0 (b.linkTurn a) ↔ Within ps b0 b := by
  simp at hs
  unfold linkTurn
  split
  · rfl
  split
  · simp [hs]
  · split <;> simp [hs]

/-! ### The Fords (07) -/

@[simp] theorem Block.fordRouse_within {side} (hs : [.now, .elems, .gates, .links, .tbs, .doms, .farOut] ⊆ ps) :
    Within ps b0 (b.fordRouse side) ↔ Within ps b0 b := by
  simp at hs
  unfold fordRouse; split <;> simp [hs]

@[simp] theorem Block.within_agents {x} (hs : .agents ∈ ps) : Within ps b0 { b with agents := x } ↔ Within ps b0 b :=
  Within.iff (qs := [.agents]) (fun p hp => by cases p <;> trivial) (by simp [hs])

@[simp] theorem Block.agentTake_within {d x} (hs : [.rings, .agents] ⊆ ps) : Within ps b0 (b.agentTake d x) ↔ Within ps b0 b := by
  simp at hs
  unfold agentTake; dsimp only; split <;> simp [hs]

@[simp] theorem Block.fordResume_within {f} (hs : [.freeCtr, .elems, .nis, .gates, .fords, .doms, .regions, .wsh, .rings, .lead, .members,
    .agents, .aborts] ⊆ ps) :
    Within ps b0 (b.fordResume f) ↔ Within ps b0 b := by
  simp at hs
  unfold fordResume; dsimp only; split <;> simp [hs]

/-! ### The commands of the two families -/

/-- The frame of the commands of the mesh (04 R112). -/
theorem mesh_within {i : Instr} {s t : State} (hf : family i = .mesh) (hx : exec i s = .next t) : Within (touches i) s.blk t.blk := by
  cases i <;> cases hf <;> dsimp only [exec] at hx
  all_goals exact within_of_on hx fun b => by simp [touches]

/-- The frame of the commands of the network interfaces (06 R170). -/
theorem ni_within {i : Instr} {s t : State} (hf : family i = .ni) (hx : exec i s = .next t) : Within (touches i) s.blk t.blk := by
  cases i <;> cases hf <;> dsimp only [exec] at hx
  case answerReceive n p err =>
    refine within_of_on hx fun b => ?_
    split <;> simp [touches]
  case mapLookupTimeout n t =>
    refine within_of_on hx fun b => ?_
    split <;> simp [touches]
  case duplicateFilterRetire n =>
    refine within_of_on hx fun b => ?_
    split <;> simp [touches]
  all_goals exact within_of_on hx fun b => by simp [touches]

end

/-- Settles O54: each of the two families keeps to its frame, and a frame is a claim about every part. -/
theorem frameOfMeshAndInterfaces : Obligations.FrameOfMeshAndInterfaces := by
  intro i s t p hf hx hp
  simp only [List.mem_cons, List.not_mem_nil, or_false] at hf
  obtain hf | hf := hf
  · exact mesh_within hf hx p hp
  · exact ni_within hf hx p hp

end Sys2Proof.Machine
end

section
/-! PROOFS. The timers of the rings (spec/15 R416, R418), and the switch of a Tollgate to its shadow list (spec/05 R155, R161, R163). -/

namespace Sys2Proof.Machine

open Block (Within)

/-! ### The timers of a ring (15 R416, R418) -/

/-- A stale timer that runs out sends the ring's vector and starts again. -/
theorem ringStaleTimeout_sends {s : State} {r : Nat} (hr : r < 23) (h8 : 8 ≤ r) (hen : (s.blk.ring r).en = true)
    (herr : (s.blk.ring r).err = false) (hstale : (s.blk.ring r).stale ≠ 0) (hunread : (s.blk.ring r).unread ≠ 0)
    (hmask : (s.blk.vec (s.blk.ring r).vector).mask = false) : Completes (.ringStaleTimeout r) s (fun b' =>
      b'.hostOut = .irq (s.blk.ring r).vector (s.blk.vec (s.blk.ring r).vector).addr (s.blk.vec (s.blk.ring r).vector).data :: s.blk.hostOut ∧
      (s.blk.refclk = true → b'.now = max s.blk.now ((s.blk.ring r).staleFrom + (s.blk.ring r).stale * us)) ∧
      b'.ring r = { s.blk.ring r with staleFrom := b'.now }) := by
  refine completes_of_on (by simp [Instr.WellFormed, hr, h8]) (show execRingStaleTimeout r s = s.on (.ringStaleTimeout r) _ from rfl) ?_
  dsimp only
  rw [if_neg (by simp [hen, herr, hstale, hunread]), Block.irq, if_neg (by simp [hmask])]
  refine ⟨by simp [Block.hostWrite], fun href => ?_, by simp⟩
  simp [Block.elapseTo_now _ _ href]

/-- An interrupt message leaves a masked vector pending. -/
theorem Block.irq_pending {b : Block} {v : Nat} (h : (b.vec v).mask = true) : ((b.irq v).vec v).pending = true := by
  simp [irq, h]

/-- A port error stops the ring; the vector due is its own, or that of the completion ring behind it. -/
theorem hostPortError_stops {s : State} {r : Nat} (hr : r < 23) (hen : (s.blk.ring r).en = true) :
    Completes (.hostPortError r) s (fun b' => b'.ring r = { s.blk.ring r with err := true } ∧
      ((s.blk.vec (s.blk.ring (if r < 8 then r + 8 else r)).vector).mask = true →
        (b'.vec (s.blk.ring (if r < 8 then r + 8 else r)).vector).pending = true)) := by
  refine completes_of_on (by simp [Instr.WellFormed, hr]) (show execHostPortError r s = s.on (.hostPortError r) _ from rfl) ?_
  have hvector : (s.blk.ring (if isCmd r then r + 8 else r)).vector = (s.blk.ring (if r < 8 then r + 8 else r)).vector := by
    simp [isCmd]
  rw [if_neg (by simp [hen]), hvector]
  exact ⟨by simp, fun hmask => Block.irq_pending hmask⟩

theorem ringTimers : Claims.RingTimers := fun _ _ hr hen =>
  ⟨fun h8 herr hstale hunread hmask => ringStaleTimeout_sends hr h8 hen herr hstale hunread hmask, hostPortError_stops hr hen⟩

/-! ### The switch of a Tollgate (05 R155, R161, R163) -/

section
variable {b : Block} {n base : Nat}

/-- The FCLKs that pass move a Tollgate's credits; its lists and what waits in it stand. -/
theorem Block.elapse_gate {k : Nat} : ∃ c st r, (b.elapse k).gate n = { b.gate n with credit := c, sentTier := st, oldRate := r } := by
  unfold elapse gate
  split
  · exact ⟨_, _, _, rfl⟩
  · rw [SMap.get_eq_find, SMap.get_eq_find, SMap.find_mapVals]
    cases b.gates.find n with
    | none => exact ⟨_, _, _, rfl⟩
    | some g => exact ⟨_, _, _, rfl⟩

theorem Block.elapseFt_gate {d x : Nat} : ∃ c st r, (b.elapseFt d x).gate n = { b.gate n with credit := c, sentTier := st, oldRate := r } := by
  unfold elapseFt
  dsimp only
  split
  · exact ⟨_, _, _, rfl⟩
  · exact elapse_gate

/-- An NI whose queues are empty has no packet that is too long for its windows. -/
theorem Block.refuseOversize_of_empty {l : GateList} (h : (b.gate n).queue = []) : b.refuseOversize n l = b := by
  have hq : ∀ t, (b.gate n).q t = [] := fun t => by rw [Gate.q, h]; rfl
  simp [refuseOversize, List.range_succ, hq]

/-- A switch with empty queues: the shadow list is active, with its base, and no switch is pending; but for that and the golden copies the
block stands. -/
theorem Block.switchGate_of_empty (h : (b.gate n).queue = []) :
    Within [.gates, .stws, .gold] b (b.switchGate n base) ∧ (b.switchGate n base).gate n =
      { b.gate n with active := (b.gate n).shadow, base := base, pend := none, pendMsg := none } := by
  have hgate : ((b.modGate n (fun g => { g with active := g.shadow, base := base, pend := none, pendMsg := none })).keepGold [n]).gate n =
      { b.gate n with active := (b.gate n).shadow, base := base, pend := none, pendMsg := none } := by
    rw [gate, (keepGold_within (ps := [.stws, .gold]) (by simp)).2 (.refl _) .gates (by decide), ← gate, modGate_gate]
  rw [switchGate, refuseOversize_of_empty (by rw [hgate, h])]
  exact ⟨by simp, hgate⟩

/-- With no command in flight none waits for a switch. -/
theorem Block.gatesDone_of_flights_nil (h : b.lead.flights = []) : b.gatesDone = b := by
  simp [gatesDone, h]

theorem Block.elapseFt_rests {d x : Nat} : (b.elapseFt d x).rests = b.rests := by
  funext e
  simp [rests, domSt, elemFenced, scFenced]

end

section
variable {s : State} {n S B : Nat}

theorem gateSwitch_switches (hn : isNi n = true) (hrest : s.blk.rests n = false) (hfl : s.blk.lead.flights = [])
    (hq : (s.blk.gate n).queue = []) (hp : (s.blk.gate n).pend = some (S, B)) : Completes (.gateSwitch n) s (fun b' =>
      (b'.gate n).active = (s.blk.gate n).shadow ∧ (b'.gate n).base = B ∧ (b'.gate n).pend = none ∧ b'.wsh = s.blk.wsh) := by
  refine completes_of_on hn (show execGateSwitch n s = s.on (.gateSwitch n) _ from rfl) ?_
  rw [hp]
  dsimp only
  obtain ⟨c, st, r, hgate⟩ := Block.elapseFt_gate (b := s.blk) (n := n) (d := dieOf n) (x := S)
  obtain ⟨hwithin, hswitched⟩ := Block.switchGate_of_empty (b := s.blk.elapseFt (dieOf n) S) (n := n) (base := B) (by rw [hgate, hq])
  rw [Block.elapseFt_rests, if_neg (by simp [hrest]), Block.gatesDone_of_flights_nil]
  · rw [hswitched, hgate]
    exact ⟨rfl, rfl, rfl, (hwithin .wsh (by decide)).trans (by simp)⟩
  · rw [hwithin .lead (by decide)]
    simpa using hfl

theorem switchInstant_waits (hn : isNi n = true) (hrest : s.blk.rests n = false) (hfl : s.blk.lead.flights = [])
    (hp : (s.blk.gate n).pendMsg = some (S, B)) (ht : s.blk.ftOf n ≤ S) : Completes (.switchInstantReceipt n) s (fun b' =>
      b' = s.blk.modGate n (fun g => { g with pend := some (S, B), pendMsg := none })) := by
  refine completes_of_on hn (show execSwitchInstantReceipt n s = s.on (.switchInstantReceipt n) _ from rfl) ?_
  rw [if_neg (by simp [hrest]), Block.switchIn, hp]
  dsimp only
  rw [if_pos ht, Block.gatesDone_of_flights_nil]
  exact hfl

theorem switchInstant_late (hn : isNi n = true) (hrest : s.blk.rests n = false) (hfl : s.blk.lead.flights = [])
    (hq : (s.blk.gate n).queue = []) (hp : (s.blk.gate n).pendMsg = some (S, B)) (ht : S < s.blk.ftOf n) :
    Completes (.switchInstantReceipt n) s (fun b' =>
      (b'.gate n).active = (s.blk.gate n).shadow ∧ (b'.gate n).base = B ∧ Raised s.blk b' n 0x14 0) := by
  refine completes_of_on hn (show execSwitchInstantReceipt n s = s.on (.switchInstantReceipt n) _ from rfl) ?_
  obtain ⟨hwithin, hswitched⟩ := Block.switchGate_of_empty (b := s.blk) (base := B) hq
  have hflights : (s.blk.switchGate n B).lead.flights = [] := by rw [hwithin .lead (by decide), hfl]
  rw [if_neg (by simp [hrest]), Block.switchIn, hp]
  dsimp only
  rw [if_neg (Nat.not_le.2 ht), if_neg (by decide), Block.gatesDone_of_flights_nil]
  · refine ⟨?_, ?_, ?_⟩
    · simp [hswitched]
    · simp [hswitched]
    · have hraised := (s.blk.switchGate n B).event_raised n 0x14 none (detT (s.blk.ftOf n - S : Nat))
      rw [show kindSev n 0x14 = 0 by simp [kindSev]] at hraised
      exact hraised.of_wsh (hwithin .wsh (by decide)).symm rfl
  · simp [hflights]

end

theorem gateSwitch : Claims.GateSwitch := fun _ _ _ _ hn hrest hfl hq =>
  ⟨gateSwitch_switches hn hrest hfl hq, switchInstant_waits hn hrest hfl, switchInstant_late hn hrest hfl hq⟩

/-! ### The switch instant (05 R161) -/

/-- The turn of the cycle that `switchAt` takes is no earlier than the first instant allowed, and it is the first such. -/
theorem switchInstantIsTheFirstTurn : Claims.SwitchInstantIsTheFirstTurn := by
  intro acc base cycle hc
  refine ⟨fun h => if_pos h, fun h => ?_⟩
  have hat : switchAt acc base cycle = base + (acc + 6400 - base + cycle - 1) / cycle * cycle := if_neg (Nat.not_le.2 h)
  have hceil : ∀ m, acc + 6400 ≤ base + m * cycle ↔ (acc + 6400 - base + cycle - 1) / cycle ≤ m := fun m => by
    rw [← Nat.lt_succ_iff (n := m), Nat.div_lt_iff_lt_mul hc, Nat.succ_mul]
    omega
  rw [hat]
  exact ⟨(hceil _).2 le_rfl, _, rfl, fun m => (hceil m).1⟩

/-- Settles O13: the timer and the port error of a ring, the three cases of a Tollgate's switch, and the arithmetic of its instant. -/
theorem ringTimersAndGateSwitch : Obligations.RingTimersAndGateSwitch := ⟨ringTimers, gateSwitch, switchInstantIsTheFirstTurn⟩

end Sys2Proof.Machine
end

section
/-! PROOFS. Suspect lanes and quiet windows (spec/08 R255, R256; 05 R166, R167), and the wake of a link (08 R258). -/

namespace Sys2Proof.Machine

open Block (Within)

/-! ### The adapters of a die link (01 R17, R18, R32) -/

section
variable {a : Nat}

/-- The two ends of a die link are two adapters. -/
theorem farAdp_ne : isDieAdp a = true → farAdp a ≠ a := by
  intro ha he
  have hdie : dieOf (farAdp a) = dieOf a := by rw [he]
  unfold farAdp at hdie
  simp only [isDieAdp, isColC, isColI, isRidge, Bool.or_eq_true, Bool.and_eq_true, decide_eq_true_eq, beq_iff_eq] at ha hdie
  split at hdie
  · rw [colIo, dieOf_src (by unfold colOfAdp locOf dieOf at *; split <;> omega)] at hdie
    omega
  · split at hdie
    · next hI =>
      rw [colAdp, colOfAdp, dieOf_src (by omega), if_pos (by simp [hI])] at hdie
      omega
    · split at hdie
      · rw [dieOf_ridgeW] at hdie
        omega
      · rw [dieOf_ridgeE] at hdie
        omega

end

/-! ### Suspect lanes (08 R255, R256) -/

section
variable {b : Block} {a lane sp c : Nat}

/-- The redundant lanes are tested in profile 11 alone. -/
theorem Block.testIdleLanes_of_profile (h : b.effProfile ≠ 11) : b.testIdleLanes a = b := by
  simp [testIdleLanes, h]

theorem Block.elapseTo_effProfile {t : Nat} : (b.elapseTo t).effProfile = b.effProfile := by
  simp [effProfile]

/-- An event raises its kind with the severity that the table gives (11 R321). -/
theorem Block.event_raised_of {s k sev : Nat} {pk : Option (BitVec 128)} {det : BitVec 32} (h : kindSev s k = sev) :
    Raised b (b.event s k pk det) s k sev :=
  h ▸ event_raised ..

/-- A window that ends with one lane over its limit: the lane is suspect, reported, and the link is due a quiet window. -/
theorem Block.laneWindow_single (hpass : isPass a = false) (hcorr : (b.link a).laneCorr = [(lane, c)]) (hc : 32 ≤ c)
    (hnew : lane ∉ (b.link a).suspects) (hst : (b.link a).st = .active) (hprofile : b.effProfile ≠ 11) : ∃ t, b.laneWindow a =
      (((b.elapseTo t).modLink a (fun l => { l with laneCorr := [], suspects := l.suspects ++ [lane] })).event a 0x25 none
        (detLink a 0 lane c)).modLead (fun x => { x with quietDue := if x.quietDue.contains a then x.quietDue else x.quietDue ++ [a] }) := by
  refine ⟨(b.now / ms + 1) * ms, ?_⟩
  unfold laneWindow
  generalize (b.now / ms + 1) * ms = t
  dsimp only
  have hbad : List.filter (fun kv => (if false = true then decide (8192 < kv.2) else decide (32 ≤ kv.2)) &&
      !(b.link a).suspects.contains kv.1) [(lane, c)] = [(lane, c)] := by
    simp [hc, hnew]
  rw [testIdleLanes_of_profile (by rwa [elapseTo_effProfile])]
  simp only [elapseTo_reads, hcorr, hpass, hst, hbad, List.foldl_cons, List.foldl_nil, List.map_cons, List.map_nil]
  exact if_neg Bool.false_ne_true

theorem laneWindow_suspects {s : State} (ha : isDieAdp a = true) (hcorr : (s.blk.link a).laneCorr = [(lane, c)]) (hc : 32 ≤ c)
    (hnew : lane ∉ (s.blk.link a).suspects) (hst : (s.blk.link a).st = .active) (hprofile : s.blk.effProfile ≠ 11) :
    Completes (.laneWindow a) s (fun b' => (b'.link a).suspects = (s.blk.link a).suspects ++ [lane] ∧ (b'.link a).laneCorr = [] ∧
      a ∈ b'.lead.quietDue ∧ Raised s.blk b' a 0x25 0) := by
  obtain ⟨hadp, -, hpass⟩ := isAdp_of_isDieAdp ha
  refine completes_of_on (f := fun b => b.laneWindow a) hadp rfl ?_
  obtain ⟨t, ht⟩ := Block.laneWindow_single hpass hcorr hc hnew hst hprofile
  rw [ht]
  refine ⟨by simp, by simp, ?_, ?_⟩
  · simp only [Block.modLead_lead]
    split
    · next h => exact List.contains_iff_mem.1 h
    · exact List.mem_append_right _ List.mem_cons_self
  · exact (Block.event_raised_of (b := (s.blk.elapseTo t).modLink a _) (by simp [kindSev])).of_wsh (by simp) rfl

/-- A lane that carries a logical lane moves onto the first idle redundant one. -/
theorem Block.moveLane_moves {j : Nat} {l : List Nat} (hidle : (b.link a).idleLanes a = sp :: l)
    (hfind : (List.range (linkLanes (isRidge a))).find? (fun i => (b.link a).phys i == lane) = some j) :
    b.moveLane a lane = ((b.modLink a (fun l => { l with
      laneMap := l.laneMap.set j sp, badSpares := if linkLanes (isRidge a) ≤ lane then l.badSpares ++ [lane] else l.badSpares })).event
      a 0x26 none (detLink a 0 lane 0), true) := by
  unfold moveLane
  dsimp only
  rw [hidle, hfind]

/-- The one suspect lane of a link leaves the list and moves. -/
theorem Block.moveSuspects_eq {j : Nat} {l : List Nat} (hsus : (b.link a).suspects = [lane]) (hidle : (b.link a).idleLanes a = sp :: l)
    (hfind : (List.range (linkLanes (isRidge a))).find? (fun i => (b.link a).phys i == lane) = some j) : ∃ F G : Link → Link,
      (∀ l, F l = { l with suspects := l.suspects.filter (· != lane) }) ∧ (∀ l, G l = { l with
        laneMap := l.laneMap.set j sp, badSpares := if linkLanes (isRidge a) ≤ lane then l.badSpares ++ [lane] else l.badSpares }) ∧
      b.moveSuspects a = ((b.modLink a F).modLink a G).event a 0x26 none (detLink a 0 lane 0) := by
  refine ⟨_, _, fun _ => rfl, fun _ => rfl, ?_⟩
  unfold moveSuspects
  rw [hsus, List.foldl_cons, List.foldl_nil, moveLane_moves (by rw [modLink_link]; exact hidle) (by rw [modLink_link]; exact hfind)]
  rfl

/-- A suspect lane that carries a logical lane is repaired: LANE_REPAIRED is raised. -/
theorem Block.moveSuspects_single {l : List Nat} (hsus : (b.link a).suspects = [lane]) (hidle : (b.link a).idleLanes a = sp :: l)
    (hphys : ∃ i, i < linkLanes (isRidge a) ∧ (b.link a).phys i = lane) :
    ((b.moveSuspects a).link a).suspects = [] ∧ ((b.moveSuspects a).link a).calDone = (b.link a).calDone ∧
      (∃ j, j < linkLanes (isRidge a) ∧ (b.link a).phys j = lane ∧ ((b.moveSuspects a).link a).phys j = sp) ∧
      Raised b (b.moveSuspects a) a 0x26 0 := by
  obtain ⟨j, hfind⟩ : ∃ j, (List.range (linkLanes (isRidge a))).find? (fun i => (b.link a).phys i == lane) = some j := by
    obtain ⟨i, hi, hlane⟩ := hphys
    exact Option.isSome_iff_exists.1 (List.find?_isSome.2 ⟨i, List.mem_range.2 hi, beq_iff_eq.2 hlane⟩)
  have hj : j < linkLanes (isRidge a) := List.mem_range.1 (List.mem_of_find?_eq_some hfind)
  have hcarries : (b.link a).phys j = lane := by simpa using List.find?_some hfind
  obtain ⟨F, G, hF, hG, hmove⟩ := moveSuspects_eq hsus hidle hfind
  rw [hmove]
  refine ⟨?_, ?_, ⟨j, hj, hcarries, ?_⟩, ?_⟩
  · simp [hF, hG, hsus]
  · simp [hF, hG]
  · simp [hF, hG, Link.phys]
  · exact (event_raised_of (by simp [kindSev])).of_wsh (by simp) rfl

theorem linkCalibrationDone_moves {s : State} {l : List Nat} (ha : isDieAdp a = true) (hst : (s.blk.link a).st = .quiet)
    (hsus : (s.blk.link a).suspects = [lane]) (hidle : (s.blk.link a).idleLanes a = sp :: l)
    (hphys : ∃ i, i < linkLanes (isRidge a) ∧ (s.blk.link a).phys i = lane) : Completes (.linkCalibrationDone a) s (fun b' =>
      (b'.link a).calDone = true ∧ (b'.link a).suspects = [] ∧
      (∃ j, j < linkLanes (isRidge a) ∧ (s.blk.link a).phys j = lane ∧ (b'.link a).phys j = sp) ∧ Raised s.blk b' a 0x26 0) := by
  refine completes_of_on (f := fun b => b.calDone a) ha rfl ?_
  have hdone : s.blk.calDone a = (s.blk.modLink a (fun l => { l with calDone := true })).moveSuspects a := by
    simp [Block.calDone, hst]
  have hlink : (s.blk.modLink a (fun l => { l with calDone := true })).link a = { s.blk.link a with calDone := true } := Block.modLink_link ..
  obtain ⟨hnone, hcal, ⟨j, hj, hlane, hmoved⟩, hraised⟩ := Block.moveSuspects_single
    (b := s.blk.modLink a (fun l => { l with calDone := true })) (a := a) (lane := lane) (sp := sp) (l := l)
    (by rw [hlink]; exact hsus) (by rw [hlink]; exact hidle) (by rw [hlink]; exact hphys)
  rw [hlink] at hcal hlane
  rw [hdone]
  exact ⟨hcal, hnone, ⟨j, hj, hlane, hmoved⟩, hraised⟩

end

/-! ### Quiet windows (05 R166, R167; 08 R256) -/

section
variable {b : Block} {n : Nat}

/-- The NIs of a die stand once in its list. -/
theorem nodup_dieNis {d : Nat} : (dieNis d).Nodup :=
  (List.nodup_range.map fun i j h => by unfold src at h; omega).filter _

/-- The change of a Tollgate that each of a list of NIs has changes the Tollgates alone. -/
theorem Block.foldl_modGate {F : Gate → Gate} {ns : List Nat} :
    ns.foldl (fun b x => b.modGate x F) b = { b with gates := ns.foldl (fun m x => m.mod {} x F) b.gates } := by
  induction ns generalizing b with
  | nil => rfl
  | cons x ns ih => exact ih

/-- The two adapters of a Col are two. -/
theorem colAdp_ne_colIo : colAdp n ≠ colIo n := by
  unfold colAdp colIo src
  omega

/-- A window of a Col link is armed: its two adapters leave the list of those that wait, and hold the T that each Tollgate of the die holds. -/
theorem Block.quietArm_eq (hdue : (b.lead.quietDue.contains (colIo n) || b.lead.quietDue.contains (colAdp n)) = true)
    (hio : (b.link (colIo n)).st = .active) (hcol : (b.link (colAdp n)).st = .active) (hioQuiet : (b.link (colIo n)).quietAt = none)
    (hcolQuiet : (b.link (colAdp n)).quietAt = none) (hgates : ∀ x ∈ dieNis (n / 2), (b.gate x).quiet = none) (hstarve : b.wsh.starveInt = [])
    (hlead : b.wsh.lead = []) : ∃ (t mask : Nat) (F : Link → Link) (G : Gate → Gate) (c : Block),
      (∀ l, F l = { l with quietAt := some t, calDone := false }) ∧ (∀ g, G g = { g with quiet := some (t, 300, mask) }) ∧
      c = (((b.modLead (fun l => { l with quietDue := l.quietDue.filter (fun a => !(linkAdps false n).contains a) })).modLink (colIo n) F).modLink
        (colAdp n) F) ∧
      Within [.elems, .wsh] { c with gates := (dieNis (n / 2)).foldl (fun m x => m.mod {} x G) c.gates } (b.quietArm false n) := by
  have hgates' : (dieNis (n / 2)).any (fun x => (b.gate x).quiet.isSome) = false :=
    List.any_eq_false.2 fun x hx => by simp [hgates x hx]
  have hfences : ∀ s, b.fencesFirst s = false := fun s => by simp [fencesFirst, hlead]
  have hdies : (linkDies false n).flatMap dieNis = dieNis (n / 2) := by simp [linkDies]
  unfold quietArm
  extract_lets as due dies gs
  have hopen : as.any (fun a => (b.link a).st != .active || (b.link a).quietAt.isSome) = false := by
    simp [as, linkAdps, hio, hcol, hioQuiet, hcolQuiet]
  rw [if_neg (by rw [hopen, show due = true from by simpa [due, as, linkAdps] using hdue]; decide), hdies,
    if_neg (by simp [hgates', hfences, hstarve])]
  generalize b.quietPlan dies = plan
  obtain ⟨t, mask, allTiers⟩ := plan
  refine ⟨t, mask, _, _, _, fun _ => rfl, fun _ => rfl, rfl, ?_⟩
  dsimp only
  rw [foldl_modGate]
  split
  · exact (event_within (by simp)).2 (.refl _)
  · exact .refl _

/-- Arming a window: both sides of the Col hold its T, each Tollgate of the die an overlay, and neither side waits for a window. -/
theorem quietWindowArm_arms {s : State} (hn : n < 24)
    (hdue : (s.blk.lead.quietDue.contains (colIo n) || s.blk.lead.quietDue.contains (colAdp n)) = true)
    (hio : (s.blk.link (colIo n)).st = .active) (hcol : (s.blk.link (colAdp n)).st = .active)
    (hioQuiet : (s.blk.link (colIo n)).quietAt = none) (hcolQuiet : (s.blk.link (colAdp n)).quietAt = none)
    (hgates : ∀ x ∈ dieNis (n / 2), (s.blk.gate x).quiet = none) (hstarve : s.blk.wsh.starveInt = []) (hlead : s.blk.wsh.lead = []) :
    Completes (.quietWindowArm false n) s (fun b' =>
      (∀ x ∈ dieNis (n / 2), (b'.gate x).quiet.isSome = true) ∧ (b'.link (colIo n)).quietAt.isSome = true ∧
        (b'.link (colAdp n)).quietAt = (b'.link (colIo n)).quietAt ∧ colIo n ∉ b'.lead.quietDue ∧ colAdp n ∉ b'.lead.quietDue) := by
  refine completes_of_on (f := fun b => b.quietArm false n) (by simpa [Instr.WellFormed] using hn) rfl ?_
  obtain ⟨t, mask, F, G, c, hF, hG, hc, hwithin⟩ := Block.quietArm_eq hdue hio hcol hioQuiet hcolQuiet hgates hstarve hlead
  have hadp : (c.link (colAdp n)).quietAt = some t := by rw [hc, Block.modLink_link, hF]
  have hcolIo : (c.link (colIo n)).quietAt = some t := by
    rw [hc, Block.modLink_link_ne (h := (colAdp_ne_colIo (n := n)).symm), Block.modLink_link, hF]
  have hlinks : ∀ a, (s.blk.quietArm false n).link a = c.link a := fun a => by rw [Block.link, hwithin .links (by decide)]; rfl
  have hdue' : (s.blk.quietArm false n).lead.quietDue = s.blk.lead.quietDue.filter (fun a => !(linkAdps false n).contains a) := by
    rw [hwithin .lead (by decide), hc]; rfl
  refine ⟨fun x hx => ?_, by rw [hlinks, hcolIo]; rfl, by rw [hlinks, hlinks, hadp, hcolIo], ?_, ?_⟩
  · have hoverlay := SMap.get_foldl_mod_of_mem (d := {}) (m := c.gates) (f := fun _ => G) nodup_dieNis hx
    rw [Block.gate, hwithin .gates (by decide)]
    dsimp only
    rw [hoverlay, hG]
    rfl
  · simp [hdue', linkAdps]
  · simp [hdue', linkAdps]

/-- An overlay that starts on time changes nothing. -/
theorem quietOverlayStart_onTime {s : State} {t len m : Nat} (hn : isNi n = true) (hq : (s.blk.gate n).quiet = some (t, len, m))
    (ht : t ≤ s.blk.ftOf n) : Completes (.quietOverlayStart n) s (fun b' => b' = s.blk) := by
  refine completes_of_on hn (show execQuietOverlayStart n s = s.on (.quietOverlayStart n) _ from rfl) ?_
  rw [hq]
  exact if_pos ht

theorem quietOverlayEnd_ends {s : State} {t len m : Nat} (hn : isNi n = true) (hq : (s.blk.gate n).quiet = some (t, len, m)) :
    Completes (.quietOverlayEnd n) s (fun b' => (b'.gate n).quiet = none) := by
  refine completes_of_on hn (show execQuietOverlayEnd n s = s.on (.quietOverlayEnd n) _ from rfl) ?_
  rw [hq]
  simp

end

section
variable {s : State} {a t : Nat}

theorem linkQuiet_sends (ha : isDieAdp a = true) (hquiet : (s.blk.link a).quietAt = some t) (hst : (s.blk.link a).st = .active)
    (hrun : s.blk.linkStopped a = false) : Completes (.linkQuiet a) s (fun b' => (b'.link a).st = .quiet ∧
      ∃ fr, (b'.link (farAdp a)).inbox = (s.blk.link (farAdp a)).inbox ++ [fr] ∧ fr.ty = .quiet) := by
  obtain ⟨-, -, hpass⟩ := isAdp_of_isDieAdp ha
  refine completes_of_on ha (show execLinkQuiet a s = s.on (.linkQuiet a) _ from rfl) ?_
  rw [hquiet]
  dsimp -zeta only
  rw [if_neg (by simp [hst, hrun])]
  extract_lets b1 queued b2 l b3
  have hlinks : b2.links = s.blk.links := by
    simp only [b2, b1]
    split <;> simp
  refine ⟨by simp, plainFrame .quiet l.next l.ackNo 0, ?_, rfl⟩
  refine (Block.modLink_keeps Link.inbox (by exact fun _ => rfl)).trans ?_
  rw [Block.link, Block.putFrame_links hpass, ← Block.link, Block.modLink_link, Block.link, hlinks]
  rfl

/-- A link whose calibration is done takes up traffic again; nothing is raised. -/
theorem quietResume_resumes (ha : isDieAdp a = true) (hquiet : (s.blk.link a).quietAt = some t) (hst : (s.blk.link a).st = .quiet)
    (hdone : (s.blk.link a).calDone = true) (hfar : (s.blk.link (farAdp a)).quietAt.isSome = true) :
    Completes (.quietResume a) s (fun b' => (b'.link a).st = .active ∧ (b'.link a).quietAt = none ∧ b'.wsh = s.blk.wsh) := by
  refine completes_of_on ha (show execQuietResume a s = s.on (.quietResume a) _ from rfl) ?_
  rw [hquiet]
  have hfar' : ∀ F : Link → Link, (((s.blk.elapseFt (dieOf a) (t + 4800)).modLink a F).link (farAdp a)).quietAt.isNone = false := fun F => by
    rw [Block.modLink_link_ne (h := farAdp_ne ha)]
    simpa using hfar
  simp [hdone, hfar', hst]

end

theorem lanesAndQuietWindows : Claims.LanesAndQuietWindows := fun _ _ _ _ _ _ ha =>
  ⟨fun _ _ hcorr hc hnew hst hprofile => laneWindow_suspects ha hcorr hc hnew hst hprofile,
    fun hn hdue hio hcol hioQuiet hcolQuiet hgates hstarve hlead =>
      quietWindowArm_arms hn hdue hio hcol hioQuiet hcolQuiet hgates hstarve hlead,
    quietOverlayStart_onTime, quietOverlayEnd_ends, linkQuiet_sends ha,
    fun _ _ _ hst hsus hidle hphys => linkCalibrationDone_moves ha hst hsus hidle hphys, quietResume_resumes ha⟩

/-! ### The wake of a link (08 R258) -/

section
variable {s : State} {a d t : Nat}

theorem wakeMessage_wakes (ha : isDieAdp a = true) (hdom : domOf a = some d) (hst : (s.blk.dom d).st = 4) (harmed : (s.blk.dom d).unarmed = false)
    (hopen : s.blk.elemFenced a = false) : Completes (.wakeMessage a) s (fun b' =>
      (b'.dom d).st = 5 ∧ (b'.dom d).wakeSrc = 3 ∧ (b'.dom d).wakeFrom = 4 ∧ (b'.dom d).since = s.blk.now ∧ b'.links = s.blk.links) := by
  obtain ⟨hadp, -, hpass⟩ := isAdp_of_isDieAdp ha
  refine completes_of_on hadp (show execWakeMessage a s = s.on (.wakeMessage a) _ from rfl) ?_
  rw [hdom]
  simp [hpass, hst, harmed, hopen, Block.wakeDom]

theorem wakeRepeat_repeats (ha : isDieAdp a = true) (hwake : (s.blk.link a).wakeFrom = some t) (hst : (s.blk.link a).st = .retained)
    (ht : t ≤ s.blk.now) (href : s.blk.refclk = true) : Completes (.wakeRepeat a) s (fun b' =>
      b'.farOut = .wake a [] :: s.blk.farOut ∧ (b'.now - t) % 640 = 0 ∧ s.blk.now < b'.now ∧ b'.now ≤ s.blk.now + 640) := by
  obtain ⟨hadp, -, hpass⟩ := isAdp_of_isDieAdp ha
  refine completes_of_on hadp (show execWakeRepeat a s = s.on (.wakeRepeat a) _ from rfl) ?_
  rw [hwake]
  dsimp only
  rw [if_neg (by simp [hst])]
  have hnow : (s.blk.elapseTo (t + ((s.blk.now - t) / 640 + 1) * 640)).now = t + ((s.blk.now - t) / 640 + 1) * 640 := by
    rw [Block.elapseTo_now _ _ href]
    omega
  refine ⟨by simp [Block.wakeLanes, hpass], ?_, ?_, ?_⟩ <;> dsimp only <;> rw [hnow] <;> omega

/-- The scope of a die link is a scope. -/
theorem linkScope_ne_zero (ha : isDieAdp a = true) : (linkScope a 7).1 ≠ 0 := by
  obtain ⟨-, hrouter, hpass⟩ := isAdp_of_isDieAdp ha
  simp only [linkScope, hrouter, hpass, beq_self_eq_true, if_true, Bool.false_eq_true, if_false]
  split <;> simp

/-- What a link holds has no part in whether a fault is escalated. -/
theorem Block.modLink_escalates {b : Block} {f : Link → Link} {ty id : Nat} : (b.modLink a f).escalates ty id = b.escalates ty id := rfl

/-- A link that is not up at the limit of its wake raises WAKE_TIMEOUT (11 R321), and its scope stops. -/
theorem wakeTimeout_raises (ha : isDieAdp a = true) (hwake : (s.blk.link a).wakeFrom = some t) (hst : (s.blk.link a).st = .retained) :
    Completes (.wakeTimeout a) s (fun b' =>
      Raised s.blk b' a 0x2A (if s.blk.escalates (linkScope a 7).1 (linkScope a 7).2 then 3 else 2) ∧ (b'.link a).wakeFrom = none ∧
        (b'.scope (linkScope a 7).1 (linkScope a 7).2).stopped = true) := by
  obtain ⟨hadp, -, -⟩ := isAdp_of_isDieAdp ha
  refine completes_of_on hadp (show execWakeTimeout a s = s.on (.wakeTimeout a) _ from rfl) ?_
  rw [hwake]
  dsimp only
  rw [if_neg (by simp [hst]), Block.linkFault]
  have hsev : kindSev a 0x2A = 2 := by simp [kindSev]
  generalize hc : (s.blk.elapseTo (t + ms)).modLink a _ = c
  have hescalates : c.escalates (linkScope a 7).1 (linkScope a 7).2 = s.blk.escalates (linkScope a 7).1 (linkScope a 7).2 := by
    rw [← hc, Block.modLink_escalates, Block.elapseTo_escalates]
  have hwsh : s.blk.wsh = c.wsh := by
    rw [← hc, Block.modLink_wsh]
    simp
  refine ⟨?_, by simp [← hc], Block.fault_stopped c a 0x2A _ _ _ _ none false (linkScope_ne_zero ha) (by rw [hsev])⟩
  rw [← hescalates]
  exact (Block.fault_raised_containable hsev).of_wsh hwsh rfl

end

theorem linkWake : Claims.LinkWake := fun _ _ _ _ ha hdom =>
  ⟨wakeMessage_wakes ha hdom, wakeRepeat_repeats ha, wakeTimeout_raises ha⟩

/-- Settles O26: the lanes and the quiet window of a link, and its wake. -/
theorem quietWindowsAndLinkWake : Obligations.QuietWindowsAndLinkWake := ⟨lanesAndQuietWindows, linkWake⟩

end Sys2Proof.Machine
end

section
/-! PROOFS. The ring commands for partitions, regulators, gate lists and power (spec/05 R146 to R149, R160 to R163; 06 R192, R194; 10 R293,
R307; 14 R395; 16 R433 to R436). -/

namespace Sys2Proof.Machine

open Block (Within)

/-! ### A descriptor that its command's own conditions refuse -/

/-- `y` differs from `x` in the rings, the vectors and host memory alone. -/
def Block.Answers (x y : Block) : Prop := ∃ rs vs ho, y = { x with rings := rs, vecs := vs, hostOut := ho }

section
variable {b x y z : Block} {c : Cmd} {f : Form} {run : Block → Verdict} {i st fd : Nat} {res : List (Nat × Nat × Nat)}

theorem Block.Answers.trans (h : x.Answers y) (h' : y.Answers z) : x.Answers z := by
  obtain ⟨_, _, _, rfl⟩ := h
  obtain ⟨rs, vs, ho, rfl⟩ := h'
  exact ⟨rs, vs, ho, rfl⟩

theorem Block.modRing_answers {r : Nat} {g : Ring → Ring} : x.Answers (x.modRing r g) := ⟨_, x.vecs, x.hostOut, rfl⟩

theorem Block.hostWrite_answers {o : HostOut} : x.Answers (x.hostWrite o) := ⟨x.rings, x.vecs, _, rfl⟩

theorem Block.irq_answers {v : Nat} : x.Answers (x.irq v) := by
  unfold irq
  split
  · exact ⟨x.rings, _, x.hostOut, rfl⟩
  · exact hostWrite_answers

theorem Block.ringIrq_answers {r : Nat} {due : Bool} : x.Answers (x.ringIrq r due) := by
  unfold ringIrq
  dsimp only
  split
  · exact irq_answers.trans modRing_answers
  · exact ⟨x.rings, x.vecs, x.hostOut, rfl⟩

theorem Block.complete_answers : x.Answers (x.complete c i st fd res) := by
  unfold complete writeCpl
  dsimp only
  split
  · exact modRing_answers.trans modRing_answers
  · exact modRing_answers.trans (hostWrite_answers.trans (modRing_answers.trans ringIrq_answers))

/-- A descriptor that is refused has its completion, and nothing else changes. -/
theorem Served.no (h : Served b c f) (hrun : run (b.taken c) = .no st fd res) :
    OnlyAnswers b (b.serve c f run) ∧ CplOf b (b.serve c f run) c st fd res := by
  obtain ⟨hen, herr, hprod⟩ := h.cplRing
  rw [h.serve_eq, hrun, Block.carryOut]
  refine ⟨?_, Block.complete_cplOf hen herr hprod rfl⟩
  obtain ⟨rs, vs, ho, hanswers⟩ := Block.complete_answers (x := b.taken c) (c := c) (i := (b.ring c.ring).cons % 65536) (st := st) (fd := fd)
    (res := res)
  rw [hanswers, Block.taken_eq_atTurn]
  exact rfl

end

/-! ### The NIs of a command's scope (16 R422) -/

theorem nodup_dieNisAll {d : Nat} : (dieNisAll d).Nodup :=
  (List.nodup_range.map fun i j h => by unfold src at h; omega).filter _

/-- The NIs of the package stand once: sources of two dies are two. -/
theorem nodup_allNis : allNis.Nodup := by
  refine List.Nodup.filter _ (List.nodup_flatMap.2 ⟨fun d _ => ?_, ?_⟩)
  · exact List.nodup_range.map fun i j h => by unfold src at h; omega
  · refine List.nodup_range.imp fun {d e} hne => ?_
    intro s hd he
    obtain ⟨i, hi, rfl⟩ := List.mem_map.1 hd
    obtain ⟨j, hj, hsrc⟩ := List.mem_map.1 he
    rw [List.mem_range] at hi hj
    split at hi <;> split at hj <;> · unfold src at hsrc; omega

theorem Block.nodup_cmdNis {b : Block} {ty id : Nat} : (b.cmdNis ty id).Nodup := by
  unfold cmdNis
  split
  · unfold drawers
    split
    · exact nodup_dieNis.filter _
    · exact nodup_dieNisAll.filter _
  · exact nodup_allNis
  · exact List.nodup_singleton _
  · exact nodup_dieNisAll
  · exact List.nodup_nil

section
variable {b : Block} {ns : List Nat} {n : Nat}

theorem Block.keepGold_gates {os : List Nat} : (b.keepGold os).gates = b.gates :=
  (show Within [.stws, .gold] b (b.keepGold os) by simp) .gates (by decide)

theorem Block.keepGold_nis {os : List Nat} : (b.keepGold os).nis = b.nis :=
  (show Within [.stws, .gold] b (b.keepGold os) by simp) .nis (by decide)

theorem Block.foldl_modGate_keepGold_gates {F : Gate → Gate} :
    (ns.foldl (fun (b : Block) n => (b.modGate n F).keepGold [n]) b).gates = ns.foldl (fun m n => m.mod {} n F) b.gates :=
  (List.foldl_hom Block.gates fun b n => (keepGold_gates (b := b.modGate n F)).symm).symm

/-- The change of a Tollgate that each of a list of NIs has, with its golden copies. -/
theorem Block.foldl_modGate_keepGold_gate {F : Gate → Gate} (hn : ns.Nodup) (h : n ∈ ns) :
    (ns.foldl (fun (b : Block) n => (b.modGate n F).keepGold [n]) b).gate n = F (b.gate n) := by
  rw [gate, foldl_modGate_keepGold_gates]
  exact SMap.get_foldl_mod_of_mem (f := fun _ => F) hn h

/-- The change of an NI that each of a list has, with its golden copies. -/
theorem Block.foldl_modNi_keepGold_ni {F : Ni → Ni} (hn : ns.Nodup) (h : n ∈ ns) :
    (ns.foldl (fun (b : Block) n => (b.modNi n F).keepGold [n]) b).ni n = F (b.ni n) := by
  have hnis : (ns.foldl (fun (b : Block) n => (b.modNi n F).keepGold [n]) b).nis = ns.foldl (fun m n => m.mod {} n F) b.nis :=
    (List.foldl_hom Block.nis fun b n => (keepGold_nis (b := b.modNi n F)).symm).symm
  rw [ni, hnis]
  exact SMap.get_foldl_mod_of_mem (f := fun _ => F) hn h

/-- The change of a domain that each of a list has. -/
theorem Block.foldl_modDom_dom {F : Dom → Dom} (hn : ns.Nodup) (h : n ∈ ns) :
    (ns.foldl (fun (b : Block) d => b.modDom d F) b).dom n = F (b.dom n) := by
  have hdoms : (ns.foldl (fun (b : Block) d => b.modDom d F) b).doms = ns.foldl (fun m d => m.mod {} d F) b.doms :=
    (List.foldl_hom Block.doms fun _ _ => rfl).symm
  rw [dom, hdoms]
  exact SMap.get_foldl_mod_of_mem (f := fun _ => F) hn h

end

/-! ### A commit that the stewards want -/

section
variable {b : Block} {why : Nat} {scope : Option Nat}

theorem Block.keepGold_lead {os : List Nat} : (b.keepGold os).lead = b.lead :=
  (show Within [.stws, .gold] b (b.keepGold os) by simp) .lead (by decide)

/-- A commit that starts leaves the commands in flight and the granule masks. -/
theorem Block.startCommit_lead :
    (b.startCommit why scope).lead.flights = b.lead.flights ∧ (b.startCommit why scope).lead.masks = b.lead.masks := by
  have hfacts : ∀ (b : Block) (ep : Bool) (f : Facts),
      (b.setFacts ep f).lead.flights = b.lead.flights ∧ (b.setFacts ep f).lead.masks = b.lead.masks := fun b ep f => by
    cases ep <;> exact ⟨rfl, rfl⟩
  have hload : ∀ b : Block, b.loadOthers.lead.flights = b.lead.flights ∧ b.loadOthers.lead.masks = b.lead.masks := fun b => by
    unfold loadOthers
    dsimp only
    split <;> exact ⟨rfl, rfl⟩
  have htabs : ∀ ep, (b.resetTabs ep false).lead = b.lead := fun ep =>
    (show Within [.elems, .stws, .gold] b (b.resetTabs ep false) by simp) .lead (by decide)
  unfold startCommit
  extract_lets ep p incl excl facts b1 rs b2 ds
  have hb1 : b1.lead.flights = b.lead.flights ∧ b1.lead.masks = b.lead.masks := by
    simp only [b1]
    split
    · exact hfacts ..
    · rw [← htabs ep]
      exact hfacts ..
  exact ⟨(hload b1).1.trans hb1.1, (hload b1).2.trans hb1.2⟩

theorem Block.wantCommit_lead :
    (b.wantCommit why scope).lead.flights = b.lead.flights ∧ (b.wantCommit why scope).lead.masks = b.lead.masks := by
  unfold wantCommit
  split
  · exact startCommit_lead
  · exact ⟨rfl, rfl⟩

theorem Block.mayLeave_masks : b.mayLeave.lead.masks = b.lead.masks := by
  unfold mayLeave
  split
  · rfl
  · exact wantCommit_lead.2

theorem Block.mayLeave_nis : b.mayLeave.nis = b.nis :=
  (show Within [.elems, .stws, .gold, .lead] b b.mayLeave by simp) .nis (by decide)

/-- Outside profile 9 there is none to leave. -/
theorem Block.mayLeave_of_profile (h : b.lead.profile ≠ 9) : b.mayLeave = b := by
  simp [mayLeave, h]

end

section
variable {b b' : Block} {c : Cmd}

/-- The region that an NI draws on, and the NIs of a scope, depend on the scopes alone. -/
theorem Block.homeRegion_congr (h : b'.scopes = b.scopes) : b'.homeRegion = b.homeRegion := by
  have hfenced : b'.scFenced = b.scFenced := by
    funext ty id
    rw [scFenced, scFenced, scope, scope, h]
  funext n
  rw [homeRegion, homeRegion, hfenced]

theorem Block.drawers_congr (h : b'.scopes = b.scopes) : b'.drawers = b.drawers := by
  funext g
  rw [drawers, drawers, homeRegion_congr h]

theorem Block.cmdNis_congr (h : b'.scopes = b.scopes) : b'.cmdNis = b.cmdNis := by
  funext ty id
  simp only [cmdNis, drawers_congr h]

/-- The taking of a descriptor changes the rings, and which turn is next. -/
theorem Block.taken_within : Within [.rings, .lead] b (b.taken c) := by
  simp [taken, take, passTurn]

theorem Block.taken_scopes : (b.taken c).scopes = b.scopes := taken_within .scopes (by decide)

theorem Block.taken_gates : (b.taken c).gates = b.gates := taken_within .gates (by decide)

theorem Block.taken_nis : (b.taken c).nis = b.nis := taken_within .nis (by decide)

theorem Block.taken_regions : (b.taken c).regions = b.regions := taken_within .regions (by decide)

theorem Block.taken_immProfile : (b.taken c).immProfile = b.immProfile := by
  rw [immProfile, taken_lead]
  rfl

theorem Block.taken_gate {n : Nat} : (b.taken c).gate n = b.gate n := by rw [gate, gate, taken_gates]

theorem Block.taken_dom {d : Nat} : (b.taken c).dom d = b.dom d := by
  rw [dom, dom, taken_within .doms (by decide)]

theorem Block.taken_ni {n : Nat} : (b.taken c).ni n = b.ni n := by rw [ni, ni, taken_nis]

end

/-! ### PARTITION_SET (06 R192, R194; 13 R368; 16 R433) -/

section
variable {s : State} {c : Cmd} {ns : List Nat}

/-- The partition and the mask of an NI, as far as the flags name them. -/
def Ni.setPartition (c : Cmd) (x : Ni) : Ni :=
  { x with part := if flagOf c 3 then byteOf c 16 else x.part, mask := if flagOf c 4 then byteOf c 17 else x.mask }

theorem Block.setPartition_nis {b : Block} (h : byteOf c 12 = 0) : b.setPartition c =
    (b.cmdNis (scopeTyOf c) (scopeIdOf c)).foldl (fun (b : Block) n => (b.modNi n (Ni.setPartition c)).keepGold [n]) b := by
  unfold setPartition
  exact if_neg (by simp [h])

/-- The mask of one granule is written, and its golden copies. -/
theorem Block.setGranules_gmask {b : Block} {ty id mask : Nat} (h : ty ≠ 7) :
    Within [.stws, .gold, .lead] b (b.setGranules ty id mask) ∧ (b.setGranules ty id mask).gmask (scKey ty id) = mask := by
  refine ⟨by simp [setGranules], ?_⟩
  rw [setGranules, gmask, keepGold_lead]
  simp only [modLead_lead, if_neg h, List.foldl_cons, List.foldl_nil]
  split
  · next hall => rw [SMap.get_erase_self, hall]
  · exact SMap.get_set_self ..

/-- Where partitions are not enforced, what PARTITION_SET says of its completion. -/
theorem partitionSet_completes {P : Block → Prop} (h : Served s.blk c (partitionSetForm c)) (hprofile : partProfile s.blk.immProfile = false)
    (hwithin : Within [.nis, .stws, .gold, .lead] (s.blk.taken c) ((s.blk.taken c).setPartition c))
    (hP : ∀ b', Within [.rings, .vecs, .hostOut] ((s.blk.taken c).setPartition c).mayLeave b' → P b') :
    Completes (.partitionSet c) s (fun b' => CplOf s.blk b' c stOk 0 [] ∧ P b') := by
  refine completes_of_on h.1 (show execPartitionSet c s = s.on (.partitionSet c) _ from rfl) ?_
  have hrun : (partProfile (s.blk.taken c).immProfile && !((s.blk.taken c).setPartition c).layoutOk) = false := by
    rw [Block.taken_immProfile, hprofile, Bool.false_and]
  have hleave : Within [.elems, .nis, .stws, .gold, .lead] (s.blk.taken c) ((s.blk.taken c).setPartition c).mayLeave :=
    (Block.mayLeave_within (by decide)).2 ((Within.iff hwithin (by decide)).2 (.refl _))
  obtain ⟨hcpl, heff, -⟩ := h.done (run := fun b =>
    let b' := b.setPartition c
    if partProfile b.immProfile && !b'.layoutOk then .no stState 0 [] else .done stOk [] b'.mayLeave)
    (by simp only [hrun]; rfl) hleave (by decide)
  exact ⟨hcpl, hP _ heff⟩

theorem partitionSet_nis (hns : ns = s.blk.cmdNis (scopeTyOf c) (scopeIdOf c)) (h : Served s.blk c (partitionSetForm c))
    (hprofile : partProfile s.blk.immProfile = false) (hk : byteOf c 12 = 0) : Completes (.partitionSet c) s (fun b' =>
      CplOf s.blk b' c stOk 0 [] ∧ (s.blk.lead.profile ≠ 9 → b'.lead = (s.blk.passTurn c.ring).lead) ∧ ∀ n ∈ ns,
        (b'.ni n).part = (if flagOf c 3 then byteOf c 16 else (s.blk.ni n).part) ∧
        (b'.ni n).mask = (if flagOf c 4 then byteOf c 17 else (s.blk.ni n).mask)) := by
  have heffect := Block.setPartition_nis (b := s.blk.taken c) hk
  rw [Block.cmdNis_congr Block.taken_scopes, ← hns] at heffect
  have hwithin : Within [.nis, .stws, .gold] (s.blk.taken c) ((s.blk.taken c).setPartition c) := by simp [heffect]
  refine partitionSet_completes h hprofile ((Within.iff hwithin (by decide)).2 (.refl _)) fun b' hb' => ⟨fun h9 => ?_, fun n hn => ?_⟩
  · have hlead : ((s.blk.taken c).setPartition c).lead = (s.blk.taken c).lead := hwithin .lead (by decide)
    have hstays : ((s.blk.taken c).setPartition c).mayLeave = (s.blk.taken c).setPartition c := Block.mayLeave_of_profile (by rw [hlead]; exact h9)
    rw [hb' .lead (by decide), hstays, hlead, Block.taken_lead]
  · have hni : b'.ni n = Ni.setPartition c (s.blk.ni n) := by
      rw [Block.ni, hb' .nis (by decide), Block.mayLeave_nis, ← Block.ni, heffect]
      rw [Block.foldl_modNi_keepGold_ni (hns ▸ Block.nodup_cmdNis) hn, Block.taken_ni]
    rw [hni]
    exact ⟨rfl, rfl⟩

theorem partitionSet_granule (h : Served s.blk c (partitionSetForm c)) (hprofile : partProfile s.blk.immProfile = false)
    (hk : byteOf c 12 = 1) (hty : scopeTyOf c ≠ 7) : Completes (.partitionSet c) s (fun b' => CplOf s.blk b' c stOk 0 [] ∧
      b'.nis = s.blk.nis ∧ b'.gmask (scKey (scopeTyOf c) (scopeIdOf c)) = byteOf c 17) := by
  have heffect : (s.blk.taken c).setPartition c = (s.blk.taken c).setGranules (scopeTyOf c) (scopeIdOf c) (byteOf c 17) := if_pos hk
  obtain ⟨hwithin, hmask⟩ := Block.setGranules_gmask (b := s.blk.taken c) (id := scopeIdOf c) (mask := byteOf c 17) hty
  rw [← heffect] at hwithin hmask
  refine partitionSet_completes h hprofile ((Within.iff hwithin (by decide)).2 (.refl _)) fun b' hb' => ⟨?_, ?_⟩
  · rw [hb' .nis (by decide), Block.mayLeave_nis, hwithin .nis (by decide), Block.taken_nis]
  · rw [Block.gmask, hb' .lead (by decide), Block.mayLeave_masks]
    exact hmask

end

/-! ### REGULATOR_SET (05 R146 to R149; 14 R395; 16 R433, R434) -/

/-- The rate of a tier, current and configured, and whether it is pinned. -/
def Gate.tier (g : Gate) (t : Nat) : Nat × Nat × Bool := (g.rateOf t, g.confOf t, g.pin.get false t)

/-- What a VALUE makes of a tier: nothing, its configured rate unpinned, or the value pinned. -/
def tierAfter (x : Nat × Nat × Bool) (v : Nat) : Nat × Nat × Bool :=
  if v = unchanged then x else if v = 0 then (x.2.1, x.2.1, false) else (v, v, true)

section
variable {g : Gate} {t u v : Nat} {ts : List Nat} {val : Nat → Nat}

theorem Gate.tier_setRate_self : (g.setRate t v).tier t = tierAfter (g.tier t) v := by
  unfold setRate tierAfter
  split
  · rfl
  · split
    · simp [tier, putRate, rateOf, confOf]
    · simp [tier, putRate, rateOf, confOf]

theorem Gate.tier_setRate_ne (h : t ≠ u) : (g.setRate u v).tier t = g.tier t := by
  unfold setRate
  split
  · rfl
  · split
    · simp [tier, putRate, rateOf, confOf, SMap.get_set_ne (h := h)]
    · simp [tier, putRate, rateOf, confOf, SMap.get_set_ne (h := h)]

theorem Gate.tier_foldl_setRate_of_notMem (h : t ∉ ts) : (ts.foldl (fun (g : Gate) u => g.setRate u (val u)) g).tier t = g.tier t := by
  induction ts generalizing g with
  | nil => rfl
  | cons u ts ih =>
    rw [List.mem_cons, not_or] at h
    rw [List.foldl_cons, ih h.2, tier_setRate_ne h.1]

/-- Each tier of a list takes its value. -/
theorem Gate.tier_foldl_setRate_of_mem (hn : ts.Nodup) (h : t ∈ ts) :
    (ts.foldl (fun (g : Gate) u => g.setRate u (val u)) g).tier t = tierAfter (g.tier t) (val t) := by
  induction ts generalizing g with
  | nil => cases h
  | cons u ts ih =>
    obtain ⟨hu, hts⟩ := List.nodup_cons.1 hn
    rw [List.foldl_cons]
    obtain rfl | ht := List.mem_cons.1 h
    · rw [tier_foldl_setRate_of_notMem hu, tier_setRate_self]
    · have hne : t ≠ u := fun he => hu (he ▸ ht)
      rw [ih hts ht, tier_setRate_ne hne]

end

section
variable {s : State} {b b' : Block} {c : Cmd} {ns : List Nat} {g t : Nat}

/-- The rate sums and the budgets of a region read the Tollgates, the regions and the scopes. -/
theorem Block.rateSum_congr (hg : b'.gates = b.gates) (hs : b'.scopes = b.scopes) : b'.rateSum g t = b.rateSum g t := by
  simp only [rateSum, drawers_congr hs, gate, hg]

/-- REGULATOR_SET of the rates changes Tollgates, and their golden copies. -/
theorem Block.regulate_rates (h : flagOf c 4 = false) : b.regulate c = (b.cmdNis (scopeTyOf c) (scopeIdOf c)).foldl (fun (b : Block) n =>
    (b.modGate n (fun g => (List.range 4).foldl (fun (g : Gate) t => g.setRate t (valueOf c t)) g)).keepGold [n]) b := by
  unfold regulate
  exact if_neg (by simp [h])

theorem Block.regulate_within (h : flagOf c 4 = false) : Within [.gates, .stws, .gold] b (b.regulate c) := by
  simp [regulate_rates h]

/-- The rates are the same before and after the turn passes. -/
theorem Block.regulate_taken_gates (h : flagOf c 4 = false) : ((b.taken c).regulate c).gates = (b.regulate c).gates := by
  rw [regulate_rates h, regulate_rates h, foldl_modGate_keepGold_gates, foldl_modGate_keepGold_gates, cmdNis_congr taken_scopes, taken_gates]

theorem Block.sumsRes_congr (hg : b'.gates = b.gates) (hs : b'.scopes = b.scopes) : b'.sumsRes g = b.sumsRes g := by
  simp only [sumsRes, rateSum_congr hg hs]

theorem Block.regulated_taken : (b.taken c).regulated c = b.regulated c := by
  rw [regulated, regulated, homeRegion_congr taken_scopes]

/-- Whether the rates exceed the budget is the same before and after the turn passes. -/
theorem Block.overBudget_taken (h : flagOf c 4 = false) :
    (List.range 4).any (fun t => valueOf c t != unchanged && ((b.taken c).regulate c).budgetOf g t < ((b.taken c).regulate c).rateSum g t) =
      (List.range 4).any (fun t => valueOf c t != unchanged && (b.regulate c).budgetOf g t < (b.regulate c).rateSum g t) := by
  have hwithin := regulate_within (b := b) h
  have hwithin' := regulate_within (b := b.taken c) h
  have hregions : ((b.taken c).regulate c).regions = (b.regulate c).regions :=
    (hwithin' .regions (by decide)).trans (taken_regions.trans (hwithin .regions (by decide)).symm)
  have hscopes : ((b.taken c).regulate c).scopes = (b.regulate c).scopes :=
    (hwithin' .scopes (by decide)).trans (taken_scopes.trans (hwithin .scopes (by decide)).symm)
  have hbudget : ∀ t, ((b.taken c).regulate c).budgetOf g t = (b.regulate c).budgetOf g t := fun t => by
    rw [budgetOf, budgetOf, region, region, hregions]
  simp only [hbudget, rateSum_congr (regulate_taken_gates h) hscopes]

theorem regulatorSet_sets (hns : ns = s.blk.cmdNis (scopeTyOf c) (scopeIdOf c)) (h : Served s.blk c (regulatorSetForm c))
    (hrates : flagOf c 4 = false) (hov : (List.range 4).any (fun t => valueOf c t != unchanged &&
      (s.blk.regulate c).budgetOf (s.blk.regulated c) t < (s.blk.regulate c).rateSum (s.blk.regulated c) t) = false) :
    Completes (.regulatorSet c) s (fun b' => CplOf s.blk b' c stOk 0 (b'.sumsRes (s.blk.regulated c)) ∧
      ∀ n ∈ ns, ∀ t, t < 4 → (b'.gate n).tier t = tierAfter ((s.blk.gate n).tier t) (valueOf c t)) := by
  refine completes_of_on h.1 (show execRegulatorSet c s = s.on (.regulatorSet c) _ from rfl) ?_
  rw [← Block.overBudget_taken hrates] at hov
  obtain ⟨hcpl, heff, -⟩ := h.done (run := fun b =>
    let g := b.regulated c
    let b' := b.regulate c
    if (List.range 4).any (fun t => valueOf c t != unchanged && b'.budgetOf g t < b'.rateSum g t) then .no stBudget 0 (b.sumsRes g)
    else .done stOk (b'.sumsRes g) b')
    (by dsimp only; rw [Block.regulated_taken, hov]; exact if_neg Bool.false_ne_true) (Block.regulate_within hrates) (by decide)
  refine ⟨?_, fun n hn t ht => ?_⟩
  · rw [Block.sumsRes_congr (heff .gates (by decide)) (heff .scopes (by decide))]
    exact hcpl
  · rw [Block.gate, heff .gates (by decide), ← Block.gate, Block.regulate_rates hrates, Block.cmdNis_congr Block.taken_scopes, ← hns,
      Block.foldl_modGate_keepGold_gate (hns ▸ Block.nodup_cmdNis) hn, Block.taken_gate]
    exact Gate.tier_foldl_setRate_of_mem List.nodup_range (List.mem_range.2 ht)

theorem regulatorSet_refuses (h : Served s.blk c (regulatorSetForm c)) (hrates : flagOf c 4 = false)
    (hov : (List.range 4).any (fun t => valueOf c t != unchanged &&
      (s.blk.regulate c).budgetOf (s.blk.regulated c) t < (s.blk.regulate c).rateSum (s.blk.regulated c) t) = true) :
    Completes (.regulatorSet c) s (fun b' => OnlyAnswers s.blk b' ∧ CplOf s.blk b' c stBudget 0 (s.blk.sumsRes (s.blk.regulated c))) := by
  refine completes_of_on h.1 (show execRegulatorSet c s = s.on (.regulatorSet c) _ from rfl) ?_
  rw [← Block.overBudget_taken hrates] at hov
  refine h.no (run := fun b =>
    let g := b.regulated c
    let b' := b.regulate c
    if (List.range 4).any (fun t => valueOf c t != unchanged && b'.budgetOf g t < b'.rateSum g t) then .no stBudget 0 (b.sumsRes g)
    else .done stOk (b'.sumsRes g) b') ?_
  dsimp only
  rw [Block.regulated_taken, if_pos hov, Block.sumsRes_congr Block.taken_gates Block.taken_scopes]

/-- What REGULATOR_SET says of one tier of a Tollgate. -/
theorem Gate.of_tierAfter {g g' : Gate} {v : Nat} (h : g'.tier t = tierAfter (g.tier t) v) :
    (v ≠ unchanged → v ≠ 0 → g'.rateOf t = v ∧ g'.confOf t = v ∧ g'.pin.get false t = true) ∧
    (v = 0 → g'.rateOf t = g.confOf t ∧ g'.pin.get false t = false) ∧
    (v = unchanged → g'.rateOf t = g.rateOf t ∧ g'.confOf t = g.confOf t) := by
  simp only [tier, tierAfter] at h
  refine ⟨fun hu h0 => ?_, fun h0 => ?_, fun hu => ?_⟩
  · rw [if_neg hu, if_neg h0] at h
    simpa using h
  · rw [if_neg (by rw [h0]; decide), if_pos h0] at h
    injection h with hrate hrest
    injection hrest with hconf hpin
    exact ⟨hrate, hpin⟩
  · rw [if_pos hu] at h
    injection h with hrate hrest
    injection hrest with hconf hpin
    exact ⟨hrate, hconf⟩

end

/-! ### GATE_LOAD (05 R151, R152, R160; 16 R433, R434) -/

section
variable {s : State} {b : Block} {c : Cmd} {ns : List Nat}

theorem gateWords_length : (gateWords c).length = fieldOf c 20 2 := by simp [gateWords]

/-- An entry that a list is loaded with reads back. -/
theorem GateList.load_words {l : GateList} {entries guard first i : Nat} {ws : List (BitVec 32)} (hi : i < ws.length) :
    (l.load entries guard first ws).words.find (first + i) = some (ws.getD i 0) := by
  have hmem : (ws.getD i 0, i) ∈ ws.zipIdx := by
    rw [List.mk_mem_zipIdx_iff_getElem?, List.getD_eq_getElem?_getD, List.getElem?_eq_getElem hi]
    rfl
  have hkeys : (ws.zipIdx.map (fun x => first + x.2)).Nodup := by
    rw [show (fun x : BitVec 32 × Nat => first + x.2) = (first + ·) ∘ Prod.snd from rfl, ← List.map_map, List.zipIdx_map_snd]
    exact List.Nodup.map (fun j k hjk => Nat.add_left_cancel hjk) List.nodup_range'
  exact SMap.find_foldl_set_of_mem (key := fun x => first + x.2) (val := (·.1)) hkeys hmem

/-- No activation is pending at the Tollgates of a list. -/
theorem Block.any_pending_eq_false (h : ∀ n ∈ ns, (b.gate n).pending = false) : ns.any (fun n => (b.gate n).pending) = false :=
  List.any_eq_false.2 fun n hn => by simp [h n hn]

theorem gateLoad_loads (hns : ns = s.blk.cmdNis (scopeTyOf c) (scopeIdOf c)) (h : Served s.blk c (gateLoadForm c))
    (hfree : ∀ n ∈ ns, (s.blk.gate n).pending = false) : Completes (.gateLoad c) s (fun b' => CplOf s.blk b' c stOk 0 [] ∧ ∀ n ∈ ns,
      (b'.gate n).active = (s.blk.gate n).active ∧ (b'.gate n).shadow.entries = fieldOf c 16 2 ∧ (b'.gate n).shadow.guard = byteOf c 18 ∧
      ∀ i, i < fieldOf c 20 2 → (b'.gate n).shadow.words.find (byteOf c 19 + i) = some ((gateWords c).getD i 0)) := by
  refine completes_of_on h.1 (show execGateLoad c s = s.on (.gateLoad c) _ from rfl) ?_
  have hnis : (s.blk.taken c).cmdNis (scopeTyOf c) (scopeIdOf c) = ns := by rw [Block.cmdNis_congr Block.taken_scopes, hns]
  have hfree' : ∀ n ∈ ns, ((s.blk.taken c).gate n).pending = false := fun n hn => by rw [Block.taken_gate, hfree n hn]
  obtain ⟨hcpl, heff, -⟩ := h.done (run := fun b =>
    let ns := b.cmdNis (scopeTyOf c) (scopeIdOf c)
    if ns.any (fun m => (b.gate m).pending) then .no stBusy 0 []
    else .done stOk [] (ns.foldl (fun (b : Block) m => (b.modGate m (fun g => { g with
      shadow := g.shadow.load (fieldOf c 16 2) (byteOf c 18) (byteOf c 19) (gateWords c) })).keepGold [m]) b))
    (ps := [.gates, .stws, .gold]) (by dsimp only; rw [hnis, Block.any_pending_eq_false hfree', if_neg Bool.false_ne_true]) (by simp) (by decide)
  refine ⟨hcpl, fun n hn => ?_⟩
  rw [Block.gate, heff .gates (by decide), ← Block.gate, Block.foldl_modGate_keepGold_gate (hns ▸ Block.nodup_cmdNis) hn, Block.taken_gate]
  exact ⟨rfl, rfl, rfl, fun i hi => GateList.load_words (by rwa [gateWords_length])⟩

end

/-! ### GATE_ACTIVATE (05 R161 to R163; 16 R433, R434) -/

section
variable {s : State} {b : Block} {c : Cmd} {ns : List Nat} {base cycle : Nat}

/-- Where the Tollgates of the scope hold valid shadow lists of one cycle and no activation is pending, a GATE_ACTIVATE with a base in the next
second is accepted. -/
theorem Block.gateActivate_go {instant : Nat}
    (hns : ∀ n ∈ ns, (b.gate n).pending = false ∧ (b.gate n).shadow.valid = true ∧ (b.gate n).shadow.cycle = cycle)
    (hcycle : cycle = (b.gate (ns.headD 0)).shadow.cycle) (hbase : base ≤ b.ft 12 + second) (hinstant : instant = switchAt (b.ft 12) base cycle) :
    b.gateActivate ns base = .go instant (if instant = base then 0 else 1) (fun x =>
      (ns.foldl (fun (x : Block) n => (x.modGate n (fun g => { g with pendMsg := some (instant, base) })).keepGold [n]) x).gatesDone) := by
  have hfree := any_pending_eq_false fun n hn => (hns n hn).1
  have hvalid : ns.any (fun n => !(b.gate n).shadow.valid) = false := List.any_eq_false.2 fun n hn => by simp [(hns n hn).2.1]
  have hsame : ns.any (fun n => (b.gate n).shadow.cycle != cycle) = false := List.any_eq_false.2 fun n hn => by simp [(hns n hn).2.2]
  unfold gateActivate
  dsimp only
  rw [← hcycle, hfree, hvalid, hsame, if_neg Bool.false_ne_true, if_neg Bool.false_ne_true, if_neg (Nat.not_lt.2 hbase), if_neg Bool.false_ne_true,
    hinstant]

theorem gateActivate_sends (hns : ns = s.blk.cmdNis (scopeTyOf c) (scopeIdOf c)) (hbase : base = fieldOf c 16 8)
    (hcycle : cycle = (s.blk.gate (ns.headD 0)).shadow.cycle) (h : Served s.blk c gateActivateForm)
    (hgates : ∀ n ∈ ns, (s.blk.gate n).pending = false ∧ (s.blk.gate n).shadow.valid = true ∧ (s.blk.gate n).shadow.cycle = cycle)
    (hsoon : base ≤ s.blk.ft 12 + second) : Completes (.gateActivate c) s (fun b' => ∀ n ∈ ns, (b'.gate n).active = (s.blk.gate n).active ∧
      (b'.gate n).pendMsg = some (switchAt (s.blk.ft 12) base cycle, base)) := by
  refine completes_of_on h.1 (show execGateActivate c s = s.on (.gateActivate c) _ from rfl) ?_
  have hnis : (s.blk.taken c).cmdNis (scopeTyOf c) (scopeIdOf c) = ns := by rw [Block.cmdNis_congr Block.taken_scopes, hns]
  have hft : (s.blk.taken c).ft 12 = s.blk.ft 12 := by
    rw [Block.ft, Block.tb, Block.taken_within .tbs (by decide)]
    rfl
  have hgo := Block.gateActivate_go (b := s.blk.taken c) (ns := ns) (base := base) (cycle := cycle)
    (fun n hn => by rw [Block.taken_gate]; exact hgates n hn) (by rw [Block.taken_gate, hcycle]) (by rw [hft]; exact hsoon)
    (by rw [hft])
  rw [h.go (run := fun b => b.gateActivate (b.cmdNis (scopeTyOf c) (scopeIdOf c)) (fieldOf c 16 8)) (by rw [hnis, ← hbase]; exact hgo)]
  intro n hn
  have hkeep : ∀ x : Block, x.gatesDone.gates = x.gates := fun x =>
    (show Within [.rings, .vecs, .lead, .hostOut] x x.gatesDone by simp) .gates (by decide)
  rw [Block.gate, hkeep, ← Block.gate, Block.foldl_modGate_keepGold_gate (hns ▸ Block.nodup_cmdNis) hn, Block.modLead_gate_of, Block.taken_gate]
  exact ⟨rfl, rfl⟩

end

/-! ### DOMAIN_POWER (10 R293, R307; 16 R435, R436) -/

section
variable {s : State} {b : Block} {c : Cmd} {d t : Nat}

/-- A domain that is On, ordered down without FORCE, prepares to leave; the commands in flight stand. -/
theorem Block.powerStart_prepares (htarget : (b.dom d).target = some t) (ht : t = 4 ∨ t = 7) (hst : (b.dom d).st = 0)
    (hactive : b.domActive d = true) (hforce : b.powerForced d = false) :
    (b.powerStart d).dom d = { b.dom d with st := 8, since := b.now, excl := false } ∧
      (b.powerStart d).lead.flights = b.lead.flights := by
  have hdoms : ∀ x : Block, (x.wantCommit 7 none).doms = x.doms := fun x =>
    (show Within [.elems, .stws, .gold, .lead] x (x.wantCommit 7 none) by simp) .doms (by decide)
  have hdom := modDom_dom (b := b) d (fun x => { x with st := 8, since := b.now, excl := false })
  unfold powerStart
  rw [htarget]
  dsimp only
  rw [hst, hactive, if_neg (by decide), if_neg (by omega), if_neg (by omega), if_neg (by decide), if_neg (by decide)]
  split
  · rw [dom, hdoms, ← dom]
    exact ⟨hdom, wantCommit_lead.1⟩
  · rw [if_neg (by simpa [powerForced] using hforce)]
    exact ⟨hdom, rfl⟩

theorem Block.atTurn_powerBarred {rs : SMap Ring} {k : Nat} : (b.atTurn rs k).powerBarred = b.powerBarred := rfl

theorem Block.atTurn_powerCuts {rs : SMap Ring} {k : Nat} : (b.atTurn rs k).powerCuts = b.powerCuts := rfl

/-- What nothing bars is outside every repair. -/
theorem Block.domActive_of_powerBarred (h : b.powerBarred d = false) : b.domActive d = true := by
  simp only [powerBarred, powerHeld, Bool.or_eq_false_iff, Bool.not_eq_false'] at h
  obtain ⟨⟨hactive, -⟩, -⟩ := h
  exact hactive

/-- A DOMAIN_POWER to Retention or Off that nothing bars is accepted. -/
theorem Block.domainPower_go (hd : d = scopeIdOf c) (ht : byteOf c 12 = 1 ∨ byteOf c 12 = 2) (hbar : b.powerBarred d = false)
    (hport : byteOf c 12 = 2 → d < 200 ∨ 208 ≤ d) (hforce : flagOf c 0 = false) (hcuts : b.powerCuts d (flagOf c 1) = false)
    (hflights : ∀ f ∈ b.lead.flights, ¬(f.opc = 0x0D ∧ f.scId = d)) (hst : (b.dom d).st = 0) :
    b.domainPower c = .go (targetCode (byteOf c 12)) 0 (fun b =>
      (b.modDom d (fun x => { x with target := some (targetCode (byteOf c 12)) })).powerStart d) := by
  have hnone : b.lead.flights.any (fun f => f.opc == 0x0D && f.scId == d) = false :=
    List.any_eq_false.2 fun f hf => by simpa using hflights f hf
  have hcode : (0 : Nat) ≠ targetCode (byteOf c 12) := by
    obtain ht | ht := ht <;> simp [targetCode, ht]
  have hport' : ¬ (byteOf c 12 = 2 && 200 ≤ d && d < 208 && !((b.port (d - 200)).st ∈ [0, 6, 8])) = true := by
    simp only [Bool.and_eq_true, decide_eq_true_eq]
    rintro ⟨⟨⟨hoff, hlo⟩, hhi⟩, -⟩
    have hrange := hport hoff
    omega
  unfold domainPower
  dsimp only
  rw [← hd, if_neg (by omega), hbar, if_neg Bool.false_ne_true, if_neg hport', hcuts, if_neg (by simp), hnone, if_neg Bool.false_ne_true, hst,
    if_neg (by simp [hcode]), hforce, if_neg Bool.false_ne_true]

theorem domainPower_prepares (hd : d = scopeIdOf c) (h : Served s.blk c (domainPowerForm c)) (ht : byteOf c 12 = 1 ∨ byteOf c 12 = 2)
    (hbar : s.blk.powerBarred d = false) (hport : byteOf c 12 = 2 → d < 200 ∨ 208 ≤ d) (hforce : flagOf c 0 = false)
    (hcuts : s.blk.powerCuts d (flagOf c 1) = false) (hflights : ∀ f ∈ s.blk.lead.flights, ¬(f.opc = 0x0D ∧ f.scId = d))
    (hst : (s.blk.dom d).st = 0) : Completes (.domainPower c) s (fun b' => (b'.dom d).st = 8 ∧
      (b'.dom d).target = some (targetCode (byteOf c 12)) ∧ (b'.dom d).since = s.blk.now ∧ Taken s.blk b' c (targetCode (byteOf c 12)) 0) := by
  refine completes_of_on h.1 (show execDomainPower c s = s.on (.domainPower c) _ from rfl) ?_
  have hbar' : (s.blk.taken c).powerBarred d = false := by rw [Block.taken_eq_atTurn, Block.atTurn_powerBarred, hbar]
  have hgo := Block.domainPower_go (b := s.blk.taken c) hd ht hbar' hport hforce
    (by rw [Block.taken_eq_atTurn, Block.atTurn_powerCuts, hcuts]) (by rw [Block.taken_lead]; exact hflights) (by rw [Block.taken_dom, hst])
  rw [h.go (run := fun b => b.domainPower c) hgo]
  generalize hx : (s.blk.taken c).modLead _ = x
  have hflight : x.lead.flights = s.blk.lead.flights ++ [s.blk.flightOf c ((s.blk.ring c.ring).cons % 65536) (targetCode (byteOf c 12)) 0] := by
    rw [← hx, Block.modLead_lead, Block.taken_lead]
    rfl
  have hdom : x.dom d = s.blk.dom d := by rw [← hx, Block.modLead_dom_of, Block.taken_dom]
  have hnow : x.now = s.blk.now := by rw [← hx, Block.modLead_now, Block.taken_within .now (by decide)]
  have hactive : x.domActive d = true := by
    rw [← hx]
    exact Block.domActive_of_powerBarred hbar'
  have hsoft : x.powerForced d = false := by
    rw [Block.powerForced, hflight, List.any_append, Bool.or_eq_false_iff]
    refine ⟨List.any_eq_false.2 fun f hf => ?_, by simp [Block.flightOf]⟩
    simp only [Bool.and_eq_true, beq_iff_eq]
    exact fun ⟨hsame, _⟩ => hflights f hf hsame
  obtain ⟨hleaves, hstand⟩ := Block.powerStart_prepares (b := x.modDom d (fun y => { y with target := some (targetCode (byteOf c 12)) }))
    (d := d) (t := targetCode (byteOf c 12)) (by rw [Block.modDom_dom])
    (by obtain ht | ht := ht <;> simp [targetCode, ht]) (by rw [Block.modDom_dom, hdom]; exact hst) hactive hsoft
  rw [hleaves, Block.modDom_dom]
  refine ⟨rfl, rfl, hnow, ?_⟩
  rw [Taken, hstand, Block.modDom_lead, hflight]
  exact List.mem_append_right _ List.mem_cons_self

end

/-! ### IDLE_TIMER_SET (10 R293; 16 R435) -/

section
variable {s : State} {c : Cmd}

theorem nodup_timerDoms {ty id : Nat} : (timerDoms ty id).Nodup := List.nodup_range.filter _

theorem idleTimerSet_sets (h : Served s.blk c (idleTimerSetForm c)) : Completes (.idleTimerSet c) s (fun b' => CplOf s.blk b' c stOk 0 [] ∧
    ∀ d ∈ timerDoms (scopeTyOf c) (scopeIdOf c), (b'.dom d).timer = (if fieldOf c 16 4 = unchanged then none else some (fieldOf c 16 4))) := by
  refine completes_of_on h.1 (show execIdleTimerSet c s = s.on (.idleTimerSet c) _ from rfl) ?_
  obtain ⟨hcpl, heff, -⟩ := h.done (run := fun b => .done stOk [] ((timerDoms (scopeTyOf c) (scopeIdOf c)).foldl (fun (b : Block) d =>
    b.modDom d (fun x => { x with timer := if fieldOf c 16 4 = unchanged then none else some (fieldOf c 16 4) })) b))
    (ps := [.doms]) rfl (by simp) (by decide)
  refine ⟨hcpl, fun d hd => ?_⟩
  rw [Block.dom, heff .doms (by decide), ← Block.dom, Block.foldl_modDom_dom nodup_timerDoms hd]

end

/-- Settles O44: each of the six commands is served as its own lemma says. -/
theorem serviceCommands : Obligations.ServiceCommands := by
  unfold Obligations.ServiceCommands
  intro s c ns hns
  refine ⟨fun h hprofile => ⟨partitionSet_nis hns h hprofile, partitionSet_granule h hprofile⟩, ?_, gateLoad_loads hns,
    fun base cycle hbase hcycle => gateActivate_sends hns hbase hcycle, fun d hd => domainPower_prepares hd, idleTimerSet_sets⟩
  rintro ov rfl h hrates
  refine ⟨fun hov => ?_, regulatorSet_refuses h hrates⟩
  obtain ⟨b', hstep, hpending, hcpl, htiers⟩ := regulatorSet_sets hns h hrates hov
  exact ⟨b', hstep, hpending, hcpl, fun n hn t ht => Gate.of_tierAfter (htiers n hn t ht)⟩

end Sys2Proof.Machine
end

section
/-! PROOFS. The Fords (spec/07 R226 to R228): what a Ford hands on when its far clock returns. -/

namespace Sys2Proof.Machine

open Block (Within)

section
variable {b : Block} {f : FordId} {n : Nat}

@[simp] theorem Block.modFord_ford {g : Ford → Ford} : (b.modFord f g).ford f = g (b.ford f) := by
  simp [modFord, ford]

/-- A Ford at which no reset notice runs sees none. -/
theorem Block.fordSee_of_quietReset (h : (b.ford f).quietReset = true) : b.fordSee f = b := by
  simp only [Ford.quietReset, Bool.and_eq_true, Bool.not_eq_true'] at h
  obtain ⟨⟨⟨hreq, -⟩, hreqF⟩, -⟩ := h
  simp [fordSee, hreq, hreqF]

/-- Of what a unit-port Ford lists, its resumption takes the packets for the unit, and no request. -/
theorem Block.fordResume_unitPort_ford :
    (b.fordResume (.unitPort n)).ford (.unitPort n) = { b.ford (.unitPort n) with down := [], recs := [] } := by
  have hfords : (b.fordResume (.unitPort n)).fords = (b.modFord (.unitPort n) (fun x => { x with down := [], recs := [] })).fords :=
    (show Within [.nis, .doms] (b.modFord (.unitPort n) _) (b.fordResume (.unitPort n)) by simp [fordResume]) .fords (by decide)
  rw [ford, hfords, ← ford, modFord_ford]

end

/-- The unit behind NI 131 has lost its clock, and its Ford lists a request, as a steward's Ford does. -/
def requestAtUnitPort : State := ⟨{ fords := [(131, { stopped := true, reqs := [0] })] }, []⟩

/-- Refutes O17: the statement has every Ford whose clock returns list no requests, on every state. A steward's Ford alone hands its requests
on (07 R226, R228); what another Ford lists of them, which no command has it do, stays. -/
theorem not_fords : ¬ Obligations.Fords := by
  rintro ⟨-, hClocks⟩
  obtain ⟨-, -, -, hReturn, -⟩ := hClocks requestAtUnitPort (.unitPort 131) (by decide)
  obtain ⟨hFord, -⟩ := (hReturn rfl rfl rfl).effect (by decide)
    (show execFordClockReturn (.unitPort 131) requestAtUnitPort = requestAtUnitPort.on (.fordClockReturn (.unitPort 131)) _ from rfl)
  have hReqs := congrArg Ford.reqs hFord
  rw [if_neg (by decide), Block.fordSee_of_quietReset (by rw [Block.fordResume_unitPort_ford]; rfl), Block.fordResume_unitPort_ford] at hReqs
  exact absurd hReqs (by decide)

end Sys2Proof.Machine
end

section
/-! PROOFS. The ring commands for repair, Pass service, calibration and locks (spec/06 R200; 09 R282, R283; 12 R345, R346, R350, R351, R356, R360;
16 R435 to R439). -/

namespace Sys2Proof.Machine

open Block (Within)

/-! ### A descriptor that is accepted (15 R405, R406) -/

section
variable {b b' : Block} {c : Cmd} {f : Form} {run : Block → Verdict} {ty id k x y : Nat}

/-- The block in which the effect of an accepted descriptor begins: the command is in flight with its two arguments. -/
def Block.accepted (b : Block) (c : Cmd) (x y : Nat) : Block :=
  (b.taken c).modLead (fun l => { l with flights := l.flights ++ [b.flightOf c ((b.ring c.ring).cons % 65536) x y] })

theorem Block.Within.scope {ps : List Part} (h : Within ps b b') (hs : .scopes ∉ ps) : b'.scope ty id = b.scope ty id := by
  rw [Block.scope, Block.scope, h .scopes hs]

theorem Block.Within.port {ps : List Part} (h : Within ps b b') (hs : .ports ∉ ps) : b'.port k = b.port k := by
  rw [Block.port, Block.port, h .ports hs]

theorem Served.go_accepted {eff : Block → Block} (h : Served b c f) (hrun : run (b.taken c) = .go x y eff) :
    b.serve c f run = eff (b.accepted c x y) := h.go hrun

/-- A ring command whose descriptor completes at once: what holds of every block that has the completion, and the command's effect, is what
the command completes with. -/
theorem Served.completes_done {s : State} {i : Instr} {P : Block → Prop} {ps : List Part} {z : Block} {st : Nat} {res : List (Nat × Nat × Nat)}
    (h : Served s.blk c f) (hw : i.WellFormed = true) (he : exec i s = s.on i (fun b => b.serve c f run))
    (hrun : run (s.blk.taken c) = .done st res z) (hz : Within ps (s.blk.taken c) z) (hps : .rings ∉ ps ∧ .tbs ∉ ps)
    (hP : ∀ b', CplOf s.blk b' c st 0 res → Within [.rings, .vecs, .hostOut] z b' → P b') : Completes i s P := by
  obtain ⟨hcpl, heff, -⟩ := h.done hrun hz hps
  exact completes_of_on hw he (hP _ hcpl heff)

/-- A descriptor that completes at once without an effect has its completion, and nothing else changes. -/
theorem Served.done_unchanged {st : Nat} {res : List (Nat × Nat × Nat)} (h : Served b c f) (hrun : run (b.taken c) = .done st res (b.taken c)) :
    CplOf b (b.serve c f run) c st 0 res ∧ OnlyAnswers b (b.serve c f run) := by
  obtain ⟨hcpl, -, -⟩ := h.done hrun (ps := []) (.refl _) (by decide)
  refine ⟨hcpl, ?_⟩
  obtain ⟨rs, vs, ho, hanswers⟩ := Block.complete_answers (x := b.taken c) (c := c) (i := (b.ring c.ring).cons % 65536) (st := st) (fd := 0)
    (res := res)
  rw [h.serve_eq, hrun, Block.carryOut, hanswers, Block.taken_eq_atTurn]
  exact rfl

/-- A command that is accepted stays in flight where its effect leaves the commands in flight as they are. -/
theorem Block.accepted_taken (h : b'.lead.flights = (b.accepted c x y).lead.flights) : Taken b b' c x y := by
  rw [Taken, h]
  exact List.mem_append_right _ List.mem_cons_self

theorem Block.accepted_within : Within [.rings, .lead] b (b.accepted c x y) := by
  simp [accepted, taken, take, passTurn]

theorem Block.accepted_now : (b.accepted c x y).now = b.now := accepted_within .now (by decide)

theorem Block.accepted_scope : (b.accepted c x y).scope ty id = b.scope ty id :=
  accepted_within.scope (by decide)

theorem Block.accepted_admitting : (b.accepted c x y).admitting = b.admitting := by
  rw [admitting, accepted_within .scopes (by decide), ← admitting]

theorem Block.accepted_bootRom : (b.accepted c x y).lead.bootRom = b.lead.bootRom := rfl

theorem Block.taken_flights : (b.taken c).lead.flights = b.lead.flights := rfl

theorem Block.taken_scope : (b.taken c).scope ty id = b.scope ty id := taken_within.scope (by decide)

theorem Block.taken_port : (b.taken c).port k = b.port k := taken_within.port (by decide)

/-! The rings and the turn are not among what a repair command is judged by. -/

theorem Block.taken_nestedRepair : (b.taken c).nestedRepair = b.nestedRepair := by
  rw [taken_eq_atTurn]
  rfl

theorem Block.taken_inRepair : (b.taken c).inRepair = b.inRepair := by
  rw [taken_eq_atTurn]
  rfl

theorem Block.taken_barred : (b.taken c).barred = b.barred := by
  rw [taken_eq_atTurn]
  rfl

theorem Block.taken_noPath : (b.taken c).noPath = b.noPath := by
  rw [taken_eq_atTurn]
  rfl

theorem Block.taken_serviceOk : (b.taken c).serviceOk = b.serviceOk := by
  rw [taken_eq_atTurn]
  rfl

/-- A scope that is not in repair is ACTIVE. -/
theorem Block.st_of_inRepair (h : b.inRepair ty id = false) : (b.scope ty id).st = 0 := by
  simp only [inRepair, Bool.or_eq_false_iff, bne_eq_false_iff_eq] at h
  obtain ⟨⟨⟨hst, -⟩, -⟩, -⟩ := h
  exact hst

/-- Under the boot ROM no command is accepted but NOP, QUERY and FW_LOAD (14 R389). -/
theorem Served.not_bootRom (h : Served b c f) (hop : 4 < f.op) : b.lead.bootRom = false := by
  obtain ⟨-, -, -, -, -, hrefusal, -⟩ := h
  rw [Block.refusal] at hrefusal
  split at hrefusal
  · cases hrefusal
  · by_contra hboot
    rw [Block.turnedAway] at hrefusal
    split at hrefusal
    · cases hrefusal
    · rw [if_pos (by simp [hboot]; omega)] at hrefusal
      cases hrefusal

end

/-! ### A scope leaves ACTIVE: SCOPE_FENCE, DOMAIN_RESET and SELFTEST (12 R345, R346, R351, R356; 16 R435) -/

section
variable {s : State} {b : Block} {c : Cmd} {f : Form} {run : Block → Verdict} {ty id : Nat} {force offlined hold test : Bool}

theorem Block.enterDegraded_flights : b.enterDegraded.lead.flights = b.lead.flights := by
  have hscale : ∀ x : Block, x.scaleAll.lead = x.lead := fun x =>
    (show Within [.gates, .regions, .stws, .gold] x x.scaleAll by simp) .lead (by decide)
  rw [enterDegraded, hscale]
  split <;> rfl

theorem Block.wantCommit_scope {why : Nat} {sc : Option Nat} : (b.wantCommit why sc).scope ty id = b.scope ty id :=
  (show Within [.elems, .stws, .gold, .lead] b (b.wantCommit why sc) by simp).scope (by decide)

/-- While the routes close, a scope is changed in nothing but the mark of what counts for profile 9. -/
theorem Block.closeRoutes_scope : ∃ degr, (b.closeRoutes ty id).scope ty id = { b.scope ty id with degr := degr } := by
  have hdegraded : ∀ x : Block, x.enterDegraded.scope ty id = x.scope ty id := fun x =>
    (show Within [.gates, .regions, .stws, .gold, .lead] x x.enterDegraded by simp).scope (by decide)
  rw [closeRoutes, wantCommit_scope]
  split
  · exact ⟨true, by rw [hdegraded, modScope_scope]⟩
  · exact ⟨(b.scope ty id).degr, rfl⟩

theorem Block.closeRoutes_flights : (b.closeRoutes ty id).lead.flights = b.lead.flights := by
  rw [closeRoutes, wantCommit_lead.1]
  split
  · rw [enterDegraded_flights, modScope_lead]
  · rfl

/-- What a repair that is accepted writes of its scope. -/
def Scope.closing (sc : Scope) (force offlined hold test : Bool) : Scope :=
  { sc with force := force, offlined := offlined, hold := hold, selfTest := test, kind := 0, passed := 0, discarded := 0, widened := false }

/-- A repair that is accepted notes its flags at the scope; then the routes close, or, for a plane, the other packages are told (12 R355). -/
theorem Block.closeScope_cases {b1 : Block} (h1 : b1 = b.modScope ty id (fun sc => sc.closing force offlined hold test)) :
    b.closeScope ty id force offlined hold test = b1.closeRoutes ty id ∨
    Within [.farOut, .lead] b1 (b.closeScope ty id force offlined hold test) ∧
      (b.closeScope ty id force offlined hold test).lead.flights = b1.lead.flights := by
  subst h1
  unfold closeScope
  extract_lets b1 pkgs b2
  have hnotices : Within [.farOut] b1 b2 := by simp [b2]
  split
  · refine .inr ⟨(modLead_within (by decide)).2 ((Within.iff hnotices (by decide)).2 (.refl _)), ?_⟩
    have hlead : b2.lead = b1.lead := hnotices .lead (by decide)
    show b2.lead.flights = b1.lead.flights
    rw [hlead]
  · exact .inl rfl

theorem Block.closeScope_scope : ∃ degr, (b.closeScope ty id force offlined hold test).scope ty id =
    { (b.scope ty id).closing force offlined hold test with degr := degr } := by
  have hclosing := modScope_scope b ty id (fun sc => sc.closing force offlined hold test)
  obtain hroutes | ⟨hnotices, -⟩ := closeScope_cases (b := b) (ty := ty) (id := id) (force := force) (offlined := offlined) (hold := hold)
    (test := test) rfl
  · obtain ⟨degr, hscope⟩ := closeRoutes_scope (b := b.modScope ty id (fun sc => sc.closing force offlined hold test)) (ty := ty) (id := id)
    exact ⟨degr, by rw [hroutes, hscope, hclosing]⟩
  · exact ⟨((b.scope ty id).closing force offlined hold test).degr, by rw [hnotices.scope (by decide), hclosing]⟩

theorem Block.closeScope_flights : (b.closeScope ty id force offlined hold test).lead.flights = b.lead.flights := by
  obtain hroutes | ⟨-, hflights⟩ := closeScope_cases (b := b) (ty := ty) (id := id) (force := force) (offlined := offlined) (hold := hold)
    (test := test) rfl
  · rw [hroutes, closeRoutes_flights, modScope_lead]
  · rw [hflights, modScope_lead]

/-- A scope that nothing bars, and that has an alternate path or is forced, leaves ACTIVE with the flags of its command. -/
theorem Served.leaves (h : Served b c f) (hty : ty = scopeTyOf c) (hid : id = scopeIdOf c) (hbarred : b.barred ty id = false)
    (hpath : flagOf c 0 = true ∨ b.noPath ty id (flagOf c 1) = false) (hrun : run (b.taken c) = (b.taken c).leave c hold test) :
    Taken b (b.serve c f run) c 0 0 ∧ ((b.serve c f run).scope ty id).hold = hold ∧ ((b.serve c f run).scope ty id).force = flagOf c 0 ∧
      ((b.serve c f run).scope ty id).offlined = flagOf c 1 ∧ ((b.serve c f run).scope ty id).selfTest = test := by
  have hopen : ¬ (!flagOf c 0 && b.noPath ty id (flagOf c 1)) = true := by
    obtain hforce | hpath := hpath
    · simp [hforce]
    · simp [hpath]
  rw [Block.leave, ← hty, ← hid, Block.taken_barred, Block.taken_noPath, if_neg (by simp [hbarred]), if_neg hopen] at hrun
  rw [h.go_accepted hrun]
  obtain ⟨degr, hscope⟩ := Block.closeScope_scope (b := b.accepted c 0 0) (ty := ty) (id := id) (force := flagOf c 0) (offlined := flagOf c 1)
    (hold := hold) (test := test)
  rw [Block.modScope_scope, hscope]
  exact ⟨Block.accepted_taken Block.closeScope_flights, rfl, rfl, rfl, rfl⟩

end

section
variable {s : State} {c : Cmd} {ty id : Nat} (hty : ty = scopeTyOf c) (hid : id = scopeIdOf c) (hnested : s.blk.nestedRepair ty id = false)
  (hrepair : s.blk.inRepair ty id = false) (hbarred : s.blk.barred ty id = false)
  (hpath : flagOf c 0 = true ∨ s.blk.noPath ty id (flagOf c 1) = false)
include hty hid hnested hrepair hbarred hpath

theorem scopeFence_leaves (h : Served s.blk c scopeFenceForm) : Completes (.scopeFence c) s (fun b' => Taken s.blk b' c 0 0 ∧
    (b'.scope ty id).hold = true ∧ (b'.scope ty id).force = flagOf c 0 ∧ (b'.scope ty id).offlined = flagOf c 1 ∧
    (b'.scope ty id).selfTest = false) := by
  refine completes_of_on h.1 (show execScopeFence c s = s.on (.scopeFence c) _ from rfl) (h.leaves hty hid hbarred hpath ?_)
  unfold Block.scopeFence
  dsimp only
  rw [← hty, ← hid, Block.taken_scope, Block.st_of_inRepair hrepair, Block.taken_nestedRepair, Block.taken_inRepair, hnested, hrepair]
  rfl

theorem domainReset_leaves (h : Served s.blk c domainResetForm) : Completes (.domainReset c) s (fun b' => Taken s.blk b' c 0 0 ∧
    (b'.scope ty id).hold = flagOf c 2 ∧ (b'.scope ty id).force = flagOf c 0 ∧ (b'.scope ty id).offlined = flagOf c 1 ∧
    (b'.scope ty id).selfTest = false) := by
  refine completes_of_on h.1 (show execDomainReset c s = s.on (.domainReset c) _ from rfl) (h.leaves hty hid hbarred hpath ?_)
  unfold Block.domainReset
  dsimp only
  rw [← hty, ← hid, Block.taken_scope, Block.st_of_inRepair hrepair, Block.taken_nestedRepair, Block.taken_inRepair, hnested, hrepair]
  rfl

theorem selftest_leaves (h : Served s.blk c (selftestForm c)) (hmargin : flagOf c 3 = false) : Completes (.selftest c) s (fun b' =>
    Taken s.blk b' c 0 0 ∧ (b'.scope ty id).hold = flagOf c 2 ∧ (b'.scope ty id).force = flagOf c 0 ∧ (b'.scope ty id).selfTest = true) := by
  refine completes_of_on h.1 (show execSelftest c s = s.on (.selftest c) _ from rfl) ?_
  obtain ⟨htaken, hhold, hforce, -, htest⟩ := h.leaves hty hid hbarred hpath (hold := flagOf c 2) (test := true) (run := fun b =>
    if flagOf c 3 && b.effProfile != 11 then .no stState 0 (b.repairRes (scopeTyOf c) (scopeIdOf c))
    else if b.nestedRepair (scopeTyOf c) (scopeIdOf c) || b.inRepair (scopeTyOf c) (scopeIdOf c) then
      .no stBusy 0 (b.repairRes (scopeTyOf c) (scopeIdOf c))
    else b.leave c (flagOf c 2) true) (by
      rw [← hty, ← hid, hmargin, Block.taken_nestedRepair, Block.taken_inRepair, hnested, hrepair]
      rfl)
  exact ⟨htaken, hhold, hforce, htest⟩

end

/-! ### SCOPE_READMIT (12 R345, R350; 16 R435) -/

section
variable {s : State} {b : Block} {c : Cmd} {ty id : Nat}

/-- A swept scope that a SCOPE_READMIT in flight names starts its reset. -/
theorem Block.startReset_of_named {f : Flight} (hst : (b.scope ty id).st = 3) (hswept : (b.scope ty id).swept = true) (hty : ty ≠ 5)
    (hboot : b.lead.bootRom = false) (hf : f ∈ b.lead.flights) (hopc : f.opc = 0x11) (hscTy : f.scTy = ty) (hscId : f.scId = id) :
    b.startReset ty id = b.modScope ty id (fun sc => { sc with st := 4, since := b.now }) := by
  have hnamed : b.lead.flights.any (fun f => (f.opc == 0x0F || f.opc == 0x11 || f.opc == 0x14) && f.scTy == ty && f.scId == id) = true :=
    List.any_eq_true.2 ⟨f, hf, by simp [hopc, hscTy, hscId]⟩
  unfold startReset
  exact if_pos (by simp [hnamed, hst, hswept, hty, hboot])

/-- A scope that is READY is admitted: routes with it are wanted, and the commands in flight stand. -/
theorem Block.startAdmit_admits : (b.startAdmit ty id).scope ty id = { b.scope ty id with st := 7, since := b.now } ∧
    (b.startAdmit ty id).lead.flights = b.lead.flights := by
  unfold startAdmit
  rw [wantCommit_scope, modScope_scope, wantCommit_lead.1, modScope_lead]
  exact ⟨rfl, rfl⟩

/-- What stands in a table after a write stood there before, or is what was written. -/
theorem SMap.mem_set {α : Type} {m : SMap α} {k : Nat} {v : α} {e : Nat × α} (h : e ∈ m.set k v) : e ∈ m ∨ e = (k, v) := by
  induction m with
  | nil => exact .inr (List.mem_singleton.1 h)
  | cons x m ih =>
    obtain ⟨j, w⟩ := x
    rw [SMap.set] at h
    split at h
    · obtain rfl | h := List.mem_cons.1 h
      · exact .inr rfl
      · exact .inl (List.mem_cons_of_mem _ h)
    · split at h
      · obtain rfl | h := List.mem_cons.1 h
        · exact .inr rfl
        · exact .inl h
      · obtain rfl | h := List.mem_cons.1 h
        · exact .inl List.mem_cons_self
        · exact (ih h).imp_left (List.mem_cons_of_mem _)

/-- A change of a scope that is not in ADMITTING afterwards starts no admission. -/
theorem Block.admitting_modScope {g : Scope → Scope} (hg : (g (b.scope ty id)).st ≠ 7) (h : b.admitting = false) :
    (b.modScope ty id g).admitting = false := by
  refine List.any_eq_false.2 fun e he => ?_
  obtain he | rfl := SMap.mem_set he
  · exact List.any_eq_false.1 h e he
  · simpa [scope] using hg

end

section
variable {s : State} {c : Cmd} {ty id : Nat} {sc : Scope} (hty : ty = scopeTyOf c) (hid : id = scopeIdOf c) (hsc : sc = s.blk.scope ty id)
  (h : Served s.blk c scopeReadmitForm) (hnested : s.blk.nestedRepair ty id = false)
include hty hid hsc h hnested

theorem scopeReadmit_resets (hst : sc.st = 3) (hheld : sc.hold = true ∨ sc.retired = true) (hswept : sc.swept = true) (hport : ty ≠ 5) :
    Completes (.scopeReadmit c) s (fun b' => Taken s.blk b' c 0 0 ∧
      b'.scope ty id = { sc with st := 4, hold := false, retired := false, since := s.blk.now }) := by
  refine completes_of_on h.1 (show execScopeReadmit c s = s.on (.scopeReadmit c) _ from rfl) ?_
  have hheld' : ((s.blk.taken c).scope ty id).st = 3 ∧
      (((s.blk.taken c).scope ty id).hold = true ∨ ((s.blk.taken c).scope ty id).retired = true) := by
    rw [Block.taken_scope, ← hsc]
    exact ⟨hst, hheld⟩
  rw [← hty, ← hid, h.go_accepted (x := 0) (y := 0) (eff := fun b => b.restart ty id false) (by
    unfold Block.scopeReadmit
    dsimp only
    rw [Block.taken_nestedRepair, hnested, if_neg Bool.false_ne_true, if_pos (by simpa using hheld')])]
  have hflight : s.blk.flightOf c ((s.blk.ring c.ring).cons % 65536) 0 0 ∈ (s.blk.accepted c 0 0).lead.flights := Block.accepted_taken rfl
  have hboot : s.blk.lead.bootRom = false := h.not_bootRom (by decide)
  obtain ⟨-, -, hop, -⟩ := h
  have hreset := Block.startReset_of_named (b := (s.blk.accepted c 0 0).modScope ty id (fun sc => { sc with hold := false, retired := false }))
    (by rw [Block.modScope_scope, Block.accepted_scope, ← hsc, hst]) (by rw [Block.modScope_scope, Block.accepted_scope, ← hsc, hswept]) hport
    (by rw [Block.modScope_lead, Block.accepted_bootRom, hboot]) hflight hop hty.symm hid.symm
  rw [Block.restart, hreset]
  refine ⟨Block.accepted_taken rfl, ?_⟩
  rw [Block.modScope_scope, Block.modScope_scope, Block.modScope_now, Block.accepted_scope, Block.accepted_now, ← hsc]

theorem scopeReadmit_admits (hst : sc.st = 6) (hfree : s.blk.admitting = false) : Completes (.scopeReadmit c) s (fun b' =>
    Taken s.blk b' c 0 0 ∧ b'.scope ty id = { sc with st := 7, hold := false, since := s.blk.now }) := by
  refine completes_of_on h.1 (show execScopeReadmit c s = s.on (.scopeReadmit c) _ from rfl) ?_
  have hst' : ((s.blk.taken c).scope ty id).st = 6 := by rw [Block.taken_scope, ← hsc, hst]
  rw [← hty, ← hid, h.go_accepted (x := 0) (y := 0) (eff := fun b =>
      let b := b.modScope ty id (fun sc => { sc with hold := false })
      if b.admitting then b else b.startAdmit ty id) (by
    unfold Block.scopeReadmit
    dsimp only
    rw [hst', Block.taken_nestedRepair, hnested]
    rfl)]
  dsimp only
  rw [Block.admitting_modScope (by rw [Block.accepted_scope, ← hsc, hst]; decide) (by rw [Block.accepted_admitting, hfree]),
    if_neg Bool.false_ne_true]
  obtain ⟨hadmit, hflights⟩ := Block.startAdmit_admits (b := (s.blk.accepted c 0 0).modScope ty id (fun sc => { sc with hold := false }))
    (ty := ty) (id := id)
  refine ⟨Block.accepted_taken (by rw [hflights, Block.modScope_lead]), ?_⟩
  rw [hadmit, Block.modScope_scope, Block.modScope_now, Block.accepted_scope, Block.accepted_now, ← hsc]

end

/-! ### LINK_SERVICE and LINK_RETURN (09 R282, R283; 16 R438, R439) -/

section
variable {b : Block} {k why : Nat} {byCmd : Bool} {scope : Option Nat}

/-- A commit that the stewards want writes the facts, the image load and the commit of the lead, and what waits for them. -/
theorem Block.wantCommit_lead_eq : ∃ f0 f1 ld cm cq sl, (b.wantCommit why scope).lead =
    { b.lead with facts0 := f0, facts1 := f1, load := ld, commit := cm, commitQ := cq, sleepers := sl } := by
  have hfacts : ∀ (b : Block) (ep : Bool) (f : Facts), ∃ f0 f1, (b.setFacts ep f).lead = { b.lead with facts0 := f0, facts1 := f1 } :=
    fun b ep f => by cases ep <;> exact ⟨_, _, rfl⟩
  have hload : ∀ b : Block, ∃ ld, b.loadOthers.lead = { b.lead with load := ld } := fun b => by
    unfold loadOthers
    dsimp only
    split <;> exact ⟨_, rfl⟩
  have htabs : ∀ ep, (b.resetTabs ep false).lead = b.lead := fun ep =>
    (show Within [.elems, .stws, .gold] b (b.resetTabs ep false) by simp) .lead (by decide)
  unfold wantCommit
  split
  · unfold startCommit
    extract_lets ep p incl excl facts b1 rs b2 ds
    obtain ⟨f0, f1, hb1⟩ : ∃ f0 f1, b1.lead = { b.lead with facts0 := f0, facts1 := f1 } := by
      simp only [b1]
      split
      · exact hfacts ..
      · rw [← htabs ep]
        exact hfacts ..
    obtain ⟨ld, hb2⟩ := hload b1
    exact ⟨f0, f1, ld, _, _, _, by rw [modLead_lead, hb2, hb1]⟩
  · exact ⟨_, _, _, _, _, _, rfl⟩

theorem Block.wantCommit_steerQ : (b.wantCommit why scope).lead.steerQ = b.lead.steerQ := by
  obtain ⟨_, _, _, _, _, _, hlead⟩ := wantCommit_lead_eq (b := b) (why := why) (scope := scope)
  rw [hlead]

/-- A port that is to be served goes to STEERING and queues for routes without it; the commands in flight stand. -/
theorem Block.steer_steers (href : b.wsh.refLost = false) : ((b.steer k byCmd).port k).st = 5 ∧ ((b.steer k byCmd).port k).byCmd = byCmd ∧
    k ∈ (b.steer k byCmd).lead.steerQ ∧ (b.steer k byCmd).lead.flights = b.lead.flights := by
  have hports : ∀ x : Block, (x.wantCommit 5 (some (scKey 5 k))).port k = x.port k := fun x =>
    (show Within [.elems, .stws, .gold, .lead] x (x.wantCommit 5 (some (scKey 5 k))) by simp).port (by decide)
  have hport : b.portTo k 5 = b.modPort k (fun p => { p with st := 5, since := b.now, attn := (ledsOf 5).1, act := (ledsOf 5).2 }) := by
    rw [portTo, href, if_neg Bool.false_ne_true]
  unfold steer
  extract_lets b1 first b2
  have hb2 : (b2.port k).st = 5 ∧ (b2.port k).byCmd = byCmd ∧ k ∈ b2.lead.steerQ ∧ b2.lead.flights = b.lead.flights := by
    simp [b2, b1, hport]
  split
  · rw [hports, wantCommit_steerQ, wantCommit_lead.1]
    exact hb2
  · exact hb2

/-- A port that waits for routes with it opens when they come; the commands in flight stand. -/
theorem Block.wantOpen_opens : ((b.wantOpen k).port k).openNext = true ∧ (b.wantOpen k).lead.flights = b.lead.flights := by
  have hports : ∀ x : Block, (x.wantCommit 7 none).port k = x.port k := fun x =>
    (show Within [.elems, .stws, .gold, .lead] x (x.wantCommit 7 none) by simp).port (by decide)
  unfold wantOpen
  extract_lets b1
  have hb1 : (b1.port k).openNext = true := by simp [b1]
  split
  · rw [hports, wantCommit_lead.1]
    exact ⟨hb1, rfl⟩
  · exact ⟨hb1, rfl⟩

/-- A LINK_RETURN of a port that is held for service tells the far end, and the port waits for its routes (09 R282 step 8). -/
theorem Block.linkReturn_of_held (h : (b.port k).st = 7) : b.linkReturn k = (b.tellFar k true).wantOpen k := by
  unfold linkReturn
  dsimp only
  rw [h]
  rfl

/-- A port whose service is refused says so at the panel (09 R282 step 3). -/
theorem Block.refuseService_refuses (href : b.wsh.refLost = false) :
    ((b.refuseService k).port k).st = 9 ∧ ((b.refuseService k).port k).refusal = 0x51 := by
  have hport : (b.portTo k 9).port k = { b.port k with st := 9, since := b.now, attn := (ledsOf 9).1, act := (ledsOf 9).2 } := by
    rw [portTo, href, if_neg Bool.false_ne_true, modPort_port]
  have hevent : ∀ x : Block, (x.portEvent k 0x51 0x51).port k = x.port k := fun x =>
    (show Within [.elems, .wsh] x (x.portEvent k 0x51 0x51) by simp).port (by decide)
  rw [refuseService, hevent, modPort_port, hport]
  exact ⟨rfl, rfl⟩

end

/-- The state of a port that is OPEN, or shows an advisory, turns no LINK_SERVICE away. -/
theorem serviceable_of_open {α : Type} {st : Nat} {busy closed go : α} (h : st = 2 ∨ st = 3) :
    (if st = 4 || st = 5 then busy else if st != 2 && st != 3 then closed else go) = go := by
  obtain rfl | rfl := h <;> rfl

section
variable {s : State} {c : Cmd} {id : Nat} (hid : id = scopeIdOf c)
include hid

theorem linkService_steers (h : Served s.blk c linkServiceForm) (href : s.blk.wsh.refLost = false)
    (hst : (s.blk.port id).st = 2 ∨ (s.blk.port id).st = 3) (hmay : flagOf c 0 = true ∨ s.blk.serviceOk id = true) :
    Completes (.linkService c) s (fun b' => Taken s.blk b' c 0 0 ∧ (b'.port id).st = 5 ∧ (b'.port id).byCmd = true ∧
      id ∈ b'.lead.steerQ) := by
  refine completes_of_on h.1 (show execLinkService c s = s.on (.linkService c) _ from rfl) ?_
  have hopen : ¬ (!flagOf c 0 && !s.blk.serviceOk id) = true := by
    obtain hforce | hok := hmay
    · simp [hforce]
    · simp [hok]
  rw [h.go_accepted (x := 0) (y := 0) (eff := fun b => (b.tellFar id false).steer id true) (by
    dsimp only
    rw [← hid, Block.taken_port, Block.taken_serviceOk, serviceable_of_open hst, if_neg hopen])]
  obtain ⟨hsteer, hcmd, hqueue, hflights⟩ := Block.steer_steers (b := (s.blk.accepted c 0 0).tellFar id false) (k := id) (byCmd := true) href
  exact ⟨Block.accepted_taken hflights, hsteer, hcmd, hqueue⟩

theorem linkService_refuses (h : Served s.blk c linkServiceForm) (href : s.blk.wsh.refLost = false)
    (hst : (s.blk.port id).st = 2 ∨ (s.blk.port id).st = 3) (hforce : flagOf c 0 = false) (hcut : s.blk.serviceOk id = false) :
    Completes (.linkService c) s (fun b' => CplOf s.blk b' c stNoPath 0 [] ∧ (b'.port id).st = 9 ∧ (b'.port id).refusal = 0x51) := by
  refine h.completes_done h.1 (show execLinkService c s = s.on (.linkService c) _ from rfl)
    (z := (s.blk.taken c).refuseService id) (ps := [.elems, .ports, .wsh]) (st := stNoPath) (res := []) ?_
    (by simp [Block.refuseService]) (by decide) fun b' hcpl heff => ⟨hcpl, ?_⟩
  · dsimp only
    rw [← hid, Block.taken_port, Block.taken_serviceOk, serviceable_of_open hst, if_pos (by simp [hforce, hcut])]
  · rw [heff.port (by decide)]
    exact Block.refuseService_refuses href

theorem linkReturn_opens (h : Served s.blk c linkReturnForm) (hst : (s.blk.port id).st = 7) : Completes (.linkReturn c) s (fun b' =>
    Taken s.blk b' c 0 0 ∧ (b'.port id).openNext = true) := by
  refine completes_of_on h.1 (show execLinkReturn c s = s.on (.linkReturn c) _ from rfl) ?_
  rw [h.go_accepted (x := 0) (y := 0) (eff := fun b => b.linkReturn id) (by
    dsimp only
    rw [← hid, Block.taken_port, if_pos (by simp [hst])]), Block.linkReturn_of_held (by rw [Block.accepted_within.port (by decide), hst])]
  obtain ⟨hopens, hflights⟩ := Block.wantOpen_opens (b := (s.blk.accepted c 0 0).tellFar id true) (k := id)
  exact ⟨Block.accepted_taken hflights, hopens⟩

end

/-! ### CALIBRATE (12 R360; 16 R438) -/

section
variable {b : Block} {ty id lane a : Nat}

theorem Block.calibrate_flights : (b.calibrate ty id lane).lead.flights = b.lead.flights := by
  unfold calibrate
  dsimp only
  split <;> rfl

/-- All lanes of a Pass port are asked for by sixteen rotations. -/
theorem Block.calibrate_rotates (hty : ty = 5) : ((b.calibrate ty id 0xFF).port id).calLeft = 16 := by
  simp [calibrate, hty]

/-- The adapters of a Col or Ridge link are due their quiet windows. -/
theorem Block.calibrate_windows (hty : ty ≠ 5) (ha : a ∈ linkAdps (ty == 4) id) : a ∈ (b.calibrate ty id lane).lead.quietDue := by
  unfold calibrate
  dsimp only
  rw [if_neg hty]
  exact List.mem_append_right _ ha

end

section
variable {s : State} {c : Cmd} {ty id : Nat} (hty : ty = scopeTyOf c) (hid : id = scopeIdOf c)
include hty hid

theorem calibrate_asks (h : Served s.blk c (calibrateForm c)) (heye : flagOf c 3 = false) (hrepair : s.blk.inRepair ty id = false)
    (hnone : ∀ f ∈ s.blk.lead.flights, ¬(f.opc = 0x15 ∧ f.scTy = ty ∧ f.scId = id)) (hlane : byteOf c 12 = 0xFF) :
    Completes (.calibrate c) s (fun b' => Taken s.blk b' c (if ty = 5 then 16 else laneCount ty) 0 ∧ (ty = 5 → (b'.port id).calLeft = 16) ∧
      (ty ≠ 5 → ∀ a ∈ linkAdps (ty == 4) id, a ∈ b'.lead.quietDue)) := by
  refine completes_of_on h.1 (show execCalibrate c s = s.on (.calibrate c) _ from rfl) ?_
  have hfree : s.blk.lead.flights.any (fun f => f.opc == 0x15 && f.scTy == ty && f.scId == id) = false :=
    List.any_eq_false.2 fun f hf => by simpa [and_assoc] using hnone f hf
  rw [h.go_accepted (x := if ty = 5 then 16 else laneCount ty) (y := 0) (eff := fun b => b.calibrate ty id 0xFF) (by
    rw [← hty, ← hid, heye, hlane, Block.taken_inRepair, hrepair, Block.taken_flights, hfree]
    rfl)]
  exact ⟨Block.accepted_taken Block.calibrate_flights, Block.calibrate_rotates, fun hdie _ => Block.calibrate_windows hdie⟩

end

/-! ### LOCK_BREAK (06 R200; 16 R438) -/

section
variable {s : State} {b : Block} {c : Cmd} {id n e : Nat} {l : Lock}

/-- A lock that is HELD is BROKEN, and its break is reported. -/
theorem Block.breakLock_breaks {cause : Nat} (hl : (b.ni n).locks.find e = some l) (hb : l.broken = false) :
    (b.breakLock n e cause).ni n = { b.ni n with locks := (b.ni n).locks.set e { l with broken := true } } ∧
      Raised b (b.breakLock n e cause) n 0x12 1 := by
  have hbreak : b.breakLock n e cause = (b.modNi n (fun x => { x with locks := x.locks.set e { l with broken := true } })).event n 0x12 none
      (detK l.owner.toNat l.inc.toNat e cause) := by
    simp [breakLock, hl, hb]
  rw [hbreak]
  exact ⟨by simp, (Block.event_raised (b := b.modNi n _) n 0x12 none _).of_wsh rfl rfl⟩

theorem Ni.lockNamed_of_entry {x : Ni} (he : e = byteOf c 12) (hentry : e ≠ 0xFF) : x.lockNamed c = (e, x.locks.find e) := by
  rw [lockNamed, ← he, if_neg hentry]

/-- The entry of a lock as the flag of LOCK_BREAK leaves it: FREE, or as it is. -/
def Block.clearLock (b : Block) (n e : Nat) (clear : Bool) : Block :=
  if clear then b.modNi n (fun x => { x with locks := x.locks.erase e }) else b

theorem Block.clearLock_within {clear : Bool} : Within [.nis] b (b.clearLock n e clear) := by
  simp [clearLock]

theorem Block.clearLock_find {clear : Bool} :
    ((b.clearLock n e clear).ni n).locks.find e = if clear then none else (b.ni n).locks.find e := by
  unfold clearLock
  split
  · rw [modNi_ni, SMap.find_erase_self]
  · rfl

theorem lockBreak_free (hid : id = scopeIdOf c) (hn : n = nodeNi (BitVec.ofNat 16 id)) (he : e = byteOf c 12) (hentry : e ≠ 0xFF)
    (h : Served s.blk c (lockBreakForm c)) (hnone : (s.blk.ni n).locks.find e = none) : Completes (.lockBreak c) s (fun b' =>
      CplOf s.blk b' c stOk 0 [(16, 1, 0), (20, 1, e)] ∧ OnlyAnswers s.blk b') := by
  refine completes_of_on h.1 (show execLockBreak c s = s.on (.lockBreak c) _ from rfl) (h.done_unchanged ?_)
  dsimp only
  rw [← hid, ← hn, Block.taken_ni, Ni.lockNamed_of_entry he hentry, hnone]
  rfl

theorem lockBreak_breaks (hid : id = scopeIdOf c) (hn : n = nodeNi (BitVec.ofNat 16 id)) (he : e = byteOf c 12) (hentry : e ≠ 0xFF)
    (h : Served s.blk c (lockBreakForm c)) (hl : (s.blk.ni n).locks.find e = some l) (hb : l.broken = false) :
    Completes (.lockBreak c) s (fun b' => CplOf s.blk b' c stOk 0 [(16, 1, 1), (17, 1, l.inc.toNat), (18, 2, l.owner.toNat), (20, 1, e)] ∧
      (b'.ni n).locks.find e = (if flagOf c 3 then none else some { l with broken := true }) ∧ Raised s.blk b' n 0x12 1) := by
  have hl' : ((s.blk.taken c).ni n).locks.find e = some l := by rw [Block.taken_ni, hl]
  obtain ⟨hbroken, hraised⟩ := Block.breakLock_breaks (cause := 3) hl' hb
  refine h.completes_done h.1 (show execLockBreak c s = s.on (.lockBreak c) _ from rfl)
    (z := ((s.blk.taken c).breakLock n e 3).clearLock n e (flagOf c 3)) (ps := [.elems, .nis, .wsh]) (st := stOk) (res := lockRes e (some l)) ?_
    ((Within.iff Block.clearLock_within (by decide)).2 (by simp)) (by decide) fun b' hcpl heff => ⟨?_, ?_, ?_⟩
  · dsimp only
    rw [← hid, ← hn, Ni.lockNamed_of_entry he hentry, hl']
    rfl
  · rw [lockRes, hb] at hcpl
    exact hcpl
  · rw [Block.ni, heff .nis (by decide), ← Block.ni, Block.clearLock_find, hbroken, SMap.find_set_self]
  · refine hraised.of_wsh (Block.taken_within .wsh (by decide)).symm ?_
    rw [heff .wsh (by decide), Block.clearLock_within .wsh (by decide)]

end

/-- Settles O45: each of the eight commands does what its own lemmas say. -/
theorem repairCommands : Obligations.RepairCommands := by
  unfold Obligations.RepairCommands
  intro s c ty id sc hty hid hsc
  refine ⟨fun hnested hrepair hbarred hpath => ⟨scopeFence_leaves hty hid hnested hrepair hbarred hpath,
      domainReset_leaves hty hid hnested hrepair hbarred hpath, selftest_leaves hty hid hnested hrepair hbarred hpath⟩,
    fun h hnested _ => ⟨scopeReadmit_resets hty hid hsc h hnested, scopeReadmit_admits hty hid hsc h hnested⟩,
    fun h href hst => ⟨linkService_steers hid h href hst, linkService_refuses hid h href hst⟩,
    linkReturn_opens hid, calibrate_asks hty hid,
    fun n e l hn he hentry h => ⟨lockBreak_free hid hn he hentry h, lockBreak_breaks hid hn he hentry h⟩⟩

end Sys2Proof.Machine
end

section
/-! PROOFS. Clock faults (spec/07 R211, R215; 21 R506) and the heartbeats between buddies (14 R382; 12 R358). -/

namespace Sys2Proof.Machine

/-! ### Clock faults (07 R211, R215; 21 R506) -/

section
variable {b : Block} {s : State} {d : Nat}

/-- No fault of a compute die's clock or time base is escalated: a die lies in no plane. -/
theorem Block.escalates_die : b.escalates 9 d = false := by
  simp [escalates, scopeIn]

/-- A fault that names a compute die is Containable and stops the die. -/
theorem Block.dieFault_compute {loc kind : Nat} (hd : d < 12) (hloc : loc < 512) (hk : kind = 0x30 ∨ kind = 0x31) :
    Raised b (b.dieFault d loc kind) (512 * d + loc) kind 2 ∧ ((b.dieFault d loc kind).scope 9 d).stopped = true := by
  have hsev : kindSev (src d loc) kind = 2 := by
    have hdie : dieOf (src d loc) ≠ 12 := by rw [dieOf_src hloc]; omega
    obtain rfl | rfl := hk <;> simp [kindSev, hdie]
  have hraised := b.fault_raised (src d loc) kind 9 d none 0 none false
  rw [hsev, if_neg (by simp [escalates_die]), show src d loc = 512 * d + loc by rw [src]; omega] at hraised
  rw [dieFault, if_neg (by omega), show src d loc = 512 * d + loc by rw [src]; omega]
  exact ⟨hraised, fault_stopped _ _ _ _ _ _ _ _ _ (by decide) (by rw [show 512 * d + loc = src d loc by rw [src]; omega, hsev])⟩

/-- A fault that names the I/O die is Fatal and stops the package. -/
theorem Block.dieFault_io {loc kind : Nat} (hloc : loc < 512) (hk : kind = 0x30 ∨ kind = 0x31) :
    Raised b (b.dieFault 12 loc kind) (6144 + loc) kind 3 ∧ ((b.dieFault 12 loc kind).scope 11 b.pkgid).stopped = true := by
  have hsev : kindSev (src 12 loc) kind = 3 := by
    obtain rfl | rfl := hk <;> simp [kindSev, dieOf_src hloc]
  have hraised := b.fault_raised (src 12 loc) kind 11 b.pkgid none 0 none false
  rw [hsev, if_neg (by simp), show src 12 loc = 6144 + loc by rw [src]] at hraised
  rw [dieFault, if_pos rfl, show src 12 loc = 6144 + loc by rw [src]]
  exact ⟨hraised, fault_stopped _ _ _ _ _ _ _ _ _ (by decide) (by rw [show 6144 + loc = src 12 loc by rw [src], hsev]; decide)⟩

theorem Block.dieFault_refclk {loc kind : Nat} : (b.dieFault d loc kind).refclk = b.refclk := by
  unfold dieFault
  split <;> simp

/-- The loss detector drives FAULT_N low on both lines. -/
theorem refclkLoss_stops : Completes .refclkLoss s (fun b' => b'.refclk = false ∧ b'.wsh.refLost = true ∧ b'.faultN = 0) :=
  completes_of_on rfl (show execRefclkLoss s = s.on .refclkLoss _ from rfl) ⟨rfl, rfl, by simp [Block.faultN]⟩

end

theorem clockFaults : Claims.ClockFaults := fun s d => by
  refine ⟨refclkLoss_stops, fun hd => ⟨?_, ?_⟩, ?_, fun href => ?_, ?_⟩
  · refine completes_of_on (by simp [Instr.WellFormed]; omega) (show execClockUnlock d s = s.on (.clockUnlock d) _ from rfl) ?_
    obtain ⟨hraised, hstop⟩ := Block.dieFault_compute (b := { s.blk with refclk := true }) hd (by decide : 465 < 512) (.inl rfl)
    exact ⟨hraised, hstop, Block.dieFault_refclk⟩
  · refine completes_of_on (by simp [Instr.WellFormed]; omega) (show execTimeBaseError d s = s.on (.timeBaseError d) _ from rfl) ?_
    exact Block.dieFault_compute (b := (s.blk.free 64).2.modTb d _) hd (by decide : 466 < 512) (.inr rfl)
  · refine completes_of_on rfl (show execClockUnlock 12 s = s.on (.clockUnlock 12) _ from rfl) ?_
    obtain ⟨hraised, hstop⟩ := Block.dieFault_io (b := { s.blk with refclk := true }) (by decide : 465 < 512) (.inl rfl)
    exact ⟨hraised, hstop, Block.dieFault_refclk⟩
  · refine completes_of_on rfl (show execEventRecordWrite s = s.on .eventRecordWrite _ from rfl) ?_
    rw [href]
    rfl
  · refine completes_of_on rfl (show execTimeBaseError 12 s = s.on (.timeBaseError 12) _ from rfl) ?_
    exact Block.dieFault_io (b := (s.blk.free 64).2.modTb 12 _) (by decide : 466 < 512) (.inr rfl)

/-! ### Heartbeats (14 R382; 12 R358) -/

section
variable {b : Block} {s : State} {n m t q : Nat} {crc : BitVec 32}

theorem Block.elapseTo_stwUp : (b.elapseTo t).stwUp n = b.stwUp n := by simp [stwUp, scFenced]

theorem Block.elapseTo_server {g : Nat} : (b.elapseTo t).server g = b.server g := by
  simp [server, primary, stwServes, elapseTo_stwUp, elapseTo_effProfile, leadSrc]

theorem Block.elapseTo_freeUnitTags : (b.elapseTo t).freeUnitTags n = b.freeUnitTags n := by
  simp [freeUnitTags, mgtHeld, leadSrc, elapseTo_server]

/-- A steward and its buddy are two. -/
theorem buddy_ne (h : isStw n = true) : buddy n ≠ n := by
  have hpos : 448 ≤ n := by
    simp only [isStw, Bool.or_eq_true, Bool.and_eq_true, beq_iff_eq, decide_eq_true_eq] at h
    have hloc : locOf n ≤ n := Nat.mod_le n 512
    omega
  unfold buddy
  split <;> omega

/-- A change of a steward that leaves it in service or out leaves every steward so. -/
theorem Block.modStw_stwUp {f : Stw → Stw} (hf : ∀ x, (f x).lost = x.lost) : (b.modStw m f).stwUp n = b.stwUp n := by
  have hlost : ((b.modStw m f).stw n).lost = (b.stw n).lost := by
    by_cases h : n = m
    · rw [h, modStw_stw, hf]
    · rw [modStw_stw_ne _ _ h]
  simp only [stwUp, hlost]
  rfl

theorem Block.modStw_primary {f : Stw → Stw} {g : Nat} (hf : ∀ x, (f x).lost = x.lost) : (b.modStw m f).primary g = b.primary g := by
  simp only [primary, stwServes, modStw_stwUp hf]
  rfl

/-- 14 R382: a steward in service with a tag free sends its next heartbeat at the next 10 us. -/
theorem heartbeatSend_sends (hn : isStw n = true) (hup : s.blk.stwUp n = true) (htag : 0 < s.blk.freeUnitTags (stwNi n)) :
    Completes (.heartbeatSend n) s (fun b' => (b'.stw n).hbSeq = ((s.blk.stw n).hbSeq + 1) % 65536 ∧
      (b'.stw n).hbSent = (s.blk.stw n).hbSent ++ [((s.blk.stw n).hbSeq, (s.blk.stw n).crc)] ∧
      (s.blk.refclk = true → b'.now = (s.blk.now / 32000 + 1) * 32000) ∧ b'.wsh = s.blk.wsh ∧ ∀ m, m ≠ n → b'.stw m = s.blk.stw m) := by
  refine completes_of_on hn (show execHeartbeatSend n s = s.on (.heartbeatSend n) _ from rfl) ?_
  dsimp only
  rw [if_pos (by simp [Block.elapseTo_stwUp, Block.elapseTo_freeUnitTags, hup, htag])]
  refine ⟨by simp, by simp, fun href => ?_, by simp, fun m hm => ?_⟩
  · rw [Block.modStw_now, Block.elapseTo_now _ _ href]
    omega
  · rw [Block.modStw_stw_ne _ _ hm]
    simp

/-- The two stewards when a heartbeat has been received, before its CRC is looked at. -/
def Block.heard (b : Block) (n q : Nat) (crc : BitVec 32) : Block :=
  (b.modStw n (fun x => { x with missed := 0, hbGot := some (q, crc) })).modStw (buddy n) (fun x => { x with announced := none })

theorem Block.heard_stw (hn : isStw n = true) : (b.heard n q crc).stw n = { b.stw n with missed := 0, hbGot := some (q, crc) } := by
  rw [heard, modStw_stw_ne _ _ (buddy_ne hn).symm, modStw_stw]

theorem Block.heard_buddy (hn : isStw n = true) : (b.heard n q crc).stw (buddy n) = { b.stw (buddy n) with announced := none } := by
  rw [heard, modStw_stw, modStw_stw_ne _ _ (buddy_ne hn)]

theorem Block.heartbeatIn_eq (hn : isStw n = true) : b.heartbeatIn n q crc =
    if b.primary (stwRegion n) = n then b.heard n q crc
    else if (b.stw n).crc = crc then (b.heard n q crc).modStw n (fun x => { x with crcDiff := 0 })
    else if (b.stw n).hbGot.map (·.1) ≠ some ((q + 65535) % 65536) ∨ (b.stw n).crcDiff = 0 then
      (b.heard n q crc).modStw n (fun x => { x with crcDiff := 1 })
    else ((b.heard n q crc).modStw n (fun x => { x with crcDiff := 0, fetched := x.fetched + 1 })).fetchGold n := by
  have hprim : (b.heard n q crc).primary (stwRegion n) = b.primary (stwRegion n) := by
    rw [heard, modStw_primary (by exact fun _ => rfl), modStw_primary (by exact fun _ => rfl)]
  have hcrc : ((b.heard n q crc).stw n).crc = (b.stw n).crc := by rw [heard_stw hn]
  have hdiff : ((b.heard n q crc).stw n).crcDiff = (b.stw n).crcDiff := by rw [heard_stw hn]
  rw [← hprim, ← hcrc, ← hdiff, heartbeatIn]
  simp only [Bool.or_eq_true, decide_eq_true_eq, Bool.not_eq_true', beq_eq_false_iff_ne]
  rfl

/-- A steward that fetches its golden copies takes those of a buddy in service. -/
theorem Block.fetchGold_eq : ∃ m, b.fetchGold n = b.putGold n m ∧ (b.stwUp (buddy n) = true → m = b.gold.get [] (buddy n)) :=
  ⟨_, rfl, fun h => if_pos h⟩

theorem Block.putGold_stw {m : SMap Gold} : (b.putGold n m).stw n = { b.stw n with crc := Config.crcOf m } := modStw_stw ..

theorem Block.putGold_stw_ne {m : SMap Gold} {k : Nat} (h : k ≠ n) : (b.putGold n m).stw k = b.stw k := modStw_stw_ne _ _ h

/-- A heartbeat received, whatever its CRC: no miss counted, the heartbeat record, and no restart announced. -/
theorem Block.heartbeatIn_records (hn : isStw n = true) : let x := b.heartbeatIn n q crc
    (x.stw n).missed = 0 ∧ (x.stw n).hbGot = some (q, crc) ∧ x.stw (buddy n) = { b.stw (buddy n) with announced := none } := by
  have hne := buddy_ne hn
  intro x
  simp only [x, heartbeatIn_eq hn]
  split
  · simp [heard_stw hn, heard_buddy hn]
  split
  · rw [modStw_stw, modStw_stw_ne _ _ hne]; simp [heard_stw hn, heard_buddy hn]
  split
  · rw [modStw_stw, modStw_stw_ne _ _ hne]; simp [heard_stw hn, heard_buddy hn]
  · obtain ⟨m, hm, -⟩ := fetchGold_eq (b := (b.heard n q crc).modStw n (fun x => { x with crcDiff := 0, fetched := x.fetched + 1 })) (n := n)
    rw [hm, putGold_stw, putGold_stw_ne hne, modStw_stw, modStw_stw_ne _ _ hne]
    simp [heard_stw hn, heard_buddy hn]

/-- A mirror whose CRC is that of its primary has no difference in a row. -/
theorem Block.heartbeatIn_same (hn : isStw n = true) (hmirror : b.primary (stwRegion n) ≠ n) (hcrc : crc = (b.stw n).crc) :
    ((b.heartbeatIn n q crc).stw n).crcDiff = 0 ∧ ((b.heartbeatIn n q crc).stw n).crc = crc := by
  rw [heartbeatIn_eq hn, if_neg hmirror, if_pos hcrc.symm, modStw_stw, heard_stw hn]
  exact ⟨rfl, hcrc.symm⟩

/-- A first difference is counted. -/
theorem Block.heartbeatIn_differs (hn : isStw n = true) (hmirror : b.primary (stwRegion n) ≠ n) (hcrc : crc ≠ (b.stw n).crc)
    (hfirst : (b.stw n).crcDiff = 0 ∨ (b.stw n).hbGot.map (·.1) ≠ some ((q + 65535) % 65536)) :
    ((b.heartbeatIn n q crc).stw n).crcDiff = 1 ∧ ((b.heartbeatIn n q crc).stw n).crc = (b.stw n).crc := by
  rw [heartbeatIn_eq hn, if_neg hmirror, if_neg hcrc.symm, if_pos hfirst.symm, modStw_stw, heard_stw hn]
  exact ⟨rfl, rfl⟩

/-- At a second difference that follows the first the mirror takes the primary's copies. -/
theorem Block.heartbeatIn_fetches (hn : isStw n = true) (hmirror : b.primary (stwRegion n) ≠ n) (hcrc : crc ≠ (b.stw n).crc)
    (hdiff : (b.stw n).crcDiff = 1) (hnext : (b.stw n).hbGot.map (·.1) = some ((q + 65535) % 65536)) (hup : b.stwUp (buddy n) = true) :
    (b.heartbeatIn n q crc).gold.get [] n = b.gold.get [] (buddy n) ∧
    ((b.heartbeatIn n q crc).stw n).crc = Config.crcOf (b.gold.get [] (buddy n)) ∧ ((b.heartbeatIn n q crc).stw n).crcDiff = 0 := by
  rw [heartbeatIn_eq hn, if_neg hmirror, if_neg hcrc.symm, if_neg (by simp [hdiff, hnext])]
  obtain ⟨m, hm, hgold⟩ := fetchGold_eq (b := (b.heard n q crc).modStw n (fun x => { x with crcDiff := 0, fetched := x.fetched + 1 })) (n := n)
  obtain rfl := hgold (by rw [modStw_stwUp (by exact fun _ => rfl), heard, modStw_stwUp (by exact fun _ => rfl), modStw_stwUp (by exact fun _ => rfl), hup])
  rw [hm, putGold_stw, modStw_stw]
  exact ⟨SMap.get_set_self .., rfl, rfl⟩

end

theorem heartbeats : Claims.Heartbeats := fun s n hn hup => by
  refine ⟨heartbeatSend_sends hn hup, fun skip q crc hsent => ?_⟩
  have hne := buddy_ne hn
  refine completes_of_on hn (show execHeartbeatReceipt n skip s = s.on (.heartbeatReceipt n skip) _ from rfl) ?_
  rw [hsent]
  dsimp -zeta only
  extract_lets b
  have hstw : b.stw n = s.blk.stw n := Block.modStw_stw_ne _ _ hne.symm
  have hprim : b.primary (stwRegion n) = s.blk.primary (stwRegion n) := Block.modStw_primary fun _ => rfl
  have hup' (k : Nat) : b.stwUp k = s.blk.stwUp k := Block.modStw_stwUp fun _ => rfl
  rw [if_pos ((hup' n).trans hup), ← hprim, ← hstw, ← hup' (buddy n)]
  obtain ⟨hmissed, hgot, hbuddy⟩ := Block.heartbeatIn_records (b := b) (q := q) (crc := crc) hn
  refine ⟨hmissed, hgot, by rw [hbuddy], by rw [hbuddy]; simp [b], fun hmirror => ⟨fun hcrc => ?_, fun hcrc hfirst => ?_, fun hcrc hdiff hnext hb => ?_⟩⟩
  · exact Block.heartbeatIn_same hn hmirror hcrc
  · exact Block.heartbeatIn_differs hn hmirror hcrc hfirst
  · exact Block.heartbeatIn_fetches hn hmirror hcrc hdiff hnext hb

/-- Settles O9: the clock faults by the fault that each raises, the heartbeats by what their sender and their receiver keep. -/
theorem clocksAndHeartbeats : Obligations.ClocksAndHeartbeats := ⟨clockFaults, heartbeats⟩

end Sys2Proof.Machine
end

section
/-! PROOFS. The time bases (spec/07 R212) and their apply boundaries (07 R213, R221, R225, R232). -/

namespace Sys2Proof.Machine

open Block (Within)

/-! ### The increment of a time base (07 R212) -/

section
variable {t : Tb} {n : Nat}

/-- A time base in units of its fraction, both copies: what an FCLK adds to. -/
theorem Tb.elapse_sum (hk : -(2 ^ 32) < t.k) :
    ((((t.elapse n).ft * 2 ^ 32 + (t.elapse n).frac : Nat) : Int) = (t.ft * 2 ^ 32 + t.frac : Nat) + (n : Int) * (2 ^ 32 + t.k)) ∧
    ((((t.elapse n).ft2 * 2 ^ 32 + (t.elapse n).frac2 : Nat) : Int) = (t.ft2 * 2 ^ 32 + t.frac2 : Nat) + (n : Int) * (2 ^ 32 + t.k)) := by
  have hadd : (0 : Int) ≤ (n : Int) * (2 ^ 32 + t.k) := Int.mul_nonneg (Int.natCast_nonneg n) (by omega)
  simp only [elapse]
  generalize (n : Int) * (2 ^ 32 + t.k) = y at hadd ⊢
  omega

theorem Tb.elapse_frac_lt : (t.elapse n).frac < 2 ^ 32 := by
  simp only [elapse]
  omega

/-- One FCLK after `n` is the same as `n + 1` of them. -/
theorem Tb.elapse_succ (hk : -(2 ^ 32) < t.k) : t.elapse (n + 1) = (t.elapse n).elapse 1 := by
  obtain ⟨hsum, hsum2⟩ := elapse_sum (n := n) hk
  have hnext : ((n + 1 : Nat) : Int) * (2 ^ 32 + t.k) = (n : Int) * (2 ^ 32 + t.k) + ((1 : Nat) : Int) * (2 ^ 32 + t.k) := by push_cast; ring
  have hrest : (t.elapse n).elapse 1 = { t with
      ft := ((((((t.elapse n).ft * 2 ^ 32 + (t.elapse n).frac : Nat) : Int) + ((1 : Nat) : Int) * (2 ^ 32 + t.k)) / 2 ^ 32).toNat)
      frac := ((((((t.elapse n).ft * 2 ^ 32 + (t.elapse n).frac : Nat) : Int) + ((1 : Nat) : Int) * (2 ^ 32 + t.k)) % 2 ^ 32).toNat)
      ft2 := ((((((t.elapse n).ft2 * 2 ^ 32 + (t.elapse n).frac2 : Nat) : Int) + ((1 : Nat) : Int) * (2 ^ 32 + t.k)) / 2 ^ 32).toNat)
      frac2 := ((((((t.elapse n).ft2 * 2 ^ 32 + (t.elapse n).frac2 : Nat) : Int) + ((1 : Nat) : Int) * (2 ^ 32 + t.k)) % 2 ^ 32).toNat) } := rfl
  rw [hrest, hsum, hsum2, add_assoc, add_assoc, ← hnext]
  rfl

end

theorem timeBaseAddsItsIncrement : Claims.TimeBaseAddsItsIncrement := by
  refine ⟨fun t hlo hhi hfrac => ?_, fun _ => ⟨rfl, rfl, rfl⟩⟩
  obtain ⟨hsum, -⟩ := Tb.elapse_sum (n := 1) hlo
  rw [Nat.cast_one, one_mul] at hsum
  have hlt := Tb.elapse_frac_lt (t := t) (n := 1)
  exact ⟨hsum, hlt, rfl, by omega, by omega, fun _ => Tb.elapse_succ hlo⟩

section
variable {b : Block} {d e n x : Nat}

/-- The time bases when FCLKs have passed. -/
theorem Block.elapse_tb (hd : d < 13) : (b.elapse n).tb d = b.tb d ∨ (b.elapse n).tb d = (b.tb d).elapse n := by
  unfold elapse
  split
  · exact .inl rfl
  · refine .inr ?_
    have hrow : ∀ (f : Nat → Tb) (l : List Nat), d ∈ l → SMap.get {} (l.map (fun d => (d, f d))) d = f d := fun f l hl => by
      induction l with
      | nil => cases hl
      | cons a l ih =>
        rw [List.map_cons, SMap.get]
        split
        · next h => rw [h]
        · next h => exact ih ((List.mem_cons.1 hl).resolve_left h)
    exact hrow (fun d => (b.tb d).elapse n) _ (List.mem_range.2 hd)

/-- Passing time moves a time base on; its k, what is loaded for it and what it has passed stay. -/
theorem Block.elapseFt_tb (hd : d < 13) : ∃ ft frac ft2 frac2,
    (b.elapseFt e x).tb d = { b.tb d with ft := ft, frac := frac, ft2 := ft2, frac2 := frac2 } := by
  unfold elapseFt
  dsimp only
  split
  · exact ⟨_, _, _, _, rfl⟩
  · obtain h | h := elapse_tb (b := b) (n := (b.tb e).fclkTo x) hd
    · exact ⟨_, _, _, _, h⟩
    · exact ⟨_, _, _, _, h⟩

@[simp] theorem Block.modTb_within {ps : List Part} {b0 : Block} {f : Tb → Tb} (hs : [.tbs] ⊆ ps) :
    Within ps b0 (b.modTb d f) ↔ Within ps b0 b :=
  Within.iff (fun p hp => by cases p <;> trivial) hs

@[simp] theorem Block.ageAll_within {ps : List Part} {b0 : Block} (hs : [.elems] ⊆ ps) : Within ps b0 b.ageAll ↔ Within ps b0 b :=
  Within.iff (fun p hp => by cases p <;> trivial) hs

@[simp] theorem Block.ageAll_tb : b.ageAll.tb d = b.tb d := rfl

/-! ### The step of every time base (07 R225) -/

/-- One change of each of the thirteen time bases. -/
theorem Block.foldl_modTb_tb {f : Tb → Tb} (hd : d < 13) : ((List.range 13).foldl (fun b d => b.modTb d f) b).tb d = f (b.tb d) := by
  have htbs : ((List.range 13).foldl (fun b d => b.modTb d f) b).tbs = (List.range 13).foldl (fun m d => m.mod {} d f) b.tbs :=
    (List.foldl_hom Block.tbs fun _ _ => rfl).symm
  rw [tb, htbs]
  exact SMap.get_foldl_mod_of_mem (f := fun _ => f) List.nodup_range (List.mem_range.2 hd)

/-- A step moves each of the thirteen time bases by as much, within 64 bits, and raises TIME_STEP. -/
theorem Block.stepAll_steps {n : Int} : (∀ d, d < 13 → (b.stepAll n).ft d = ((b.ft d : Int) + n).toNat % 2 ^ 64) ∧
    Raised b (b.stepAll n) b.leadSrc 0x32 0 ∧ Within [.elems, .tbs, .wsh] b (b.stepAll n) := by
  unfold stepAll
  extract_lets b1
  have hb1 : Within [.elems, .tbs] b b1 := by simp [b1]
  refine ⟨fun d hd => ?_, ?_, by simp [b1]⟩
  · simp only [ft, event_reads, b1, ageAll_tb, foldl_modTb_tb hd, Tb.put]
  · have hlead : b1.leadSrc = b.leadSrc := by rw [leadSrc, hb1 .lead (by decide), leadSrc]
    rw [hlead]
    exact (event_raised_of (b := b1) (by simp [kindSev])).of_wsh (hb1 .wsh (by decide)).symm rfl

/-! ### A die's own boundary (07 R213; 08 R252) -/

/-- A die whose k is not due changes nothing; one without a step due goes on at the new k, its Fabric Time as it was. -/
theorem Block.dieApply_stepless (h : (b.tb d).step = 0) :
    Within [.tbs] b (b.dieApply d x) ∧ ∀ e, (b.dieApply d x).ft e = b.ft e ∧ ((b.dieApply d x).tb e).step = (b.tb e).step := by
  unfold dieApply
  extract_lets t
  have ht : t.step = 0 := h
  split
  · split
    · simp
    · refine ⟨by simp, fun e => ?_⟩
      rw [ft, ft]
      by_cases he : e = d
      · rw [he, modTb_tb, h]
        simp [Tb.put]
      · rw [modTb_tb_ne _ _ he]
        exact ⟨rfl, rfl⟩
  · simp

/-- The boundaries of the compute dies, none of which has a step due. -/
theorem Block.foldl_dieApply_stepless {l : List Nat} (h : ∀ d ∈ l, (b.tb d).step = 0) :
    Within [.tbs] b (l.foldl (fun b d => b.dieApply d x) b) ∧ ∀ e, (l.foldl (fun b d => b.dieApply d x) b).ft e = b.ft e := by
  induction l generalizing b with
  | nil => exact ⟨.refl _, fun _ => rfl⟩
  | cons d l ih =>
    obtain ⟨hw, hkeep⟩ := dieApply_stepless (x := x) (h d List.mem_cons_self)
    obtain ⟨hws, hkeeps⟩ := ih (b := b.dieApply d x) fun e he => (hkeep e).2.trans (h e (List.mem_cons_of_mem _ he))
    exact ⟨fun p hp => Part.kept_trans (hw p hp) (hws p hp), fun e => (hkeeps e).trans (hkeep e).1⟩

/-- At its boundary a compute die takes the k of the exchange and steps its time base, with TIME_STEP where the step is not 0. -/
theorem Block.dieApply_steps {y : Nat} {k : Int} (hk : (b.tb d).kNext = some (y, k)) (hdue : y ≤ x) :
    let z := b.dieApply d x
    (z.tb d).k = k ∧ (z.tb d).kNext = none ∧ (z.tb d).step = 0 ∧ (z.tb d).ft = ((b.ft d : Int) + (b.tb d).step).toNat ∧
    ((b.tb d).step ≠ 0 → Raised b z (src d 466) 0x32 0) := by
  intro z
  simp only [z, dieApply, hk, if_neg (Nat.not_lt.2 hdue)]
  split
  · next h => exact ⟨by simp [Tb.put], by simp [Tb.put], by simp [Tb.put], by simp [Tb.put, ft], fun hne => absurd h hne⟩
  · refine ⟨by simp [Tb.put], by simp [Tb.put], by simp [Tb.put], by simp [Tb.put, ft], fun _ => ?_⟩
    exact (event_raised_of (b := (b.modTb d _).ageAll) (by simp [kindSev])).of_wsh rfl rfl

/-! ### The boundary of the package (07 R213, R221, R225, R232) -/

/-- What is pending for the boundary of the I/O die, when it has been passed. -/
def TimeSys.passed (t : TimeSys) : TimeSys :=
  { t with pendStep := 0, loopStep := false, pendSet := none, pendAdj := t.adjLater, adjLater := 0, accSince := false, fOld := t.f }

/-- The time base of the I/O die at a boundary: the k that is due, and a k loaded later moves up. -/
def Block.bend (b : Block) : Block :=
  b.modTb 12 (fun x =>
    let due := match x.kNext with | some (y, _) => decide (y ≤ b.ft 12) | none => true
    { x with k := b.kDue (b.ft 12), kNext := if due then x.kLater else x.kNext, kLater := if due then none else x.kLater })

theorem Block.bend_ft : b.bend.ft e = b.ft e := by
  rw [ft, ft]
  by_cases he : e = 12
  · rw [he, bend, modTb_tb]
  · rw [bend, modTb_tb_ne _ _ he]

/-- The time base of the I/O die at a boundary by which the k loaded, if any is, is due. -/
theorem Block.bend_due (h : ∀ y k, (b.tb 12).kNext = some (y, k) → y ≤ b.ft 12) :
    b.bend.tb 12 = { b.tb 12 with k := b.kDue (b.ft 12), kNext := (b.tb 12).kLater, kLater := none } := by
  rw [bend, modTb_tb]
  cases hk : (b.tb 12).kNext with
  | none => rfl
  | some yk =>
    obtain ⟨y, k⟩ := yk
    simp [h y k hk]

theorem Block.kDue_loaded {y : Nat} {k : Int} (hk : (b.tb 12).kNext = some (y, k)) (hdue : y ≤ x) (hadj : b.time.pendAdj = 0) :
    b.kDue x = clampTo 2147484 k := by
  simp [kDue, hk, hdue, hadj]

theorem Block.kDue_free (hk : (b.tb 12).kNext = none) (hsteps : b.time.steps = false) :
    b.kDue x = clampTo 2147484 ((if b.time.accSince then b.time.fOld else b.time.f) + b.time.pendAdj * 1024) := by
  simp [kDue, hk, hsteps]

/-- With no command in flight a change of those in flight changes nothing. -/
theorem Block.modLead_flights_nil {f : Flight → Flight} (hf : b.lead.flights = []) :
    b.modLead (fun l => { l with flights := l.flights.map f }) = b := by
  rw [modLead, hf, List.map_nil, ← hf]

/-- A boundary at which nothing steps: the I/O die goes on at the k that is due, and nothing is reported. -/
theorem Block.packageBoundary_bends (hsteps : b.time.steps = false) (hf : b.lead.flights = []) :
    b.packageBoundary = b.bend.modTime TimeSys.passed := by
  have hset : b.time.pendSet = none := by
    simp only [TimeSys.steps, Bool.or_eq_false_iff] at hsteps
    exact Option.not_isSome_iff_eq_none.1 (by simp [hsteps])
  unfold packageBoundary
  dsimp only
  simp only [hsteps, hset, Bool.false_eq_true, if_false]
  rw [finishAll_of_flights_nil (by exact hf), modLead_flights_nil (by exact hf)]
  rfl

/-- The compute dies' boundaries when the package steps, and what was pending gone. -/
def Block.dieBends (b : Block) : Block :=
  ((List.range 12).foldl (fun b' d => b'.dieApply d (b.ft 12)) b.bend).modTime TimeSys.passed

theorem Block.packageBoundary_of_steps {n : Int} (hsteps : b.time.steps = true)
    (hset : ∀ v, b.time.pendSet = some v → n = (v : Int) - b.ft 12 + b.time.pendAdj)
    (hnone : b.time.pendSet = none → n = b.time.pendStep + b.time.pendAdj) : ∃ p res f,
    b.packageBoundary = ((b.dieBends.stepAll n).finishAll p stOk res).modLead (fun l => { l with flights := l.flights.map f }) := by
  cases hs : b.time.pendSet with
  | some v =>
    obtain rfl := hset v hs
    unfold packageBoundary
    simp only [hsteps, hs, if_true]
    exact ⟨_, _, _, rfl⟩
  | none =>
    obtain rfl := hnone hs
    unfold packageBoundary
    simp only [hsteps, hs, if_true]
    exact ⟨_, _, _, rfl⟩

/-- The boundaries of the compute dies, none of which has a step due, leave every Fabric Time, and the collectors and the lead as they were. -/
theorem Block.dieBends_stepless (h : ∀ d, d < 12 → (b.tb d).step = 0) :
    (∀ e, b.dieBends.ft e = b.ft e) ∧ b.dieBends.wsh = b.wsh ∧ b.dieBends.lead = b.lead ∧ b.dieBends.time = b.time.passed := by
  have hbend : ∀ d ∈ List.range 12, (b.bend.tb d).step = 0 := fun d hd => by
    have hlt := List.mem_range.1 hd
    rw [bend, modTb_tb_ne _ _ (by omega)]
    exact h d hlt
  obtain ⟨hw, hft⟩ := foldl_dieApply_stepless (x := b.ft 12) hbend
  unfold dieBends
  generalize (List.range 12).foldl (fun b' d => b'.dieApply d (b.ft 12)) b.bend = y at hw hft
  exact ⟨fun e => (hft e).trans bend_ft, hw .wsh (by decide), hw .lead (by decide), congrArg TimeSys.passed (hw .time (by decide))⟩

/-- A boundary at which the package steps: every time base by as much, whether to a value set or by what is pending. -/
theorem Block.packageBoundary_steps {n : Int} (hsteps : b.time.steps = true) (hf : b.lead.flights = []) (h : ∀ d, d < 12 → (b.tb d).step = 0)
    (hset : ∀ v, b.time.pendSet = some v → n = (v : Int) - b.ft 12 + b.time.pendAdj)
    (hnone : b.time.pendSet = none → n = b.time.pendStep + b.time.pendAdj) :
    let z := b.packageBoundary
    (∀ d, d < 13 → z.ft d = ((b.ft d : Int) + n).toNat % 2 ^ 64) ∧ Raised b z b.leadSrc 0x32 0 ∧ z.time = b.time.passed := by
  obtain ⟨hft, hwsh, hlead, htime⟩ := dieBends_stepless h
  obtain ⟨p, res, f, hz⟩ := packageBoundary_of_steps hsteps hset hnone
  generalize b.dieBends = x at hft hwsh hlead htime hz
  obtain ⟨hstep, hraised, hsw⟩ := stepAll_steps (b := x) (n := n)
  have hflights : (x.stepAll n).lead.flights = [] := by rw [hsw .lead (by decide), hlead, hf]
  rw [finishAll_of_flights_nil hflights, modLead_flights_nil hflights] at hz
  intro z
  simp only [z, hz]
  refine ⟨fun d hd => ?_, ?_, ?_⟩
  · rw [hstep d hd, hft]
  · rw [leadSrc, hlead, ← leadSrc] at hraised
    exact hraised.of_wsh hwsh.symm rfl
  · rw [hsw .time (by decide), htime]

/-! ### The command (07 R213) -/

/-- The block at its die's boundary, which the die has passed. -/
theorem Block.elapseFt_applied {y : Nat} : let z := (b.elapseFt d y).modTb d (fun t => { t with applied := y })
    z.wsh = b.wsh ∧ z.lead = b.lead ∧ z.time = b.time ∧ (∀ e, z.ft e = (b.elapseFt d y).ft e) ∧
    ∀ e, e < 13 → (z.tb e).kNext = (b.tb e).kNext ∧ (z.tb e).kLater = (b.tb e).kLater ∧ (z.tb e).step = (b.tb e).step := by
  intro z
  have hw : Within [.now, .elems, .gates, .tbs] b z := by simp [z]
  refine ⟨hw .wsh (by decide), hw .lead (by decide), hw .time (by decide), fun e => ?_, fun e he => ?_⟩
  · rw [ft, ft]
    by_cases hed : e = d
    · rw [hed, modTb_tb]
    · rw [modTb_tb_ne _ _ hed]
  · obtain ⟨_, _, _, _, htb⟩ := elapseFt_tb (b := b) (e := d) (x := y) he
    by_cases hed : e = d
    · subst hed
      rw [modTb_tb, htb]
      exact ⟨rfl, rfl, rfl⟩
    · rw [modTb_tb_ne _ _ hed, htb]
      exact ⟨rfl, rfl, rfl⟩

end

theorem applyBoundaries : Claims.ApplyBoundaries := by
  intro s b1 hb1 hf
  obtain ⟨z, hz⟩ : ∃ z, z = b1.modTb 12 (fun t => { t with applied := markFrom (s.blk.ft 12) 0 (s.blk.tb 12).applied }) := ⟨_, rfl⟩
  obtain ⟨hwsh, hlead, htime, hft, hrest⟩ : z.wsh = s.blk.wsh ∧ z.lead = s.blk.lead ∧ z.time = s.blk.time ∧ (∀ e, z.ft e = b1.ft e) ∧
      ∀ e, e < 13 → (z.tb e).kNext = (s.blk.tb e).kNext ∧ (z.tb e).kLater = (s.blk.tb e).kLater ∧ (z.tb e).step = (s.blk.tb e).step := by
    rw [hz, hb1]
    exact Block.elapseFt_applied
  obtain ⟨hnext, hlater, -⟩ := hrest 12 (by decide)
  have hfz : z.lead.flights = [] := by rw [hlead, hf]
  have hsrc : z.leadSrc = s.blk.leadSrc := by rw [Block.leadSrc, hlead, Block.leadSrc]
  have hdone : ∀ P : Block → Prop, P z.packageBoundary → Completes (.timeApplyBoundary 12) s P := fun P hP => by
    refine completes_of_on rfl (show execTimeApplyBoundary 12 s = s.on (.timeApplyBoundary 12) _ from rfl) ?_
    dsimp only
    rw [if_pos rfl, ← hb1, ← hz]
    exact hP
  rw [← htime]
  refine ⟨fun x k hk hx hsteps hadj => hdone _ ?_, fun hk hsteps => hdone _ ?_, fun n hn hsteps hset hstep => hdone _ ?_,
    fun v n hset hn hstep => hdone _ ?_, fun d b2 x k hd hb2 hk hx => ?_⟩
  · rw [← hnext] at hk
    have hdue : x ≤ z.ft 12 := hx.trans_eq (hft 12).symm
    rw [Block.packageBoundary_bends hsteps hfz]
    refine ⟨?_, ?_, Block.bend_ft.trans (hft 12), hwsh⟩
    all_goals rw [Block.modTime_tb_of, Block.bend_due fun y k' hk' => by rw [hk] at hk'; cases hk'; exact hdue]
    · exact Block.kDue_loaded hk hdue hadj
    · exact hlater
  · rw [← hnext] at hk
    rw [Block.packageBoundary_bends hsteps hfz]
    refine ⟨?_, rfl, rfl, Block.bend_ft.trans (hft 12), hwsh⟩
    rw [Block.modTime_tb_of, Block.bend_due fun y k' hk' => by rw [hk] at hk'; cases hk']
    exact Block.kDue_free hk hsteps
  · obtain ⟨hall, hraised, htime'⟩ := Block.packageBoundary_steps (n := n) hsteps hfz (fun d hd => (hrest d (by omega)).2.2.trans (hstep d hd))
      (fun v hv => absurd hv (by simp [hset])) fun _ => hn
    rw [hsrc] at hraised
    refine ⟨fun d hd => ?_, hraised.of_wsh hwsh.symm rfl, by rw [htime']; rfl, by rw [htime']; rfl⟩
    exact (hall d hd).trans (by rw [hft])
  · obtain ⟨hall, hraised, htime'⟩ := Block.packageBoundary_steps (n := n) (b := z) (by simp [TimeSys.steps, hset]) hfz (fun d hd => (hrest d (by omega)).2.2.trans (hstep d hd))
      (fun w hw => by rw [hset] at hw; cases hw; rw [hn, hft]) fun hnone => absurd hset (by simp [hnone])
    rw [hsrc] at hraised
    refine ⟨fun d hd => ?_, hraised.of_wsh hwsh.symm rfl, by rw [htime']; rfl⟩
    exact (hall d hd).trans (by rw [hft])
  · refine completes_of_on (by simp [Instr.WellFormed]; omega) (show execTimeApplyBoundary d s = s.on (.timeApplyBoundary d) _ from rfl) ?_
    dsimp only
    rw [if_neg (by omega), ← hb2]
    obtain ⟨hwsh', -, -, hft', hrest'⟩ := Block.elapseFt_applied (b := s.blk) (d := d) (y := markFrom (s.blk.ft d) 0 (s.blk.tb d).applied)
    rw [← hb2] at hwsh' hft' hrest'
    obtain ⟨hnext', -, hstep'⟩ := hrest' d (by omega)
    have happly := Block.dieApply_steps (hnext'.trans hk) hx
    rw [hft', hstep'] at happly
    rw [hft' d]
    obtain ⟨hk', hnone, hzero, hft'', hraised⟩ := happly
    exact ⟨hk', hnone, hzero, hft'', fun hne => (hraised hne).of_wsh hwsh'.symm rfl⟩

/-- Settles O27: the increment by the sum that a time base keeps, a boundary by the two ways in which the package passes it. -/
theorem timeBases : Obligations.TimeBases := ⟨timeBaseAddsItsIncrement, applyBoundaries⟩

end Sys2Proof.Machine
end

section
/-! PROOFS. The exchange of a follower with its parent (spec/07 R219 to R221). -/

namespace Sys2Proof.Machine

open Block (Within)

/-! ### Frames over a Pass port (09 R263) -/

section
variable {b : Block} {k : Nat}

/-- A Pass port lies in the domain of its own number. -/
theorem domOf_passAdp (hk : k < 8) : domOf (passAdp k) = some (200 + k) := by
  interval_cases k <;> rfl

/-- A frame of a Pass port that owes no ALIGN goes out on its cable; the time keeping, the collectors and the time bases are as they were. -/
theorem Block.putPassTime_sends {kind n t2 t3 : Nat} (hk : k < 8) (halign : (b.port k).sinceAlign < 27) : let z := b.putPassTime k kind n t2 t3
    z.farOut = .frame k (plainFrame .time (b.link (passAdp k)).next (b.link (passAdp k)).ackNo (passTimeCont kind n t2 t3)) :: b.farOut ∧
    z.time = b.time := by
  have hpass : isPass (passAdp k) = true ∧ locOf (passAdp k) - 408 = k := by interval_cases k <;> decide
  obtain ⟨hp, hloc⟩ := hpass
  intro z
  simp only [z, putPassTime, putPass, if_neg (Nat.not_le.2 halign), putFrame, hp, if_true, hloc]
  simp

end

section
variable {b : Block} {s : State} {k n t2 t3 d : Nat} {theta : Int} {x : PassX}

/-- 07 R219: the follower's request goes out at the next 1 ms, with its number, and its departure is recorded. -/
theorem passTimeExchange_requests (hk : k < 8) {b1 : Block} (hb1 : b1 = s.blk.elapseTo ((s.blk.now / ms + 1) * ms))
    (hparent : s.blk.time.parent = some k) (hleader : s.blk.time.leader = false) (hexch : s.blk.time.exch = none)
    (hdue : s.blk.time.exchDue = false) (hon : (s.blk.dom (200 + k)).st = 0) (hst : (s.blk.link (passAdp k)).st = .active)
    (halign : (s.blk.port k).sinceAlign < 27) : Completes .passTimeExchange s (fun b' =>
      b'.time.exch = some ⟨s.blk.time.exchNum, b1.ft 12, b1.now⟩ ∧ b'.time.exchNum = (s.blk.time.exchNum + 1) % 256 ∧
      b'.farOut = .frame k (plainFrame .time (s.blk.link (passAdp k)).next (s.blk.link (passAdp k)).ackNo
        (passTimeCont 0x11 s.blk.time.exchNum (b1.ft 12) 0)) :: s.blk.farOut) := by
  have hdom := domOf_passAdp hk
  refine completes_of_on rfl (show execPassTimeExchange s = s.on .passTimeExchange _ from rfl) ?_
  have hw : Within [.now, .elems, .gates, .tbs] s.blk b1 := by simp [hb1]
  unfold Block.passExchange
  rw [hparent]
  dsimp only
  rw [if_neg (by simp [hleader, hexch]), hdue, if_neg Bool.false_ne_true, ← hb1]
  have hlink : b1.link (passAdp k) = s.blk.link (passAdp k) := by simp only [hb1, Block.elapseTo_reads]
  have hport : b1.port k = s.blk.port k := by simp only [hb1, Block.elapseTo_reads]
  have hdomk : b1.dom (200 + k) = s.blk.dom (200 + k) := by simp only [hb1, Block.elapseTo_reads]
  have htime : b1.time = s.blk.time := hw .time (by decide)
  have hfar : b1.farOut = s.blk.farOut := hw .farOut (by decide)
  clear hb1 hw
  have hawake : (b1.modTime (fun t => { t with exchDue := true })).timeWake (passAdp k) = b1.modTime (fun t => { t with exchDue := true }) := by
    simp [Block.timeWake, hdom, hdomk, hon]
  have hcarries : (b1.modTime (fun t => { t with exchDue := true })).carries (passAdp k) = true := by
    simp [Block.carries, Block.domSt, hdom, hdomk, hon]
  rw [hawake, if_neg (by simp [hlink, hst, hcarries])]
  have htouch : ∀ y : Block, y.touch (passAdp k) = y.modDom (200 + k) (fun x => { x with idleFrom := y.now }) := fun y => by
    simp [Block.touch, hdom, show ¬ 200 + k < 128 by omega]
  rw [htouch]
  have halign' : (b1.port k).sinceAlign < 27 := by rwa [hport]
  refine ⟨?_, ?_, ?_⟩
  · rw [(Block.putPassTime_sends hk ?_).2, ← htime]
    · rfl
    · exact halign'
  · rw [(Block.putPassTime_sends hk ?_).2, ← htime]
    · rfl
    · exact halign'
  · rw [(Block.putPassTime_sends hk ?_).1, ← htime, ← hlink, ← hfar]
    · rfl
    · exact halign'

/-- 07 R219: the parent's reply carries the time at which it got the request and its own. -/
theorem passTimeRequest_replies {t1 : Nat} (hk : k < 8) (hn : n < 256) (hruns : (s.blk.link (passAdp k)).runs = true)
    (hopen : s.blk.linkStopped (passAdp k) = false) (halign : (s.blk.port k).sinceAlign < 27) : Completes (.passTimeRequest k n t1) s (fun b' =>
      b'.farOut = .frame k (plainFrame .time (s.blk.link (passAdp k)).next (s.blk.link (passAdp k)).ackNo
        (passTimeCont 0x12 n (s.blk.ft 12) (s.blk.ft 12))) :: s.blk.farOut ∧ b'.time = s.blk.time) := by
  have hdom := domOf_passAdp hk
  refine completes_of_on (by simp [Instr.WellFormed, hk, hn]) (show execPassTimeRequest k n t1 s = s.on (.passTimeRequest k n t1) _ from rfl) ?_
  have htouch : s.blk.touch (passAdp k) = s.blk.modDom (200 + k) (fun x => { x with idleFrom := s.blk.now }) := by
    simp [Block.touch, hdom, show ¬ 200 + k < 128 by omega]
  unfold Block.passRequest
  rw [if_neg (by simp [hruns, hopen]), htouch]
  exact Block.putPassTime_sends (b := s.blk.modDom (200 + k) _) hk halign

/-- 07 R221: with no lock, or an offset above 320, the loop asks for a step at the next boundary. -/
theorem Block.timeLoop_steps (h : b.time.locked = false ∨ 320 < theta.natAbs) :
    b.timeLoop theta = b.modTime (fun t => { t with pendStep := -theta, loopStep := true, locked := true }) := by
  obtain h | h := h <;> simp [timeLoop, h]

@[simp] theorem Block.loadK_within {ps : List Part} {b0 : Block} {k : Int} (hs : [.tbs] ⊆ ps) :
    Within ps b0 (b.loadK k) ↔ Within ps b0 b := by
  simp at hs; simp [loadK, hs]

/-- 07 R213: with no k loaded, the k given waits for the next boundary. -/
theorem Block.loadK_kNext {c : Int} (hnone : (b.tb 12).kNext = none) : ((b.loadK c).tb 12).kNext = some (applyAt (b.ft 12), c) := by
  unfold loadK
  rw [modTb_tb, hnone]
  rfl

/-- 07 R221: a small offset of a locked package turns into f and into a k for the next boundary. -/
theorem Block.timeLoop_bends (hlock : b.time.locked = true) (hsmall : theta.natAbs ≤ 320) :
    (∃ r, (b.timeLoop theta).time = { b.time with f := clampTo 858993 (b.time.f - theta * 256), rateLimAt := r }) ∧
    (b.timeLoop theta).tbs = (b.loadK (clampTo 2147484 (clampTo 858993 (b.time.f - theta * 256) - theta * 1024))).tbs := by
  have hloaded : ∀ f k : Int, ((b.modTime (fun t => { t with f := f })).loadK k).time = { b.time with f := f } ∧
      ((b.modTime (fun t => { t with f := f })).loadK k).tbs = (b.loadK k).tbs := fun _ _ => ⟨rfl, rfl⟩
  unfold timeLoop
  dsimp only
  rw [if_neg (by simp [hlock, hsmall])]
  obtain ⟨htime, htbs⟩ := hloaded (clampTo 858993 (b.time.f - theta * 256)) (clampTo 2147484 (clampTo 858993 (b.time.f - theta * 256) - theta * 1024))
  rw [← htbs]
  generalize (b.modTime _).loadK _ = c at htime ⊢
  split_ifs
  · have hw : Within [.elems, .wsh] c (c.suppress c.leadSrc 0x35) := by simp
    exact ⟨⟨_, (hw .time (by decide)).trans htime⟩, hw .tbs (by decide)⟩
  · have hw : Within [.elems, .wsh] c (c.event c.leadSrc 0x35 none (detT (clampTo 858993 (b.time.f - theta * 256)))) := by simp
    have hev := (hw .time (by decide)).trans htime
    exact ⟨⟨_, by rw [modTime_time, hev]⟩, hw .tbs (by decide)⟩
  · exact ⟨⟨_, htime⟩, rfl⟩

/-- What an accepted reply leaves of the time keeping, before the loop runs on it (07 R220). -/
def TimeSys.accept (t : TimeSys) (k d now : Nat) (theta : Int) : TimeSys :=
  { t.note k (some d) with
    exch := none, fresh := false, d := d, theta := theta, badRun := 0, lastAcc := now, accSince := true, holdover := false }


/-- An event of a block that has the collectors of another is raised in that other one. -/
theorem Block.event_raised_from {a : Block} {u kind sev : Nat} {pk : Option (BitVec 128)} {det : BitVec 32} (hsev : kindSev u kind = sev)
    (hwsh : a.wsh = b.wsh) : Raised a (b.event u kind pk det) u kind sev :=
  (event_raised_of hsev).of_wsh hwsh rfl

/-- 07 R219, R220: a bad exchange is counted and over; the eighth in a row is reported. -/
theorem Block.exchangeBad_counts : (b.exchangeBad k).time =
      { (b.time.note k none) with bad := b.time.bad + 1, badRun := if b.time.badRun + 1 = 8 then 0 else b.time.badRun + 1, exch := none } ∧
    (b.time.badRun ≠ 7 → (b.exchangeBad k).wsh = b.wsh) ∧
    (b.time.badRun = 7 → Raised b (b.exchangeBad k) (passAdp k) 0x34 0) := by
  have hw : Within [.elems, .time, .wsh] b (b.exchangeBad k) := by
    unfold exchangeBad
    dsimp only
    split <;> simp
  unfold exchangeBad
  dsimp only
  refine ⟨?_, fun h => ?_, fun h => ?_⟩
  · split_ifs <;> simp
  · rw [if_neg (by omega)]
    rfl
  · rw [if_pos (by omega)]
    exact event_raised_from (by simp [kindSev]) rfl

end

section
variable {s : State} {k n t2 t3 d : Nat} {theta : Int} {x : PassX}

section
variable (hexch : s.blk.time.exch = some x) (hnum : x.num = n) (hparent : s.blk.time.parent = some k)
  (htheta : theta = (((s.blk.ft 12 : Int) - t3) - ((t2 : Int) - x.t1)).tdiv 2)
  (hd : d = ((((t2 : Int) - x.t1) + ((s.blk.ft 12 : Int) - t3)).tdiv 2).toNat)
include hexch hnum hparent htheta hd

/-- 07 R220: a reply is judged by its d, accepted into the time keeping with its theta, or counted as bad. -/
theorem Block.passReply_judges : s.blk.passReply n t2 t3 =
    if s.blk.time.fresh || (match s.blk.time.leastD k with | some y => decide (d ≤ y + 32) | none => true) then
      (s.blk.modTime (fun t => t.accept k d s.blk.now theta)).timeLoop theta
    else s.blk.exchangeBad k := by
  unfold passReply
  rw [hexch, hparent]
  dsimp only
  rw [if_neg (by simp [hnum]), ← hd, ← htheta]
  simp only [Bool.not_eq_true', ← Bool.not_eq_true, ite_not]
  rfl

/-- 07 R220, R221: a reply near the least d is accepted, and the loop runs on its theta. -/
theorem passTimeReply_accepts (hn : n < 256) (hok : s.blk.time.fresh = true ∨ s.blk.time.leastD k = none) :
    Completes (.passTimeReply n t2 t3) s (fun b' => b'.time.exch = none ∧ b'.time.theta = theta ∧ b'.time.d = d ∧
      b'.time.ds = (s.blk.time.note k (some d)).ds ∧ b'.time.badRun = 0 ∧ b'.time.lastAcc = s.blk.now ∧ b'.time.holdover = false ∧
      (s.blk.time.locked = false ∨ 320 < theta.natAbs → b'.time.pendStep = -theta ∧ b'.time.loopStep = true ∧ b'.time.locked = true ∧
        b'.tbs = s.blk.tbs) ∧
      (s.blk.time.locked = true → theta.natAbs ≤ 320 → (s.blk.tb 12).kNext = none → b'.time.f = clampTo 858993 (s.blk.time.f - theta * 256) ∧
        (b'.tb 12).kNext = some (applyAt (s.blk.ft 12), clampTo 2147484 (b'.time.f - theta * 1024)))) := by
  refine completes_of_on (by simp [Instr.WellFormed, hn]) (show execPassTimeReply n t2 t3 s = s.on (.passTimeReply n t2 t3) _ from rfl) ?_
  rw [Block.passReply_judges hexch hnum hparent htheta hd, if_pos (by obtain h | h := hok <;> simp [h])]
  by_cases hloop : s.blk.time.locked = false ∨ 320 < theta.natAbs
  · rw [Block.timeLoop_steps (b := s.blk.modTime (fun t => t.accept k d s.blk.now theta)) hloop]
    refine ⟨rfl, rfl, rfl, rfl, rfl, rfl, rfl, fun _ => ⟨rfl, rfl, rfl, rfl⟩, fun hl hs => ?_⟩
    simp [hl, hs.not_gt] at hloop
  · have hlock : s.blk.time.locked = true := by simpa using fun h => hloop (.inl h)
    obtain ⟨⟨r, htime⟩, htbs⟩ := Block.timeLoop_bends (b := s.blk.modTime (fun t => t.accept k d s.blk.now theta))
      hlock (not_lt.1 fun h => hloop (.inr h))
    rw [htime]
    refine ⟨rfl, rfl, rfl, rfl, rfl, rfl, rfl, fun h => absurd h hloop, fun _ _ hnone => ⟨rfl, ?_⟩⟩
    rw [show Block.tb _ 12 = _ from congrArg (SMap.get ({} : Tb) · 12) htbs]
    exact Block.loadK_kNext (b := s.blk.modTime (fun t => t.accept k d s.blk.now theta)) hnone

/-- 07 R220: a reply more than 32 above the least d is counted as bad. -/
theorem passTimeReply_rejects {y : Nat} (hn : n < 256) (hfresh : s.blk.time.fresh = false) (hleast : s.blk.time.leastD k = some y)
    (hfar : y + 32 < d) (hrun : s.blk.time.badRun ≠ 7) : Completes (.passTimeReply n t2 t3) s (fun b' =>
      b'.time = { (s.blk.time.note k none) with bad := s.blk.time.bad + 1, badRun := s.blk.time.badRun + 1, exch := none } ∧
      b'.wsh = s.blk.wsh) := by
  refine completes_of_on (by simp [Instr.WellFormed, hn]) (show execPassTimeReply n t2 t3 s = s.on (.passTimeReply n t2 t3) _ from rfl) ?_
  rw [Block.passReply_judges hexch hnum hparent htheta hd, if_neg (by simp [hfresh, hleast, hfar])]
  obtain ⟨htime, hquiet, -⟩ := Block.exchangeBad_counts (b := s.blk) (k := k)
  rw [if_neg (by omega)] at htime
  exact ⟨htime, hquiet hrun⟩

end

/-- 07 R219: no reply in 1 ms; the eighth loss in a row is reported. -/
theorem passTimeLoss_degrades (hexch : s.blk.time.exch = some x) (hparent : s.blk.time.parent = some k) (hrun : s.blk.time.badRun = 7) :
    Completes .passTimeLoss s (fun b' =>
      b'.time = { (s.blk.time.note k none) with bad := s.blk.time.bad + 1, badRun := 0, exch := none } ∧
      Raised s.blk b' (passAdp k) 0x34 0) := by
  refine completes_of_on rfl (show execPassTimeLoss s = s.on .passTimeLoss _ from rfl) ?_
  dsimp only
  rw [hexch, hparent]
  dsimp only
  have hw : Within [.now, .elems, .gates, .tbs] s.blk (s.blk.elapseTo (x.at_ + 320000)) := by simp
  have hsame := hw .time (by decide)
  obtain ⟨htime, -, hraised⟩ := Block.exchangeBad_counts (b := s.blk.elapseTo (x.at_ + 320000)) (k := k)
  rw [hsame, if_pos (by omega)] at htime
  exact ⟨htime, (hraised (by rw [hsame, hrun])).of_wsh (hw .wsh (by decide)).symm rfl⟩

/-- 07 R221: holdover is noted in the time keeping and reported by the lead. -/
theorem Block.holdover_reports {b b1 : Block} {det : BitVec 32} (htime : b1.time = b.time) (hlead : b1.lead = b.lead) (hwsh : b.wsh = b1.wsh) :
    let z := b1.modTime (fun t => { t with holdover := true })
    (z.event z.leadSrc 0x36 none det).time = { b.time with holdover := true } ∧ Raised b (z.event z.leadSrc 0x36 none det) b.leadSrc 0x36 1 := by
  intro z
  have hsrc : z.leadSrc = b.leadSrc := by simp only [z, leadSrc, modTime_lead, hlead]
  have hw : Within [.elems, .wsh] z (z.event b.leadSrc 0x36 none det) := by simp
  rw [hsrc, hw .time (by decide), ← htime]
  exact ⟨rfl, event_raised_from (by simp [kindSev]) hwsh⟩

/-- 07 R221: a follower without an accepted exchange for 100 ms is in holdover. -/
theorem timeHoldover_reports (hleader : s.blk.time.leader = false) (hout : s.blk.time.holdover = false) : Completes .timeHoldover s (fun b' =>
    b'.time = { s.blk.time with holdover := true } ∧ Raised s.blk b' s.blk.leadSrc 0x36 1) := by
  refine completes_of_on rfl (show execTimeHoldover s = s.on .timeHoldover _ from rfl) ?_
  dsimp only
  rw [if_neg (by simp [hleader, hout])]
  have hw : Within [.now, .elems, .gates, .tbs] s.blk (s.blk.elapseTo (s.blk.time.lastAcc + 100 * ms)) := by
    generalize s.blk.time.lastAcc + 100 * ms = t
    simp
  exact Block.holdover_reports (hw .time (by decide)) (hw .lead (by decide)) (hw .wsh (by decide)).symm

/-- Settles O28: the request and the reply of an exchange, what the reply leaves of the time keeping, and what its absence reports. -/
theorem parentExchange : Obligations.ParentExchange := by
  unfold Obligations.ParentExchange
  intro s k n t1 t2 t3 d theta x hn hk htheta hd
  refine ⟨fun b1 hb1 => passTimeExchange_requests hk hb1, passTimeRequest_replies hk hn, fun hexch hnum hparent =>
    passTimeReply_accepts hexch hnum hparent htheta hd hn, fun y hexch hnum hparent => passTimeReply_rejects hexch hnum hparent htheta hd hn,
    passTimeLoss_degrades, timeHoldover_reports⟩

end
end Sys2Proof.Machine
end

section
/-! PROOFS. The pulse per second and the timestamp pins (spec/07 R223, R224, R232; spec/17 R453). -/

namespace Sys2Proof.Machine

open Block (Within)

section
variable {b : Block} {s : State} {x v t0 cap m : Nat} {theta : Int}

/-! ### A pulse on PPS_IN (07 R223) -/

/-- A pulse whose distance from the last is out of range is rejected. -/
theorem Block.ppsEdge_rejects (hleader : b.time.leader = true) (harmed : b.time.ppsArmed = true) (hlast : b.time.ppsLast = some x)
    (hgap : b.now - x < 900 * ms ∨ 1100 * ms < b.now - x) : b.ppsEdge = b.ppsReject (b.now - x) := by
  unfold ppsEdge
  simp only [hleader, harmed, hlast, hgap, Bool.true_or, Bool.not_true, Bool.or_self, Bool.false_eq_true, if_false, decide_true, if_true,
    Option.getD_some]

/-- The time keeping with the pulse of now taken. -/
def TimeSys.pulsed (t : TimeSys) (now : Nat) : TimeSys := { t with ppsLast := some now }

/-- A pulse in range, with no set waiting for it, runs the loop on its offset against the nearest second. -/
theorem Block.ppsEdge_loops {n : Int} (hleader : b.time.leader = true) (harmed : b.time.ppsArmed = true) (hwait : b.time.ppsWait = none)
    (hlast : b.time.ppsLast = some x) (hlow : 900 * ms ≤ b.now - x) (hhigh : b.now - x ≤ 1100 * ms)
    (hn : n = (((b.ft 12 : Int) - b.time.ppsV) + second / 2) / second) (htheta : theta = (b.ft 12 : Int) - (b.time.ppsV + n * second)) :
    b.ppsEdge = (b.modTime (fun t => { t.pulsed b.now with theta := theta, accSince := true })).timeLoop theta := by
  have hgap : ¬ (b.now - x < 900 * ms ∨ 1100 * ms < b.now - x) := by omega
  unfold ppsEdge
  simp only [hleader, harmed, hlast, hgap, hwait, Bool.true_or, Bool.not_true, Bool.or_self, Bool.false_eq_true, if_false, decide_false]
  rw [htheta, hn]
  rfl

/-- The first pulse takes the set that waits for it: every time base steps, and the pulses count from the value set. -/
theorem Block.ppsEdge_sets (hleader : b.time.leader = true) (hwait : b.time.ppsWait = some (v, t0)) (hlast : b.time.ppsLast = none) :
    b.ppsEdge = (((b.modTime (fun t => t.pulsed b.now)).stepAll ((v : Int) - b.ft 12)).modTime (fun t =>
      { t with ppsWait := none, ppsArmed := true, ppsV := v })).finishAll (fun f => f.opc == 0x1C && f.a == 1) stOk (fun _ => [(16, 8, v)]) := by
  unfold ppsEdge
  simp only [hleader, hlast, hwait, Option.isSome_some, Bool.or_true, Bool.not_true, Bool.or_self, Bool.false_eq_true, if_false]
  rfl

section
variable (hleader : s.blk.time.leader = true)
include hleader

theorem ppsInEdge_loops {n : Int} (hn : n = (((s.blk.ft 12 : Int) - s.blk.time.ppsV) + second / 2) / second)
    (htheta : theta = (s.blk.ft 12 : Int) - (s.blk.time.ppsV + n * second)) (harmed : s.blk.time.ppsArmed = true)
    (hwait : s.blk.time.ppsWait = none) (hlast : s.blk.time.ppsLast = some x) (hlow : 900 * ms ≤ s.blk.now - x)
    (hhigh : s.blk.now - x ≤ 1100 * ms) (hlock : s.blk.time.locked = true) (hsmall : theta.natAbs ≤ 320) (hnone : (s.blk.tb 12).kNext = none) :
    Completes .ppsInEdge s (fun b' =>
      b'.time.ppsLast = some s.blk.now ∧ b'.time.theta = theta ∧ b'.time.f = clampTo 858993 (s.blk.time.f - theta * 256) ∧
      (b'.tb 12).kNext = some (applyAt (s.blk.ft 12), clampTo 2147484 (b'.time.f - theta * 1024))) := by
  refine completes_of_on rfl (show execPpsInEdge s = s.on .ppsInEdge _ from rfl) ?_
  rw [Block.ppsEdge_loops hleader harmed hwait hlast hlow hhigh hn htheta]
  obtain ⟨⟨r, htime⟩, htbs⟩ := Block.timeLoop_bends (theta := theta)
    (b := s.blk.modTime (fun t => { t.pulsed s.blk.now with theta := theta, accSince := true })) hlock hsmall
  rw [htime]
  refine ⟨rfl, rfl, rfl, ?_⟩
  rw [show Block.tb _ 12 = _ from congrArg (SMap.get ({} : Tb) · 12) htbs]
  exact Block.loadK_kNext (b := s.blk.modTime (fun t => { t.pulsed s.blk.now with theta := theta, accSince := true })) hnone

theorem ppsInEdge_rejects (harmed : s.blk.time.ppsArmed = true) (hlast : s.blk.time.ppsLast = some x)
    (hgap : s.blk.now - x < 900 * ms ∨ 1100 * ms < s.blk.now - x) (hfirst : s.blk.time.ppsRejAt = none) : Completes .ppsInEdge s (fun b' =>
      Raised s.blk b' (ioSrc 478) 0x37 0 ∧ b'.tbs = s.blk.tbs ∧ b'.time = { s.blk.time with ppsRejAt := some s.blk.now }) := by
  refine completes_of_on rfl (show execPpsInEdge s = s.on .ppsInEdge _ from rfl) ?_
  rw [Block.ppsEdge_rejects hleader harmed hlast hgap]
  unfold Block.ppsReject
  rw [hfirst]
  dsimp only
  rw [if_neg Bool.false_ne_true]
  generalize detT (s.blk.now - x : Nat) = det
  have hw : Within [.elems, .wsh] s.blk (s.blk.event (ioSrc 478) 0x37 none det) := by simp
  refine ⟨(Block.event_raised_from (by simp [kindSev]) rfl).of_wsh rfl rfl, hw .tbs (by decide), ?_⟩
  rw [Block.modTime_time, hw .time (by decide)]

/-- 07 R232: TIME_SET's value is the time at the pulse it waits for. -/
theorem ppsInEdge_sets (hwait : s.blk.time.ppsWait = some (v, t0)) (hlast : s.blk.time.ppsLast = none) (hv : v < 2 ^ 64)
    (hf : s.blk.lead.flights = []) : Completes .ppsInEdge s (fun b' => b'.ft 12 = v ∧ b'.time.ppsWait = none ∧ b'.time.ppsArmed = true ∧
      b'.time.ppsV = v ∧ Raised s.blk b' s.blk.leadSrc 0x32 0) := by
  refine completes_of_on rfl (show execPpsInEdge s = s.on .ppsInEdge _ from rfl) ?_
  rw [Block.ppsEdge_sets hleader hwait hlast]
  obtain ⟨hft, hraised, hw⟩ := Block.stepAll_steps (b := s.blk.modTime (fun t => t.pulsed s.blk.now)) (n := (v : Int) - s.blk.ft 12)
  have hflights := congrArg Lead.flights (hw .lead (by decide))
  rw [Block.finishAll_of_flights_nil ?_]
  on_goal 2 => exact hflights.trans hf
  refine ⟨(hft 12 (by decide)).trans ?_, rfl, rfl, rfl, hraised.of_wsh rfl rfl⟩
  have hsame : (s.blk.modTime (fun t => t.pulsed s.blk.now)).ft 12 = s.blk.ft 12 := rfl
  rw [hsame]
  omega

end

/-- 07 R232: with no pulse in 2 s the set that waits for one is dropped. -/
theorem timeSetPpsTimeout_drops (hwait : s.blk.time.ppsWait = some (v, t0)) : Completes .timeSetPpsTimeout s (fun b' =>
    b'.time = { s.blk.time with ppsWait := none } ∧ b'.now = (s.blk.elapseTo (t0 + 2 * second)).now) := by
  refine completes_of_on rfl (show execTimeSetPpsTimeout s = s.on .timeSetPpsTimeout _ from rfl) ?_
  dsimp only
  rw [hwait]
  dsimp only
  generalize t0 + 2 * second = t
  have hw : Within [.now, .elems, .gates, .tbs] s.blk (s.blk.elapseTo t) := by simp
  have hfin : ∀ y : Block, Within [.rings, .vecs, .lead, .hostOut] y (y.finishAll (fun f => f.opc == 0x1C && f.a == 1) stTimeout (fun _ => [])) :=
    fun y => by simp
  constructor
  · rw [hfin _ .time (by decide), Block.modTime_time, hw .time (by decide)]
  · rw [hfin _ .now (by decide), Block.modTime_now]

/-! ### The pulses out, and the timestamp pins (07 R224; 17 R453) -/

/-- The timestamp pins are apart from Fabric Time. -/
theorem Block.withTs_ft {ts : TsPins} {d : Nat} : ({ b with ts := ts } : Block).ft d = b.ft d := rfl

/-- Every time base already at or past a time, its elapse changes nothing. -/
theorem Block.elapseFt_of_le {d : Nat} (h : x ≤ b.ft d) : b.elapseFt d x = b := if_pos h

/-- The second at which PPS_OUT next pulses: the one just reached, unless it has pulsed for it. -/
def Block.ppsOutAt (b : Block) (m : Nat) : Nat := if b.ft 12 < m + 2 && b.ts.ppsAt != some m then m else m + second

/-- The pulse of PPS_OUT at a Fabric Time. -/
def Block.ppsOut (b : Block) (x : Nat) : Block :=
  { b.elapseFt 12 x with ts := { (b.elapseFt 12 x).ts with ppsOutTo := (b.elapseFt 12 x).ft 12 + us, ppsAt := some x } }

theorem ppsOutSecond_completes {P : Block → Prop} (h : P (s.blk.ppsOut (s.blk.ppsOutAt (s.blk.ft 12 / second * second)))) :
    Completes .ppsOutSecond s P :=
  completes_of_on rfl (show execPpsOutSecond s = s.on .ppsOutSecond (fun b => b.ppsOut (b.ppsOutAt (b.ft 12 / second * second))) from rfl) h

/-- What a pulse of PPS_OUT leaves. -/
theorem Block.ppsOut_pulses : (b.ppsOut x).ts = { b.ts with ppsOutTo := (b.ppsOut x).ft 12 + us, ppsAt := some x } ∧
    (b.ppsOut x).wsh = b.wsh ∧ (b.ppsOut x).ft 12 = (b.elapseFt 12 x).ft 12 := by
  have hw : Within [.now, .elems, .gates, .tbs] b (b.elapseFt 12 x) := by simp
  have hft : (b.ppsOut x).ft 12 = (b.elapseFt 12 x).ft 12 := withTs_ft
  refine ⟨?_, hw .wsh (by decide), hft⟩
  rw [hft, ← hw .ts (by decide)]
  rfl

/-- 07 R224: PPS_OUT pulses at a second just reached without it, else at the next. -/
theorem ppsOutSecond_pulses (hm : m = s.blk.ft 12 / second * second) :
    (s.blk.ft 12 < m + 2 → s.blk.ts.ppsAt ≠ some m → Completes .ppsOutSecond s (fun b' =>
      b' = { s.blk with ts := { s.blk.ts with ppsOutTo := s.blk.ft 12 + us, ppsAt := some m } })) ∧
    (m + 2 ≤ s.blk.ft 12 ∨ s.blk.ts.ppsAt = some m → Completes .ppsOutSecond s (fun b' =>
      b'.ts = { s.blk.ts with ppsOutTo := b'.ft 12 + us, ppsAt := some (m + second) } ∧ b'.wsh = s.blk.wsh ∧
      b'.ft 12 = (s.blk.elapseFt 12 (m + second)).ft 12)) := by
  refine ⟨fun hnear hnew => ppsOutSecond_completes ?_, fun hpast => ppsOutSecond_completes ?_⟩
  · have hle : m ≤ s.blk.ft 12 := hm ▸ Nat.div_mul_le_self ..
    rw [← hm, Block.ppsOutAt, if_pos (by simp [hnear, hnew]), Block.ppsOut, Block.elapseFt_of_le hle]
  · have hnext : ¬ (decide (s.blk.ft 12 < m + 2) && s.blk.ts.ppsAt != some m) = true := by
      obtain h | h := hpast
      · simp [Nat.not_lt.2 h]
      · simp [h]
    rw [← hm, Block.ppsOutAt, if_neg hnext]
    exact Block.ppsOut_pulses

/-- 17 R453: an edge within 50 ns of the last is only counted. -/
theorem tsInEdge_counts (hlast : s.blk.ts.lastEdge = some x) (hnear : s.blk.now < x + 160) : Completes .tsInEdge s (fun b' =>
    b'.ts = { s.blk.ts with lastEdge := some s.blk.now, count := min 0xFFFFFFFF (s.blk.ts.count + 1) } ∧ b'.wsh = s.blk.wsh) := by
  refine completes_of_on rfl (show execTsInEdge s = s.on .tsInEdge _ from rfl) ?_
  unfold Block.tsEdge
  rw [hlast]
  dsimp only
  rw [if_pos (by simp [hnear])]
  exact ⟨rfl, rfl⟩

/-- A capture that is reported waits no longer, and is the last one reported. -/
theorem Block.captureEvent_reports : Raised b (b.captureEvent cap) (ioSrc 478) 0x38 0 ∧
    (b.captureEvent cap).ts = { b.ts with waiting := none, lastEv := some (b.ft 12) } := by
  unfold captureEvent
  dsimp only
  generalize hm : ({ b.mkMsg (ioSrc 478) 0x38 0 none 0 with time := cap } : Msg) = msg
  have hw : Within [.elems, .wsh] b (b.send msg) := by simp
  refine ⟨?_, ?_⟩
  · exact (show Raised b (b.send msg) (ioSrc 478) 0x38 0 from hm ▸ b.send_raised _).of_wsh rfl rfl
  · rw [hw .ts (by decide), show (b.send msg).ft 12 = b.ft 12 from congrArg (fun m => (SMap.get ({} : Tb) m 12).ft) (hw .tbs (by decide))]

/-- The block with an edge of now captured on TS_IN. -/
def Block.edged (b : Block) : Block := { b with ts := { b.ts with lastEdge := some b.now, capture := b.ft 12 } }

/-- The block with the edge of now waiting for its report. -/
def Block.edgeWaits (b : Block) : Block :=
  { b.edged with ts := { (if b.ts.waiting.isSome then b.edged.ts.more else b.edged.ts) with waiting := some (b.ft 12) } }

theorem Block.edgeWaits_waits : b.edgeWaits.ts.capture = b.ft 12 ∧ b.edgeWaits.ts.waiting = some (b.ft 12) ∧ b.edgeWaits.wsh = b.wsh ∧
    b.edgeWaits.ts.count = (if b.ts.waiting.isSome then min 0xFFFFFFFF (b.ts.count + 1) else b.ts.count) := by
  unfold edgeWaits
  split <;> exact ⟨rfl, rfl, rfl, rfl⟩

/-- An edge that is the first one is captured; it is reported, or waits where the last report is not 1 ms ago. -/
theorem Block.tsEdge_captures (hlast : b.ts.lastEdge = none) : b.tsEdge =
    if (match b.ts.lastEv with | some x => decide (b.ft 12 < x + ms) | none => false) then
      b.edgeWaits
    else b.edged.captureEvent (b.ft 12) := by
  unfold tsEdge
  rw [hlast]
  simp only [Bool.not_eq_true', ← Bool.not_eq_true, ite_not, withTs_ft, Bool.false_eq_true]
  rfl

/-- 17 R453: the first edge is captured and reported. -/
theorem tsInEdge_reports (hlast : s.blk.ts.lastEdge = none) (hev : s.blk.ts.lastEv = none) : Completes .tsInEdge s (fun b' =>
    b'.ts.capture = s.blk.ft 12 ∧ b'.ts.lastEv = some (s.blk.ft 12) ∧ b'.ts.count = s.blk.ts.count ∧ Raised s.blk b' (ioSrc 478) 0x38 0) := by
  refine completes_of_on rfl (show execTsInEdge s = s.on .tsInEdge _ from rfl) ?_
  rw [Block.tsEdge_captures hlast, hev, if_neg Bool.false_ne_true]
  obtain ⟨hraised, hts⟩ := Block.captureEvent_reports (b := s.blk.edged) (cap := s.blk.ft 12)
  rw [hts]
  exact ⟨rfl, rfl, rfl, hraised.of_wsh rfl rfl⟩

/-- 17 R453: an edge within 1 ms of the last one reported waits; the one that waited before is overwritten and counted. -/
theorem tsInEdge_waits (hlast : s.blk.ts.lastEdge = none) (hev : s.blk.ts.lastEv = some x) (hsoon : s.blk.ft 12 < x + ms) :
    Completes .tsInEdge s (fun b' => b'.ts.capture = s.blk.ft 12 ∧ b'.ts.waiting = some (s.blk.ft 12) ∧ b'.wsh = s.blk.wsh ∧
      b'.ts.count = (if s.blk.ts.waiting.isSome then min 0xFFFFFFFF (s.blk.ts.count + 1) else s.blk.ts.count)) := by
  refine completes_of_on rfl (show execTsInEdge s = s.on .tsInEdge _ from rfl) ?_
  have hwait : s.blk.tsEdge = s.blk.edgeWaits := by
    rw [Block.tsEdge_captures hlast, hev]
    exact if_pos (decide_eq_true hsoon)
  rw [hwait]
  exact Block.edgeWaits_waits

/-- 17 R453: the capture that waits is reported 1 ms after the last one. -/
theorem tsCapture_reports (hwait : s.blk.ts.waiting = some cap) : Completes .tsCapture s (fun b' =>
    b'.ts.waiting = none ∧ b'.ts.capture = s.blk.ts.capture ∧ Raised s.blk b' (ioSrc 478) 0x38 0) := by
  refine completes_of_on rfl (show execTsCapture s = s.on .tsCapture _ from rfl) ?_
  rw [hwait]
  dsimp only
  generalize s.blk.ts.lastEv.getD 0 + ms = t
  have hw : Within [.now, .elems, .gates, .tbs] s.blk (s.blk.elapseFt 12 t) := by simp
  obtain ⟨hraised, hts⟩ := Block.captureEvent_reports (b := s.blk.elapseFt 12 t) (cap := cap)
  rw [hts, hw .ts (by decide)]
  exact ⟨rfl, rfl, hraised.of_wsh (hw .wsh (by decide)).symm rfl⟩

/-- 07 R224: TS_OUT pulses once, at the time compared. -/
theorem tsCompareMatch_pulses (harmed : s.blk.ts.armed = true) : Completes .tsCompareMatch s (fun b' =>
    b'.ts.armed = false ∧ b'.ts.tsOutTo = b'.ft 12 + 320 ∧ b'.ft 12 = (s.blk.elapseFt 12 s.blk.ts.compare).ft 12 ∧ b'.wsh = s.blk.wsh) := by
  refine completes_of_on rfl (show execTsCompareMatch s = s.on .tsCompareMatch _ from rfl) ?_
  rw [if_neg (by simp [harmed])]
  have hw : Within [.now, .elems, .gates, .tbs] s.blk (s.blk.elapseFt 12 s.blk.ts.compare) := by simp
  exact ⟨rfl, rfl, rfl, hw .wsh (by decide)⟩

end

theorem ppsInput : Claims.PpsInput := by
  intro s x v t0 hleader
  exact ⟨fun n theta hn htheta harmed hwait hlast _ => ppsInEdge_loops hleader hn htheta harmed hwait hlast,
    ppsInEdge_rejects hleader, ppsInEdge_sets hleader, timeSetPpsTimeout_drops⟩

theorem timestampPins : Claims.TimestampPins := fun _ _ _ =>
  ⟨fun _ => ppsOutSecond_pulses, tsInEdge_counts, tsInEdge_reports, tsInEdge_waits, tsCapture_reports, tsCompareMatch_pulses⟩

/-- Settles O29: PPS_IN by what a pulse does in range, out of range and to a set that waits, the timestamp pins edge by edge. -/
theorem ppsAndTimestampPins : Obligations.PpsAndTimestampPins := ⟨ppsInput, timestampPins⟩

end Sys2Proof.Machine
end

section
/-! PROOFS. The fault, counter, time and query commands (spec/11 R325, R332): a fault that is forced while its die's collector is full. -/

namespace Sys2Proof.Machine

/-- FAULT_FORCE of the forced kind 0xFE at source 0, a router of die 0, as the descriptor at the front of ring 3. -/
def forceAtRouter : Cmd :=
  { ring := 3, desc := [0x17, 0x80] ++ List.replicate 12 0 ++ [0xFE] ++ List.replicate 49 0, buf := none, bufOk := true }

/-- The lead serves ring 3, and the collector of die 0 holds as many messages as it has room for. -/
def fullCollector : State :=
  ⟨{ lead := { who := some 0, bootRom := false },
     rings := [(3, { en := true, log2 := 4, prod := 1 }), (11, { en := true, log2 := 4 })],
     wsh := { die := [(0, List.replicate 64 { src := 0, kind := 0x01, sev := 0, time := 0 })] } }, []⟩

theorem fullCollector_served : Served fullCollector.blk forceAtRouter (faultForceForm forceAtRouter) := by
  unfold Served
  decide +kernel

/-- Refutes O46: the message of a fault that is forced goes into the collector of its die only where that has room (11 R315). The statement has
no premise on it; behind a collector that holds 64 messages the forced message waits at its source, and the collector stays as it was. -/
theorem not_faultCounterTimeAndQueryCommands : ¬ Obligations.FaultCounterTimeAndQueryCommands := by
  intro h
  obtain ⟨hForce, -⟩ := h fullCollector forceAtRouter
  have hDone := hForce 0 0xFE (by decide) (by decide) fullCollector_served (by decide) (by decide) (by decide) (by decide)
  obtain ⟨-, m, hDie, -⟩ := hDone.effect (by decide)
    (show execFaultForce forceAtRouter fullCollector = fullCollector.on (.faultForce forceAtRouter) _ from rfl)
  have hLength := congrArg List.length hDie
  rw [List.length_append, List.length_singleton] at hLength
  exact absurd hLength (by decide +kernel)

end Sys2Proof.Machine
end

section
/-! PROOFS. The frame of the commands of the die-to-die links, the Pass ports and time (spec/07 R212; 08 R248; 09 R273). -/

namespace Sys2Proof.Machine

open Block (Within)

section
variable {ps : List Part} {b0 b : Block}

@[simp] theorem Block.within_timeX {x} (hs : .timeX ∈ ps) : Within ps b0 { b with timeX := x } ↔ Within ps b0 b :=
  Within.iff (qs := [.timeX]) (fun p hp => by cases p <;> trivial) (by simp [hs])

@[simp] theorem Block.within_ts {x} (hs : .ts ∈ ps) : Within ps b0 { b with ts := x } ↔ Within ps b0 b :=
  Within.iff (qs := [.ts]) (fun p hp => by cases p <;> trivial) (by simp [hs])

@[simp] theorem Block.within_colTrained {x} (hs : .colTrained ∈ ps) : Within ps b0 { b with colTrained := x } ↔ Within ps b0 b :=
  Within.iff (qs := [.colTrained]) (fun p hp => by cases p <;> trivial) (by simp [hs])

@[simp] theorem Block.within_ridgeless {x} (hs : .ridgeless ∈ ps) : Within ps b0 { b with ridgeless := x } ↔ Within ps b0 b :=
  Within.iff (qs := [.ridgeless]) (fun p hp => by cases p <;> trivial) (by simp [hs])

@[simp] theorem Block.rotFail_within {k} (hs : [.elems, .ports, .wsh, .rings, .vecs, .lead, .hostOut] ⊆ ps) :
    Within ps b0 (b.rotFail k) ↔ Within ps b0 b := by
  simp at hs
  unfold rotFail; dsimp only; split <;> simp [hs]

@[simp] theorem Block.laneRepair_within {k lane} (hs : [.elems, .ports, .wsh, .rings, .vecs, .lead, .hostOut] ⊆ ps) :
    Within ps b0 (b.laneRepair k lane) ↔ Within ps b0 b := by
  simp at hs
  unfold laneRepair; dsimp only; split
  · simp [hs]
  · split <;> simp [hs]

@[simp] theorem Block.shadowPassed_within {k} (hs : [.ports] ⊆ ps) :
    Within ps b0 (b.shadowPassed k) ↔ Within ps b0 b := by
  simp at hs
  unfold shadowPassed; dsimp only; split <;> simp [hs]

@[simp] theorem Block.alignIn_within {k num at_ m pr ack shadow suspect} (hs : [.elems, .links, .ports, .wsh, .rings, .vecs, .lead, .hostOut] ⊆ ps) :
    Within ps b0 (b.alignIn k num at_ m pr ack shadow suspect) ↔ Within ps b0 b := by
  simp at hs
  unfold alignIn; dsimp only; split
  · simp
  · cases suspect <;> simp [hs]

@[simp] theorem Block.ignorePress_within {k} (hs : [.ports] ⊆ ps) :
    Within ps b0 (b.ignorePress k) ↔ Within ps b0 b := by
  simp at hs; simp [ignorePress, hs]

@[simp] theorem Block.steer_within {k byCmd} (hs : [.elems, .ports, .stws, .gold, .lead] ⊆ ps) :
    Within ps b0 (b.steer k byCmd) ↔ Within ps b0 b := by
  simp at hs; simp [steer, hs]

@[simp] theorem Block.follow_within {k byCmd} (hs : [.elems, .ports, .stws, .gold, .wsh, .lead] ⊆ ps) :
    Within ps b0 (b.follow k byCmd) ↔ Within ps b0 b := by
  simp at hs; simp [follow, hs]

@[simp] theorem Block.closeIn_within {k cause} (hs : [.elems, .ports, .stws, .scopes, .gold, .wsh, .lead] ⊆ ps) :
    Within ps b0 (b.closeIn k cause) ↔ Within ps b0 b := by
  simp at hs; simp [closeIn, hs]

@[simp] theorem Block.creditNext_within {a} (hs : [.colTrained, .links, .ports, .wsh] ⊆ ps) :
    Within ps b0 (b.creditNext a) ↔ Within ps b0 b := by
  simp at hs; simp [creditNext, hs]

@[simp] theorem Block.stageFail_within {a} (hs : [.elems, .links, .ports, .scopes, .wsh, .rings, .vecs, .lead, .hostOut] ⊆ ps) :
    Within ps b0 (b.stageFail a) ↔ Within ps b0 b := by
  simp at hs; simp [stageFail, hs]

@[simp] theorem Block.creditInitIn_within {a depths pool} (hs : [.colTrained, .elems, .links, .ports, .scopes, .wsh, .rings, .vecs, .lead,
    .hostOut] ⊆ ps) :
    Within ps b0 (b.creditInitIn a depths pool) ↔ Within ps b0 b := by
  simp at hs; simp [creditInitIn, hs]

@[simp] theorem Block.echoIn_within {a} (hs : [.colTrained, .links, .ports, .wsh] ⊆ ps) :
    Within ps b0 (b.echoIn a) ↔ Within ps b0 b := by
  simp at hs; simp [echoIn, hs]

@[simp] theorem Block.paramIn_within {a p} (hs : [.ridgeless, .elems, .links, .ports, .scopes, .wsh] ⊆ ps) :
    Within ps b0 (b.paramIn a p) ↔ Within ps b0 b := by
  simp at hs
  unfold paramIn; dsimp only; split
  · simp
  split
  · simp [hs]
  rw [within_ite, linkStep_within (by simp [hs]), ite_self, within_ite, modPort_within (by simp [hs]), ite_self, within_ite,
    within_foldl (fun b x => by simp [hs]), within_ridgeless hs.1, ite_self, modLink_within (by simp [hs])]

@[simp] theorem Block.timeLoop_within {theta} (hs : [.elems, .tbs, .time, .wsh] ⊆ ps) :
    Within ps b0 (b.timeLoop theta) ↔ Within ps b0 b := by
  simp at hs
  unfold timeLoop; dsimp only; split <;> simp [hs]

@[simp] theorem Block.passReply_within {n t2 t3} (hs : [.elems, .tbs, .time, .wsh] ⊆ ps) :
    Within ps b0 (b.passReply n t2 t3) ↔ Within ps b0 b := by
  simp at hs
  unfold passReply; dsimp only; split <;> simp [hs]

@[simp] theorem Block.putPassTime_within {k kind n t2 t3} (hs : [.elems, .links, .ports, .wsh, .rings, .vecs, .lead, .hostOut, .farOut] ⊆ ps) :
    Within ps b0 (b.putPassTime k kind n t2 t3) ↔ Within ps b0 b := by
  simp at hs; simp [putPassTime, hs]

@[simp] theorem Block.passRequest_within {k n} (hs : [.elems, .links, .ports, .doms, .wsh, .rings, .vecs, .lead, .hostOut, .farOut] ⊆ ps) :
    Within ps b0 (b.passRequest k n) ↔ Within ps b0 b := by
  simp at hs; simp [passRequest, hs]

@[simp] theorem Block.admitLink_within {a} (hs : [.elems, .stws, .gold, .lead] ⊆ ps) :
    Within ps b0 (b.admitLink a) ↔ Within ps b0 b := by
  simp at hs; simp [admitLink, hs]

@[simp] theorem Block.moveLane_within {a lane} (hs : [.elems, .links, .wsh] ⊆ ps) :
    Within ps b0 (b.moveLane a lane).1 ↔ Within ps b0 b := by
  simp at hs
  unfold moveLane; dsimp only; split <;> simp [hs]

@[simp] theorem Block.moveSuspects_within {a} (hs : [.elems, .links, .wsh] ⊆ ps) :
    Within ps b0 (b.moveSuspects a) ↔ Within ps b0 b := by
  simp at hs; simp [moveSuspects, hs]

@[simp] theorem Block.replayLink_within {a} (hs : [.elems, .links, .wsh] ⊆ ps) :
    Within ps b0 (b.replayLink a) ↔ Within ps b0 b := by
  simp at hs
  unfold replayLink; dsimp only; split <;> simp [hs]

@[simp] theorem Block.retrain_within {a} (hs : [.elems, .links, .scopes, .wsh] ⊆ ps) :
    Within ps b0 (b.retrain a) ↔ Within ps b0 b := by
  simp at hs
  unfold retrain; dsimp only; split <;> simp [hs]

@[simp] theorem Block.readyIn_within {a} (hs : [.colTrained, .elems, .links, .ports, .wsh] ⊆ ps) :
    Within ps b0 (b.readyIn a) ↔ Within ps b0 b := by
  simp at hs
  unfold readyIn; dsimp only; split
  · simp
  · split <;> simp [hs]

@[simp] theorem Block.readyTake_within {a} (hs : [.colTrained, .elems, .links, .ports, .stws, .gold, .wsh, .lead] ⊆ ps) :
    Within ps b0 (b.readyTake a) ↔ Within ps b0 b := by
  simp at hs; simp [readyTake, hs]

@[simp] theorem Block.modTx_within {a f} (hs : [.timeX] ⊆ ps) :
    Within ps b0 (b.modTx a f) ↔ Within ps b0 b := by
  simp at hs; simp [modTx, hs]

@[simp] theorem Block.putTime_within {a x kind rest} (hs : [.elems, .links, .ports, .farOut] ⊆ ps) :
    Within ps b0 (b.putTime a x kind rest) ↔ Within ps b0 b := by
  simp at hs; simp [putTime, hs]

@[simp] theorem Block.timeReqIn_within {k} (hs : [.elems, .links, .ports, .timeX, .doms, .farOut] ⊆ ps) :
    Within ps b0 (b.timeReqIn k) ↔ Within ps b0 b := by
  simp at hs; simp [timeReqIn, hs]

@[simp] theorem Block.timeResIn_within {k} (hs : [.elems, .links, .ports, .tbs, .timeX, .doms, .wsh] ⊆ ps) :
    Within ps b0 (b.timeResIn k) ↔ Within ps b0 b := by
  simp at hs; simp [timeResIn, hs]

@[simp] theorem Block.timeLost_within {a} (hs : [.elems, .links, .ports, .timeX, .scopes, .wsh, .rings, .vecs, .lead, .hostOut] ⊆ ps) :
    Within ps b0 (b.timeLost a) ↔ Within ps b0 b := by
  simp at hs; simp [timeLost, hs]

@[simp] theorem Block.timeRspIn_within {k} (hs : [.elems, .links, .ports, .timeX, .scopes, .wsh, .rings, .vecs, .lead, .hostOut, .farOut] ⊆ ps) :
    Within ps b0 (b.timeRspIn k) ↔ Within ps b0 b := by
  simp at hs; simp [timeRspIn, hs]

@[simp] theorem Block.timeFrame_within {a c} (hs : [.elems, .links, .ports, .tbs, .timeX, .doms, .scopes, .wsh, .rings, .vecs, .lead, .hostOut,
    .farOut] ⊆ ps) :
    Within ps b0 (b.timeFrame a c) ↔ Within ps b0 b := by
  simp at hs
  unfold timeFrame; dsimp only; split
  · simp
  · split <;> simp [hs]

@[simp] theorem Block.frameEffect_within {a fr} (hs : [.colTrained, .ridgeless, .elems, .links, .ports, .tbs, .timeX, .time, .doms, .stws,
    .scopes, .gold, .wsh, .rings, .vecs, .lead, .hostOut, .farOut] ⊆ ps) :
    Within ps b0 (b.frameEffect a fr) ↔ Within ps b0 b := by
  simp at hs
  unfold frameEffect; dsimp only; split <;> simp [hs]

@[simp] theorem Block.countFixed_within {a x} (hs : [.elems, .links, .wsh] ⊆ ps) :
    Within ps b0 (b.countFixed a x) ↔ Within ps b0 b := by
  simp at hs; simp [countFixed, hs]

@[simp] theorem Block.ackLink_within {a ack} (hs : [.links] ⊆ ps) :
    Within ps b0 (b.ackLink a ack) ↔ Within ps b0 b := by
  simp at hs
  unfold ackLink; dsimp only; split <;> simp [hs]

@[simp] theorem Block.dropTail_within {a vc f} (hs : [.elems] ⊆ ps) :
    Within ps b0 (b.dropTail a vc f) ↔ Within ps b0 b := by
  simp at hs; simp [dropTail, hs]

@[simp] theorem Block.linkFlit_within {a vc f} (hs : [.elems, .wires, .crWires, .nis, .gates, .links, .doms, .scopes, .wsh, .aborts] ⊆ ps) :
    Within ps b0 (b.linkFlit a vc f) ↔ Within ps b0 b := by
  simp at hs; simp [linkFlit, hs]

@[simp] theorem Block.nakLink_within {a} (hs : [.links] ⊆ ps) :
    Within ps b0 (b.nakLink a) ↔ Within ps b0 b := by
  simp at hs; simp [nakLink, hs]

@[simp] theorem Block.pmLink_within {a pm} (hs : [.links, .doms] ⊆ ps) :
    Within ps b0 (b.pmLink a pm) ↔ Within ps b0 b := by
  simp at hs; simp [pmLink, hs]

@[simp] theorem Block.goodFrame_within {a fr} (hs : [.elems, .wires, .crWires, .nis, .gates, .links, .doms, .scopes, .wsh, .aborts] ⊆ ps) :
    Within ps b0 (b.goodFrame a fr) ↔ Within ps b0 b := by
  simp at hs
  unfold goodFrame; dsimp only; split
  · simp [hs]
  split
  · simp [hs]
  split <;> simp [hs]

@[simp] theorem Block.frameIn_within {a fr err par bad} (hs : [.elems, .wires, .crWires, .nis, .gates, .links, .doms, .scopes, .wsh, .aborts] ⊆ ps) :
    Within ps b0 (b.frameIn a fr err par bad).1 ↔ Within ps b0 b := by
  simp at hs
  unfold frameIn; dsimp only; split
  · simp
  · split <;> simp [hs]

@[simp] theorem Block.frameTake_within {a fr err par bad} (hs : [.colTrained, .ridgeless, .elems, .wires, .crWires, .nis, .gates, .links, .ports,
    .tbs, .timeX, .time, .doms, .stws, .scopes, .gold, .wsh, .rings, .vecs, .lead, .aborts, .hostOut, .farOut] ⊆ ps) :
    Within ps b0 (b.frameTake a fr err par bad) ↔ Within ps b0 b := by
  have hin := frameIn_within (ps := ps) (b0 := b0) (b := b) (a := a) (fr := fr) (err := err) (par := par) (bad := bad)
  simp at hs hin
  unfold frameTake
  split <;> next x he => simp_all

@[simp] theorem Block.passHold_within {a fr good} (hs : [.links] ⊆ ps) :
    Within ps b0 (b.passHold a fr good) ↔ Within ps b0 b := by
  simp at hs; simp [passHold, hs]

@[simp] theorem Block.trainRepair_within {a lanes} (hs : [.elems, .links, .wsh] ⊆ ps) :
    Within ps b0 (b.trainRepair a lanes).1 ↔ Within ps b0 b := by
  simp at hs
  unfold trainRepair; dsimp only; split
  · simp
  · rw [within_ite, moveSuspects_within (by simp [hs]), ite_self]
    exact within_foldl_pair fun x lane => by split <;> simp [hs]

@[simp] theorem Block.trained_within {a lanes} (hs : [.elems, .links, .ports, .scopes, .wsh, .rings, .vecs, .lead, .hostOut] ⊆ ps) :
    Within ps b0 (b.trained a lanes) ↔ Within ps b0 b := by
  simp at hs
  unfold trained; dsimp only; split <;> simp [hs]

@[simp] theorem Block.dueLost_within {a} (hs : [.elems, .timeX, .wsh] ⊆ ps) :
    Within ps b0 (b.dueLost a) ↔ Within ps b0 b := by
  simp at hs; simp [dueLost, hs]

@[simp] theorem Block.timeSend_within {a} (hs : [.elems, .links, .ports, .timeX, .doms, .farOut] ⊆ ps) :
    Within ps b0 (b.timeSend a) ↔ Within ps b0 b := by
  simp at hs
  unfold timeSend; dsimp only; split <;> simp [hs]

@[simp] theorem Block.timeWake_within {a} (hs : [.now, .elems, .gates, .links, .tbs, .doms, .farOut] ⊆ ps) :
    Within ps b0 (b.timeWake a) ↔ Within ps b0 b := by
  simp at hs
  unfold timeWake; dsimp only; split <;> simp [hs]

@[simp] theorem Block.midExchange_within {a} (hs : [.now, .elems, .gates, .links, .ports, .tbs, .timeX, .doms, .wsh, .farOut] ⊆ ps) :
    Within ps b0 (b.midExchange a) ↔ Within ps b0 b := by
  simp at hs
  unfold midExchange; dsimp only; split <;> simp [hs]

@[simp] theorem Block.dieApply_within {d at_} (hs : [.elems, .tbs, .wsh] ⊆ ps) :
    Within ps b0 (b.dieApply d at_) ↔ Within ps b0 b := by
  simp at hs
  unfold dieApply; dsimp only; split <;> simp [hs]

@[simp] theorem Block.stepAll_within {n} (hs : [.elems, .tbs, .wsh] ⊆ ps) :
    Within ps b0 (b.stepAll n) ↔ Within ps b0 b := by
  simp at hs; simp [stepAll, hs]

@[simp] theorem Block.packageBoundary_within (hs : [.elems, .tbs, .time, .wsh, .rings, .vecs, .lead, .hostOut] ⊆ ps) :
    Within ps b0 b.packageBoundary ↔ Within ps b0 b := by
  simp at hs
  unfold packageBoundary; dsimp only; split <;> simp [hs]

@[simp] theorem Block.testIdleLanes_within {a} (hs : [.freeCtr, .elems, .links, .wsh] ⊆ ps) :
    Within ps b0 (b.testIdleLanes a) ↔ Within ps b0 b := by
  simp at hs; simp [testIdleLanes, hs]

@[simp] theorem Block.laneWindow_within {a} (hs : [.now, .freeCtr, .elems, .gates, .links, .tbs, .wsh, .lead] ⊆ ps) :
    Within ps b0 (b.laneWindow a) ↔ Within ps b0 b := by
  simp at hs; simp [laneWindow, hs]

@[simp] theorem Block.quietArm_within {ridge n} (hs : [.elems, .gates, .links, .wsh, .lead] ⊆ ps) :
    Within ps b0 (b.quietArm ridge n) ↔ Within ps b0 b := by
  simp at hs; simp [quietArm, hs]

@[simp] theorem Block.calDone_within {a} (hs : [.elems, .links, .wsh] ⊆ ps) :
    Within ps b0 (b.calDone a) ↔ Within ps b0 b := by
  simp at hs; simp [calDone, hs]

@[simp] theorem Block.calWindow_within {a ok} (hs : [.rings, .vecs, .lead, .hostOut] ⊆ ps) :
    Within ps b0 (b.calWindow a ok) ↔ Within ps b0 b := by
  simp at hs
  unfold calWindow; dsimp only; split <;> simp [hs]

@[simp] theorem Block.cableIn_within {k} (hs : [.links, .ports] ⊆ ps) :
    Within ps b0 (b.cableIn k) ↔ Within ps b0 b := by
  simp at hs; simp [cableIn, hs]

@[simp] theorem Block.emptyPort_within {k blink} (hs : [.links, .ports] ⊆ ps) :
    Within ps b0 (b.emptyPort k blink) ↔ Within ps b0 b := by
  simp at hs; simp [emptyPort, hs]

@[simp] theorem Block.presence_within {k present} (hs : [.now, .elems, .gates, .links, .ports, .tbs, .scopes, .wsh, .lead] ⊆ ps) :
    Within ps b0 (b.presence k present) ↔ Within ps b0 b := by
  simp at hs; simp [presence, hs]

@[simp] theorem Block.buttonDown_within {k} (hs : [.now, .elems, .gates, .ports, .tbs] ⊆ ps) :
    Within ps b0 (b.buttonDown k) ↔ Within ps b0 b := by
  simp at hs; simp [buttonDown, hs]

@[simp] theorem Block.repairPort_within {k} (hs : [.ports, .scopes] ⊆ ps) :
    Within ps b0 (b.repairPort k) ↔ Within ps b0 b := by
  simp at hs; simp [repairPort, hs]

@[simp] theorem Block.retrainPort_within {k} (hs : [.links, .ports] ⊆ ps) :
    Within ps b0 (b.retrainPort k) ↔ Within ps b0 b := by
  simp at hs; simp [retrainPort, hs]

@[simp] theorem Block.tellFar_within {k readmit} (hs : [.farOut] ⊆ ps) :
    Within ps b0 (b.tellFar k readmit) ↔ Within ps b0 b := by
  simp at hs; simp [tellFar, hs]

@[simp] theorem Block.wantOpen_within {k} (hs : [.elems, .ports, .stws, .gold, .lead] ⊆ ps) :
    Within ps b0 (b.wantOpen k) ↔ Within ps b0 b := by
  simp at hs
  unfold wantOpen; dsimp only; split <;> simp [hs]

@[simp] theorem Block.press_within {k} (hs : [.elems, .links, .ports, .stws, .scopes, .gold, .wsh, .lead, .farOut] ⊆ ps) :
    Within ps b0 (b.press k) ↔ Within ps b0 b := by
  simp at hs
  unfold press; dsimp only; split <;> simp [hs]

@[simp] theorem Block.buttonUp_within {k held} (hs : [.now, .elems, .gates, .links, .ports, .tbs, .stws, .scopes, .gold, .wsh, .lead, .farOut] ⊆ ps) :
    Within ps b0 (b.buttonUp k held) ↔ Within ps b0 b := by
  simp at hs; simp [buttonUp, hs]

@[simp] theorem Block.farPress_within {k} (hs : [.elems, .ports, .stws, .gold, .wsh, .lead] ⊆ ps) :
    Within ps b0 (b.farPress k) ↔ Within ps b0 b := by
  simp at hs; simp [farPress, hs]

@[simp] theorem Block.moduleFlags_within {k alarm} (hs : [.elems, .ports, .wsh] ⊆ ps) :
    Within ps b0 (b.moduleFlags k alarm) ↔ Within ps b0 b := by
  simp at hs; simp [moduleFlags, hs]

@[simp] theorem Block.cableInvalid_within {k} (hs : [.elems, .links, .ports, .wsh, .rings, .vecs, .lead, .hostOut] ⊆ ps) :
    Within ps b0 (b.cableInvalid k) ↔ Within ps b0 b := by
  simp at hs; simp [cableInvalid, hs]

@[simp] theorem Block.moduleReady_within {k} (hs : [.links, .ports, .wsh] ⊆ ps) :
    Within ps b0 (b.moduleReady k) ↔ Within ps b0 b := by
  simp at hs; simp [moduleReady, hs]

@[simp] theorem Block.takeTable_within {far whole} (hs : [.members] ⊆ ps) :
    Within ps b0 (b.takeTable far whole) ↔ Within ps b0 b := by
  simp at hs; simp [takeTable, hs]

@[simp] theorem Block.mergeMembers_within {far q} (hs : [.members] ⊆ ps) :
    Within ps b0 (b.mergeMembers far q) ↔ Within ps b0 b := by
  simp at hs; simp [mergeMembers, hs]

@[simp] theorem Block.spreadTable_within {own} (hs : [.farOut] ⊆ ps) :
    Within ps b0 (b.spreadTable own) ↔ Within ps b0 b := by
  simp at hs; simp [spreadTable, hs]

@[simp] theorem Block.watchRook_within (hs : [.elems, .ports, .stws, .gold, .wsh, .rings, .vecs, .lead, .hostOut] ⊆ ps) :
    Within ps b0 b.watchRook ↔ Within ps b0 b := by
  simp at hs; simp [watchRook, hs]

@[simp] theorem Block.tableChanged_within {own} (hs : [.elems, .ports, .time, .stws, .gold, .wsh, .rings, .vecs, .lead, .hostOut, .farOut] ⊆ ps) :
    Within ps b0 (b.tableChanged own) ↔ Within ps b0 b := by
  simp at hs; simp [tableChanged, hs]

@[simp] theorem Block.join_within {k d far} (hs : [.elems, .ports, .time, .stws, .gold, .wsh, .rings, .vecs, .lead, .members, .hostOut,
    .farOut] ⊆ ps) :
    Within ps b0 (b.join k d far) ↔ Within ps b0 b := by
  simp at hs
  unfold join; dsimp only; split
  · simp [hs]
  split
  · simp
  split
  · simp [hs]
  split <;> simp [hs]

@[simp] theorem Block.refuseService_within {k} (hs : [.elems, .ports, .wsh] ⊆ ps) :
    Within ps b0 (b.refuseService k) ↔ Within ps b0 b := by
  simp at hs; simp [refuseService, hs]

@[simp] theorem Block.passExchange_within (hs : [.now, .elems, .gates, .links, .ports, .tbs, .time, .doms, .wsh, .rings, .vecs, .lead, .hostOut,
    .farOut] ⊆ ps) :
    Within ps b0 b.passExchange ↔ Within ps b0 b := by
  simp at hs
  unfold passExchange; dsimp only; split <;> simp [hs]

@[simp] theorem Block.ppsReject_within {gap} (hs : [.elems, .time, .wsh] ⊆ ps) :
    Within ps b0 (b.ppsReject gap) ↔ Within ps b0 b := by
  simp at hs
  unfold ppsReject; dsimp only; split <;> simp [hs]

@[simp] theorem Block.ppsEdge_within (hs : [.elems, .tbs, .time, .wsh, .rings, .vecs, .lead, .hostOut] ⊆ ps) :
    Within ps b0 b.ppsEdge ↔ Within ps b0 b := by
  simp at hs
  unfold ppsEdge; dsimp only; split
  · simp
  · cases b.time.ppsLast <;> cases b.time.ppsWait <;> simp [hs]

@[simp] theorem Block.captureEvent_within {cap} (hs : [.elems, .ts, .wsh] ⊆ ps) :
    Within ps b0 (b.captureEvent cap) ↔ Within ps b0 b := by
  simp at hs
  unfold captureEvent; dsimp only
  rw [within_ts hs.2.1]
  simp [hs]

@[simp] theorem Block.tsEdge_within (hs : [.elems, .ts, .wsh] ⊆ ps) :
    Within ps b0 b.tsEdge ↔ Within ps b0 b := by
  simp at hs
  unfold tsEdge; dsimp only; split <;> simp [hs]

/-! ### The commands of the three families -/

/-- The frame of the commands of the die-to-die links (08 R248). -/
theorem links_within {i : Instr} {s t : State} (hf : family i = .links) (hx : exec i s = .next t) : Within (touches i) s.blk t.blk := by
  cases i <;> cases hf <;> dsimp only [exec] at hx
  case frameReceive a err par far bad =>
    refine within_of_on hx fun b => ?_
    split
    · simp
    split
    · split <;> simp [touches]
    split
    · simp [touches]
    · split <;> simp [touches]
  case trainingLimit a =>
    refine within_of_on hx fun b => ?_
    dsimp only
    split <;> simp [touches]
  case timeExchangeRetry a =>
    refine within_of_on hx fun b => ?_
    dsimp only
    split
    · split <;> simp [touches]
    · simp [touches]
  case timeApplyBoundary d => exact within_of_on hx fun b => by simp [touches]
  case wakeMessage a =>
    refine within_of_on hx fun b => ?_
    split <;> simp [touches]
  case wakeRepeat a =>
    refine within_of_on hx fun b => ?_
    split
    · dsimp only
      split
      · simp
      · exact (Block.within_farOut (by simp [touches])).2 (by simp [touches])
    · simp
  case wakeTimeout a =>
    refine within_of_on hx fun b => ?_
    split <;> simp [touches]
  case quietOverlayStart n =>
    refine within_of_on hx fun b => ?_
    split <;> simp [touches]
  case linkQuiet a =>
    refine within_of_on hx fun b => ?_
    split <;> simp [touches]
  case quietResume a =>
    refine within_of_on hx fun b => ?_
    split <;> simp [touches]
  case quietOverlayEnd n =>
    refine within_of_on hx fun b => ?_
    split <;> simp [touches]
  all_goals exact within_of_on hx fun b => by simp [touches]

/-- The frame of the commands of the Pass ports (09 R273). -/
theorem pass_within {i : Instr} {s t : State} (hf : family i = .pass) (hx : exec i s = .next t) : Within (touches i) s.blk t.blk := by
  cases i <;> cases hf <;> dsimp only [exec] at hx
  case exitFilterRetire k =>
    refine within_of_on hx fun b => ?_
    split <;> simp [touches]
  case shadowCompareDone k ok =>
    refine within_of_on hx fun b => ?_
    split
    · split <;> simp [touches]
    · simp [touches]
  case passLaneCalibrationDone k =>
    refine within_of_on hx fun b => ?_
    split <;> simp [touches]
  case passLaneCalibrationLimit k =>
    refine within_of_on hx fun b => ?_
    split <;> simp [touches]
  case buttonPress k p =>
    refine within_of_on hx fun b => ?_
    split <;> simp [touches]
  case cableWake k w =>
    refine within_of_on hx fun b => ?_
    dsimp only
    split
    · simp
    · split <;> simp [touches]
  case indicatorTimer k =>
    refine within_of_on hx fun b => ?_
    dsimp only
    split
    · simp [touches]
    split
    · simp [touches]
    · split <;> simp [touches]
  case memberTimeout i =>
    refine within_of_on hx fun b => ?_
    split
    · split
      · simp
      · dsimp only
        rw [Block.tableChanged_within (by simp [touches]), Block.within_members (by simp [touches])]
        simp [touches]
    · simp
  all_goals exact within_of_on hx fun b => by simp [touches]

/-- The frame of the commands of the exchange with the parent, and of the pins of time (07 R212). -/
theorem time_within {i : Instr} {s t : State} (hf : family i = .time) (hx : exec i s = .next t) : Within (touches i) s.blk t.blk := by
  cases i <;> cases hf <;> dsimp only [exec] at hx
  case passTimeLoss =>
    refine within_of_on hx fun b => ?_
    split <;> simp [touches]
  case ppsOutSecond =>
    refine within_of_on hx fun b => ?_
    dsimp only
    rw [Block.within_ts (by simp [touches])]
    simp [touches]
  case tsCapture =>
    refine within_of_on hx fun b => ?_
    split <;> simp [touches]
  case tsCompareMatch =>
    refine within_of_on hx fun b => ?_
    dsimp only
    split
    · simp
    · exact (Block.within_ts (by simp [touches])).2 (by simp [touches])
  case timeSetPpsTimeout =>
    refine within_of_on hx fun b => ?_
    split <;> simp [touches]
  all_goals exact within_of_on hx fun b => by simp [touches]

end

/-- Settles O55: each of the three families keeps to its frame, and a frame is a claim about every part. -/
theorem frameOfLinksPassAndTime : Obligations.FrameOfLinksPassAndTime := by
  intro i s t p hf hx hp
  simp only [List.mem_cons, List.not_mem_nil, or_false] at hf
  obtain hf | hf | hf := hf
  · exact links_within hf hx p hp
  · exact pass_within hf hx p hp
  · exact time_within hf hx p hp

end Sys2Proof.Machine
end

section
/-! PROOFS. Time and outputs run only forward (spec/07 R212; spec/15 R399). -/

namespace Sys2Proof.Machine

open Block (Within)

/-- `b'` is `b` or comes after it: as many FCLKs have passed or more, and what has gone out to host memory and to other packages has. -/
def Block.Forward (b b' : Block) : Prop := b.now ≤ b'.now ∧ b.hostOut <:+ b'.hostOut ∧ b.farOut <:+ b'.farOut

/-- The parts that say nothing of time passed or of what has gone out. -/
def inwardParts : List Part :=
  [.pkgid, .strapOk, .fatal, .fatalKind, .refclk, .fuseSerial, .fuseKey, .fuseMinSec, .design, .colTrained, .ridgeless,
   .i3cWord, .tapIr, .errValue, .errValid, .errCause, .errCount, .errOffset, .freeCtr, .elems, .wires, .crWires, .fcWires, .nis,
   .gates, .fords, .links, .ports, .tbs, .timeX, .time, .ts, .doms, .regions, .stws, .scopes, .gold, .wsh, .rings, .vecs, .lead,
   .map, .groups, .members, .agents, .aborts]

@[simp] theorem mem_inwardParts {p : Part} : p ∈ inwardParts ↔ p ≠ .now ∧ p ≠ .hostOut ∧ p ≠ .farOut := by
  cases p <;> decide

section
variable {b0 b b1 b' : Block} {P Q : Block → Prop}

theorem Block.Forward.refl (b : Block) : Block.Forward b b := ⟨Nat.le_refl _, List.suffix_refl _, List.suffix_refl _⟩

theorem Block.Forward.trans (h : Block.Forward b0 b) (h' : Block.Forward b b') : Block.Forward b0 b' := by
  obtain ⟨hnow, hhost, hfar⟩ := h
  obtain ⟨hnow', hhost', hfar'⟩ := h'
  exact ⟨hnow.trans hnow', hhost.trans hhost', hfar.trans hfar'⟩

theorem Block.Within.forward (h : Within inwardParts b b') : Block.Forward b b' := by
  rw [Forward, h .now (by simp), h .hostOut (by simp), h .farOut (by simp)]
  exact Forward.refl b

/-- A block that comes after `b0` has the property. -/
def Block.Ahead (b0 : Block) (P : Block → Prop) : Prop := ∃ b, Forward b0 b ∧ P b

/-- Of what comes after `b0`, the parts that say nothing of time or of what has gone out are of no account: `simp` passes over the operations
on them by their own lemmas. -/
@[simp] theorem Block.forward_iff : Forward b0 b ↔ Ahead b0 (fun x => Within inwardParts x b) :=
  ⟨fun h => ⟨b, h, .refl b⟩, fun ⟨_, h, hw⟩ => h.trans hw.forward⟩

/-- `y` comes after `b0` where `x` does not: what an operation that runs forward adds to the blocks that come after `b0`. -/
def Block.Gained (b0 x y : Block) : Prop := Forward b0 y ∧ ¬ Forward b0 x

/-- `simp` has nothing to do within what is gained. -/
@[congr] theorem Block.Gained.congr {x y : Block} : Gained b0 x y = Gained b0 x y := rfl

/-- An operation from `b` to `b'` runs forward, stated so that `simp` goes back over it. -/
abbrev Block.Goes (b0 b b' : Block) : Prop :=
  Ahead b0 (fun x => Within inwardParts x b') ↔ Ahead b0 (fun x => Within inwardParts x b) ∨ Gained b0 b b'

theorem Block.Forward.goes (h : Forward b b') : Goes b0 b b' := by
  rw [Goes, ← forward_iff, ← forward_iff, Gained]
  exact ⟨fun h' => or_iff_not_imp_left.2 fun hn => ⟨h', hn⟩, fun h' => h'.elim (·.trans h) (·.1)⟩

@[simp] theorem Block.ahead_refl : Ahead b (fun x => Within inwardParts x b) := ⟨b, .refl b, .refl b⟩

@[simp] theorem Block.ahead_ite {c : Prop} [Decidable c] : Ahead b0 (fun x => if c then P x else Q x) ↔ if c then Ahead b0 P else Ahead b0 Q := by
  split <;> rfl

/-- A fold whose every step runs forward. -/
theorem Block.Forward.foldl {α : Type} {f : Block → α → Block} {l : List α} (h : ∀ b a, Forward b (f b a)) : Forward b (l.foldl f b) :=
  List.foldlRecOn (motive := fun y => Forward b y) l f (.refl b) fun y hy a _ => hy.trans (h y a)

@[simp] theorem Block.foldl_goes {α : Type} {f : Block → α → Block} {l : List α} (h : ∀ b a, Forward b (f b a)) : Goes b0 b (l.foldl f b) :=
  (Forward.foldl h).goes

theorem Block.elapse_forward {n : Nat} : Forward b (b.elapse n) := by
  unfold elapse
  split
  · exact .refl b
  · exact ⟨Nat.le_add_right _ _, List.suffix_refl _, List.suffix_refl _⟩

theorem Block.hostWrite_forward {o : HostOut} : Forward b (b.hostWrite o) := ⟨Nat.le_refl _, List.suffix_cons _ _, List.suffix_refl _⟩

theorem Block.farOut_forward {o : FarOut} : Forward b { b with farOut := o :: b.farOut } :=
  ⟨Nat.le_refl _, List.suffix_refl _, List.suffix_cons _ _⟩

@[simp] theorem Block.farOut_goes {o : FarOut} : Goes b0 b { b with farOut := o :: b.farOut } := farOut_forward.goes

@[simp] theorem Block.hostWrite_goes {o} : Goes b0 b (b.hostWrite o) := hostWrite_forward.goes

@[simp] theorem Block.irq_goes {v} : Goes b0 b (b.irq v) := Forward.goes (by simp [irq])

@[simp] theorem Block.elapse_goes {n} : Goes b0 b (b.elapse n) := elapse_forward.goes

@[simp] theorem Block.elapseTo_goes {t} : Goes b0 b (b.elapseTo t) := Forward.goes (by simp [elapseTo])

@[simp] theorem Block.elapseFt_goes {d x} : Goes b0 b (b.elapseFt d x) := Forward.goes (by simp [elapseFt])

@[simp] theorem Block.setOverdue_goes {e p vc pos} : Goes b0 b (b.setOverdue e p vc pos) :=
  Forward.goes (by unfold setOverdue; dsimp only; split <;> simp)

@[simp] theorem Block.starveAt_goes {r p vc} : Goes b0 b (b.starveAt r p vc) := Forward.goes (by unfold starveAt; dsimp only; split <;> simp)

@[simp] theorem Block.watchdogBite_goes {r p} : Goes b0 b (b.watchdogBite r p) := Forward.goes (by unfold watchdogBite; dsimp only; split <;> simp)

@[simp] theorem Block.widthWindow_goes {e p} : Goes b0 b (b.widthWindow e p) := Forward.goes (by simp [widthWindow])

@[simp] theorem Block.widen_goes {e p} : Goes b0 b (b.widen e p) := Forward.goes (by unfold widen; dsimp only; split <;> simp)

@[simp] theorem Block.newIncarnation_goes {n} : Goes b0 b (b.newIncarnation n) := Forward.goes (by simp [newIncarnation])

@[simp] theorem Block.tagOrphan_goes {n t} : Goes b0 b (b.tagOrphan n t) := by
  refine Forward.goes ?_
  unfold tagOrphan
  split
  · split
    · split
      · simp
      · dsimp only; split <;> simp
    · simp
  · simp

@[simp] theorem Block.quarantineEnd_goes {n t} : Goes b0 b (b.quarantineEnd n t) := by
  refine Forward.goes ?_
  unfold quarantineEnd; split <;> simp

@[simp] theorem Block.lockSweep_goes {n} : Goes b0 b (b.lockSweep n) := Forward.goes (by simp [lockSweep])

@[simp] theorem Block.mapServe_goes {g} : Goes b0 b (b.mapServe g) := Forward.goes (by unfold mapServe; dsimp only; split <;> simp)

@[simp] theorem Block.putFrame_goes {a fr} : Goes b0 b (b.putFrame a fr) := by
  refine Forward.goes ?_
  unfold putFrame; dsimp only; split
  · exact Forward.trans (by simp) farOut_forward
  · simp

@[simp] theorem Block.adpEgress_goes {a} : Goes b0 b (b.adpEgress a) := by
  refine Forward.goes ?_
  unfold adpEgress
  split
  · simp
  extract_lets l base quiet room
  split
  · simp
  split
  · simp
  split
  · split <;> simp
  have hfill : Forward b (if quiet || !room then (b, []) else b.fillSlots a 16 []).1 := by split <;> simp
  generalize (if quiet || !room then (b, []) else b.fillSlots a 16 []) = filled at hfill ⊢
  obtain ⟨b₁, slots⟩ := filled
  refine hfill.trans ?_
  dsimp -zeta only
  have habort : Forward b₁ (if quiet || !room then (b₁, slots) else b₁.abortSlot a slots).1 := by split <;> simp
  generalize (if quiet || !room then (b₁, slots) else b₁.abortSlot a slots) = filled at habort ⊢
  obtain ⟨b₂, slots⟩ := filled
  refine habort.trans ?_
  simp

@[simp] theorem Block.adpTurn_goes {a} : Goes b0 b (b.adpTurn a) := Forward.goes (by simp [adpTurn])

@[simp] theorem Block.ringIrq_goes {r due} : Goes b0 b (b.ringIrq r due) := Forward.goes (by simp [ringIrq])

@[simp] theorem Block.pushRec_goes {r mk due} : Goes b0 b (b.pushRec r mk due) := Forward.goes (by simp [pushRec])

@[simp] theorem Block.writeCpl_goes {ring index tag opc status field notify res} :
    Goes b0 b (b.writeCpl ring index tag opc status field notify res) :=
  Forward.goes (by simp [writeCpl])

@[simp] theorem Block.finish_goes {f status res} : Goes b0 b (b.finish f status res) := Forward.goes (by simp [finish])

@[simp] theorem Block.finishAll_goes {p status res} : Goes b0 b (b.finishAll p status res) := Forward.goes (by simp [finishAll])

@[simp] theorem Block.gatesDone_goes : Goes b0 b b.gatesDone := Forward.goes (by simp [gatesDone])

@[simp] theorem Block.stageFail_goes {a} : Goes b0 b (b.stageFail a) := Forward.goes (by simp [stageFail])

@[simp] theorem Block.trained_goes {a lanes} : Goes b0 b (b.trained a lanes) := Forward.goes (by unfold trained; dsimp only; split <;> simp)

@[simp] theorem Block.creditInitIn_goes {a depths pool} : Goes b0 b (b.creditInitIn a depths pool) := Forward.goes (by simp [creditInitIn])

@[simp] theorem Block.putTime_goes {a x kind rest} : Goes b0 b (b.putTime a x kind rest) := Forward.goes (by simp [putTime])

@[simp] theorem Block.timeSend_goes {a} : Goes b0 b (b.timeSend a) := Forward.goes (by unfold timeSend; dsimp only; split <;> simp)

@[simp] theorem Block.sendWake_goes {a} : Goes b0 b (b.sendWake a) := by
  refine Forward.goes ?_
  unfold sendWake; split
  · exact Forward.trans (by simp) farOut_forward
  · simp

@[simp] theorem Block.abortEntry_goes {d} : Goes b0 b (b.abortEntry d) := Forward.goes (by unfold abortEntry; dsimp only; split <;> simp)

@[simp] theorem Block.timeWake_goes {a} : Goes b0 b (b.timeWake a) := Forward.goes (by unfold timeWake; dsimp only; split <;> simp)

@[simp] theorem Block.midExchange_goes {a} : Goes b0 b (b.midExchange a) := Forward.goes (by unfold midExchange; dsimp only; split <;> simp)

@[simp] theorem Block.timeReqIn_goes {k} : Goes b0 b (b.timeReqIn k) := Forward.goes (by simp [timeReqIn])

@[simp] theorem Block.timeLost_goes {a} : Goes b0 b (b.timeLost a) := Forward.goes (by simp [timeLost])

@[simp] theorem Block.timeRspIn_goes {k} : Goes b0 b (b.timeRspIn k) := Forward.goes (by simp [timeRspIn])

@[simp] theorem Block.timeFrame_goes {a c} : Goes b0 b (b.timeFrame a c) := by
  refine Forward.goes ?_
  unfold timeFrame; dsimp only; split
  · simp
  · split <;> simp

@[simp] theorem Block.laneWindow_goes {a} : Goes b0 b (b.laneWindow a) := Forward.goes (by simp [laneWindow])

@[simp] theorem Block.forceSuspect_goes {a} : Goes b0 b (b.forceSuspect a) := Forward.goes (by simp [forceSuspect])

@[simp] theorem Block.calWindow_goes {a ok} : Goes b0 b (b.calWindow a ok) := Forward.goes (by unfold calWindow; dsimp only; split <;> simp)

@[simp] theorem Block.rookHold_goes {k} : Goes b0 b (b.rookHold k) := Forward.goes (by simp [rookHold])

@[simp] theorem Block.openPort_goes {k} : Goes b0 b (b.openPort k) := Forward.goes (by simp [openPort])

@[simp] theorem Block.openPorts_goes : Goes b0 b b.openPorts := Forward.goes (by simp [openPorts])

@[simp] theorem Block.rotEnd_goes {k ok} : Goes b0 b (b.rotEnd k ok) := Forward.goes (by simp [rotEnd])

@[simp] theorem Block.rotFail_goes {k} : Goes b0 b (b.rotFail k) := Forward.goes (by unfold rotFail; dsimp only; split <;> simp)

@[simp] theorem Block.mapApplies_goes {k} : Goes b0 b (b.mapApplies k) := by
  refine Forward.goes ?_
  unfold mapApplies; dsimp only; split
  · simp
  · split <;> simp

@[simp] theorem Block.sendAlign_goes {k} : Goes b0 b (b.sendAlign k) := Forward.goes (by unfold sendAlign; dsimp only; split <;> simp)

@[simp] theorem Block.putPass_goes {k fr} : Goes b0 b (b.putPass k fr) := Forward.goes (by simp [putPass])

@[simp] theorem Block.scopeDone_goes {ty id status} : Goes b0 b (b.scopeDone ty id status) := Forward.goes (by simp [scopeDone])

@[simp] theorem Block.closing_goes {ty id} : Goes b0 b (b.closing ty id) := Forward.goes (by simp [closing])

@[simp] theorem Block.makeActive_goes {key} : Goes b0 b (b.makeActive key) := Forward.goes (by unfold makeActive; dsimp only; split <;> simp)

@[simp] theorem Block.routeDoms_goes {ds} : Goes b0 b (b.routeDoms ds) := Forward.goes (by simp [routeDoms])

@[simp] theorem Block.gateOff_goes {d discarded} : Goes b0 b (b.gateOff d discarded) := by
  refine Forward.goes ?_
  unfold gateOff; split <;> simp

@[simp] theorem Block.commitPoint_goes {c} : Goes b0 b (b.commitPoint c) := by
  refine Forward.goes ?_
  unfold commitPoint
  extract_lets b₁ b₂ b₃ b₄ leave b₅ b₆ b₇
  have h₂ : Forward b b₂ := Within.forward ((within_regions (by simp)).2 (by simp [b₁]))
  have h₄ : Forward b₂ b₄ := by simp [b₄, b₃]
  have h₅ : Forward b₄ b₅ := by dsimp only [b₅]; split <;> simp
  have h₆ : Forward b₄ b₆ := by
    dsimp only [b₆]; split
    · split
      · exact h₅.trans (by simp)
      · exact h₅
    · simp
    · split <;> simp
    · exact .refl _
  exact h₂.trans (h₄.trans (h₆.trans (by simp [b₇])))

@[simp] theorem Block.sendClose_goes {k cause} : Goes b0 b (b.sendClose k cause) := Forward.goes (by simp [sendClose])

@[simp] theorem Block.closePort_goes {k cause} : Goes b0 b (b.closePort k cause) := Forward.goes (by simp [closePort])

@[simp] theorem Block.retire_goes : Goes b0 b b.retire := by
  refine Forward.goes ?_
  unfold retire
  split
  · simp
  extract_lets ep b₁ b₂ b₃ b₄ b₅ b₆ b₇
  have h₄ : Forward b b₄ := by simp [b₄, b₃, b₂, b₁]
  have h₅ : Forward b₄ b₅ := by
    dsimp only [b₅]; split
    · simp
    · simp
    · split <;> simp
    · exact .refl _
  have h₆ : Forward b₅ b₆ := by simp [b₆]
  have h₇ : Forward b₆ b₇ := by dsimp only [b₇]; split <;> simp
  exact h₄.trans (h₅.trans (h₆.trans (h₇.trans (by simp))))

@[simp] theorem Block.epochAck_goes {rcv} : Goes b0 b (b.epochAck rcv) := Forward.goes (by unfold epochAck; dsimp only; split <;> simp)

@[simp] theorem Block.heartbeatIn_goes {s seq crc} : Goes b0 b (b.heartbeatIn s seq crc) := Forward.goes (by simp [heartbeatIn])

@[simp] theorem Block.newLead_goes {old seq} : Goes b0 b (b.newLead old seq) := Forward.goes (by unfold newLead; dsimp only; split <;> simp)

@[simp] theorem Block.stewardLost_goes {s forced} : Goes b0 b (b.stewardLost s forced) := Forward.goes (by simp [stewardLost])

@[simp] theorem Block.loadStep_goes : Goes b0 b b.loadStep := Forward.goes (by unfold loadStep; dsimp only; split <;> simp)

@[simp] theorem Block.imageBlock_goes {s last crcOk} : Goes b0 b (b.imageBlock s last crcOk) :=
  Forward.goes (by unfold imageBlock; dsimp only; split <;> simp)

@[simp] theorem Block.leadRestart_goes : Goes b0 b b.leadRestart := Forward.goes (by unfold leadRestart; dsimp only; split <;> simp)

@[simp] theorem Block.rebalance_goes {g from_} : Goes b0 b (b.rebalance g from_) := Forward.goes (by unfold rebalance; dsimp only; split <;> simp)

@[simp] theorem Block.recover_goes {g} : Goes b0 b (b.recover g) := Forward.goes (by unfold recover; dsimp only; split <;> simp)

@[simp] theorem Block.straps_goes {l} : Goes b0 b (b.straps l) := by
  refine Forward.goes ?_
  unfold straps
  extract_lets b₁
  refine Forward.trans (b := b₁) (by simp [b₁]) ?_
  clear_value b₁
  split
  · exact .refl _
  split
  · exact .refl _
  split
  · exact ⟨Nat.le_refl _, List.suffix_refl _, List.suffix_refl _⟩
  · simp

@[simp] theorem Block.chooseLead_goes : Goes b0 b b.chooseLead := by
  refine Forward.goes ?_
  unfold chooseLead; dsimp only; split
  · simp
  · split <;> simp

@[simp] theorem Block.selftestDone_goes {s pass} : Goes b0 b (b.selftestDone s pass) := Forward.goes (by simp [selftestDone])

@[simp] theorem Block.dieFault_goes {d loc kind} : Goes b0 b (b.dieFault d loc kind) := Forward.goes (by simp [dieFault])

@[simp] theorem Block.presence_goes {k present} : Goes b0 b (b.presence k present) := Forward.goes (by simp [presence])

@[simp] theorem Block.cableInvalid_goes {k} : Goes b0 b (b.cableInvalid k) := Forward.goes (by simp [cableInvalid])

@[simp] theorem Block.tellFar_goes {k readmit} : Goes b0 b (b.tellFar k readmit) := Forward.goes (by simp [tellFar])

@[simp] theorem Block.press_goes {k} : Goes b0 b (b.press k) := Forward.goes (by unfold press; dsimp only; split <;> simp)

@[simp] theorem Block.buttonDown_goes {k} : Goes b0 b (b.buttonDown k) := Forward.goes (by simp [buttonDown])

@[simp] theorem Block.buttonUp_goes {k held} : Goes b0 b (b.buttonUp k held) := Forward.goes (by simp [buttonUp])

@[simp] theorem Block.spreadTable_goes {own} : Goes b0 b (b.spreadTable own) := Forward.goes (by simp [spreadTable])

@[simp] theorem Block.watchRook_goes : Goes b0 b b.watchRook := Forward.goes (by simp [watchRook])

@[simp] theorem Block.tableChanged_goes {own} : Goes b0 b (b.tableChanged own) := Forward.goes (by simp [tableChanged])

@[simp] theorem Block.join_goes {k d far} : Goes b0 b (b.join k d far) := by
  refine Forward.goes ?_
  unfold join
  extract_lets p q b₁ b₂ b₃ b₄
  split
  · simp
  split
  · simp
  refine Forward.trans (b := b₁) farOut_forward ?_
  clear_value b₁
  split
  · simp [b₂]
  split
  · simp
  · simp [b₄, b₃]

@[simp] theorem Block.laneRepair_goes {k lane} : Goes b0 b (b.laneRepair k lane) := by
  refine Forward.goes ?_
  unfold laneRepair; dsimp only; split
  · simp
  · split <;> simp

@[simp] theorem Block.alignIn_goes {k num at_ m pr ack shadow suspect} : Goes b0 b (b.alignIn k num at_ m pr ack shadow suspect) := by
  refine Forward.goes ?_
  unfold alignIn; dsimp only; split
  · simp
  · cases suspect <;> simp

@[simp] theorem Block.packageBoundary_goes : Goes b0 b b.packageBoundary := Forward.goes (by unfold packageBoundary; dsimp only; split <;> simp)

@[simp] theorem Block.putPassTime_goes {k kind n t2 t3} : Goes b0 b (b.putPassTime k kind n t2 t3) := Forward.goes (by simp [putPassTime])

@[simp] theorem Block.passExchange_goes : Goes b0 b b.passExchange := Forward.goes (by unfold passExchange; dsimp only; split <;> simp)

@[simp] theorem Block.passRequest_goes {k n} : Goes b0 b (b.passRequest k n) := Forward.goes (by simp [passRequest])

@[simp] theorem Block.ppsEdge_goes : Goes b0 b b.ppsEdge := by
  refine Forward.goes ?_
  unfold ppsEdge; dsimp only; split
  · simp
  · cases b.time.ppsLast <;> cases b.time.ppsWait <;> simp

@[simp] theorem Block.bandwidth_goes {e} : Goes b0 b (b.bandwidth e) := Forward.goes (by simp [bandwidth])

@[simp] theorem Block.queueSample_goes {r} : Goes b0 b (b.queueSample r) := by
  refine Forward.goes ?_
  unfold queueSample
  extract_lets t l o start b₁ nvc all ports p i vcs new b₂ b₃ b₄
  split
  · simp
  split
  · simp
  have h₁ : Forward b b₁ := by simp [b₁]
  have h₂ : Forward b₁ b₂ := by dsimp only [b₂]; split <;> simp
  have h₃ : Forward b₂ b₃ := by simp [b₃]
  have h₄ : Forward b₃ b₄ := by dsimp only [b₄]; split <;> simp
  refine h₁.trans (h₂.trans (h₃.trans (h₄.trans ?_)))
  split <;> simp

@[simp] theorem Block.wrapRecord_goes {e c n} : Goes b0 b (b.wrapRecord e c n) := Forward.goes (by simp [wrapRecord])

@[simp] theorem Block.counterWrap_goes {e c} : Goes b0 b (b.counterWrap e c) := Forward.goes (by simp [counterWrap])

@[simp] theorem Block.collectTel_goes {d} : Goes b0 b (b.collectTel d) := by
  refine Forward.goes ?_
  exact Forward.foldl fun b e => by dsimp only; split <;> simp

@[simp] theorem Block.writeTel_goes {d} : Goes b0 b (b.writeTel d) := by
  refine Forward.goes ?_
  unfold writeTel; split
  · simp
  extract_lets a
  split
  · simp
  · generalize hy : ({ b with agents := _ } : Block) = y
    have hagents : Forward b y := hy ▸ Within.forward ((within_agents (by simp)).2 (.refl b))
    exact hagents.trans (by simp)

@[simp] theorem Block.idleOut_goes {d} : Goes b0 b (b.idleOut d) := by
  refine Forward.goes ?_
  unfold idleOut; split
  · simp
  · dsimp only; split
    · simp
    · split <;> simp

@[simp] theorem Block.wakeEvent_goes {d code detail} : Goes b0 b (b.wakeEvent d code detail) := by
  refine Forward.goes ?_
  unfold wakeEvent; split <;> simp

@[simp] theorem Block.fordFlush_goes {fab f} : Goes b0 b (b.fordFlush fab f) := by
  refine Forward.goes ?_
  unfold fordFlush; split <;> simp

@[simp] theorem Block.fordSee_goes {f} : Goes b0 b (b.fordSee f) := Forward.goes (by simp [fordSee])

@[simp] theorem Block.domOn_goes {d} : Goes b0 b (b.domOn d) := by
  refine Forward.goes ?_
  unfold domOn
  extract_lets off b₁ b₂ b₃ b₄ b₅ b₆ b₇ b₈
  have h₃ : Forward b b₃ := by simp [b₃, b₂, b₁]
  have h₆ : Forward b₃ b₆ := by simp [b₆, b₅, b₄]
  have h₇ : Forward b₆ b₇ := by dsimp only [b₇]; split <;> simp
  exact h₃.trans (h₆.trans (h₇.trans (by simp [b₈])))

@[simp] theorem Block.wakeDone_goes {d sigs} : Goes b0 b (b.wakeDone d sigs) := Forward.goes (by unfold wakeDone; dsimp only; split <;> simp)

@[simp] theorem Block.powerDone_goes {d status n} : Goes b0 b (b.powerDone d status n) := Forward.goes (by simp [powerDone])

@[simp] theorem Block.powerOff_goes {d discarded} : Goes b0 b (b.powerOff d discarded) := Forward.goes (by simp [powerOff])

@[simp] theorem Block.powerStart_goes {d} : Goes b0 b (b.powerStart d) := Forward.goes (by unfold powerStart; dsimp only; split <;> simp)

@[simp] theorem Block.powerTurn_goes {d} : Goes b0 b (b.powerTurn d) := Forward.goes (by simp [powerTurn])

@[simp] theorem Block.fordRouse_goes {side} : Goes b0 b (b.fordRouse side) := by
  refine Forward.goes ?_
  unfold fordRouse; split <;> simp

@[simp] theorem Block.linkTurn_goes {a} : Goes b0 b (b.linkTurn a) := by
  refine Forward.goes ?_
  unfold linkTurn
  split
  · simp
  split
  · simp
  · split <;> simp

@[simp] theorem Block.frameEffect_goes {a fr} : Goes b0 b (b.frameEffect a fr) := Forward.goes (by unfold frameEffect; dsimp only; split <;> simp)

@[simp] theorem Block.frameTake_goes {a fr err par bad} : Goes b0 b (b.frameTake a fr err par bad) := by
  refine Forward.goes ?_
  have hin : Forward b (b.frameIn a fr err par bad).1 := by simp
  unfold frameTake
  split <;> next x he => exact Forward.trans (by simpa [he] using hin) (by simp)

@[simp] theorem Block.shut_goes {ty id kind} : Goes b0 b (b.shut ty id kind) := Forward.goes (by simp [shut])

@[simp] theorem Block.enterFence_goes {ty id kind} : Goes b0 b (b.enterFence ty id kind) := Forward.goes (by simp [enterFence])

@[simp] theorem Block.fence_goes {ty id kind} : Goes b0 b (b.fence ty id kind) := Forward.goes (by unfold fence; dsimp only; split <;> simp)

@[simp] theorem Block.collect_goes {d err extErr} : Goes b0 b (b.collect d err extErr) := by
  refine Forward.goes ?_
  unfold collect; split
  · simp
  next m rest _ =>
  split
  · simp
  generalize m.receive err extErr = got
  obtain ⟨_ | m, bad⟩ := got <;> simp

@[simp] theorem Block.fatalFence_goes {kind} : Goes b0 b (b.fatalFence kind) := by
  refine Forward.goes ?_
  unfold fatalFence; split
  · simp
  extract_lets b₁ b₂ b₃ b₄ b₅
  have h₁ : Forward b b₁ := ⟨Nat.le_refl _, List.suffix_refl _, List.suffix_refl _⟩
  have h₃ : Forward b₁ b₃ := by simp [b₃, b₂]
  refine h₁.trans (h₃.trans ?_)
  clear_value b₃
  have h₄ : Forward b₃ b₄ := ⟨Nat.le_refl _, List.suffix_refl _, List.suffix_refl _⟩
  have h₅ : Forward b₄ b₅ := by simp [b₅]
  refine h₄.trans (h₅.trans ?_)
  clear_value b₅
  exact ⟨Nat.le_refl _, List.suffix_refl _, List.suffix_refl _⟩

theorem Block.mutualLoss_forward {m} (h : b.mutualLoss m = some b') : Forward b b' := by
  unfold mutualLoss at h
  split at h
  · cases h
  split at h
  · cases h
  extract_lets low high b₁ b₂ lead b₃ at h
  have h₂ : Forward b b₂ := by simp [b₂, b₁]
  split at h
  · exact Option.some.inj h ▸ h₂
  · exact Option.some.inj h ▸ h₂.trans (by simp [b₃])

@[simp] theorem Block.arrival_goes {err extErr} : Goes b0 b (b.arrival err extErr) := by
  refine Forward.goes ?_
  unfold arrival
  -- the checker computes with the message's 184 bits unless the receipt is a variable
  obtain ⟨receive, hr⟩ : ∃ f, f = Msg.receive := ⟨_, rfl⟩
  rw [← hr]
  split
  · simp
  next m rest _ =>
  extract_lets b₁
  refine Forward.trans (b := b₁) (by simp [b₁]) ?_
  clear_value b₁
  generalize receive m err extErr = got
  obtain ⟨_ | m, bad⟩ := got
  · simp
  dsimp -zeta only
  extract_lets b₂ b₃ key first m' b₄ b₅ b₆ soon b₇
  refine Forward.trans (b := b₃) (by simp [b₃, b₂]) ?_
  clear_value b₃
  have h₄ : Forward b₃ b₄ := by simp [b₄]
  split
  · simp
  split
  next h => exact h₄.trans (mutualLoss_forward h)
  · refine h₄.trans ?_
    clear_value b₄
    refine Forward.trans (b := b₆) (by simp [b₆, b₅]) ?_
    clear_value b₆
    simp [b₇]

@[simp] theorem Block.cutCommit_goes {seq ty id} : Goes b0 b (b.cutCommit seq ty id) := Forward.goes (by unfold cutCommit; dsimp only; split <;> simp)

@[simp] theorem Block.cutSwitch_goes {seq ty id} : Goes b0 b (b.cutSwitch seq ty id) := Forward.goes (by unfold cutSwitch; dsimp only; split <;> simp)

@[simp] theorem Block.cutMap_goes {seq ty id} : Goes b0 b (b.cutMap seq ty id) := by
  refine Forward.goes ?_
  unfold cutMap; split
  · simp
  extract_lets b₁ b₂
  exact Forward.trans (b := b₁) ⟨Nat.le_refl _, List.suffix_refl _, List.suffix_refl _⟩ (by simp [b₂])

@[simp] theorem Block.fenceAct_goes {seq ty id} : Goes b0 b (b.fenceAct seq ty id) := Forward.goes (by simp [fenceAct])

@[simp] theorem Block.react_goes : Goes b0 b b.react := Forward.goes (by unfold react; dsimp only; split <;> simp)

@[simp] theorem Block.toRings_goes {r} : Goes b0 b (b.toRings r) := Forward.goes (by simp [toRings])

@[simp] theorem Block.putRec_goes {r} : Goes b0 b (b.putRec r) := Forward.goes (by simp [putRec])

@[simp] theorem Block.writeRecord_goes : Goes b0 b b.writeRecord := Forward.goes (by unfold writeRecord; dsimp only; split <;> simp)

@[simp] theorem Block.closeScope_goes {ty id force offlined hold test} : Goes b0 b (b.closeScope ty id force offlined hold test) :=
  Forward.goes (by simp [closeScope])

@[simp] theorem Block.fencePlanned_goes {ty id} : Goes b0 b (b.fencePlanned ty id) := Forward.goes (by simp [fencePlanned])

@[simp] theorem Block.passDuties_goes {ty id} : Goes b0 b (b.passDuties ty id) := Forward.goes (by simp [passDuties])

@[simp] theorem Block.reopen_goes {ty id} : Goes b0 b (b.reopen ty id) := Forward.goes (by simp [reopen])

@[simp] theorem Block.resetElem_goes {e} : Goes b0 b (b.resetElem e) := Forward.goes (by simp [resetElem])

@[simp] theorem Block.scopeReset_goes {ty id} : Goes b0 b (b.scopeReset ty id) := Forward.goes (by simp [scopeReset])

@[simp] theorem Block.testsPass_goes {ty id} : Goes b0 b (b.testsPass ty id) := Forward.goes (by simp [testsPass])

@[simp] theorem Block.testsFail_goes {ty id code source} : Goes b0 b (b.testsFail ty id code source) :=
  Forward.goes (by unfold testsFail; dsimp only; split <;> simp)

@[simp] theorem Block.tableWorn_goes {o table} : Goes b0 b (b.tableWorn o table) := Forward.goes (by unfold tableWorn; dsimp only; split <;> simp)

@[simp] theorem Block.badWord_goes {o table row forced} : Goes b0 b (b.badWord o table row forced) := by
  refine Forward.goes ?_
  unfold badWord; dsimp only
  split
  · simp
  split
  · simp
  split
  · simp
  split <;> simp

@[simp] theorem Block.fcbReadLatch_goes {o width} : Goes b0 b (b.fcbReadLatch o width) := Forward.goes (by simp [fcbReadLatch])

@[simp] theorem Block.outOfRange_goes {o cause v} : Goes b0 b (b.outOfRange o cause v) := by
  refine Forward.goes ?_
  exact ⟨Nat.le_refl _, List.suffix_refl _, List.suffix_refl _⟩

@[simp] theorem Block.setPrio_goes {p} : Goes b0 b (b.setPrio p) := by
  refine Forward.goes ?_
  unfold setPrio
  dsimp only
  generalize hy : ({ b.modTime _ with members := _ } : Block) = y
  have hmembers : Forward b y := hy ▸ Within.forward ((within_members (by simp)).2 (by simp))
  exact hmembers.trans (by simp)

@[simp] theorem Block.drainEnd_goes {status busy} : Goes b0 b (b.drainEnd status busy) := Forward.goes (by simp [drainEnd])

@[simp] theorem Block.switchDone_goes : Goes b0 b b.switchDone := Forward.goes (by simp [switchDone])

@[simp] theorem Block.passTurn_goes {r} : Goes b0 b (b.passTurn r) := Forward.goes (by simp [passTurn])

@[simp] theorem Block.complete_goes {c index status field res} : Goes b0 b (b.complete c index status field res) := Forward.goes (by simp [complete])

@[simp] theorem Block.switchTo_goes {p} : Goes b0 b (b.switchTo p) := Forward.goes (by simp [switchTo])

@[simp] theorem Block.startMap_goes {g} : Goes b0 b (b.startMap g) := Forward.goes (by simp [startMap])

@[simp] theorem Block.setGranules_goes {ty id mask} : Goes b0 b (b.setGranules ty id mask) := Forward.goes (by simp [setGranules])

@[simp] theorem Block.setPartition_goes {c} : Goes b0 b (b.setPartition c) := Forward.goes (by simp [setPartition])

@[simp] theorem Block.regulate_goes {c} : Goes b0 b (b.regulate c) := Forward.goes (by simp [regulate])

@[simp] theorem Block.putBank_goes {e x g} : Goes b0 b (b.putBank e x g) := by
  refine Forward.goes ?_
  unfold putBank; split <;> simp

@[simp] theorem Block.loadBank_goes {d x buf} : Goes b0 b (b.loadBank d x buf) := Forward.goes (by simp [loadBank])

@[simp] theorem Block.linkReturn_goes {k} : Goes b0 b (b.linkReturn k) := Forward.goes (by unfold linkReturn; dsimp only; split <;> simp)

@[simp] theorem Block.calibrate_goes {ty id lane} : Goes b0 b (b.calibrate ty id lane) := Forward.goes (by simp [calibrate])

@[simp] theorem Block.setEye_goes {ty id lane v} : Goes b0 b (b.setEye ty id lane v) := Forward.goes (by simp [setEye])

@[simp] theorem Block.forceKind_goes {s k} : Goes b0 b (b.forceKind s k) := Forward.goes (by simp [forceKind])

@[simp] theorem Block.setTel_goes {e window enable ring only} : Goes b0 b (b.setTel e window enable ring only) := Forward.goes (by simp [setTel])

@[simp] theorem Block.telConfig_goes {ty id window enable ring} : Goes b0 b (b.telConfig ty id window enable ring) := by
  refine Forward.goes ?_
  unfold telConfig; dsimp only; split
  · exact Forward.trans (b := b.setTel _ _ _ _ _) (by simp) (Forward.foldl fun b p => by split <;> simp)
  · simp

end
end Sys2Proof.Machine
end

section
/-! PROOFS. The registers and the commands run forward (spec/15 R399; 16; 17), and with them every command (07 R212). -/

namespace Sys2Proof.Machine

open Block (Within Forward)

section
variable {b0 b : Block} {c : Cmd} {f : Form} {run : Block → Verdict}

/-! ### The registers (17 R446 to R458) -/

@[simp] theorem Block.enableRing_goes {n} : Goes b0 b (b.enableRing n) := Forward.goes (by simp [enableRing])

@[simp] theorem Block.setCompare_goes {v} : Goes b0 b (b.setCompare v) := Forward.goes (by simp [setCompare])

@[simp] theorem Block.wForce_goes {w v} : Goes b0 b (b.wForce w v) := Forward.goes (by simp [wForce])

/-- A write that is not refused leaves a block that comes after `b`. -/
def Wrote.Forward (b : Block) : Wrote → Prop
  | .ok x => Block.Forward b x
  | .error _ => True

@[simp] theorem Wrote.forward_ok {x : Block} : Wrote.Forward b (.ok x) ↔ Block.Forward b x := Iff.rfl

@[simp] theorem Wrote.forward_error {cause : Nat} : Wrote.Forward b (.error cause) := trivial

@[simp] theorem Wrote.forward_ite {q : Prop} [Decidable q] {v w : Wrote} :
    Wrote.Forward b (if q then v else w) ↔ if q then Wrote.Forward b v else Wrote.Forward b w := by
  split <;> rfl

@[simp] theorem Wrote.forward_guardW {bad : Bool} {cause : Nat} {w : Wrote} :
    Wrote.Forward b (guardW bad cause w) ↔ if bad then True else Wrote.Forward b w := by
  cases bad <;> rfl

theorem Wrote.Forward.guardW {bad : Bool} {cause : Nat} {w : Wrote} (h : Wrote.Forward b w) : Wrote.Forward b (guardW bad cause w) := by
  simp [h]

theorem Block.wVecCtrl_forward {v x : Nat} : Wrote.Forward b (b.wVecCtrl v x) := by simp [wVecCtrl]

theorem Block.wRingCtrl_forward {n x : Nat} : Wrote.Forward b (b.wRingCtrl n x) := by simp [wRingCtrl]

theorem Block.wDoorbell_forward {n x : Nat} : Wrote.Forward b (b.wDoorbell n x) := by
  unfold wDoorbell
  refine Wrote.Forward.guardW (Wrote.Forward.guardW ?_)
  split <;> simp

theorem Block.regWrite_forward {r : Reg} {v : BitVec 64} : Wrote.Forward b (b.regWrite r v) := by
  unfold regWrite
  extract_lets x
  split
  case h_3 => exact wVecCtrl_forward
  case h_4 => exact wRingCtrl_forward
  case h_8 => exact wDoorbell_forward
  all_goals simp

@[simp] theorem Block.fcbWrite_goes {o width v} : Goes b0 b (b.fcbWrite o width v) := by
  refine Forward.goes ?_
  unfold fcbWrite
  split
  · split
    · exact ⟨Nat.le_refl _, List.suffix_refl _, List.suffix_refl _⟩
    · exact .refl b
  split
  · simp
  next at_ w r _ =>
  split
  · simp
  have hw := regWrite_forward (b := b) (r := r) (v := v)
  split
  · next b' h => rwa [h] at hw
  · simp

@[simp] theorem Block.ringBell_goes {n op i} : Goes b0 b (b.ringBell n op i) := Forward.goes (by simp [ringBell])

/-! ### The commands (16) -/

@[simp] theorem Block.setWatchdog_goes {wd} : Goes b0 b (b.setWatchdog wd) := Forward.goes (by cases wd <;> simp [setWatchdog])

@[simp] theorem Block.runningBuild_goes : Goes b0 b b.runningBuild.2 := Forward.goes (by unfold runningBuild; split <;> simp)

@[simp] theorem Block.startLoad_goes {i} : Goes b0 b (b.startLoad i) := Forward.goes (by simp [startLoad])

@[simp] theorem Block.writeGranules_goes {index es} : Goes b0 b (b.writeGranules index es) := Forward.goes (by simp [writeGranules])

@[simp] theorem Block.restart_goes {ty id hold} : Goes b0 b (b.restart ty id hold) := Forward.goes (by simp [restart])

@[simp] theorem Block.holdScope_goes {ty id} : Goes b0 b (b.holdScope ty id) := Forward.goes (by simp [holdScope])

@[simp] theorem Block.setOnCount_goes {r n} : Goes b0 b (b.setOnCount r n) := Forward.goes (by simp [setOnCount])

@[simp] theorem Block.clearCounter_goes {e i} : Goes b0 b (b.clearCounter e i) := Forward.goes (by simp [clearCounter])

/-- Whatever a command's conditions decide on `b`, the block that it leaves comes after the one that it begins with. -/
inductive Verdict.Forward (b : Block) : Verdict → Prop
  | no {st fd : Nat} {res : List (Nat × Nat × Nat)} : Verdict.Forward b (.no st fd res)
  | done {st : Nat} {res : List (Nat × Nat × Nat)} {x : Block} : Block.Forward b x → Verdict.Forward b (.done st res x)
  | go {x y : Nat} {effect : Block → Block} : (∀ z, Block.Forward z (effect z)) → Verdict.Forward b (.go x y effect)

@[simp] theorem Verdict.forward_no {st fd : Nat} {res : List (Nat × Nat × Nat)} : Verdict.Forward b (.no st fd res) := .no

@[simp] theorem Verdict.forward_done {st : Nat} {res : List (Nat × Nat × Nat)} {x : Block} :
    Verdict.Forward b (.done st res x) ↔ Block.Forward b x :=
  ⟨fun | .done h => h, .done⟩

@[simp] theorem Verdict.forward_go {x y : Nat} {effect : Block → Block} :
    Verdict.Forward b (.go x y effect) ↔ ∀ z, Block.Forward z (effect z) :=
  ⟨fun | .go h => h, .go⟩

@[simp] theorem Verdict.forward_ite {q : Prop} [Decidable q] {v w : Verdict} :
    Verdict.Forward b (if q then v else w) ↔ if q then Verdict.Forward b v else Verdict.Forward b w := by
  split <;> rfl

theorem Block.carryOut_forward {i : Nat} {v : Verdict} (h : v.Forward b) : Forward b (b.carryOut c i v) := by
  cases v with
  | no st fd res => simp [carryOut]
  | done st res x => exact Forward.trans (Verdict.forward_done.1 h) (by simp [carryOut])
  | go x y effect => exact Forward.trans (by simp) (Verdict.forward_go.1 h _)

/-- A descriptor is served forward where its command is. -/
theorem Block.serve_forward (h : ∀ x, (run x).Forward x) : Forward b (b.serve c f run) := by
  unfold serve
  split
  · exact .refl b
  split
  · simp
  dsimp only
  split
  · simp
  split
  · simp
  · exact Forward.trans (b := (b.take c).passTurn c.ring) (by simp) (carryOut_forward (h _))

theorem Block.answer_forward {bytes : List Byte} {st : Nat} {res : List (Nat × Nat × Nat)} : (b.answer c bytes st res).Forward b := by
  simp [answer]

theorem Block.unchanged_forward {st : Nat} {res : List (Nat × Nat × Nat)} : Verdict.Forward b (.done st res b) := .done (.refl b)

theorem Block.queryPackage_forward : b.queryPackage.Forward b := by
  simp [queryPackage]

theorem Block.queryScope_forward {ty id : Nat} : (b.queryScope ty id).Forward b := by
  unfold queryScope
  dsimp only
  split <;> exact unchanged_forward

theorem Block.queryMap_forward {granule ep : Nat} : (b.queryMap c granule ep).Forward b := by
  unfold queryMap
  dsimp only
  split
  · exact unchanged_forward
  · exact answer_forward

/-- A query leaves the block as it is, but for the buffer that it fills. -/
theorem Block.query_forward : (b.query c).Forward b := by
  unfold query
  extract_lets id n
  split
  case h_1 => exact queryPackage_forward
  case h_2 => exact queryScope_forward
  case h_3 => exact unchanged_forward
  case h_4 => exact answer_forward
  case h_5 => exact answer_forward
  case h_6 => exact unchanged_forward
  case h_7 => exact answer_forward
  case h_8 => exact queryMap_forward
  case h_9 => exact unchanged_forward
  case h_10 => exact answer_forward
  case h_11 => exact unchanged_forward
  case h_12 => exact answer_forward

theorem Block.profileSet_forward {p : Nat} {wd : Option Nat} : (b.profileSet p wd).Forward b := by simp [profileSet]

theorem Block.fwLoad_forward {i : FwImage} : (b.fwLoad i).Forward b := by simp [fwLoad]

theorem Block.mapWrite_forward : (b.mapWrite c).Forward b := by
  unfold mapWrite
  dsimp only
  split
  · simp
  · split <;> simp

theorem Block.routeWrite_forward : (b.routeWrite c).Forward b := by
  unfold routeWrite
  split <;> simp

theorem Block.gateActivate_forward {ns : List Nat} {base : Nat} : (b.gateActivate ns base).Forward b := by simp [gateActivate]

theorem Block.domainPower_forward : (b.domainPower c).Forward b := by
  unfold domainPower
  dsimp only
  split
  · split <;> simp
  · simp

theorem Block.leave_forward {hold test : Bool} : (b.leave c hold test).Forward b := by simp [leave]

theorem Block.turned_forward {ty id : Nat} : (b.turned ty id).Forward b := by simp [turned]

theorem Block.scopeFence_forward : (b.scopeFence c).Forward b := by simp [scopeFence, leave_forward]

theorem Block.domainReset_forward : (b.domainReset c).Forward b := by simp [domainReset, leave_forward]

theorem Block.scopeReadmit_forward {ty id : Nat} : (b.scopeReadmit ty id).Forward b := by simp [scopeReadmit, turned_forward]

theorem Block.counterRead_forward : (b.counterRead c).Forward b := by
  unfold counterRead
  dsimp only
  split
  · simp
  split
  · simp
  · simp [answer]

end

/-! ### Every command, family by family -/

section

/-- A command runs forward where its effect does, on every block. -/
theorem forward_of_on {i : Instr} {f : Block → Block} {s t : State} (hx : s.on i f = .next t) (h : ∀ b, Forward b (f b)) :
    Forward s.blk t.blk := by
  obtain ⟨-, hblk⟩ := State.on_next hx
  rw [hblk]; split
  · exact h s.blk
  · exact .refl _

/-- A command of the rings runs forward where what it decides does. -/
theorem forward_of_serve {i : Instr} {c : Cmd} {f : Form} {run : Block → Verdict} {s t : State} (hx : s.on i (fun b => b.serve c f run) = .next t)
    (h : ∀ b, (run b).Forward b) : Forward s.blk t.blk :=
  forward_of_on hx fun _ => Block.serve_forward h

theorem Block.members_forward {b : Block} {x : SMap Member} : Forward b { b with members := x } :=
  ⟨Nat.le_refl _, List.suffix_refl _, List.suffix_refl _⟩

theorem Block.tableChanged_forward {b : Block} {own : Bool} : Forward b (b.tableChanged own) := by simp

theorem Block.ts_forward {b : Block} {x : TsPins} : Forward b { b with ts := x } := ⟨Nat.le_refl _, List.suffix_refl _, List.suffix_refl _⟩

theorem Block.refclk_forward {b : Block} {x : Bool} : Forward b { b with refclk := x } :=
  ⟨Nat.le_refl _, List.suffix_refl _, List.suffix_refl _⟩

variable {i : Instr} {s t : State}

theorem epochs_forward (hf : family i = .epochs) (hx : exec i s = .next t) : Forward s.blk t.blk := by
  cases i <;> cases hf <;> dsimp only [exec] at hx
  case drainQueryTick g =>
    refine forward_of_on hx fun b => ?_
    split
    · split <;> simp
    · exact .refl b
  case epochDrainReport g =>
    refine forward_of_on hx fun b => ?_
    split <;> simp
  case epochDrainTimeout =>
    refine forward_of_on hx fun b => ?_
    split
    · split <;> simp
    · exact .refl b
  case mapEpochRetire =>
    refine forward_of_on hx fun b => ?_
    split <;> simp
  all_goals exact forward_of_on hx fun b => by simp

theorem power_forward (hf : family i = .power) (hx : exec i s = .next t) : Forward s.blk t.blk := by
  cases i <;> cases hf <;> dsimp only [exec] at hx
  case powerDownDrained d =>
    refine forward_of_on hx fun b => ?_
    dsimp only
    split
    · simp
    split
    · simp
    split
    · simp
    split <;> simp
  case powerDownTimeout d =>
    refine forward_of_on hx fun b => ?_
    dsimp only
    split
    · simp
    split
    · simp
    split
    · simp
    cases domAdp d <;> simp
  all_goals exact forward_of_on hx fun b => by simp

theorem faults_forward (hf : family i = .faults) (hx : exec i s = .next t) : Forward s.blk t.blk := by
  cases i <;> cases hf <;> dsimp only [exec] at hx
  case planeNoticeLimit =>
    refine forward_of_on hx fun b => ?_
    split <;> simp
  case scopeTestDone ty id failed =>
    refine forward_of_on hx fun b => ?_
    dsimp only
    split
    · simp
    · split <;> simp
  all_goals exact forward_of_on hx fun b => by simp

theorem profiles_forward (hf : family i = .profiles) (hx : exec i s = .next t) : Forward s.blk t.blk := by
  cases i <;> cases hf <;> dsimp only [exec] at hx
  case profileDrainTimeout =>
    refine forward_of_on hx fun b => ?_
    split <;> simp
  case profileRailWaitLimit g =>
    refine forward_of_on hx fun b => ?_
    split
    · simp
    · split <;> simp
  all_goals exact forward_of_on hx fun b => by simp

theorem mesh_forward (hf : family i = .mesh) (hx : exec i s = .next t) : Forward s.blk t.blk := by
  cases i <;> cases hf <;> dsimp only [exec] at hx
  all_goals exact forward_of_on hx fun b => by simp

theorem ni_forward (hf : family i = .ni) (hx : exec i s = .next t) : Forward s.blk t.blk := by
  cases i <;> cases hf <;> dsimp only [exec] at hx
  case answerReceive n p err =>
    refine forward_of_on hx fun b => ?_
    split <;> simp
  case mapLookupTimeout n t =>
    refine forward_of_on hx fun b => ?_
    split <;> simp
  case duplicateFilterRetire n =>
    refine forward_of_on hx fun b => ?_
    split <;> simp
  all_goals exact forward_of_on hx fun b => by simp

theorem pass_forward (hf : family i = .pass) (hx : exec i s = .next t) : Forward s.blk t.blk := by
  cases i <;> cases hf <;> dsimp only [exec] at hx
  case exitFilterRetire k =>
    refine forward_of_on hx fun b => ?_
    split <;> simp
  case shadowCompareDone k ok =>
    refine forward_of_on hx fun b => ?_
    split
    · split <;> simp
    · simp
  case passLaneCalibrationDone k =>
    refine forward_of_on hx fun b => ?_
    split <;> simp
  case passLaneCalibrationLimit k =>
    refine forward_of_on hx fun b => ?_
    split <;> simp
  case buttonPress k p =>
    refine forward_of_on hx fun b => ?_
    split <;> simp
  case cableWake k w =>
    refine forward_of_on hx fun b => ?_
    dsimp only
    split
    · simp
    · split <;> simp
  case indicatorTimer k =>
    refine forward_of_on hx fun b => ?_
    dsimp only
    split
    · simp
    split
    · simp
    · split <;> simp
  case memberTimeout i =>
    refine forward_of_on hx fun b => ?_
    split
    · split
      · simp
      · extract_lets b₁
        exact Forward.trans (b := b₁) (by simp [b₁]) (Block.members_forward.trans Block.tableChanged_forward)
    · simp
  all_goals exact forward_of_on hx fun b => by simp

theorem time_forward (hf : family i = .time) (hx : exec i s = .next t) : Forward s.blk t.blk := by
  cases i <;> cases hf <;> dsimp only [exec] at hx
  case passTimeLoss =>
    refine forward_of_on hx fun b => ?_
    split <;> simp
  case ppsOutSecond =>
    refine forward_of_on hx fun b => ?_
    extract_lets m x b₁
    clear_value x
    exact Forward.trans (b := b₁) (by simp [b₁]) Block.ts_forward
  case tsCapture =>
    refine forward_of_on hx fun b => ?_
    split <;> simp
  case tsCompareMatch =>
    refine forward_of_on hx fun b => ?_
    split
    · simp
    · extract_lets b₁
      exact Forward.trans (b := b₁) (by simp [b₁]) Block.ts_forward
  case timeSetPpsTimeout =>
    refine forward_of_on hx fun b => ?_
    split <;> simp
  all_goals exact forward_of_on hx fun b => by simp

theorem links_forward (hf : family i = .links) (hx : exec i s = .next t) : Forward s.blk t.blk := by
  cases i <;> cases hf <;> dsimp only [exec] at hx
  case frameReceive a err par far bad =>
    refine forward_of_on hx fun b => ?_
    split
    · simp
    split
    · split <;> simp
    split
    · simp
    · split <;> simp
  case trainingLimit a =>
    refine forward_of_on hx fun b => ?_
    dsimp only
    split <;> simp
  case timeExchangeRetry a =>
    refine forward_of_on hx fun b => ?_
    dsimp only
    split
    · split <;> simp
    · simp
  case wakeMessage a =>
    refine forward_of_on hx fun b => ?_
    split <;> simp
  case wakeRepeat a =>
    refine forward_of_on hx fun b => ?_
    split
    · dsimp only
      split
      · simp
      · exact Forward.trans (by simp) Block.farOut_forward
    · simp
  case wakeTimeout a =>
    refine forward_of_on hx fun b => ?_
    split <;> simp
  case quietOverlayStart n =>
    refine forward_of_on hx fun b => ?_
    split <;> simp
  case linkQuiet a =>
    refine forward_of_on hx fun b => ?_
    split <;> simp
  case quietResume a =>
    refine forward_of_on hx fun b => ?_
    split <;> simp
  case quietOverlayEnd n =>
    refine forward_of_on hx fun b => ?_
    split <;> simp
  all_goals exact forward_of_on hx fun b => by simp

theorem startup_forward (hf : family i = .startup) (hi : i ≠ .resetRelease) (hx : exec i s = .next t) : Forward s.blk t.blk := by
  cases i <;> cases hf <;> dsimp only [exec] at hx
  case resetRelease => exact absurd rfl hi
  case refclkLoss => exact forward_of_on hx fun b => Forward.trans (by simp) Block.refclk_forward
  case clockUnlock d => exact forward_of_on hx fun b => (Block.refclk_forward (x := true)).trans (by simp)
  case timeBaseError d =>
    refine forward_of_on hx fun b => ?_
    have hfree : Forward b (b.free 64).2 := by simp
    dsimp only
    generalize b.free 64 = got at hfree ⊢
    exact hfree.trans (by simp)
  all_goals exact forward_of_on hx fun b => by simp

theorem stewards_forward (hf : family i = .stewards) (hx : exec i s = .next t) : Forward s.blk t.blk := by
  cases i <;> cases hf <;> dsimp only [exec] at hx
  case heartbeatReceipt s skip =>
    refine forward_of_on hx fun b => ?_
    split <;> simp
  case restartAnnounceExpiry s =>
    refine forward_of_on hx fun b => ?_
    split <;> simp
  all_goals exact forward_of_on hx fun b => by simp

theorem observe_forward (hf : family i = .observe) (hx : exec i s = .next t) : Forward s.blk t.blk := by
  cases i <;> cases hf <;> dsimp only [exec] at hx
  case cairnSlotRelease g =>
    refine forward_of_on hx fun b => ?_
    split <;> simp
  case gateSwitch n =>
    refine forward_of_on hx fun b => ?_
    split <;> simp
  all_goals exact forward_of_on hx fun b => by simp

theorem registers_forward (hf : family i = .registers) (hx : exec i s = .next t) : Forward s.blk t.blk := by
  cases i <;> cases hf <;> dsimp only [exec] at hx
  case i3cWordSelect w =>
    refine forward_of_on hx fun b => ?_
    split
    · exact ⟨Nat.le_refl _, List.suffix_refl _, List.suffix_refl _⟩
    · exact .refl b
  case tapInstruction code => exact forward_of_on hx fun b => ⟨Nat.le_refl _, List.suffix_refl _, List.suffix_refl _⟩
  all_goals exact forward_of_on hx fun b => by simp

theorem commands_forward (hf : family i = .commands) (hx : exec i s = .next t) : Forward s.blk t.blk := by
  cases i <;> cases hf <;> dsimp only [exec] at hx
  case query c => exact forward_of_serve hx fun b => Block.query_forward
  case profileSet c => exact forward_of_serve hx fun b => Block.profileSet_forward
  case fwLoad c img =>
    refine forward_of_serve hx fun b => ?_
    cases img with
    | none => simp
    | some i => exact Block.fwLoad_forward
  case mapWrite c => exact forward_of_serve hx fun b => Block.mapWrite_forward
  case routeWrite c => exact forward_of_serve hx fun b => Block.routeWrite_forward
  case gateActivate c => exact forward_of_serve hx fun b => Block.gateActivate_forward
  case domainPower c => exact forward_of_serve hx fun b => Block.domainPower_forward
  case domainReset c => exact forward_of_serve hx fun b => Block.domainReset_forward
  case scopeFence c => exact forward_of_serve hx fun b => Block.scopeFence_forward
  case scopeReadmit c => exact forward_of_serve hx fun b => Block.scopeReadmit_forward
  case counterRead c => exact forward_of_serve hx fun b => Block.counterRead_forward
  case selftest c => exact forward_of_serve hx fun b => by simp [Block.leave_forward]
  case lockBreak c =>
    refine forward_of_serve hx fun b => ?_
    dsimp only
    split <;> simp
  all_goals exact forward_of_serve hx fun b => by simp

/-- But for a reset release, every command runs forward: each family's does. -/
theorem exec_forward (hi : i ≠ .resetRelease) (hx : exec i s = .next t) : Forward s.blk t.blk := by
  cases hf : family i with
  | startup => exact startup_forward hf hi hx
  | ni => exact ni_forward hf hx
  | epochs => exact epochs_forward hf hx
  | stewards => exact stewards_forward hf hx
  | mesh => exact mesh_forward hf hx
  | links => exact links_forward hf hx
  | pass => exact pass_forward hf hx
  | time => exact time_forward hf hx
  | power => exact power_forward hf hx
  | faults => exact faults_forward hf hx
  | profiles => exact profiles_forward hf hx
  | observe => exact observe_forward hf hx
  | registers => exact registers_forward hf hx
  | commands => exact commands_forward hf hx

end

/-- Settles O59: every command but a reset release runs forward, family by family. -/
theorem timeAndOutputsRunForward : Obligations.TimeAndOutputsRunForward := by
  intro i s t hi hx
  obtain ⟨hnow, ⟨l, hl⟩, l', hl'⟩ := exec_forward hi hx
  exact ⟨hnow, ⟨l, hl.symm⟩, l', hl'.symm⟩

end Sys2Proof.Machine
end

section
/-! PROOFS. Training of a die link (spec/08 R244, R247, R248, R250, R256). -/

namespace Sys2Proof.Machine

open Block (Within)

/-! ### What the operations on a die link keep -/

section
variable {b b' c : Block} {a kind : Nat}

/-- No Pass port is the far side of a die link. -/
theorem isPass_farAdp : isPass (farAdp a) = false := by
  have hcompute : ∀ d l, d < 12 → l < 512 → isPass (src d l) = false := fun d l hd hl => by
    simp [isPass, dieOf_src hl, Nat.ne_of_lt hd]
  unfold farAdp
  split
  · next hC =>
    simp only [isColC, Bool.and_eq_true, Bool.or_eq_true, decide_eq_true_eq, beq_iff_eq] at hC
    have hcol : colOfAdp a < 24 := by
      rw [colOfAdp, if_neg (by simp [Nat.ne_of_lt hC.1])]
      omega
    simp [isPass, colIo, locOf_src (show 384 + colOfAdp a < 512 by omega)]
    omega
  · split
    · next hI =>
      simp only [isColI, Bool.and_eq_true, decide_eq_true_eq, beq_iff_eq] at hI
      refine hcompute _ _ ?_ (by omega)
      rw [colOfAdp, if_pos (by simp [hI])]
      omega
    · split
      · exact hcompute _ _ (Nat.mod_lt _ (by decide)) (by decide)
      · exact hcompute _ _ (Nat.mod_lt _ (by decide)) (by decide)

/-- A die link has two sides. -/
theorem sides_of_isDieAdp (ha : isDieAdp a = true) : sides a = [a, farAdp a] := by
  simp [sides, (isAdp_of_isDieAdp ha).2.2]

/-- A fold whose every step keeps a part keeps it. -/
theorem Block.foldl_keeps {α β : Type} {f : Block → α → Block} {l : List α} (part : Block → β) (h : ∀ b x, part (f b x) = part b) :
    part (l.foldl f b) = part b := by
  induction l generalizing b with
  | nil => rfl
  | cons x l ih => rw [List.foldl_cons, ih, h]

theorem Block.Within.link {ps : List Part} (h : Within ps b b') (hs : .links ∉ ps) : b'.link a = b.link a := by
  rw [Block.link, h .links hs, Block.link]

theorem Block.Within.ridgelessAt {ps : List Part} (h : Within ps b b') (hs : .ridgeless ∉ ps) : b'.ridgelessAt a = b.ridgelessAt a := by
  rw [Block.ridgelessAt, h .ridgeless hs, Block.ridgelessAt]

/-- No plane and no steward hangs on a die link alone, so that its faults are not escalated (11 R319). -/
theorem Block.escalates_linkScope (ha : isDieAdp a = true) : b.escalates (linkScope a 7).1 (linkScope a 7).2 = false := by
  obtain ⟨-, hrouter, hpass⟩ := isAdp_of_isDieAdp ha
  simp only [linkScope, hrouter, hpass, beq_self_eq_true, if_true, Bool.false_eq_true, if_false]
  split <;> simp [escalates, scopeIn]

/-- A Containable fault of a die link is raised, and the link's scope stops. -/
theorem Block.linkFault_raised {pk ext : Option (BitVec 128)} {det : BitVec 32} (ha : isDieAdp a = true) (hsev : kindSev a kind = 2)
    (hwsh : c.wsh = b.wsh) : Raised b (c.linkFault a 7 kind pk det ext) a kind
      (if b.escalates (linkScope a 7).1 (linkScope a 7).2 then 3 else 2) ∧
    ((c.linkFault a 7 kind pk det ext).scope (linkScope a 7).1 (linkScope a 7).2).stopped = true := by
  refine ⟨?_, fault_stopped _ _ _ _ _ _ _ _ _ (linkScope_ne_zero ha) (by rw [hsev])⟩
  rw [escalates_linkScope ha, ← escalates_linkScope ha (b := c)]
  exact (fault_raised_containable hsev).of_wsh hwsh.symm rfl

theorem Block.linkFault_link {p i : Nat} {pk ext : Option (BitVec 128)} {det : BitVec 32} :
    (b.linkFault a p kind pk det ext).link i = b.link i := by
  simp [linkFault]

/-! ### The steps of training (08 R248) -/

theorem Block.pathBack_now : (b.pathBack a).now = b.now := by
  unfold pathBack
  dsimp only
  split <;> rfl

theorem Block.pathBack_link {i : Nat} : (b.pathBack a).link i = b.link i :=
  (show Within [.wsh] b (b.pathBack a) by simp).link (by decide)

/-- A change of a link takes no message back. -/
theorem Raised.modLink {k sev n : Nat} {f : Link → Link} (h : Raised b b' n k sev) : Raised b (b'.modLink a f) n k sev := h

/-- The message that a side has raised stays in its queue when the sideband runs again. -/
theorem Raised.pathBack {k sev n : Nat} (h : Raised b b' n k sev) : Raised b (b'.pathBack a) n k sev := by
  unfold Block.pathBack
  dsimp only
  split
  · exact h
  · exact h

/-- A die that has its Watershed path gets none back. -/
theorem Block.pathBack_eq_self (h : dieOf a ∉ b.wsh.pathLost) : b.pathBack a = b := by
  have hkeep : b.wsh.pathLost.filter (· != dieOf a) = b.wsh.pathLost :=
    List.filter_eq_self.2 fun x hx => by simpa using fun he : x = dieOf a => h (he ▸ hx)
  unfold pathBack
  dsimp only
  split
  · rfl
  · rw [modWsh, hkeep]

/-- A step of a die link is a change of that side of it. -/
theorem Block.linkStep_eq {st : LinkSt} (hpass : isPass a = false) (hst : st ≠ .param) :
    b.linkStep a st = b.modLink a (fun l => { l.enter st with st := st, since := b.now }) := by
  simp [linkStep, hst, hpass]

/-- PARAM begins: the module of the link has trained, and its sideband runs. -/
theorem Block.linkStep_param (hpass : isPass a = false) :
    b.linkStep a .param = (b.pathBack a).modLink a (fun l => { l with st := .param, since := b.now }) := by
  simp [linkStep, hpass, Link.enter, pathBack_now]

/-- The attempts that a failed stage counts are those of the side that has more. -/
theorem Block.foldl_sides_attempts (ha : isDieAdp a = true) :
    (sides a).foldl (fun m x => max m (b.link x).attempts) 0 = max (b.link a).attempts (b.link (farAdp a)).attempts := by
  simp [sides_of_isDieAdp ha]

/-- A stage that fails for the first or second time starts the training again, on both sides. -/
theorem Block.stageFail_restarts (ha : isDieAdp a = true) (hown : (b.link a).attempts < 2) (hfar : (b.link (farAdp a)).attempts < 2) :
    ((b.stageFail a).link a).st = .phyTrain ∧ ((b.stageFail a).link (farAdp a)).st = .phyTrain ∧
    ((b.stageFail a).link a).attempts = max (b.link a).attempts (b.link (farAdp a)).attempts + 1 ∧ (b.stageFail a).wsh = b.wsh := by
  have hpass := (isAdp_of_isDieAdp ha).2.2
  unfold stageFail
  extract_lets n
  have hn : n = max (b.link a).attempts (b.link (farAdp a)).attempts + 1 := by simp only [n, foldl_sides_attempts ha]
  rw [if_pos (by omega), sides_of_isDieAdp ha, ← hn]
  simp only [List.foldl_cons, List.foldl_nil]
  rw [linkStep_eq hpass (by decide), linkStep_eq isPass_farAdp (by decide)]
  refine ⟨?_, by simp, ?_, by simp only [modLink_wsh]⟩
  · rw [modLink_link_ne (h := (farAdp_ne ha).symm), modLink_link_ne (h := (farAdp_ne ha).symm), modLink_link]
  · rw [modLink_link_ne (h := (farAdp_ne ha).symm), modLink_link_ne (h := (farAdp_ne ha).symm), modLink_link]
    simp [Link.enter]

/-- A stage that fails for the third time takes the link down, and is reported unless its scope is out of service. -/
theorem Block.stageFail_gives_up (ha : isDieAdp a = true) (hown : (b.link a).attempts = 2) (hridge : b.ridgelessAt a = false)
    (hscope : (b.scope (linkScope a 7).1 (linkScope a 7).2).st < 3) : ((b.stageFail a).link a).st = .down ∧
      Raised b (b.stageFail a) a 0x23 (if b.escalates (linkScope a 7).1 (linkScope a 7).2 then 3 else 2) := by
  obtain ⟨-, -, hpass⟩ := isAdp_of_isDieAdp ha
  have hwithin : Within [.links] b ((sides a).foldl (fun (b : Block) x => b.modLink x
      (fun l => { l with attempts := 0, st := .down, since := b.now })) b) := by
    simp
  have hdown : (((sides a).foldl (fun (b : Block) x => b.modLink x
      (fun l => { l with attempts := 0, st := .down, since := b.now })) b).link a).st = .down := by
    simp [sides_of_isDieAdp ha, modLink_link_ne (h := (farAdp_ne ha).symm)]
  unfold stageFail
  extract_lets n b1
  have hn : n = max (b.link a).attempts (b.link (farAdp a)).attempts + 1 := by simp only [n, foldl_sides_attempts ha]
  rw [if_neg (by omega)]
  simp only [hpass, Bool.false_eq_true, if_false]
  rw [if_neg]
  · obtain ⟨hraised, -⟩ := linkFault_raised (c := b1) (kind := 0x23) (pk := none) (ext := none) (det := detLink a 0 255 n) ha
      (by simp [kindSev]) (hwithin .wsh (by decide))
    exact ⟨by rw [linkFault_link]; exact hdown, hraised⟩
  · rw [hwithin.ridgelessAt (by decide), hwithin.scope (by decide)]
    simp [hridge, hscope]

end

/-! ### PHY_TRAIN (08 R244, R248, R256) -/

section
variable {b : Block} {s : State} {a lane : Nat} {lanes : List Nat}

/-- The end of PHY_TRAIN: with every failed lane moved the link goes on to PARAM, else the stage has failed. -/
theorem Block.trained_phyTrain (hpass : isPass a = false) (hridge : b.ridgelessAt a = false) (hst : (b.link a).st = .phyTrain) :
    b.trained a lanes = if (b.trainRepair a lanes).2 then (b.trainRepair a lanes).1.linkStep a .param
      else (b.trainRepair a lanes).1.stageFail a := by
  simp [trained, hst, hridge, hpass]

theorem Block.trainRepair_nil (hpass : isPass a = false) (hst : (b.link a).st = .phyTrain) : b.trainRepair a [] = (b, true) := by
  simp [trainRepair, hpass, hst]

/-- The first logical lane that a physical lane carries. -/
theorem Link.exists_find_phys {l : Link} (h : ∃ i, i < linkLanes (isRidge a) ∧ l.phys i = lane) : ∃ j, j < linkLanes (isRidge a) ∧
    l.phys j = lane ∧ (List.range (linkLanes (isRidge a))).find? (fun i => l.phys i == lane) = some j := by
  obtain ⟨i, hi, hlane⟩ := h
  obtain ⟨j, hj⟩ : ∃ j, (List.range (linkLanes (isRidge a))).find? (fun i => l.phys i == lane) = some j :=
    Option.isSome_iff_exists.1 (List.find?_isSome.2 ⟨i, List.mem_range.2 hi, beq_iff_eq.2 hlane⟩)
  exact ⟨j, List.mem_range.1 (List.mem_of_find?_eq_some hj), by simpa using List.find?_some hj, hj⟩

/-- A lane that moves changes the lane map and the list of bad spares alone. -/
theorem Block.moveLane_keeps {α : Type} {i : Nat} (part : Link → α)
    (h : ∀ (l : Link) m bad, part { l with laneMap := m, badSpares := bad } = part l) :
    part ((b.moveLane a lane).1.link i) = part (b.link i) := by
  unfold moveLane
  dsimp only
  split
  · rfl
  · rw [(event_reads ..).2.2.1]
    exact modLink_keeps part fun l => h l _ _

/-- A failed lane that carries a logical one is suspect no more, and moves where a redundant lane is left. -/
theorem Block.trainRepair_single (hpass : isPass a = false) (hst : (b.link a).st = .phyTrain)
    (hphys : ∃ i, i < linkLanes (isRidge a) ∧ (b.link a).phys i = lane) :
    b.trainRepair a [lane] = (b.modLink a (fun l => { l with suspects := l.suspects.filter (· != lane) })).moveLane a lane := by
  have hst' : (((b.modLink a (fun l => { l with suspects := l.suspects.filter (· != lane) })).moveLane a lane).1.link a).st = .phyTrain := by
    refine (moveLane_keeps Link.st (by exact fun _ _ _ => rfl)).trans ?_
    rw [modLink_link]
    exact hst
  simp [trainRepair, hpass, hphys, hst']

theorem phyTrainDone_to_param (ha : isDieAdp a = true) (hridge : s.blk.ridgelessAt a = false) (hst : (s.blk.link a).st = .phyTrain)
    (hpath : dieOf a ∉ s.blk.wsh.pathLost) : Completes (.phyTrainDone ⟨a, []⟩) s (fun b' =>
      b' = s.blk.modLink a (fun l => { l with st := .param, since := s.blk.now })) := by
  obtain ⟨hadp, -, hpass⟩ := isAdp_of_isDieAdp ha
  refine completes_of_on (f := fun b => b.trained a []) (by simp [Instr.WellFormed, hadp]) rfl ?_
  rw [Block.trained_phyTrain hpass hridge hst, Block.trainRepair_nil hpass hst, if_pos rfl, Block.linkStep_param hpass,
    Block.pathBack_eq_self hpath]

/-- What a failed lane does at the end of PHY_TRAIN. -/
theorem phyTrainDone_completes {P : Block → Prop} (ha : isDieAdp a = true) (hlane : lane < linkLanes (isRidge a) + redundant a)
    (hP : P (s.blk.trained a [lane])) : Completes (.phyTrainDone ⟨a, [lane]⟩) s P := by
  obtain ⟨hadp, -, hpass⟩ := isAdp_of_isDieAdp ha
  refine completes_of_on (f := fun b => b.trained a [lane]) ?_ rfl hP
  cases hr : isRidge a <;> simpa [Instr.WellFormed, hadp, hpass, linkLanes, redundant, hr] using hlane

/-- A failed lane for which a redundant one is left moves, and the training goes on. -/
theorem Block.trained_moves {sp : Nat} {l : List Nat} (ha : isDieAdp a = true) (hridge : b.ridgelessAt a = false)
    (hst : (b.link a).st = .phyTrain) (hphys : ∃ i, i < linkLanes (isRidge a) ∧ (b.link a).phys i = lane)
    (hidle : (b.link a).idleLanes a = sp :: l) : ((b.trained a [lane]).link a).st = .param ∧
      (∃ j, j < linkLanes (isRidge a) ∧ (b.link a).phys j = lane ∧ ((b.trained a [lane]).link a).phys j = sp) ∧
      Raised b (b.trained a [lane]) a 0x26 0 := by
  obtain ⟨-, -, hpass⟩ := isAdp_of_isDieAdp ha
  obtain ⟨j, hj, hlane, hfind⟩ := Link.exists_find_phys hphys
  rw [trained_phyTrain hpass hridge hst, trainRepair_single hpass hst hphys, moveLane_moves (j := j) (sp := sp) (l := l)
    (by rw [modLink_link]; exact hidle) (by rw [modLink_link]; exact hfind), if_pos rfl, linkStep_param hpass]
  refine ⟨by simp, ⟨j, hj, hlane, ?_⟩, ?_⟩
  · simp [Link.phys, pathBack_link]
  · refine Raised.modLink (Raised.pathBack ?_)
    dsimp only
    exact event_raised_from (by simp [kindSev]) rfl

/-- A failed lane for which no redundant one is left fails the stage. -/
theorem Block.trained_restarts (ha : isDieAdp a = true) (hridge : b.ridgelessAt a = false)
    (hst : (b.link a).st = .phyTrain) (hphys : ∃ i, i < linkLanes (isRidge a) ∧ (b.link a).phys i = lane)
    (hidle : (b.link a).idleLanes a = []) (hown : (b.link a).attempts < 2) (hfar : (b.link (farAdp a)).attempts < 2) :
    ((b.trained a [lane]).link a).st = .phyTrain ∧
      ((b.trained a [lane]).link a).attempts = max (b.link a).attempts (b.link (farAdp a)).attempts + 1 := by
  obtain ⟨-, -, hpass⟩ := isAdp_of_isDieAdp ha
  have hnone : ∀ {x : Block}, (x.link a).idleLanes a = [] → x.moveLane a lane = (x, false) := fun {x} h => by simp [moveLane, h]
  rw [trained_phyTrain hpass hridge hst, trainRepair_single hpass hst hphys, hnone (by rw [modLink_link]; exact hidle),
    if_neg Bool.false_ne_true]
  have hkeeps : ∀ i, ((b.modLink a (fun l => { l with suspects := l.suspects.filter (· != lane) })).link i).attempts = (b.link i).attempts :=
    fun i => modLink_keeps Link.attempts (by exact fun _ => rfl)
  obtain ⟨hphy, -, hattempts, -⟩ := stageFail_restarts ha (hkeeps a ▸ hown) (hkeeps _ ▸ hfar)
  exact ⟨hphy, by rw [hattempts, hkeeps, hkeeps]⟩

end

/-! ### PARAM (08 R250) -/

section
variable {b : Block} {s : State} {a : Nat} {p : Param}

/-- The adapters at the ends of a compute die's Ridges lie on compute dies. -/
theorem isColI_of_mem_ridgesAt {d x : Nat} (hd : d < 12) (h : x ∈ ridgesAt d) : isColI x = false := by
  have hnone : ∀ d < 12, ∀ x ∈ ridgesAt d, isColI x = false := by decide
  exact hnone d hd x h

/-- Changes of other links leave a link as it is. -/
theorem Block.foldl_modLink_link {F : Block → Link → Link} {as : List Nat} (h : a ∉ as) :
    (as.foldl (fun b x => b.modLink x (F b)) b).link a = b.link a := by
  induction as generalizing b with
  | nil => rfl
  | cons x as ih =>
    rw [List.mem_cons, not_or] at h
    rw [List.foldl_cons, ih h.2, modLink_link_ne (h := h.1)]

/-- A PARAM that passes the checks is held, a compute die adopts its identity, and the link goes on to CREDIT_INIT. -/
theorem Block.paramIn_accepts (ha : isDieAdp a = true) (hridge : b.ridgelessAt a = false) (hst : (b.link a).st = .param)
    (hearly : paramEarly a p = false) (hok : b.paramOk a p = true) (hrx : p.rxok = true) : (b.paramIn a p).link a = { b.link a with
      st := .creditInit, since := b.now, far := some p,
      ident := if isColC a && (b.link a).ident.isNone then some (p.link / 2, p.link, p.pkg) else (b.link a).ident } ∧
    (b.paramIn a p).wsh = b.wsh := by
  obtain ⟨-, -, hpass⟩ := isAdp_of_isDieAdp ha
  unfold paramIn
  rw [if_neg (by simp [hst, hridge, hearly]), if_neg (by simp [hok])]
  extract_lets b1 d b2 b3
  have hb2 : b2.link a = b1.link a ∧ b2.now = b1.now ∧ b2.wsh = b1.wsh := by
    simp only [b2]
    split
    · next hless =>
      have hw : Within [.links] { b1 with ridgeless := b1.ridgeless ++ [d] } ((ridgesAt d).foldl (fun (b : Block) x =>
          b.modLink x (fun l => { l with st := .down, since := b.now, attempts := 0, inbox := [] }))
          { b1 with ridgeless := b1.ridgeless ++ [d] }) := by
        simp
      refine ⟨foldl_modLink_link fun hmem => ?_, hw .now (by decide), hw .wsh (by decide)⟩
      have hcol : isColI a = true := by simp_all
      have hd : d < 12 := by
        simp only [isColI, Bool.and_eq_true, decide_eq_true_eq, beq_iff_eq] at hcol
        simp only [d, colOfAdp, hcol, beq_self_eq_true, if_true]
        omega
      exact absurd (isColI_of_mem_ridgesAt hd hmem) (by simp [hcol])
    · exact ⟨rfl, rfl, rfl⟩
  obtain ⟨hlink, hnow, hwsh⟩ := hb2
  have hb3 : b3 = b2 := by simp [b3, hpass]
  rw [if_pos hrx, hb3, linkStep_eq hpass (by decide), modLink_link, hlink, hnow]
  exact ⟨by simp only [b1, modLink_link]; rfl, hwsh⟩

/-- A PARAM that fails the checks is reported, and the link waits for another. -/
theorem Block.paramIn_refuses (ha : isDieAdp a = true) (hridge : b.ridgelessAt a = false) (hst : (b.link a).st = .param)
    (hearly : paramEarly a p = false) (hok : b.paramOk a p = false) :
    Raised b (b.paramIn a p) a 0x24 (if b.escalates (linkScope a 7).1 (linkScope a 7).2 then 3 else 2) ∧
      ((b.paramIn a p).link a).st = .param := by
  unfold paramIn
  rw [if_neg (by simp [hst, hridge, hearly]), if_pos (by simp [hok])]
  generalize hc : (if isColC a && (b.scope 9 (dieOf a)).st == 5 then _ else b) = c
  have hw : Within [.scopes] b c := by simp [← hc]
  exact ⟨(linkFault_raised ha (by simp [kindSev]) (hw .wsh (by decide))).1, by rw [linkFault_link, hw.link (by decide), hst]⟩

end

/-! ### CREDIT_INIT (08 R247, R248) -/

section
variable {b : Block} {s : State} {a : Nat} {f : Link → Link}

/-- What the routes make of a link has no part in what the link holds. -/
theorem Block.modLink_aligns {x : Nat} : (b.modLink a f).aligns x = b.aligns x := rfl

/-- The step that follows CREDIT_INIT. -/
def Block.afterCredits (b : Block) (a : Nat) : LinkSt := if b.aligns a then .timeAlign else .ready

/-- No step of training changes the credits that the far side has advertised. -/
theorem Link.enter_credits {l : Link} {st : LinkSt} :
    (l.enter st).pool = l.pool ∧ (l.enter st).used = l.used ∧ (l.enter st).depths = l.depths := by
  unfold enter
  split <;> exact ⟨rfl, rfl, rfl⟩

theorem Block.creditNext_of_echoed (hpass : isPass a = false) (hst : (b.link a).st = .creditInit) (hgot : (b.link a).ciGot = true)
    (hecho : (b.link a).ciEcho = true) :
    (b.creditNext a).link a = { (b.link a).enter (b.afterCredits a) with st := b.afterCredits a, since := b.now } := by
  have hstep : ∀ st, st ≠ .param → (b.linkStep a st).link a = { (b.link a).enter st with st := st, since := b.now } := fun st h => by
    rw [linkStep_eq hpass h, modLink_link]
  unfold creditNext afterCredits
  rw [if_neg (by simp [hst, hgot, hecho])]
  split
  · rw [← hstep _ (by decide)]
    split <;> rfl
  · exact hstep _ (by decide)

theorem Block.creditNext_of_not_echoed (hecho : (b.link a).ciEcho = false) : b.creditNext a = b :=
  if_pos (by simp [hecho])

/-- With the far credits taken, a side goes on where its own have been echoed; the credits stay. -/
theorem Block.creditNext_credits (hpass : isPass a = false) (hst : (b.link a).st = .creditInit) (hgot : (b.link a).ciGot = true) :
    let l := (b.creditNext a).link a
    l.st = (if (b.link a).ciEcho then b.afterCredits a else .creditInit) ∧ l.pool = (b.link a).pool ∧ l.used = (b.link a).used ∧
      l.depths = (b.link a).depths := by
  cases hecho : (b.link a).ciEcho
  · rw [creditNext_of_not_echoed hecho]
    exact ⟨hst, rfl, rfl, rfl⟩
  · rw [creditNext_of_echoed hpass hst hgot hecho]
    exact ⟨rfl, Link.enter_credits⟩

/-- A row of a table made row by row. -/
theorem SMap.get_map_of_mem {α : Type} {d : α} {g : Nat → α} {ks : List Nat} {k : Nat} (h : k ∈ ks) :
    SMap.get d (ks.map (fun x => (x, g x))) k = g k := by
  induction ks with
  | nil => cases h
  | cons x ks ih =>
    rw [List.map_cons, SMap.get]
    split
    · next he => rw [he]
    · next hne => exact ih ((List.mem_cons.1 h).resolve_left hne)

/-- A side that has taken the credits of the far side. -/
def Link.credited (l : Link) (a : Nat) (depths : List Nat) (pool : Nat) : Link :=
  { l with depths := (List.range (linkVcs a)).map (fun v => (v, depths.getD v 0)), pool := pool, used := [], poolUsed := 0, ciGot := true }

/-- A CREDIT_INIT that keeps the limits is taken. -/
theorem Block.creditInitIn_takes {depths : List Nat} {pool : Nat} (hpass : isPass a = false) (hst : (b.link a).st = .creditInit)
    (hgot : (b.link a).ciGot = false) (hdepths : ∀ v, v < linkVcs a → vcDepth a v ≤ depths.getD v 0 ∧ depths.getD v 0 ≤ 15)
    (hnone : ∀ v, linkVcs a ≤ v → v < 21 → depths.getD v 0 = 0) (hpool : pool ≤ 1024) :
    b.creditInitIn a depths pool = (b.modLink a (fun l => l.credited a depths pool)).creditNext a := by
  unfold creditInitIn
  rw [if_neg (by simp [hst, hgot])]
  extract_lets ok
  have hok : ok = true := by
    simp only [ok, hpass, Bool.and_eq_true, List.all_eq_true, List.mem_range, decide_eq_true_eq]
    refine ⟨fun v hv => ?_, hpool⟩
    split
    · next h => simpa using hdepths v h
    · next h => simpa using hnone v (Nat.not_lt.1 h) hv
  rw [if_neg (by simp [hok])]
  rfl

theorem creditInitReceipt_takes {depths : List Nat} {pool m : Nat} {c : Option (List Nat)} (ha : isDieAdp a = true)
    (hc : (c.map (fun l => (l, m))).getD (ownCredits (farAdp a)) = (depths, pool)) (hst : (s.blk.link a).st = .creditInit)
    (hgot : (s.blk.link a).ciGot = false) (hdepths : ∀ v, v < linkVcs a → vcDepth a v ≤ depths.getD v 0 ∧ depths.getD v 0 ≤ 15)
    (hnone : ∀ v, linkVcs a ≤ v → v < 21 → depths.getD v 0 = 0) (hpool : pool ≤ 1024) : Completes (.creditInitReceipt a c m) s (fun b' =>
      (b'.link a).st = (if (s.blk.link a).ciEcho then s.blk.afterCredits a else .creditInit) ∧
      (b'.link a).pool = pool ∧ (b'.link a).used = [] ∧ (∀ v, v < linkVcs a → (b'.link a).depths.get 0 v = depths.getD v 0)) := by
  obtain ⟨hadp, -, hpass⟩ := isAdp_of_isDieAdp ha
  refine completes_of_on (f := fun b => b.creditInitIn a depths pool) (by simp [Instr.WellFormed, hadp, hpass]) ?_ ?_
  · cases c <;> cases hc <;> rfl
  · have hlink : (s.blk.modLink a (fun l => l.credited a depths pool)).link a = (s.blk.link a).credited a depths pool := Block.modLink_link ..
    obtain ⟨hst', hpool', hused, hdepths'⟩ := Block.creditNext_credits (b := s.blk.modLink a (fun l => l.credited a depths pool)) hpass
      (by rw [hlink]; exact hst) (by rw [hlink]; rfl)
    rw [hlink] at hst' hpool' hused hdepths'
    rw [Block.creditInitIn_takes hpass hst hgot hdepths hnone hpool]
    exact ⟨hst', hpool', hused, fun v hv => by rw [hdepths']; exact SMap.get_map_of_mem (List.mem_range.2 hv)⟩

end

/-! ### READY (08 R244, R248) -/

section
variable {b : Block} {s : State} {a : Nat}

/-- At CREDIT_INIT, with the far credits taken, READY is the echo of the own ones. -/
theorem Block.readyTake_creditInit (hrun : b.linkStopped a = false) (hst : (b.link a).st = .creditInit) :
    b.readyTake a = (b.modLink a (fun l => { l with ciEcho := true })).creditNext a := by
  simp [readyTake, readyIn, hst, hrun, echoIn]

theorem readyReceipt_echoes (ha : isDieAdp a = true) (hst : (s.blk.link a).st = .creditInit) (hrun : s.blk.linkStopped a = false)
    (hgot : (s.blk.link a).ciGot = true) : Completes (.readyReceipt a) s (fun b' =>
      (b'.link a).st = s.blk.afterCredits a ∧ (b'.link a).pool = (s.blk.link a).pool ∧
      (s.blk.aligns a = false → (b'.link a).next = 0 ∧ (b'.link a).expect = 0 ∧ (b'.link a).replay = [] ∧ (b'.link a).ackNo = 0xFFF)) := by
  obtain ⟨hadp, -, hpass⟩ := isAdp_of_isDieAdp ha
  refine completes_of_on (f := fun b => b.readyTake a) hadp rfl ?_
  have hlink : (s.blk.modLink a (fun l => { l with ciEcho := true })).link a = { s.blk.link a with ciEcho := true } := Block.modLink_link ..
  rw [Block.readyTake_creditInit hrun hst,
    Block.creditNext_of_echoed hpass (by rw [hlink]; exact hst) (by rw [hlink]; exact hgot) (by rw [hlink]), hlink]
  refine ⟨rfl, Link.enter_credits.1, fun haligns => ?_⟩
  have hready : (s.blk.modLink a (fun l => { l with ciEcho := true })).afterCredits a = .ready :=
    if_neg (by simp [Block.modLink_aligns, haligns])
  rw [hready]
  exact ⟨rfl, rfl, rfl, rfl⟩

/-- READY received in READY: the link is ACTIVE, and the stewards may admit it to the routes. -/
theorem readyReceipt_activates (ha : isDieAdp a = true) (hst : (s.blk.link a).st = .ready) (hrun : s.blk.linkStopped a = false) :
    Completes (.readyReceipt a) s (fun b' =>
      b'.link a = { s.blk.link a with st := .active, since := s.blk.now, attempts := 0 }) := by
  obtain ⟨hadp, -, hpass⟩ := isAdp_of_isDieAdp ha
  refine completes_of_on (f := fun b => b.readyTake a) hadp rfl ?_
  have hactive : s.blk.readyIn a = (s.blk.modLink a (fun l => { l with attempts := 0 })).linkStep a .active := by
    simp [Block.readyIn, hst, hrun]
  have hw : Within [.elems, .stws, .gold, .lead] (s.blk.readyIn a) ((s.blk.readyIn a).admitLink a) := by simp
  rw [Block.readyTake, if_pos (by simp [hst]), hw.link (by decide), hactive, Block.linkStep_eq hpass (by decide), Block.modLink_link,
    Block.modLink_link]
  rfl

/-- A repair of the suspect lanes replays and sends nothing. -/
theorem Block.moveSuspects_replay : ((b.moveSuspects a).link a).replay = (b.link a).replay := by
  unfold moveSuspects
  refine foldl_keeps (fun b => (b.link a).replay) fun x lane => ?_
  have hmoved := (moveLane_keeps (b := x.modLink a (fun l => { l with suspects := l.suspects.filter (· != lane) })) (a := a)
    (lane := lane) (i := a) Link.replay (by exact fun _ _ _ => rfl)).trans (by rw [modLink_link])
  dsimp only
  split
  · exact hmoved
  · rw [(event_reads ..).2.2.1]
    exact hmoved

/-- A replay starts with the oldest frame that is not acknowledged, and is counted. -/
theorem Block.replayLink_link (ha : isDieAdp a = true) (hne : (b.link a).replay ≠ []) : ∃ t, (b.replayLink a).link a = { b.link a with
    resend := (b.link a).replay.length, replays := (b.link a).replays + 1, ackFrom := b.now, lastReplayEv := t } := by
  unfold replayLink
  extract_lets l b1 soon
  rw [if_neg (by simpa [l] using hne)]
  split
  · exact ⟨(b.link a).lastReplayEv, by simp [b1, l]⟩
  · refine ⟨some b1.now, ?_⟩
    rw [sides_of_isDieAdp ha, List.foldl_cons, List.foldl_cons, List.foldl_nil, modLink_link_ne (h := (farAdp_ne ha).symm), modLink_link]
    simp [b1, l]

/-- A replay that is the first of its link is reported. -/
theorem Block.replayLink_raised (ha : isDieAdp a = true) (hne : (b.link a).replay ≠ []) (hev : (b.link a).lastReplayEv = none) :
    Raised b (b.replayLink a) a 0x20 0 := by
  unfold replayLink
  extract_lets l b1 soon
  rw [if_neg (by simpa [l] using hne), if_neg (by simp [soon, l, hev]), sides_of_isDieAdp ha]
  exact ((event_raised_from (by simp [kindSev]) (by simp [b1])).modLink).modLink

/-- READY received in RETRAIN ends it, after what repair the suspect lanes still need. -/
theorem Block.readyIn_retrain (hrun : b.linkStopped a = false) (hst : (b.link a).st = .retrain) : ∃ c : Block,
    (c.link a).replay = (b.link a).replay ∧ b.readyIn a = (c.modLink a (fun l => { l with
      st := .active, since := c.now, nakOut := false, nakDue := false, retrained := false })).replayLink a := by
  refine ⟨if (b.link a).retrained || isPass a then b else b.moveSuspects a, ?_, by simp [readyIn, hst, hrun]⟩
  split
  · rfl
  · exact moveSuspects_replay

/-- READY received in RETRAIN: the link is ACTIVE, and replays what is not acknowledged. -/
theorem readyReceipt_replays (ha : isDieAdp a = true) (hst : (s.blk.link a).st = .retrain) (hrun : s.blk.linkStopped a = false)
    (hne : (s.blk.link a).replay ≠ []) : Completes (.readyReceipt a) s (fun b' => (b'.link a).st = .active ∧
      (b'.link a).replay = (s.blk.link a).replay ∧ (b'.link a).resend = (s.blk.link a).replay.length) := by
  obtain ⟨hadp, -, -⟩ := isAdp_of_isDieAdp ha
  refine completes_of_on (f := fun b => b.readyTake a) hadp rfl ?_
  obtain ⟨c, hreplay, hready⟩ := Block.readyIn_retrain hrun hst
  rw [Block.readyTake, if_neg (by simp [hst]), hready]
  obtain ⟨t, ht⟩ := Block.replayLink_link (b := c.modLink a (fun l => { l with
    st := .active, since := c.now, nakOut := false, nakDue := false, retrained := false })) ha (by rw [Block.modLink_link, hreplay]; exact hne)
  rw [ht, Block.modLink_link, hreplay]
  exact ⟨rfl, rfl, rfl⟩

end

/-! ### The limit of a step (08 R248), and the commands of the training -/

section
variable {s : State} {a : Nat}

/-- PHY_TRAIN has overrun its limit: the stage has failed. -/
theorem trainingLimit_completes {P : Block → Prop} (ha : isDieAdp a = true) (hst : (s.blk.link a).st = .phyTrain)
    (hP : ∀ t, P ((s.blk.elapseTo t).stageFail a)) : Completes (.trainingLimit a) s P := by
  obtain ⟨hadp, -, hpass⟩ := isAdp_of_isDieAdp ha
  refine completes_of_on hadp (show execTrainingLimit a s = s.on (.trainingLimit a) _ from rfl) ?_
  simpa [hpass, hst, stepLimit] using hP _

theorem trainingLimit_restarts (ha : isDieAdp a = true) (hst : (s.blk.link a).st = .phyTrain) (hown : (s.blk.link a).attempts < 2)
    (hfar : (s.blk.link (farAdp a)).attempts < 2) : Completes (.trainingLimit a) s (fun b' =>
      (b'.link a).st = .phyTrain ∧ (b'.link (farAdp a)).st = .phyTrain ∧
      (b'.link a).attempts = max (s.blk.link a).attempts (s.blk.link (farAdp a)).attempts + 1 ∧ b'.wsh = s.blk.wsh) := by
  refine trainingLimit_completes ha hst fun t => ?_
  have hw : Within [.now, .elems, .gates, .tbs] s.blk (s.blk.elapseTo t) := by simp
  have hlink : ∀ i, (s.blk.elapseTo t).link i = s.blk.link i := fun i => hw.link (by decide)
  obtain ⟨hphy, hphyFar, hattempts, hwsh⟩ := Block.stageFail_restarts (b := s.blk.elapseTo t) ha (by rwa [hlink]) (by rwa [hlink])
  exact ⟨hphy, hphyFar, by rw [hattempts, hlink, hlink], by rw [hwsh, hw .wsh (by decide)]⟩

theorem trainingLimit_gives_up (ha : isDieAdp a = true) (hridge : s.blk.ridgelessAt a = false) (hst : (s.blk.link a).st = .phyTrain)
    (hown : (s.blk.link a).attempts = 2) (hscope : (s.blk.scope (linkScope a 7).1 (linkScope a 7).2).st < 3) :
    Completes (.trainingLimit a) s (fun b' => (b'.link a).st = .down ∧
      Raised s.blk b' a 0x23 (if s.blk.escalates (linkScope a 7).1 (linkScope a 7).2 then 3 else 2)) := by
  refine trainingLimit_completes ha hst fun t => ?_
  have hw : Within [.now, .elems, .gates, .tbs] s.blk (s.blk.elapseTo t) := by simp
  obtain ⟨hdown, hraised⟩ := Block.stageFail_gives_up (b := s.blk.elapseTo t) ha (by rw [hw.link (by decide), hown])
    (by rw [hw.ridgelessAt (by decide), hridge]) (by rw [hw.scope (by decide)]; exact hscope)
  rw [Block.elapseTo_escalates] at hraised
  exact ⟨hdown, hraised.of_wsh (hw .wsh (by decide)).symm rfl⟩

/-- A PARAM of the far side, or that of a die of another maker. -/
theorem paramReceipt_completes {P : Block → Prop} {p : Param} {o : Option Param} (ha : isDieAdp a = true)
    (ho : o.getD (s.blk.ownParam (farAdp a)) = p) (hP : P (s.blk.paramIn a p)) : Completes (.paramReceipt a o) s P := by
  obtain ⟨hadp, -, hpass⟩ := isAdp_of_isDieAdp ha
  refine completes_of_on (f := fun b => b.paramIn a (o.getD (b.ownParam (farAdp a)))) (by simp [Instr.WellFormed, hadp, hpass]) rfl ?_
  rwa [ho]

end

/-- Settles O24: each step of the training does what its own lemma says, in the order of the steps. -/
theorem linkTraining : Obligations.LinkTraining := by
  intro s a pool m p o depths c ha hridge
  refine ⟨phyTrainDone_to_param ha hridge, fun lane i hst hi hphys hlane => ⟨fun sp l hidle => ?_, fun hidle hown hfar => ?_⟩,
    fun ho hst hearly => ⟨fun hok hrx => ?_, fun hok => ?_⟩, creditInitReceipt_takes ha, readyReceipt_echoes ha, readyReceipt_activates ha,
    readyReceipt_replays ha, trainingLimit_restarts ha, trainingLimit_gives_up ha hridge⟩
  · exact phyTrainDone_completes ha hlane (Block.trained_moves ha hridge hst ⟨i, hi, hphys⟩ hidle)
  · exact phyTrainDone_completes ha hlane (Block.trained_restarts ha hridge hst ⟨i, hi, hphys⟩ hidle hown hfar)
  · obtain ⟨hlink, hwsh⟩ := Block.paramIn_accepts ha hridge hst hearly hok hrx
    refine paramReceipt_completes ha ho ⟨by rw [hlink], by rw [hlink], hwsh, fun hcol hident => ?_⟩
    rw [hlink]
    simp [hcol, hident]
  · exact paramReceipt_completes ha ho (Block.paramIn_refuses ha hridge hst hearly hok)

end Sys2Proof.Machine
end

section
/-! PROOFS. Frames of a die link (spec/08 R241 to R243), replay and RETRAIN (08 R243, R244). -/

namespace Sys2Proof.Machine

open Block (Within)

/-! ### The buffers of an element -/

section
variable {b b' : Block} {e i : Nat}

theorem Block.Within.elem {ps : List Part} (h : Within ps b b') (hs : .elems ∉ ps) : b'.elem e = b.elem e := by
  rw [Block.elem, h .elems hs, Block.elem]

theorem Block.Within.linkStopped {ps : List Part} {a : Nat} (h : Within ps b b') (hf : .fatal ∉ ps) (hs : .scopes ∉ ps) :
    b'.linkStopped a = b.linkStopped a := by
  simp only [Block.linkStopped, Block.scFenced, h.scope hs]
  rw [h .fatal hf]

theorem Block.Within.ingressOk {ps : List Part} {a : Nat} {x : BitVec 128} (h : Within ps b b') (hp : .pkgid ∉ ps) (hl : .lead ∉ ps) :
    b'.ingressOk a x = b.ingressOk a x := by
  simp only [Block.ingressOk, Block.lenLegal, Block.epProfile, Block.facts]
  rw [h .pkgid hp, h .lead hl]

/-- A change of elements that leaves their buffers. -/
theorem Block.modElem_ins {f : Elem → Elem} (h : ∀ el, (f el).ins = el.ins) : ((b.modElem i f).elem e).ins = (b.elem e).ins := by
  by_cases he : e = i
  · rw [he, modElem_elem, h]
  · rw [modElem_elem_ne (h := he)]

@[simp] theorem Block.bump_ins {c n : Nat} : ((b.bump i c n).elem e).ins = (b.elem e).ins :=
  modElem_ins fun _ => Elem.bump_ins

@[simp] theorem Block.bumpKind_ins {k : Nat} : ((b.bumpKind i k).elem e).ins = (b.elem e).ins := by
  unfold bumpKind
  split
  · exact bump_ins
  · rfl

@[simp] theorem Block.event_ins {k : Nat} {pk : Option (BitVec 128)} {det : BitVec 32} :
    ((b.event i k pk det).elem e).ins = (b.elem e).ins :=
  bumpKind_ins

@[simp] theorem Block.suppress_ins {k : Nat} : ((b.suppress i k).elem e).ins = (b.elem e).ins :=
  bumpKind_ins

@[simp] theorem Block.corrected_ins {p vc : Nat} {h : Option (BitVec 128)} : ((b.corrected i p vc h).elem e).ins = (b.elem e).ins := by
  have hnoted : ∀ m : Elem → SMap Nat, (((b.event i 0x01 h (detPk p vc h)).modElem i (fun el => { el with lastCorr := m el })).elem e).ins =
      (b.elem e).ins := fun m => by rw [modElem_ins (by exact fun _ => rfl), event_ins]
  unfold corrected
  cases (b.elem i).lastCorr.find p with
  | none => exact hnoted _
  | some t =>
    dsimp only
    split
    · exact suppress_ins
    · exact hnoted _

end

/-! ### A frame that arrives (08 R241) -/

section
variable {b : Block} {s : State} {a : Nat} {fr : Frame} {rest : List Frame} {err : BitVec 10280}

/-- The oldest frame on its way to a die link is taken. -/
theorem frameReceive_completes {P : Block → Prop} (ha : isDieAdp a = true) (hclk : s.blk.hclkOff a = false)
    (hinbox : (s.blk.link a).inbox = fr :: rest)
    (hP : P ((s.blk.modLink a (fun l => { l with inbox := rest })).frameTake a fr err 0 0)) :
    Completes (.frameReceive a err 0 none 0) s P := by
  obtain ⟨hadp, -, hpass⟩ := isAdp_of_isDieAdp ha
  refine completes_of_on (by simp [Instr.WellFormed, hadp, hpass])
    (show execFrameReceive a err 0 none 0 s = s.on (.frameReceive a err 0 none 0) _ from rfl) ?_
  dsimp only
  rw [if_neg (by simp [hclk]), if_neg (by simp [hpass]), hinbox]
  exact hP

/-- An ACTIVE link of scopes that are in service takes frames. -/
theorem Block.takesFrames_active (hst : (b.link a).st = .active) (hrun : b.linkStopped a = false) (hopen : b.elemFenced a = false) :
    b.takesFrames a = true := by
  simp [takesFrames, hst, hrun, hopen]

/-- A frame of traffic without a PM request is legal where its slots are. -/
theorem frameIllegal_of_slots (hpm : fr.pm = 0) (hty : fr.ty = .data ∨ fr.ty = .idle ∨ fr.ty = .nak)
    (hslots : ∀ s ∈ fr.slots, s.1 < 15 ∧ s.2.1 < linkVcs a ∧ s.2.1 / perOf a = hCls s.2.2.hdr) : frameIllegal a fr = false := by
  have hcode : fr.ty.code < 8 := by obtain h | h | h := hty <;> rw [h] <;> decide
  have hslots' : fr.slots.any (fun s => linkVcs a ≤ s.2.1 || s.2.1 / perOf a != hCls s.2.2.hdr || 15 ≤ s.1) = false :=
    List.any_eq_false.2 fun s hs => by
      obtain ⟨hi, hvc, hcls⟩ := hslots s hs
      simp [hi, hvc, hcls]
  unfold frameIllegal
  rw [hslots', hpm]
  split <;> simp <;> omega

/-- A good frame of traffic without bit errors is used by an ACTIVE link. -/
theorem Block.frameIn_good (hpass : isPass a = false) (hst : (b.link a).st = .active) (htakes : b.takesFrames a = true)
    (hlegal : frameIllegal a fr = false) (hty : fr.ty = .data ∨ fr.ty = .idle ∨ fr.ty = .nak) :
    b.frameIn a fr 0 0 0 = ((b.bump a 7 0).goodFrame a fr, some fr) := by
  have hseen : seenFrame a fr 0 0 0 = ⟨fr, true, true, [], []⟩ := by simp [seenFrame, hpass, Frame.seen]
  have hcount : b.countFixed a ⟨fr, true, true, [], []⟩ = b.bump a 7 0 := by simp [countFixed]
  unfold frameIn
  rw [htakes, hseen, hst]
  dsimp only
  rw [hcount, hlegal]
  obtain h | h | h := hty <;> rw [h] <;> rfl

/-- What a frame of traffic does beyond that, it does at CREDIT_INIT alone. -/
theorem Block.frameEffect_traffic (hst : (b.link a).st = .active) (hty : fr.ty = .data ∨ fr.ty = .idle ∨ fr.ty = .nak) :
    b.frameEffect a fr = b := by
  unfold frameEffect
  obtain h | h | h := hty <;> rw [h]
  exact if_neg (by simp [hst])

/-- A good frame of traffic, taken by an ACTIVE link that stays so. -/
theorem Block.frameTake_good (hpass : isPass a = false) (hst : (b.link a).st = .active) (htakes : b.takesFrames a = true)
    (hlegal : frameIllegal a fr = false) (hty : fr.ty = .data ∨ fr.ty = .idle ∨ fr.ty = .nak)
    (hactive : (((b.bump a 7 0).goodFrame a fr).link a).st = .active) : b.frameTake a fr 0 0 0 = (b.bump a 7 0).goodFrame a fr := by
  rw [frameTake, frameIn_good hpass hst htakes hlegal hty]
  exact frameEffect_traffic hactive hty

end

/-! ### What a good frame does (08 R242, R243) -/

section
variable {b : Block} {a : Nat} {fr : Frame}

/-- Without a PM request nothing is answered. -/
theorem Block.pmLink_zero : b.pmLink a 0 = b := by
  simp [pmLink]

/-- An ACK that names no frame held frees none. -/
theorem Block.ackLink_of_none {n : Nat} (h : ∀ f ∈ (b.link a).replay, f.seq ≠ n) : b.ackLink a n = b := by
  have hnone : (b.link a).replay.findIdx? (fun f => f.seq == n) = none :=
    List.findIdx?_eq_none_iff.2 fun f hf => by simpa using h f hf
  rw [ackLink, hnone]

/-- An ACK frees the frames up to the one that it names, and the count of replays starts anew. -/
theorem Block.ackLink_of_some {n i : Nat} (h : (b.link a).replay.findIdx? (fun f => f.seq == n) = some i) :
    ((b.ackLink a n).link a).replay = (b.link a).replay.drop (i + 1) ∧ ((b.ackLink a n).link a).replays = 0 := by
  rw [ackLink, h]
  simp

/-- An ACK changes the replay of its own side alone. -/
theorem Block.ackLink_keeps {α : Type} {n j : Nat} (part : Link → α) (h : ∀ (l : Link) frames resend replays from_,
    part { l with replay := frames, resend := resend, replays := replays, ackFrom := from_ } = part l) :
    part ((b.ackLink a n).link j) = part (b.link j) := by
  unfold ackLink
  split
  · rfl
  · exact modLink_keeps part fun l => h l _ _ _ _

theorem Block.ackLink_link_ne {n j : Nat} (hj : j ≠ a) : (b.ackLink a n).link j = b.link j := by
  unfold ackLink
  split
  · rfl
  · exact modLink_link_ne (h := hj) ..

/-- An IDLE frame in order acknowledges. -/
theorem Block.goodFrame_idle (hpm : fr.pm = 0) (hty : fr.ty = .idle) (hseq : fr.seq = (b.link a).expect) :
    b.goodFrame a fr = b.ackLink a fr.ack := by
  simp [goodFrame, hpm, hty, hseq, pmLink_zero]

/-- A NAK in order acknowledges, and starts a replay of the rest. -/
theorem Block.goodFrame_nak (hpm : fr.pm = 0) (hty : fr.ty = .nak) (hseq : fr.seq = (b.link a).expect) :
    b.goodFrame a fr = (b.ackLink a fr.ack).replayLink a := by
  simp [goodFrame, hpm, hty, hseq, pmLink_zero]

/-- A DATA frame that is ahead of the expected one is dropped, and a NAK falls due. -/
theorem Block.goodFrame_ahead (hpm : fr.pm = 0) (hty : fr.ty = .data) (hpos : 0 < (fr.seq + 4096 - (b.link a).expect) % 4096)
    (hahead : (fr.seq + 4096 - (b.link a).expect) % 4096 < 2048) :
    b.goodFrame a fr = ((b.ackLink a fr.ack).bump a 9 1).nakLink a := by
  simp [goodFrame, hpm, hty, pmLink_zero, Nat.pos_iff_ne_zero.1 hpos, hahead]

/-- A side that has accepted the DATA frame that it expected. -/
def Link.accept (l : Link) : Link := { l with expect := (l.expect + 1) % 4096, accepted := true, nakOut := false, nakDue := false }

/-- The block in which a side has accepted a DATA frame that returns no credits. -/
def Block.acceptData (b : Block) (a : Nat) : Block := (b.modLink a Link.accept).modLink a id

theorem Block.acceptData_link : (b.acceptData a).link a = (b.link a).accept := by
  simp [acceptData]

theorem Block.acceptData_link_ne {i : Nat} (h : i ≠ a) : (b.acceptData a).link i = b.link i := by
  rw [acceptData, modLink_link_ne (h := h), modLink_link_ne (h := h)]

@[simp] theorem Block.acceptData_within {ps : List Part} {b0 : Block} (hs : [.links] ⊆ ps) :
    Within ps b0 (b.acceptData a) ↔ Within ps b0 b := by
  simp at hs; simp [acceptData, hs]

/-- A change of a link depends on what it makes of that link alone. -/
theorem Block.modLink_congr {F G : Link → Link} (h : F (b.link a) = G (b.link a)) : b.modLink a F = b.modLink a G := by
  rw [modLink, SMap.mod, modLink, SMap.mod, ← link, h]

/-- The expected DATA frame, without credits, is accepted, and its flits come in one by one. -/
theorem Block.goodFrame_accepts (hpm : fr.pm = 0) (hty : fr.ty = .data) (hseq : fr.seq = (b.link a).expect) (hcred : fr.cred = []) :
    b.goodFrame a fr = fr.slots.foldl (fun b s => b.linkFlit a s.2.1 s.2.2)
      (if fr.slots.isEmpty then (b.ackLink a fr.ack).acceptData a else ((b.ackLink a fr.ack).acceptData a).touch a) := by
  have hexpect : ((b.ackLink a fr.ack).link a).expect = (b.link a).expect := ackLink_keeps Link.expect (by exact fun _ _ _ _ _ => rfl)
  have haccept : (b.ackLink a fr.ack).modLink a Link.accept = (b.ackLink a fr.ack).modLink a (fun l => { l with
      expect := ((b.link a).expect + 1) % 4096, accepted := true, nakOut := false, nakDue := false }) :=
    modLink_congr (by rw [Link.accept, hexpect])
  rw [acceptData, modLink_congr (F := id) (G := fun _ => ((b.ackLink a fr.ack).modLink a Link.accept).link a) rfl, haccept]
  simp [goodFrame, hpm, hty, hseq, hcred, pmLink_zero, Link.credits]

theorem Block.nakLink_link (hout : (b.link a).nakOut = false) :
    (b.nakLink a).link a = { b.link a with nakOut := true, nakDue := true } := by
  simp [nakLink, hout]

end

/-! ### A flit that arrives (08 R245) -/

section
variable {b : Block} {a vc : Nat} {f : Flit}

/-- A flit that finds an empty buffer is the one that the buffer holds. -/
theorem Block.store_of_empty {e p : Nat} (hrouter : isRouter e = false) (hempty : ((b.elem e).vc p vc).q = []) :
    ∃ g, (((b.store e p vc f).elem e).vc p vc).q = [g] ∧ g.hdr = f.hdr ∧ g.pay = f.pay := by
  unfold store
  extract_lets v head late f' v' b1 b2
  have hw : Within [.doms] b1 b2 := by simp [b2]
  rw [if_neg (by simp [hrouter]), hw.elem (by decide), modElem_elem]
  have hq : v.q = [] := hempty
  exact ⟨f', by simp [v', hq, Elem.vc, Elem.setVc], rfl, rfl⟩

/-- A legal head with a credit of its VC, at a side whose buffers are empty, is stored. -/
theorem Block.linkFlit_stores (hpass : isPass a = false) (hins : (b.elem a).ins = []) (hrun : b.linkStopped a = false) (hpool : f.pool = false)
    (hcredit : 0 < (b.advertised a).1.getD vc 0) (hok : b.ingressOk a f.hdr = true) (hdrop : (b.link a).dropEpoch = none) :
    b.linkFlit a vc f = ((b.bump a 1 1).telCount a 6 1).store a 7 vc f := by
  have hvc : (b.elem a).vc 7 vc = {} := by rw [Elem.vc, hins]; rfl
  have hw : Within [.elems] b ((b.bump a 1 1).telCount a 6 1) := by simp
  unfold linkFlit
  extract_lets v head f1 inPool full b1
  have hv : v = {} := hvc
  have hf : f1 = f := by simp [f1, hpass]
  have hfull : full = false := by simpa [full, hf, hpool, hv] using Nat.pos_iff_ne_zero.1 hcredit
  have hstopped : b1.linkStopped a = false := by rw [hw.linkStopped (by decide) (by decide), hrun]
  have hlegal : b1.ingressOk a f1.hdr = true := by rw [hf, hw.ingressOk (by decide) (by decide), hok]
  have hepoch : (b1.link a).dropEpoch = none := by rw [hw.link (by decide), hdrop]
  rw [if_neg (by simp [hstopped]), if_neg (by simp [hfull]), if_neg (by simp [head, hv]), if_neg (by simp [hlegal]),
    if_neg (by simp [hepoch]), hf]

/-- What the far side was told is held at the far side. -/
theorem Block.advertised_congr {b' : Block} (hpass : isPass a = false) (h : b'.link (farAdp a) = b.link (farAdp a)) :
    b'.advertised a = b.advertised a := by
  simp only [advertised, hpass, h]

/-- A flit that is stored changes no link and no collector, and is what its VC then holds. -/
theorem Block.linkFlit_into_empty (hpass : isPass a = false) (hrouter : isRouter a = false) (hins : (b.elem a).ins = [])
    (hrun : b.linkStopped a = false) (hpool : f.pool = false)
    (hcredit : 0 < (b.advertised a).1.getD vc 0) (hok : b.ingressOk a f.hdr = true) (hdrop : (b.link a).dropEpoch = none) :
    Within [.elems, .doms] b (b.linkFlit a vc f) ∧ ∃ g, (((b.linkFlit a vc f).elem a).vc 7 vc).q = [g] ∧ g.hdr = f.hdr ∧ g.pay = f.pay := by
  rw [linkFlit_stores hpass hins hrun hpool hcredit hok hdrop]
  refine ⟨by simp, store_of_empty hrouter ?_⟩
  rw [Elem.vc, telCount, modElem_ins (by exact fun _ => rfl), bump_ins, hins]
  rfl

end

/-! ### A frame that is dropped whole (08 R241, R243) -/

section
variable {b : Block} {a : Nat} {fr : Frame} {err : BitVec 10280} {x : Seen}

/-- What is corrected is counted: the buffers stay, and of the link all but the corrections of its lanes. -/
theorem Block.countFixed_keeps {α : Type} {e : Nat} (part : Link → α) (h : ∀ (l : Link) m, part { l with laneCorr := m } = part l) :
    ((b.countFixed a x).elem e).ins = (b.elem e).ins ∧ part ((b.countFixed a x).link a) = part (b.link a) := by
  unfold countFixed
  extract_lets ls b1 b2
  have hb1 : (b1.elem e).ins = (b.elem e).ins ∧ part (b1.link a) = part (b.link a) := by
    simp only [b1]
    split
    · exact ⟨rfl, rfl⟩
    · exact ⟨rfl, by rw [modLink_link, h]⟩
  have hlinks : ∀ (l : List Nat) (y : Block), Within [.elems, .wsh] y (l.foldl (fun b i =>
      let s := x.frame.slots.find? (fun s => s.1 == i)
      b.corrected a 7 ((s.map (·.2.1)).getD 0) (s.map (·.2.2.hdr))) y) := fun _ _ => by simp
  refine ⟨?_, ?_⟩
  · rw [foldl_keeps (fun b => (b.elem e).ins) fun _ _ => corrected_ins]
    exact bump_ins.trans hb1.1
  · rw [(hlinks _ _).link (by decide), ← hb1.2]
    simp only [b2, bump_reads]

/-- A frame whose header or a slot fails is counted and dropped whole; on an ACTIVE link a NAK falls due. -/
theorem Block.frameTake_bad (hpass : isPass a = false) (hst : (b.link a).st = .active) (htakes : b.takesFrames a = true)
    (hty : fr.ty = .data ∨ fr.ty = .idle) (hbad : (Frame.seen false (isRidge a) fr err).crcOk = false ∨
      (Frame.seen false (isRidge a) fr err).slotsOk = false) : ∃ c : Block,
      Within [.elems] (b.countFixed a (Frame.seen false (isRidge a) fr err)) c ∧
      (c.elem a).ins = ((b.countFixed a (Frame.seen false (isRidge a) fr err)).elem a).ins ∧ b.frameTake a fr err 0 0 = c.nakLink a := by
  have hseen : seenFrame a fr err 0 0 = Frame.seen false (isRidge a) fr err := by simp [seenFrame, hpass]
  have hlane : (fr.ty == .align || fr.ty == .close) = false := by obtain h | h := hty <;> rw [h] <;> rfl
  unfold frameTake frameIn
  rw [htakes, hseen, hst, hlane]
  generalize Frame.seen false (isRidge a) fr err = x at hbad
  extract_lets runs lane y b1 b2 b3
  refine ⟨b3, ?_, ?_, ?_⟩
  · simp [b3, b2, b1, y]
  · simp only [b3, b2]
    split <;> split <;> simp [b1, y]
  · rw [if_neg (show ¬(!true) = true by decide), if_pos (by obtain h | h := hbad <;> simp [y, h])]
    rfl

end

/-! ### FRAME_RECEIVE at an ACTIVE link (08 R241 to R243) -/

/-- A frame stands first in the inbox of an ACTIVE die link whose scopes and clocks are in service, and asks for no PM entry. -/
structure Block.Receives (b : Block) (a : Nat) (fr : Frame) (rest : List Frame) : Prop where
  adp : isDieAdp a = true
  inbox : (b.link a).inbox = fr :: rest
  runs : b.linkStopped a = false
  opened : b.elemFenced a = false
  clk : b.hclkOff a = false
  active : (b.link a).st = .active
  pm : fr.pm = 0

/-- The block once the frame is off the inbox, with nothing of it corrected. -/
def Block.popFrame (b : Block) (a : Nat) (rest : List Frame) : Block := (b.modLink a (fun l => { l with inbox := rest })).bump a 7 0

section
variable {b : Block} {s : State} {a : Nat} {fr : Frame} {rest : List Frame}

theorem Block.popFrame_link : (b.popFrame a rest).link a = { b.link a with inbox := rest } := by
  simp [popFrame]

theorem Block.popFrame_link_ne {i : Nat} (h : i ≠ a) : (b.popFrame a rest).link i = b.link i := by
  simp [popFrame, modLink_link_ne (h := h)]

/-- An ACK that the frame carries leaves the state of the link, the expected SEQ, the NAK that is out and the epoch that is discarded. -/
theorem Block.popFrame_acked {n : Nat} : let l := ((b.popFrame a rest).ackLink a n).link a
    l.st = (b.link a).st ∧ l.expect = (b.link a).expect ∧ l.nakOut = (b.link a).nakOut ∧ l.dropEpoch = (b.link a).dropEpoch := by
  have hkept := ackLink_keeps (b := b.popFrame a rest) (a := a) (n := n) (j := a) (fun l => (l.st, l.expect, l.nakOut, l.dropEpoch))
    (by exact fun _ _ _ _ _ => rfl)
  rw [popFrame_link] at hkept
  simpa using hkept

theorem Block.popFrame_within : Within [.elems, .links] b (b.popFrame a rest) := by
  simp [popFrame]

theorem Block.Receives.takesFrames (h : s.blk.Receives a fr rest) :
    (s.blk.modLink a (fun l => { l with inbox := rest })).takesFrames a = true := by
  exact Block.takesFrames_active (by rw [Block.modLink_link]; exact h.active) h.runs h.opened

/-- A legal frame of traffic without bit errors does what a good frame does. -/
theorem Block.Receives.good {P : Block → Prop} (h : s.blk.Receives a fr rest) (hty : fr.ty = .data ∨ fr.ty = .idle ∨ fr.ty = .nak)
    (hslots : ∀ s ∈ fr.slots, s.1 < 15 ∧ s.2.1 < linkVcs a ∧ s.2.1 / perOf a = hCls s.2.2.hdr)
    (hP : P ((s.blk.popFrame a rest).goodFrame a fr)) (hactive : (((s.blk.popFrame a rest).goodFrame a fr).link a).st = .active) :
    Completes (.frameReceive a 0 0 none 0) s P := by
  refine frameReceive_completes h.adp h.clk h.inbox ?_
  rw [Block.frameTake_good (isAdp_of_isDieAdp h.adp).2.2 (by rw [Block.modLink_link]; exact h.active) h.takesFrames
    (frameIllegal_of_slots h.pm hty hslots) hty hactive]
  exact hP

/-- The expected DATA frame without flits is accepted. -/
theorem Block.Receives.accepts (h : s.blk.Receives a fr rest) (hty : fr.ty = .data) (hslots : fr.slots = []) (hcred : fr.cred = [])
    (hseq : fr.seq = (s.blk.link a).expect) (hnone : (s.blk.link a).replay = []) : Completes (.frameReceive a 0 0 none 0) s (fun b' =>
      b'.link a = { s.blk.link a with
        inbox := rest, expect := ((s.blk.link a).expect + 1) % 4096, accepted := true, nakOut := false, nakDue := false }) := by
  have hx := Block.goodFrame_accepts (b := s.blk.popFrame a rest) h.pm hty (by rw [Block.popFrame_link]; exact hseq) hcred
  rw [hslots, Block.ackLink_of_none (by simp [Block.popFrame_link, hnone])] at hx
  have hlink := Block.acceptData_link (b := s.blk.popFrame a rest) (a := a)
  rw [Block.popFrame_link] at hlink
  refine h.good (.inl hty) (by simp [hslots]) ?_ ?_
  · rw [hx]
    exact hlink
  · rw [hx]
    exact (congrArg Link.st hlink).trans h.active

/-- The flit of the expected DATA frame enters the receive buffer of its VC. -/
theorem Block.Receives.stores {i vc : Nat} {f : Flit} (h : s.blk.Receives a fr rest) (hty : fr.ty = .data) (hslots : fr.slots = [(i, vc, f)])
    (hi : i < 15) (hvc : vc < linkVcs a) (hcls : vc / perOf a = hCls f.hdr) (hcred : fr.cred = []) (hseq : fr.seq = (s.blk.link a).expect)
    (hins : (s.blk.elem a).ins = []) (hpool : f.pool = false) (hcredit : 0 < (s.blk.advertised a).1.getD vc 0)
    (hok : s.blk.ingressOk a f.hdr = true) (hdrop : (s.blk.link a).dropEpoch = none) : Completes (.frameReceive a 0 0 none 0) s (fun b' =>
      (b'.link a).expect = ((s.blk.link a).expect + 1) % 4096 ∧ b'.wsh = s.blk.wsh ∧
      ∃ g, ((b'.elem a).vc 7 vc).q = [g] ∧ g.hdr = f.hdr ∧ g.pay = f.pay) := by
  obtain ⟨-, hrouter, hpass⟩ := isAdp_of_isDieAdp h.adp
  have hx := Block.goodFrame_accepts (b := s.blk.popFrame a rest) h.pm hty (by rw [Block.popFrame_link]; exact hseq) hcred
  have hlink := Block.acceptData_link (b := (s.blk.popFrame a rest).ackLink a fr.ack) (a := a)
  have hw : Within [.links] (s.blk.popFrame a rest) (((s.blk.popFrame a rest).ackLink a fr.ack).acceptData a) := by simp
  have hfar : (((s.blk.popFrame a rest).ackLink a fr.ack).acceptData a).link (farAdp a) = s.blk.link (farAdp a) := by
    rw [Block.acceptData_link_ne (farAdp_ne h.adp), Block.ackLink_link_ne (farAdp_ne h.adp), Block.popFrame_link_ne (farAdp_ne h.adp)]
  obtain ⟨hst, hexpect, -, hepoch⟩ := Block.popFrame_acked (b := s.blk) (a := a) (rest := rest) (n := fr.ack)
  generalize ((s.blk.popFrame a rest).ackLink a fr.ack).acceptData a = c at hx hlink hw hfar
  have htouch : ∀ i, (c.touch a).link i = c.link i := fun _ => (show Within [.doms] c (c.touch a) by simp).link (by decide)
  have hdrop' : ((c.touch a).link a).dropEpoch = none := by
    rw [htouch, hlink]
    exact hepoch.trans hdrop
  have hactive : ((c.touch a).link a).st = .active := by
    rw [htouch, hlink]
    exact hst.trans h.active
  have hnext : ((c.touch a).link a).expect = ((s.blk.link a).expect + 1) % 4096 := by
    rw [htouch, hlink, ← hexpect]
    rfl
  have hwithin : Within [.elems, .links, .doms] s.blk (c.touch a) :=
    (Block.touch_within (by simp)).2 ((hw.iff (by simp)).2 ((Block.popFrame_within.iff (by simp)).2 (.refl _)))
  have hins' : ((c.touch a).elem a).ins = [] := by
    rw [(show Within [.doms] c (c.touch a) by simp).elem (by decide), hw.elem (by decide), Block.popFrame, Block.bump_ins]
    exact hins
  obtain ⟨hstored, hflit⟩ := Block.linkFlit_into_empty (b := c.touch a) (vc := vc) (f := f) hpass hrouter hins'
    (by rw [hwithin.linkStopped (by decide) (by decide)]; exact h.runs) hpool (by rwa [Block.advertised_congr hpass ((htouch _).trans hfar)])
    (by rw [hwithin.ingressOk (by decide) (by decide)]; exact hok) hdrop'
  rw [hslots] at hx
  refine h.good (.inl hty) (by simpa [hslots] using ⟨hi, hvc, hcls⟩) ?_ ?_
  · rw [hx]
    exact ⟨(congrArg Link.expect (hstored.link (by decide))).trans hnext, (hstored .wsh (by decide)).trans (hwithin .wsh (by decide)), hflit⟩
  · rw [hx]
    exact (congrArg Link.st (hstored.link (by decide))).trans hactive

/-- A DATA frame ahead of the expected one is dropped, and a NAK falls due. -/
theorem Block.Receives.drops_ahead (h : s.blk.Receives a fr rest) (hty : fr.ty = .data) (hslots : fr.slots = [])
    (hpos : 0 < (fr.seq + 4096 - (s.blk.link a).expect) % 4096) (hahead : (fr.seq + 4096 - (s.blk.link a).expect) % 4096 < 2048)
    (hout : (s.blk.link a).nakOut = false) : Completes (.frameReceive a 0 0 none 0) s (fun b' =>
      (b'.link a).nakDue = true ∧ (b'.link a).nakOut = true ∧ (b'.link a).expect = (s.blk.link a).expect) := by
  have hpop : ((s.blk.popFrame a rest).link a).expect = (s.blk.link a).expect := by rw [Block.popFrame_link]
  have hlink : ((((s.blk.popFrame a rest).ackLink a fr.ack).bump a 9 1).link a) = ((s.blk.popFrame a rest).ackLink a fr.ack).link a := by simp
  obtain ⟨hst, hexpect, hnak', -⟩ := Block.popFrame_acked (b := s.blk) (a := a) (rest := rest) (n := fr.ack)
  have hx := Block.goodFrame_ahead (b := s.blk.popFrame a rest) (a := a) h.pm hty (by rwa [hpop]) (by rwa [hpop])
  have hnak := Block.nakLink_link (b := ((s.blk.popFrame a rest).ackLink a fr.ack).bump a 9 1) (a := a) (by rw [hlink, hnak', hout])
  rw [hlink] at hnak
  refine h.good (.inl hty) (by simp [hslots]) ?_ (by rw [hx, hnak]; exact hst.trans h.active)
  rw [hx, hnak]
  exact ⟨rfl, rfl, hexpect⟩

/-- An IDLE frame acknowledges the frames up to the one that it names. -/
theorem Block.Receives.acknowledges {i : Nat} (h : s.blk.Receives a fr rest) (hty : fr.ty = .idle) (hslots : fr.slots = [])
    (hseq : fr.seq = (s.blk.link a).expect) (hfind : (s.blk.link a).replay.findIdx? (fun f => f.seq == fr.ack) = some i) :
    Completes (.frameReceive a 0 0 none 0) s (fun b' =>
      (b'.link a).replay = (s.blk.link a).replay.drop (i + 1) ∧ (b'.link a).replays = 0) := by
  have hx := Block.goodFrame_idle (b := s.blk.popFrame a rest) (a := a) h.pm hty (by rw [Block.popFrame_link]; exact hseq)
  have hacked := Block.ackLink_of_some (b := s.blk.popFrame a rest) (a := a) (n := fr.ack) (i := i) (by rw [Block.popFrame_link]; exact hfind)
  have hst : (((s.blk.popFrame a rest).ackLink a fr.ack).link a).st = .active := Block.popFrame_acked.1.trans h.active
  refine h.good (.inr (.inl hty)) (by simp [hslots]) ?_ (by rw [hx]; exact hst)
  rw [hx, hacked.1, hacked.2, Block.popFrame_link]
  exact ⟨rfl, rfl⟩

/-- A NAK that acknowledges nothing has all frames held sent again. -/
theorem Block.Receives.replays (h : s.blk.Receives a fr rest) (hty : fr.ty = .nak) (hslots : fr.slots = [])
    (hseq : fr.seq = (s.blk.link a).expect) (hne : (s.blk.link a).replay ≠ []) (hnone : ∀ f ∈ (s.blk.link a).replay, f.seq ≠ fr.ack) :
    Completes (.frameReceive a 0 0 none 0) s (fun b' => (b'.link a).resend = (s.blk.link a).replay.length ∧
      (b'.link a).replays = (s.blk.link a).replays + 1) := by
  have hx := Block.goodFrame_nak (b := s.blk.popFrame a rest) (a := a) h.pm hty (by rw [Block.popFrame_link]; exact hseq)
  rw [Block.ackLink_of_none (by rw [Block.popFrame_link]; exact hnone)] at hx
  obtain ⟨t, ht⟩ := Block.replayLink_link (b := s.blk.popFrame a rest) h.adp (by rw [Block.popFrame_link]; exact hne)
  rw [Block.popFrame_link] at ht
  refine h.good (.inr (.inr hty)) (by simp [hslots]) ?_ (by rw [hx, ht]; exact h.active)
  rw [hx, ht]
  exact ⟨rfl, rfl⟩

/-- A frame whose header or a slot fails is dropped whole, and a NAK falls due. -/
theorem Block.Receives.drops_bad {err : BitVec 10280} (h : s.blk.Receives a fr rest) (hout : (s.blk.link a).nakOut = false)
    (hty : fr.ty = .data ∨ fr.ty = .idle) (hbad : (Frame.seen false (isRidge a) fr err).crcOk = false ∨
      (Frame.seen false (isRidge a) fr err).slotsOk = false) : Completes (.frameReceive a err 0 none 0) s (fun b' =>
      (b'.link a).inbox = rest ∧ (b'.elem a).ins = (s.blk.elem a).ins ∧ (b'.link a).nakDue = true ∧
        (b'.link a).expect = (s.blk.link a).expect ∧ (b'.link a).replay = (s.blk.link a).replay) := by
  refine frameReceive_completes h.adp h.clk h.inbox ?_
  obtain ⟨c, hw, hins, hx⟩ := Block.frameTake_bad (isAdp_of_isDieAdp h.adp).2.2 (by rw [Block.modLink_link]; exact h.active) h.takesFrames hty hbad
  rw [hx]
  obtain ⟨hins', hkept⟩ := Block.countFixed_keeps (b := s.blk.modLink a (fun l => { l with inbox := rest })) (a := a)
    (x := Frame.seen false (isRidge a) fr err) (e := a) (fun l => (l.inbox, l.nakOut, l.expect, l.replay)) (by exact fun _ _ => rfl)
  rw [← hw.link (by decide), Block.modLink_link] at hkept
  simp only [Prod.mk.injEq] at hkept
  obtain ⟨hinbox, hnak, hexpect, hreplay⟩ := hkept
  rw [Block.nakLink_link (hnak.trans hout)]
  have hbuffers : ((c.nakLink a).elem a).ins = (s.blk.elem a).ins := by
    rw [(show Within [.links] c (c.nakLink a) by simp).elem (by decide), hins, hins']
    rfl
  exact ⟨hinbox, hbuffers, rfl, hexpect, hreplay⟩

end

/-! ### Replay and RETRAIN (08 R243, R244) -/

section
variable {s : State} {a : Nat}

theorem replayTimer_replays (ha : isDieAdp a = true) (hrun : s.blk.linkStopped a = false) (hne : (s.blk.link a).replay ≠ [])
    (hst : (s.blk.link a).st = .active) (hev : (s.blk.link a).lastReplayEv = none) (href : s.blk.refclk = true) :
    Completes (.replayTimer a) s (fun b' => (b'.link a).resend = (s.blk.link a).replay.length ∧
      (b'.link a).replays = (s.blk.link a).replays + 1 ∧ b'.now = max s.blk.now ((s.blk.link a).ackFrom + 1600) ∧ Raised s.blk b' a 0x20 0) := by
  obtain ⟨hadp, -, hpass⟩ := isAdp_of_isDieAdp ha
  refine completes_of_on hadp (show execReplayTimer a s = s.on (.replayTimer a) _ from rfl) ?_
  dsimp only
  rw [if_neg (by simp [hne, Link.runs, hst, hrun]), if_neg (by simp [hpass])]
  generalize hc : s.blk.elapseTo ((s.blk.link a).ackFrom + 1600) = c
  have hw : Within [.now, .elems, .gates, .tbs] s.blk c := by simp [← hc]
  have hlink : c.link a = s.blk.link a := hw.link (by decide)
  obtain ⟨t, ht⟩ := Block.replayLink_link (b := c) ha (by rwa [hlink])
  have hreplay : Within [.elems, .links, .wsh] c (c.replayLink a) := by simp
  have hraised := Block.replayLink_raised (b := c) ha (by rwa [hlink]) (by rwa [hlink])
  refine ⟨by rw [ht, hlink], by rw [ht, hlink], ?_, hraised.of_wsh (hw .wsh (by decide)).symm rfl⟩
  rw [hreplay .now (by decide), ← hc, Block.elapseTo_now _ _ href]

/-- After 16 replays in a row both sides are in RETRAIN, which is reported; a second time within 1 s the link fails. -/
theorem Block.retrain_enters {b : Block} (ha : isDieAdp a = true) (hrun : b.linkStopped a = false) (hmany : 16 ≤ (b.link a).replays)
    (hst : (b.link a).st = .active) : ∃ c : Block, Within [.elems, .links, .wsh] b c ∧ (c.link a).st = .retrain ∧
      (c.link (farAdp a)).st = .retrain ∧ Raised b c a 0x21 0 ∧ ((b.link a).lastRetrain = none → b.retrain a = c) ∧
      ∀ t, (b.link a).lastRetrain = some t → b.now < t + second → b.retrain a = c.linkFault a 7 0x22 none (detLink a 1 255 0) := by
  unfold retrain
  extract_lets l b1 again b2
  have hw : Within [.links] b1 b2 := by simp [b2]
  have hnow : b1.now = b.now := by simp [b1]
  have hwsh : b1.wsh = (b.event a 0x21 none (detLink a 1 255 0)).wsh := by simp only [b1, bump_frame]
  have hraised : Raised b b1 a 0x21 0 := (event_raised_of (by simp [kindSev])).of_wsh rfl hwsh
  rw [if_neg (by simp [l, hmany, hst, hrun])]
  refine ⟨b2, (hw.iff (by simp)).2 (by simp [b1]), ?_, ?_, hraised.of_wsh rfl (hw .wsh (by decide)), fun hnone => ?_, fun t ht hsoon => ?_⟩
  · simp [b2, sides_of_isDieAdp ha, modLink_link_ne (h := (farAdp_ne ha).symm)]
  · simp [b2, sides_of_isDieAdp ha]
  · exact if_neg (by simp [again, l, hnone])
  · exact if_pos (by simp [again, l, ht, hnow, hsoon])

theorem linkRetrain_enters (ha : isDieAdp a = true) (hrun : s.blk.linkStopped a = false) (hmany : 16 ≤ (s.blk.link a).replays)
    (hst : (s.blk.link a).st = .active) (hfirst : (s.blk.link a).lastRetrain = none) : Completes (.linkRetrain a) s (fun b' =>
      (b'.link a).st = .retrain ∧ (b'.link (farAdp a)).st = .retrain ∧ Raised s.blk b' a 0x21 0 ∧ b'.scopes = s.blk.scopes) := by
  obtain ⟨hadp, -, -⟩ := isAdp_of_isDieAdp ha
  refine completes_of_on (f := fun b => b.retrain a) hadp rfl ?_
  obtain ⟨c, hw, hown, hfar, hraised, hc, -⟩ := Block.retrain_enters ha hrun hmany hst
  rw [hc hfirst]
  exact ⟨hown, hfar, hraised, hw .scopes (by decide)⟩

theorem linkRetrain_fails {t : Nat} (ha : isDieAdp a = true) (hrun : s.blk.linkStopped a = false) (hmany : 16 ≤ (s.blk.link a).replays)
    (hst : (s.blk.link a).st = .active) (hlast : (s.blk.link a).lastRetrain = some t) (hsoon : s.blk.now < t + second) :
    Completes (.linkRetrain a) s (fun b' =>
      (b'.link a).st = .retrain ∧ (b'.scope (linkScope a 7).1 (linkScope a 7).2).stopped = true) := by
  obtain ⟨hadp, -, -⟩ := isAdp_of_isDieAdp ha
  refine completes_of_on (f := fun b => b.retrain a) hadp rfl ?_
  obtain ⟨c, -, hown, -, -, -, hc⟩ := Block.retrain_enters ha hrun hmany hst
  rw [hc t hlast hsoon, Block.linkFault_link]
  exact ⟨hown, (Block.linkFault_raised ha (by simp [kindSev]) rfl).2⟩

theorem linkFail_raises (ha : isDieAdp a = true) (hrun : s.blk.linkStopped a = false) (hst : (s.blk.link a).st = .retrain)
    (hwaits : (s.blk.link a).retrained = false) : Completes (.linkFail a) s (fun b' =>
      Raised s.blk b' a 0x22 (if s.blk.escalates (linkScope a 7).1 (linkScope a 7).2 then 3 else 2) ∧
      (b'.scope (linkScope a 7).1 (linkScope a 7).2).stopped = true) := by
  obtain ⟨hadp, -, -⟩ := isAdp_of_isDieAdp ha
  refine completes_of_on hadp (show execLinkFail a s = s.on (.linkFail a) _ from rfl) ?_
  dsimp only
  rw [if_neg (by simp [hst, hwaits, hrun])]
  exact Block.linkFault_raised ha (by simp [kindSev]) (by simp)

end

theorem frameReceive : Claims.FrameReceive := by
  intro s a fr rest ha hinbox hrun hopen hclk hst hpm
  have h : s.blk.Receives a fr rest := ⟨ha, hinbox, hrun, hopen, hclk, hst, hpm⟩
  exact ⟨h.accepts, fun _ _ _ => h.stores, h.drops_ahead, fun _ => h.drops_bad, fun _ => h.acknowledges, h.replays⟩

theorem replayAndRetrain : Claims.ReplayAndRetrain := fun _ _ ha hrun =>
  ⟨replayTimer_replays ha hrun, linkRetrain_enters ha hrun, fun _ => linkRetrain_fails ha hrun, linkFail_raises ha hrun⟩

/-- Settles O23: what a link makes of each frame, and the three commands of replay and RETRAIN. -/
theorem framesReplayAndRetraining : Obligations.FramesReplayAndRetraining := ⟨frameReceive, replayAndRetrain⟩

end Sys2Proof.Machine
end

section
/-! PROOFS. The time exchange of a die link (spec/08 R251 to R253; 07 R213, R214). -/

namespace Sys2Proof.Machine

open Block (Within)

/-! ### What an exchange keeps -/

section
variable {b b' : Block} {a : Nat} {f : TimeX → TimeX} {ps : List Part}

@[simp] theorem Block.modTx_tx : (b.modTx a f).tx a = f (b.tx a) := by
  simp [modTx, tx]

@[simp] theorem Block.modTx_tbs : (b.modTx a f).tbs = b.tbs := rfl
@[simp] theorem Block.modTx_ft {d : Nat} : (b.modTx a f).ft d = b.ft d := rfl

theorem Block.Within.tx (h : Within ps b b') (hs : .timeX ∉ ps) : b'.tx a = b.tx a := by
  rw [Block.tx, h .timeX hs, Block.tx]

theorem Block.Within.tb {d : Nat} (h : Within ps b b') (hs : .tbs ∉ ps) : b'.tb d = b.tb d := by
  rw [Block.tb, h .tbs hs, Block.tb]

/-- The exchange that an adapter's own side started is held at that side. -/
theorem Block.txKey_of_busy (h : (b.tx a).busy = true) : b.txKey a = a := if_pos h

/-- The source side of the time link of a compute die. -/
theorem Block.isTimeSrc_of (h : ∃ d, d < 12 ∧ b.timeSrc d = a) : b.isTimeSrc a = true := by
  simpa [isTimeSrc] using h

/-! ### The frames of an exchange (08 R251, R252) -/

/-! A frame that leaves, and the activity that it shows, are no part of an exchange nor of a time base. -/

@[simp] theorem Block.putTime_tx {e i kind : Nat} {x : TimeX} {rest : List Nat} : (b.putTime e x kind rest).tx i = b.tx i :=
  (show Within [.elems, .links, .ports, .farOut] b (b.putTime e x kind rest) by simp).tx (by decide)

@[simp] theorem Block.putTime_tbs {e kind : Nat} {x : TimeX} {rest : List Nat} : (b.putTime e x kind rest).tbs = b.tbs :=
  (show Within [.elems, .links, .ports, .farOut] b (b.putTime e x kind rest) by simp) .tbs (by decide)

@[simp] theorem Block.touch_tx {e i : Nat} : (b.touch e).tx i = b.tx i :=
  (show Within [.doms] b (b.touch e) by simp).tx (by decide)

@[simp] theorem Block.touch_tbs {e : Nat} : (b.touch e).tbs = b.tbs :=
  (show Within [.doms] b (b.touch e) by simp) .tbs (by decide)

/-- TIME_REQ leaves: the next number, the step of the exchange and T1 are recorded; the tries are counted elsewhere. -/
theorem Block.timeSend_tx : ((b.timeSend a).tx a).busy = true ∧ ((b.timeSend a).tx a).phase = 1 ∧
    ((b.timeSend a).tx a).tries = (b.tx a).tries ∧ ((b.timeSend a).tx a).num = ((b.tx a).num + 1) % 256 ∧
    ((b.timeSend a).tx a).t1 = b.ft (dieOf a) := by
  simp [timeSend]

/-- TIME_REQ arrives: T2 and T3 are recorded, and no time base changes. -/
theorem Block.timeReqIn_records (hbusy : (b.tx a).busy = true) (hphase : (b.tx a).phase = 1) (hruns : b.timeRuns (farAdp a) = true) :
    (b.timeReqIn a).tx a = { b.tx a with phase := 2, t2 := b.ftOf (farAdp a), t3 := b.ftOf (farAdp a) } ∧ (b.timeReqIn a).tbs = b.tbs := by
  unfold timeReqIn
  rw [if_pos (by simp [hbusy, hphase, hruns])]
  simp

/-- TIME_RSP arrives: T4 and theta are recorded; up to the limit of d TIME_RES leaves, above it a try that is not the third is dropped. -/
theorem Block.timeRspIn_judges {y : TimeX} (hy : y = { b.tx a with t4 := b.ftOf a }) (hbusy : (b.tx a).busy = true)
    (hphase : (b.tx a).phase = 2) (hruns : b.timeRuns a = true) :
    (y.dOf ≤ (if isRidge a then 64 else 48) →
      (b.timeRspIn a).tx a = { y with theta := y.thetaOf, phase := 3 } ∧ (b.timeRspIn a).tbs = b.tbs) ∧
    ((if isRidge a then 64 else 48) < y.dOf → y.tries < 3 →
      (b.timeRspIn a).tx a = { y with theta := y.thetaOf, phase := 0 } ∧ (b.timeRspIn a).tbs = b.tbs) := by
  have hgo : ((b.tx a).busy && decide ((b.tx a).phase = 2) && b.timeRuns a) = true := by simp [hbusy, hphase, hruns]
  unfold timeRspIn
  rw [if_pos hgo]
  extract_lets b1 x b2 b3
  have hx : x = y := by simp [x, b1, hy]
  have htx : b2.tx a = { y with theta := y.thetaOf } := by simp [b2, ← hx, x]
  rw [hx]
  refine ⟨fun hd => ?_, fun hd htries => ?_⟩
  · rw [if_neg (Int.not_lt.2 hd)]
    exact ⟨by simp [htx], by rw [putTime_tbs]; rfl⟩
  · rw [if_pos hd, if_neg (Nat.not_le.2 htries)]
    have hw : Within [.elems] b2 b3 := by simp [b3]
    exact ⟨by rw [modTx_tx, hw.tx (by decide), htx], hw .tbs (by decide)⟩

/-- The time base of a follower once it has taken TIME_RES: set in TIME_ALIGN, else due a k and a step at the apply boundary (08 R252). -/
def Tb.follow (t : Tb) (x : TimeX) : Tb :=
  if x.train then { t with frac := 0, k := x.k, kNext := none }.put ((t.ft : Int) - x.theta).toNat
  else { t with kNext := some (x.boundary, x.k), step := if x.theta.natAbs > 1 then -x.theta else 0 }

/-- TIME_RES arrives on a time link: the exchange is over, and the follower's base takes it. -/
theorem Block.timeResIn_follows (hsrc : isRidge a = true → b.isTimeSrc a = true) : ((b.timeResIn a).tx a).busy = false ∧
    (b.timeResIn a).tb (dieOf (farAdp a)) = (b.tb (dieOf (farAdp a))).follow (b.tx a) := by
  unfold timeResIn
  extract_lets x far d measure b1 b2 b3
  have hmeasure : measure = false := by
    simp only [measure, Bool.and_eq_false_iff, Bool.not_eq_false']
    cases hr : isRidge a
    · exact .inl rfl
    · exact .inr (hsrc hr)
  have hb2 : b2 = b1.modTb d (fun t => t.follow x) := by
    simp only [b2, hmeasure, Tb.follow]
    cases x.train <;> rfl
  have hw : Within [.links, .ports, .doms, .wsh] b2 (if (b3.link a).st == .timeAlign
      then (sides a).foldl (fun b y => if (b.link y).st == .timeAlign then b.linkStep y .ready else b) b3 else b3) := by
    simp [b3]
  rw [hw.tx (by decide), hw.tb (by decide), hb2]
  exact ⟨by rw [(show Within [.tbs] b1 (b1.modTb d (fun t => t.follow x)) by simp).tx (by decide), modTx_tx], modTb_tb ..⟩

/-- An exchange that is given up on an ACTIVE link is reported, and the link stays. -/
theorem Block.timeLost_reports (hst : (b.link a).st = .active) : ((b.timeLost a).tx a).busy = false ∧ Raised b (b.timeLost a) a 0x33 0 := by
  unfold timeLost
  extract_lets x b1
  have hlink : (b1.link a).st = .active := by
    rw [(show Within [.elems, .timeX, .wsh] b b1 by simp [b1]).link (by decide), hst]
  rw [if_neg (by simp [hlink])]
  exact ⟨by simp [b1], (event_raised_of (by simp [kindSev])).of_wsh rfl rfl⟩

end

/-! ### The commands -/

section
variable {s : State} {a : Nat}

theorem timeExchangeStart_sends (ha : isDieAdp a = true) (hidle : (s.blk.tx a).busy = false) (hst : (s.blk.link a).st = .timeAlign)
    (hsrc : ∃ d, d < 12 ∧ s.blk.timeSrc d = a) : Completes (.timeExchangeStart a) s (fun b' => (b'.tx a).busy = true ∧ (b'.tx a).phase = 1 ∧
      (b'.tx a).tries = 1 ∧ (b'.tx a).num = ((s.blk.tx a).num + 1) % 256 ∧ (b'.tx a).t1 = s.blk.ft (dieOf a)) := by
  refine completes_of_on ha (show execTimeExchangeStart a s = s.on (.timeExchangeStart a) _ from rfl) ?_
  dsimp only
  rw [if_neg (by simp [hidle, hst]), if_pos (by simp [hst, Block.isTimeSrc_of hsrc])]
  simpa using Block.timeSend_tx (b := s.blk.modTx a (fun x => { x with tries := 1 })) (a := a)

theorem timeReq_records (ha : isDieAdp a = true) (hbusy : (s.blk.tx a).busy = true) (hphase : (s.blk.tx a).phase = 1)
    (hruns : s.blk.timeRuns (farAdp a) = true) : Completes (.timeReq a) s (fun b' =>
      b'.tx a = { s.blk.tx a with phase := 2, t2 := s.blk.ftOf (farAdp a), t3 := s.blk.ftOf (farAdp a) } ∧ b'.tbs = s.blk.tbs) := by
  refine completes_of_on (f := fun b => b.timeReqIn (b.txKey a)) ha rfl ?_
  rw [Block.txKey_of_busy hbusy]
  exact Block.timeReqIn_records hbusy hphase hruns

theorem timeRsp_completes {P : Block → Prop} (ha : isDieAdp a = true) (hbusy : (s.blk.tx a).busy = true) (hP : P (s.blk.timeRspIn a)) :
    Completes (.timeRsp a) s P :=
  completes_of_on (f := fun b => b.timeRspIn (b.txKey a)) ha rfl (by rwa [Block.txKey_of_busy hbusy])

theorem timeRes_completes {P : Block → Prop} (ha : isDieAdp a = true) (hbusy : (s.blk.tx a).busy = true) (hphase : (s.blk.tx a).phase = 3)
    (hruns : s.blk.timeRuns (farAdp a) = true) (hP : P (s.blk.timeResIn a)) : Completes (.timeRes a) s P := by
  refine completes_of_on ha (show execTimeRes a s = s.on (.timeRes a) _ from rfl) ?_
  dsimp only
  rwa [Block.txKey_of_busy hbusy, if_pos (by simp [hbusy, hphase, hruns])]

/-- A try that is not answered in time and is not the third is made again. -/
theorem timeExchangeRetry_sends (ha : isDieAdp a = true) (hbusy : (s.blk.tx a).busy = true) (htries : (s.blk.tx a).tries < 3)
    (hruns : s.blk.timeRuns a = true) : Completes (.timeExchangeRetry a) s (fun b' => (b'.tx a).tries = (s.blk.tx a).tries + 1 ∧
      (b'.tx a).num = ((s.blk.tx a).num + 1) % 256 ∧ (b'.tx a).phase = 1) := by
  refine completes_of_on ha (show execTimeExchangeRetry a s = s.on (.timeExchangeRetry a) _ from rfl) ?_
  extract_lets x b1 b2
  have hw : Within [.now, .elems, .gates, .tbs] s.blk b2 := by simp [b2, b1]
  have hruns' : b2.timeRuns a = true := by rw [Block.timeRuns, hw.link (by decide)]; exact hruns
  rw [if_neg (by simp [x, hbusy]), if_neg (Nat.not_le.2 htries), if_neg (by simp [hruns'])]
  obtain ⟨-, hphase, htries', hnum, -⟩ := Block.timeSend_tx (b := b2.modTx a (fun x => { x with tries := x.tries + 1 })) (a := a)
  rw [Block.modTx_tx, hw.tx (by decide)] at htries' hnum
  exact ⟨htries', hnum, hphase⟩

/-- The third try that is not answered in time is the last: the exchange is reported lost. -/
theorem timeExchangeRetry_gives_up (ha : isDieAdp a = true) (hbusy : (s.blk.tx a).busy = true) (htries : 3 ≤ (s.blk.tx a).tries)
    (hst : (s.blk.link a).st = .active) : Completes (.timeExchangeRetry a) s (fun b' => (b'.tx a).busy = false ∧ Raised s.blk b' a 0x33 0) := by
  refine completes_of_on ha (show execTimeExchangeRetry a s = s.on (.timeExchangeRetry a) _ from rfl) ?_
  extract_lets x b1 b2
  have hw : Within [.now, .elems, .gates, .tbs] s.blk b2 := by simp [b2, b1]
  rw [if_neg (by simp [x, hbusy]), if_pos htries]
  obtain ⟨hidle, hraised⟩ := Block.timeLost_reports (b := b2) (a := a) (by rw [hw.link (by decide), hst])
  exact ⟨hidle, hraised.of_wsh (hw .wsh (by decide)).symm rfl⟩

end

/-- Settles O25: each command of an exchange does what its own lemma says of the frame that arrives, or of the try that does not. -/
theorem timeExchange : Obligations.TimeExchange := by
  rintro s a _ ha rfl -
  refine ⟨timeExchangeStart_sends ha, timeReq_records ha, ?_, fun hbusy hphase hruns hsrc => ?_, timeExchangeRetry_sends ha,
    timeExchangeRetry_gives_up ha⟩
  · intro y hy hbusy hphase hruns
    obtain ⟨haccept, hreject⟩ := Block.timeRspIn_judges hy hbusy hphase hruns
    exact ⟨fun hd => timeRsp_completes ha hbusy (haccept hd), fun hd htries => timeRsp_completes ha hbusy (hreject hd (by rwa [hy]))⟩
  · obtain ⟨hover, htb⟩ := Block.timeResIn_follows fun hr => Block.isTimeSrc_of (hsrc hr)
    refine ⟨fun htrain => timeRes_completes ha hbusy hphase hruns ⟨hover, ?_⟩,
      fun htrain => timeRes_completes ha hbusy hphase hruns ⟨hover, ?_⟩⟩
    · rw [htb, Tb.follow, if_pos htrain]
      rfl
    · rw [htb, Tb.follow, if_neg (by simp [htrain])]
      exact ⟨rfl, rfl⟩

end Sys2Proof.Machine
end

section
/-! PROOFS. Cables and modules of a Pass port (spec/09 R273 step 1, R278, R280, R281, R284). -/

namespace Sys2Proof.Machine

open Block (Within)

/-! ### What the Pass commands share -/

theorem isPass_passAdp {k : Nat} (hk : k < 8) : isPass (passAdp k) = true := by
  interval_cases k <;> rfl

theorem portOf_passAdp {k : Nat} (hk : k < 8) : portOf (passAdp k) = k := by
  interval_cases k <;> rfl

section
variable {b : Block} {k : Nat}

/-- A Pass port is no part of a plane, so that no fault of its is Fatal (11 R319). -/
theorem Block.escalates_passPort : b.escalates 5 k = false := by
  simp [escalates, scopeIn]

/-- A Containable fault of a Pass port fences it and is raised as such. -/
theorem Block.fault_fencesPort {src kind : Nat} {pk ext : Option (BitVec 128)} {det : BitVec 32} {forced : Bool} {b0 : Block}
    (hwsh : b0.wsh = b.wsh) (hsev : kindSev src kind = 2) : let z := b.fault src kind 5 k pk det ext forced
    (z.scope 5 k).stopped = true ∧ Raised b0 z src kind (if b0.escalates 5 k then 3 else 2) := by
  refine ⟨fault_stopped b src kind 5 k pk det ext forced (by decide) hsev.ge, ?_⟩
  rw [escalates_passPort, ← escalates_passPort (b := b)]
  exact (fault_raised_containable hsev).of_wsh hwsh rfl

/-- Time that passes before a command acts; named, so that no proof computes with the moment that it names. -/
theorem Block.elapses (b : Block) (t : Nat) : ∃ c, c = b.elapseTo t ∧ Within [.now, .elems, .gates, .tbs] b c := ⟨_, rfl, by simp⟩

/-- While REFCLK stands a port enters a state and shows it (09 R281). -/
theorem Block.portTo_enters (href : b.wsh.refLost = false) (st : Nat) : b.portTo k st =
    b.modPort k (fun p => { p with st := st, since := b.now, attn := (ledsOf st).1, act := (ledsOf st).2 }) := by
  rw [portTo, href, if_neg Bool.false_ne_true]

@[simp] theorem Block.portTo_wsh {st : Nat} : (b.portTo k st).wsh = b.wsh :=
  (show Within [.ports] b (b.portTo k st) by simp) .wsh (by decide)

/-! ### The cable and its module -/

/-- A cable that is powered: its reading begins, with no lane map (09 R273 step 1). -/
theorem Block.cableIn_powers (href : b.wsh.refLost = false) (hst : (b.port k).st ≠ 10) : let p := (b.cableIn k).port k
    p.present = (b.port k).present ∧ p.st = 1 ∧ p.step = 1 ∧ p.pwr = true ∧ p.mapTx = [] ∧ p.mapRx = [] := by
  simp [cableIn, hst, portTo_enters href]

theorem Block.emptyPort_empties {blink : Bool} (href : b.wsh.refLost = false) : let p := (b.emptyPort k blink).port k
    p.present = (b.port k).present ∧ p.st = 0 ∧ p.attn = if blink then .slow else .off := by
  simp [emptyPort, portTo_enters href]

/-- An invalid cable: the port is HELD with its power low, and reports it (09 R280). -/
theorem Block.cableInvalid_holds (href : b.wsh.refLost = false) : let z := b.cableInvalid k
    (z.port k).st = 8 ∧ (z.port k).pwr = false ∧ (z.port k).refusal = 0x56 ∧ Raised b z (passAdp k) 0x56 1 := by
  unfold cableInvalid
  extract_lets up b1 b2 b3 b4 z
  have hw : Within [.rings, .vecs, .lead, .hostOut] b4 z := by simp [z]
  have hport : b4.port k = { b1.port k with pwr := false, step := 0, refusal := 0x56, module := false, flagRead := false } := by
    simp only [b4, portEvent, event_reads, b3, b2]
    split <;> simp only [modLink_port_of, modPort_port]
  have hwsh : b3.wsh = b.wsh := by
    simp only [b3, b2]
    split <;> simp only [modLink_wsh, modPort_wsh, b1, portTo_wsh]
  rw [hw.port (by decide), hport, show b1 = _ from portTo_enters href 8, modPort_port]
  exact ⟨rfl, rfl, rfl, (event_raised_from (a := b) (by simp [kindSev]) hwsh.symm).of_wsh rfl (hw .wsh (by decide))⟩

/-- A Pass link that goes on to PHY_TRAIN is at step 2 of its bring-up (09 R273). -/
theorem Block.linkStep_trainsPass (hk : k < 8) : let z := b.linkStep (passAdp k) .phyTrain
    (z.port k).step = 2 ∧ (z.link (passAdp k)).st = .phyTrain ∧ z.wsh = b.wsh := by
  simp [linkStep, isPass_passAdp hk, portOf_passAdp hk]

/-- PRESENT_N has gone to `x` and its filter has taken the change at `t` (09 R278). -/
def Block.sensed (b : Block) (k t : Nat) (x : Bool) : Block := (b.elapseTo t).modPort k (fun p => { p with present := x })

@[simp] theorem Block.sensed_port {t : Nat} {x : Bool} : (b.sensed k t x).port k = { b.port k with present := x } := by
  rw [sensed, modPort_port, (elapseTo_reads ..).2.2.1]

@[simp] theorem Block.sensed_wsh {t : Nat} {x : Bool} : (b.sensed k t x).wsh = b.wsh :=
  (show Within [.now, .elems, .gates, .tbs, .ports] b (b.sensed k t x) by simp [sensed]) .wsh (by decide)

/-- What follows a change of PRESENT_N: a cable at an EMPTY port is powered, one that leaves an open port fences it, one that leaves a
CLOSED port empties it (09 R273, R284). -/
theorem Block.presence_changes {t : Nat} (ht : t = (b.now / ms + (b.port k).filter.toNat / 2 ^ 22) * ms) :
    ((b.port k).present = false → (b.port k).st = 0 → b.presence k true = (b.sensed k t true).cableIn k) ∧
    ((b.port k).present = true → (b.port k).st = 2 → b.presence k false =
      (((b.sensed k t false).modLead (fun l => { l with steerQ := l.steerQ.filter (· != k) })).modPort k
        (fun p => { p with fenceCause := 1, alertAt := none })).fault (passAdp k) 0x58 5 k none (detS 5 k 0)) ∧
    ((b.port k).present = true → (b.port k).st = 6 → b.presence k false =
      ((b.sensed k t false).emptyPort k true).modPort k (fun p => { p with returning := true })) := by
  unfold presence
  rw [← ht]
  clear ht
  have hport : (b.elapseTo t).port k = b.port k := (elapseTo_reads ..).2.2.1
  refine ⟨fun hpresent hst => ?_, fun hpresent hst => ?_, fun hpresent hst => ?_⟩
  all_goals
    rw [hpresent]
    dsimp only
    rw [hport, hst]
    rfl

/-- What the flags of a module say: an alarm stands and is an event, no alarm ends what stood (09 R280, R281). -/
theorem Block.moduleFlags_alerts {alarm : Bool} (href : b.wsh.refLost = false) : let z := b.moduleFlags k alarm
    (z.port k).wake = (b.port k).wake ∧ z.now = b.now ∧
    (z.port k).alertAt = (if alarm then some ((b.port k).alertAt.getD b.now) else none) ∧
    (alarm = true → Raised b z (passAdp k) 0x57 0) ∧ (alarm = false → z.wsh = b.wsh) := by
  unfold moduleFlags
  extract_lets b1 b2 z
  have hport : (b2.port k).wake = (b.port k).wake ∧ (b2.port k).alertAt = if alarm then some ((b.port k).alertAt.getD b.now) else none := by
    simp only [b2, portTo_enters (b := b1) href]
    split <;> simp only [modPort_port, b1, and_self]
  have hw : Within [.ports] b b2 := by simp [b2, b1]
  obtain ⟨hwake, halert⟩ := hport
  cases alarm with
  | false => exact ⟨hwake, hw .now (by decide), halert, nofun, fun _ => hw .wsh (by decide)⟩
  | true =>
    have he : Within [.elems, .wsh] b2 (b2.portEvent k 0x57 0) := by simp
    refine ⟨?_, ?_, ?_, fun _ => event_raised_from (by simp [kindSev]) (hw .wsh (by decide)).symm, nofun⟩
    · rw [show z = _ from if_pos rfl, he.port (by decide), hwake]
    · rw [show z = _ from if_pos rfl, he .now (by decide), hw .now (by decide)]
    · rw [show z = _ from if_pos rfl, he.port (by decide), halert]

/-- What a port makes of a change of WAKE_N that its filter has taken (09 R278, R280). -/
def Block.takesWake (b : Block) (k : Nat) : WakePin → Block
  | .high => b.modPort k (fun p => { p with wake := false })
  | .low (some x) => (b.modPort k (fun p => { p with wake := true })).moduleFlags k x
  | .low none => b.modPort k (fun p => { p with wake := true, flagRead := true, cmisFails := 0 })

end

/-! ### The commands -/

section
variable {s : State} {k : Nat} (hk : k < 8) (href : s.blk.wsh.refLost = false)
include hk

theorem presenceChange_same {x : Bool} (h : (s.blk.port k).present = x) : Completes (.presenceChange k x) s (fun b' => b' = s.blk) := by
  refine completes_of_on (by simpa [Instr.WellFormed] using hk) (show execPresenceChange k x s = s.on (.presenceChange k x) _ from rfl) ?_
  simp [Block.presence, h]

/-- R280: a read without answer is counted while it is not the third. -/
theorem cmisReadTimeout_counts (hread : (s.blk.port k).step = 1 ∨ (s.blk.port k).flagRead = true) (hfew : (s.blk.port k).cmisFails < 2) :
    Completes (.cmisReadTimeout k) s (fun b' => (b'.port k).cmisFails = (s.blk.port k).cmisFails + 1 ∧
      (b'.port k).st = (s.blk.port k).st ∧ b'.wsh = s.blk.wsh) := by
  refine completes_of_on (by simpa [Instr.WellFormed] using hk) (show execCmisReadTimeout k s = s.on (.cmisReadTimeout k) _ from rfl) ?_
  dsimp only
  rw [if_neg (by obtain h | h := hread <;> simp [h])]
  simp [show ¬ 3 ≤ (s.blk.port k).cmisFails + 1 by omega]

/-- R284: power ends 100 ms after the port has closed. -/
theorem cablePowerOff_ends (hst : (s.blk.port k).st = 6) (hpwr : (s.blk.port k).pwr = true) : Completes (.cablePowerOff k) s (fun b' =>
    b'.port k = { s.blk.port k with pwr := false } ∧ b'.now = (s.blk.elapseTo ((s.blk.port k).since + 100 * ms)).now) := by
  refine completes_of_on (by simpa [Instr.WellFormed] using hk) (show execCablePowerOff k s = s.on (.cablePowerOff k) _ from rfl) ?_
  dsimp only
  rw [if_neg (by simp [hst, hpwr])]
  exact ⟨by rw [Block.modPort_port, (Block.elapseTo_reads ..).2.2.1], Block.modPort_now ..⟩

theorem indicatorTimer_ends (hst : (s.blk.port k).st = 0) (hattn : (s.blk.port k).attn = .slow) : Completes (.indicatorTimer k) s (fun b' =>
    b'.port k = { s.blk.port k with attn := .off }) := by
  refine completes_of_on (by simpa [Instr.WellFormed] using hk) (show execIndicatorTimer k s = s.on (.indicatorTimer k) _ from rfl) ?_
  dsimp only
  rw [hst, hattn, if_neg (by decide), if_pos (by decide), Block.modPort_port, (Block.elapseTo_reads ..).2.2.1, hst]

/-- R280: an accepted module that is ready goes on to training. -/
theorem cmisReadDone_trains (hstep : (s.blk.port k).step = 1) (hst : (s.blk.port k).st ≠ 10) :
    Completes (.cmisReadDone k true true 18) s (fun b' => (b'.port k).step = 2 ∧ (b'.link (passAdp k)).st = .phyTrain ∧
      b'.wsh = s.blk.wsh) := by
  refine completes_of_on (by simpa [Instr.WellFormed] using hk) (show execCmisReadDone k true true 18 s = s.on (.cmisReadDone k true true 18) _ from rfl) ?_
  simp only [hstep, Block.moduleReady]
  simpa [hst] using Block.linkStep_trainsPass (b := (s.blk.modPort k _).modPort k _) hk

include href

theorem presenceChange_powers (habsent : (s.blk.port k).present = false) (hst : (s.blk.port k).st = 0) :
    Completes (.presenceChange k true) s (fun b' => (b'.port k).present = true ∧ (b'.port k).st = 1 ∧ (b'.port k).step = 1 ∧
      (b'.port k).pwr = true ∧ (b'.port k).mapTx = [] ∧ (b'.port k).mapRx = [] ∧ b'.wsh = s.blk.wsh ∧
      b'.now = (s.blk.elapseTo ((s.blk.now / ms + (s.blk.port k).filter.toNat / 2 ^ 22) * ms)).now) := by
  refine completes_of_on (by simpa [Instr.WellFormed] using hk) (show execPresenceChange k true s = s.on (.presenceChange k true) _ from rfl) ?_
  obtain ⟨t, ht⟩ : ∃ t, t = (s.blk.now / ms + (s.blk.port k).filter.toNat / 2 ^ 22) * ms := ⟨_, rfl⟩
  rw [(Block.presence_changes ht).1 habsent hst, ← ht]
  clear ht
  have hw : Within [.links, .ports] (s.blk.sensed k t true) ((s.blk.sensed k t true).cableIn k) := by simp
  obtain ⟨hpresent, hopen, hstep, hpwr, htx, hrx⟩ := Block.cableIn_powers (b := s.blk.sensed k t true) (k := k) (by simpa using href) (by simp [hst])
  exact ⟨by simpa using hpresent, hopen, hstep, hpwr, htx, hrx, (hw .wsh (by decide)).trans Block.sensed_wsh, hw .now (by decide)⟩

omit href in
/-- R284: a cable pulled from an open port fences it. -/
theorem presenceChange_fences (hpresent : (s.blk.port k).present = true) (hst : (s.blk.port k).st = 2) :
    Completes (.presenceChange k false) s (fun b' => (b'.port k).present = false ∧ (b'.scope 5 k).stopped = true ∧
      Raised s.blk b' (passAdp k) 0x58 (if s.blk.escalates 5 k then 3 else 2)) := by
  refine completes_of_on (by simpa [Instr.WellFormed] using hk) (show execPresenceChange k false s = s.on (.presenceChange k false) _ from rfl) ?_
  obtain ⟨t, ht⟩ : ∃ t, t = (s.blk.now / ms + (s.blk.port k).filter.toNat / 2 ^ 22) * ms := ⟨_, rfl⟩
  rw [(Block.presence_changes ht).2.1 hpresent hst]
  clear ht
  exact ⟨by simp, Block.fault_fencesPort (by simp) (by simp [kindSev])⟩

/-- R284: the cable of a CLOSED port leaves it EMPTY, awaiting the cable's return. -/
theorem presenceChange_empties (hpresent : (s.blk.port k).present = true) (hst : (s.blk.port k).st = 6) :
    Completes (.presenceChange k false) s (fun b' => (b'.port k).present = false ∧ (b'.port k).st = 0 ∧ (b'.port k).attn = .slow ∧
      (b'.port k).returning = true ∧ b'.wsh = s.blk.wsh) := by
  refine completes_of_on (by simpa [Instr.WellFormed] using hk) (show execPresenceChange k false s = s.on (.presenceChange k false) _ from rfl) ?_
  obtain ⟨t, ht⟩ : ∃ t, t = (s.blk.now / ms + (s.blk.port k).filter.toNat / 2 ^ 22) * ms := ⟨_, rfl⟩
  rw [(Block.presence_changes ht).2.2 hpresent hst]
  clear ht
  have hw : Within [.links, .ports] (s.blk.sensed k t false) ((s.blk.sensed k t false).emptyPort k true) := by simp
  obtain ⟨hgone, hempty, hattn⟩ := Block.emptyPort_empties (b := s.blk.sensed k t false) (k := k) (blink := true) (by simpa using href)
  rw [Block.modPort_port]
  exact ⟨by simpa using hgone, hempty, hattn, rfl, (hw .wsh (by decide)).trans Block.sensed_wsh⟩

/-- R280: a cable that is not accepted is held. -/
theorem cmisReadDone_holds {ok ready : Bool} {lanes : Nat} (hstep : (s.blk.port k).step = 1) (hbad : ok = false ∨ lanes ≠ 18) :
    Completes (.cmisReadDone k ok ready lanes) s (fun b' => (b'.port k).st = 8 ∧ (b'.port k).pwr = false ∧ (b'.port k).refusal = 0x56 ∧
      Raised s.blk b' (passAdp k) 0x56 1) := by
  refine completes_of_on (by simpa [Instr.WellFormed] using hk)
    (show execCmisReadDone k ok ready lanes s = s.on (.cmisReadDone k ok ready lanes) _ from rfl) ?_
  dsimp only
  rw [hstep, if_neg (by decide), if_pos (by simpa using hbad)]
  exact Block.cableInvalid_holds href

/-- R280: the third read in a row without answer makes the cable invalid. -/
theorem cmisReadTimeout_holds (hread : (s.blk.port k).step = 1 ∨ (s.blk.port k).flagRead = true) (hthird : (s.blk.port k).cmisFails = 2) :
    Completes (.cmisReadTimeout k) s (fun b' => (b'.port k).st = 8 ∧ (b'.port k).pwr = false ∧ Raised s.blk b' (passAdp k) 0x56 1) := by
  refine completes_of_on (by simpa [Instr.WellFormed] using hk) (show execCmisReadTimeout k s = s.on (.cmisReadTimeout k) _ from rfl) ?_
  dsimp only
  rw [if_neg (by obtain h | h := hread <;> simp [h]), if_pos (by simp [hthird])]
  obtain ⟨hst, hpwr, -, hraised⟩ := Block.cableInvalid_holds (b := (s.blk.elapse (10 * ms)).modPort k fun p => { p with cmisFails := p.cmisFails + 1 })
    (k := k) (by simpa using href)
  exact ⟨hst, hpwr, hraised.of_wsh (by simp) rfl⟩

/-- R280: a module that is not ready after 2 s is no valid cable. -/
theorem moduleReadyLimit_holds (hstep : (s.blk.port k).step = 1) : Completes (.moduleReadyLimit k) s (fun b' => (b'.port k).st = 8 ∧
    (b'.port k).pwr = false ∧ Raised s.blk b' (passAdp k) 0x56 1) := by
  refine completes_of_on (by simpa [Instr.WellFormed] using hk) (show execModuleReadyLimit k s = s.on (.moduleReadyLimit k) _ from rfl) ?_
  rw [hstep, if_neg (by decide)]
  generalize (s.blk.port k).since + 2 * second = t
  obtain ⟨hst, hpwr, -, hraised⟩ := Block.cableInvalid_holds (b := s.blk.elapseTo t) (k := k) (by simpa using href)
  exact ⟨hst, hpwr, hraised.of_wsh (by simp) rfl⟩

omit href in
/-- The filter of WAKE_N takes time alone. -/
theorem cableWake_takes {w : WakePin} {P : Block → Prop} (hpresent : (s.blk.port k).present = true)
    (h : ∀ z : Block, z.port k = s.blk.port k → z.wsh = s.blk.wsh → P (z.takesWake k w)) : Completes (.cableWake k w) s P := by
  refine completes_of_on (by simpa [Instr.WellFormed] using hk) (show execCableWake k w s = s.on (.cableWake k w) _ from rfl) ?_
  rw [hpresent, if_neg (by decide)]
  obtain ⟨z, hz⟩ : ∃ z, z = if (s.blk.port k).wake == (w != .high) then s.blk else s.blk.elapseTo ((s.blk.now / 32000 + 10) * 32000) := ⟨_, rfl⟩
  have hkept : z.port k = s.blk.port k ∧ z.wsh = s.blk.wsh := by
    rw [hz]
    split
    · exact ⟨rfl, rfl⟩
    · exact ⟨(Block.elapseTo_reads ..).2.2.1, (show Within [.now, .elems, .gates, .tbs] s.blk _ by simp) .wsh (by decide)⟩
  rw [← hz]
  obtain ⟨hport, hwsh⟩ := hkept
  match w with
  | .high => exact h z hport hwsh
  | .low none => exact h z hport hwsh
  | .low (some _) => exact h z hport hwsh

/-- R278, R280: WAKE_N has the module's flags read, with an answer or with none yet. -/
theorem cableWake_reads (hpresent : (s.blk.port k).present = true) :
    Completes (.cableWake k (.low (some true))) s (fun b' => (b'.port k).wake = true ∧
      (b'.port k).alertAt = some ((s.blk.port k).alertAt.getD b'.now) ∧ Raised s.blk b' (passAdp k) 0x57 0) ∧
    Completes (.cableWake k (.low (some false))) s (fun b' => (b'.port k).wake = true ∧ (b'.port k).alertAt = none ∧ b'.wsh = s.blk.wsh) ∧
    Completes (.cableWake k (.low none)) s (fun b' => b'.port k = { s.blk.port k with wake := true, flagRead := true, cmisFails := 0 } ∧
      b'.wsh = s.blk.wsh) ∧
    Completes (.cableWake k .high) s (fun b' => b'.port k = { s.blk.port k with wake := false } ∧ b'.wsh = s.blk.wsh) := by
  refine ⟨cableWake_takes hk hpresent fun z hport hwsh => ?_, cableWake_takes hk hpresent fun z hport hwsh => ?_,
    cableWake_takes hk hpresent fun z hport hwsh => ?_, cableWake_takes hk hpresent fun z hport hwsh => ?_⟩
  · obtain ⟨hwake, hnow, halert, hraised, -⟩ := Block.moduleFlags_alerts (b := z.modPort k fun p => { p with wake := true }) (k := k) (alarm := true)
      (by rw [Block.modPort_wsh, hwsh, href])
    rw [Block.modPort_port] at hwake halert
    rw [hport] at halert
    exact ⟨hwake, by rw [Block.takesWake, halert, hnow]; rfl, (hraised rfl).of_wsh hwsh.symm rfl⟩
  · obtain ⟨hwake, -, halert, -, hquiet⟩ := Block.moduleFlags_alerts (b := z.modPort k fun p => { p with wake := true }) (k := k) (alarm := false)
      (by rw [Block.modPort_wsh, hwsh, href])
    rw [Block.modPort_port] at hwake
    exact ⟨hwake, halert, (hquiet rfl).trans hwsh⟩
  · exact ⟨by rw [Block.takesWake, Block.modPort_port, hport], hwsh⟩
  · exact ⟨by rw [Block.takesWake, Block.modPort_port, hport], hwsh⟩

end

/-- Settles O30: each command of a cable and its module does what its own lemma says. -/
theorem passCables : Obligations.PassCables := by
  unfold Obligations.PassCables
  intro s k hk href
  exact ⟨presenceChange_powers hk href, fun x => presenceChange_same hk, presenceChange_fences hk, presenceChange_empties hk href,
    cmisReadDone_trains hk, fun ok ready lanes => cmisReadDone_holds hk href,
    fun hread => ⟨cmisReadTimeout_counts hk hread, cmisReadTimeout_holds hk href hread⟩, moduleReadyLimit_holds hk href,
    cableWake_reads hk href, cablePowerOff_ends hk, indicatorTimer_ends hk⟩

end Sys2Proof.Machine
end

section
/-! PROOFS. Service of a Pass port by its button and by CLOSE (spec/09 R269, R278, R279, R282 to R284, R286). -/

namespace Sys2Proof.Machine

open Block (Within)

section
variable {b : Block} {k : Nat}

/-! ### What leaves a port and what its state brings -/

@[simp] theorem Block.portEvent_refLost {kind cause : Nat} : (b.portEvent k kind cause).wsh.refLost = b.wsh.refLost := by
  simp only [portEvent, event, send, modWsh]
  split <;> simp only [bumpKind_frame]

/-- A frame of a Pass port goes out on its cable. -/
theorem Block.putFrame_sendsPass {fr : Frame} (hk : k < 8) : let z := b.putFrame (passAdp k) fr
    Within [.elems, .ports, .farOut] b z ∧ z.farOut = .frame k fr :: b.farOut ∧
    z.port k = { b.port k with sinceAlign := min 27 ((b.port k).sinceAlign + 1) } := by
  have hloc : locOf (passAdp k) - 408 = k := by interval_cases k <;> rfl
  intro z
  obtain ⟨c, hc⟩ : ∃ c, c = (b.bump (passAdp k) 2 1).modPort k (fun p => { p with sinceAlign := min 27 (p.sinceAlign + 1) }) := ⟨_, rfl⟩
  have hz : z = { c with farOut := .frame k fr :: c.farOut } := by
    simp only [z, putFrame, isPass_passAdp hk, if_true, hloc, hc]
  have hw : Within [.elems, .ports] b c := by simp [hc]
  have hport : c.port k = _ := hc ▸ modPort_port ..
  rw [hz]
  exact ⟨(Block.within_farOut (by decide)).2 ((Within.iff hw (by decide)).2 (.refl b)), by rw [hw .farOut (by decide)], hport⟩

/-- Frames that leave a Pass port which owes no ALIGN for that long. -/
theorem Block.putPass_repeats {fr : Frame} (hk : k < 8) (l : List Nat) (halign : (b.port k).sinceAlign + l.length ≤ 27) :
    let z := l.foldl (fun b _ => b.putPass k fr) b
    Within [.elems, .ports, .farOut] b z ∧ z.farOut = List.replicate l.length (.frame k fr) ++ b.farOut ∧
    z.port k = { b.port k with sinceAlign := (b.port k).sinceAlign + l.length } := by
  induction l generalizing b with
  | nil => exact ⟨.refl b, rfl, rfl⟩
  | cons x l ih =>
    rw [List.length_cons] at halign
    have hput : b.putPass k fr = b.putFrame (passAdp k) fr := by rw [putPass, if_neg (by omega)]
    obtain ⟨hw, hfar, hport⟩ := putFrame_sendsPass (b := b) (fr := fr) hk
    rw [min_eq_right (by omega)] at hport
    obtain ⟨hw', hfar', hport'⟩ := ih (b := b.putFrame (passAdp k) fr) (by rw [hport]; dsimp only; omega)
    rw [List.foldl_cons, hput]
    refine ⟨(Within.iff hw' (by decide)).2 hw, ?_, ?_⟩
    · rw [hfar', hfar, List.length_cons, List.replicate_succ', List.append_assoc]
      rfl
    · rw [hport', hport, List.length_cons, Nat.add_comm l.length, Nat.add_assoc]

/-- CLOSE goes out in three frames (09 R269). -/
theorem Block.sendClose_sends {cause : Nat} (hk : k < 8) (halign : (b.port k).sinceAlign < 25) : let z := b.sendClose k cause
    Within [.elems, .ports, .farOut] b z ∧ z.farOut = List.replicate 3 (.frame k (closeFrame cause)) ++ b.farOut := by
  obtain ⟨hw, hfar, -⟩ := putPass_repeats (b := b) (fr := closeFrame cause) hk (List.range 3) (by rw [List.length_range]; omega)
  exact ⟨hw, hfar⟩

/-- A port closes: CLOSE goes out three times, its link is down, and no routes without it are awaited (09 R269, R282 step 5). -/
theorem Block.closePort_closes {cause : Nat} (hk : k < 8) (href : b.wsh.refLost = false) (halign : (b.port k).sinceAlign < 25) :
    let z := b.closePort k cause
    (z.port k).st = 6 ∧ k ∉ z.lead.steerQ ∧ (z.link (passAdp k)).st = .down ∧
    z.farOut = List.replicate 3 (.frame k (closeFrame cause)) ++ b.farOut := by
  unfold closePort
  extract_lets b1 b2 b3 b4 z
  obtain ⟨hw1, hfar1⟩ := sendClose_sends (b := b) (cause := cause) hk halign
  have href1 : b1.wsh.refLost = false := by rw [show b1.wsh = b.wsh from hw1 .wsh (by decide), href]
  have hport : (b2.port k).st = 6 := by
    simp only [b2, portTo_enters href1, modPort_port]
  have hlink : (b3.link (passAdp k)).st = .down := by simp only [b3, modLink_link]
  have hw3 : Within [.ports, .links] b1 b3 := by simp [b3, b2]
  have hw4 : Within [.elems, .time, .wsh] (b3.modLead (fun l => { l with steerQ := l.steerQ.filter (· != k) })) b4 := by simp [b4]
  have hz : Within [.rings, .vecs, .lead, .hostOut] b4 z := by simp [z]
  obtain ⟨fl, hlead⟩ : ∃ fl, z.lead = { b4.lead with flights := fl } := finishAll_lead
  refine ⟨?_, ?_, ?_, ?_⟩
  · rw [hz.port (by decide), hw4.port (by decide), modLead_port_of]
    simp only [b3, modLink_port_of, hport]
  · rw [hlead, hw4 .lead (by decide)]
    simp
  · rw [hz.link (by decide), hw4.link (by decide), modLead_link_of, hlink]
  · rw [hz .farOut (by decide), hw4 .farOut (by decide), modLead_farOut, hw3 .farOut (by decide)]
    exact hfar1

/-! ### A press that counts (09 R279, R282, R283) -/

/-- At an open port a press opens the window in which it may be withdrawn. -/
theorem Block.press_asks (href : b.wsh.refLost = false) (hst : (b.port k).st = 2 ∨ (b.port k).st = 3) : let z := b.press k
    (z.port k).st = 4 ∧ (z.port k).since = z.now ∧ Raised b z (passAdp k) 0x50 0 := by
  have hpress : b.press k = (b.portTo k 4).portEvent k 0x50 0 := by
    unfold press
    dsimp only
    obtain h | h := hst <;> rw [h] <;> rfl
  intro z
  have hz : Within [.elems, .wsh] (b.portTo k 4) z := by simp [z, hpress]
  rw [hz.port (by decide), hz .now (by decide)]
  rw [show z = _ from hpress]
  exact ⟨by rw [portTo_enters href, modPort_port], by rw [portTo_enters href, modPort_port]; rfl,
    event_raised_from (by simp [kindSev]) portTo_wsh.symm⟩

/-- A press within the abort window withdraws the request. -/
theorem Block.press_withdraws (href : b.wsh.refLost = false) (hst : (b.port k).st = 4) : let z := b.press k
    ((z.port k).st = 2 ∨ (z.port k).st = 3) ∧ z.wsh = b.wsh := by
  have hpress : b.press k = b.portTo k (b.openCode k) := by
    unfold press
    dsimp only
    rw [hst]
    rfl
  have hcode : b.openCode k = 2 ∨ b.openCode k = 3 := by
    unfold openCode
    split <;> simp
  intro z
  rw [show z = _ from hpress]
  exact ⟨by rwa [portTo_enters href, modPort_port], portTo_wsh⟩

/-- A press that a port in its state has no use for is counted. -/
theorem Block.press_ignored (hst : (b.port k).st = 5 ∨ (b.port k).st = 9 ∨ (b.port k).st = 1 ∨ (b.port k).st = 0) :
    b.press k = b.ignorePress k := by
  unfold press
  dsimp only
  obtain h | h | h | h := hst <;> rw [h] <;> rfl

/-- A press at a port whose cable awaits it has the port opened, and the far end told. -/
theorem Block.press_reopens (hst : (b.port k).st = 7) : let z := b.press k
    (z.port k).openNext = true ∧ z.farOut = .service k true :: b.farOut := by
  have hpress : b.press k = (b.tellFar k true).wantOpen k := by
    unfold press
    dsimp only
    rw [hst]
    rfl
  intro z
  have hw : Within [.elems, .ports, .stws, .gold, .lead] (b.tellFar k true) z := by simp [z, hpress]
  exact ⟨by rw [show z = _ from hpress]; exact wantOpen_opens.1, hw .farOut (by decide)⟩

/-- A press at a CLOSED port has its cable powered and trained again. -/
theorem Block.press_retrains (href : b.wsh.refLost = false) (hst : (b.port k).st = 6) (hpresent : (b.port k).present = true) :
    let p := (b.press k).port k
    p.st = 1 ∧ p.step = 1 ∧ p.pwr = true ∧ p.returning = true := by
  have hpress : b.press k = (b.cableIn k).modPort k (fun p => { p with returning := true, openNext := true }) := by
    unfold press
    dsimp only
    rw [hst]
    exact if_pos hpresent
  obtain ⟨-, hopen, hstep, hpwr, -⟩ := cableIn_powers href (by rw [hst]; decide : (b.port k).st ≠ 10)
  rw [hpress, modPort_port]
  exact ⟨hopen, hstep, hpwr, rfl⟩

/-! ### The button (09 R278, R279) -/

/-- The filtered button goes down: the press is dated. -/
theorem Block.buttonDown_dates : ∃ t, (b.buttonDown k).port k = { b.port k with button := true, pressAt := t } ∧
    Within [.now, .elems, .gates, .tbs, .ports] b (b.buttonDown k) ∧ ((b.port k).button = true → b.buttonDown k = b ∧ t = (b.port k).pressAt) := by
  unfold buttonDown
  split
  next h => exact ⟨(b.port k).pressAt, by rw [← h], .refl b, fun _ => ⟨rfl, rfl⟩⟩
  next h => exact ⟨_, by rw [modPort_port, (elapseTo_reads ..).2.2.1], by simp, fun h' => absurd h' h⟩

/-- The press is dated by the end of the filter's time (09 R278). -/
theorem Block.buttonDown_falls (hup : (b.port k).button = false) :
    (b.buttonDown k).port k = { b.port k with button := true, pressAt := (b.buttonDown k).now } ∧ (b.buttonDown k).wsh = b.wsh ∧
    (b.buttonDown k).now = (b.elapseTo ((b.now / ms + (b.port k).buttonMs) * ms)).now := by
  obtain ⟨c, hc, hw⟩ := b.elapses ((b.now / ms + (b.port k).buttonMs) * ms)
  have hdown : b.buttonDown k = c.modPort k (fun p => { p with button := true, pressAt := c.now }) := by
    rw [buttonDown, hup, if_neg (by decide), ← hc]
  rw [hdown, ← hc, modPort_port, hw.port (by decide)]
  exact ⟨rfl, hw .wsh (by decide), rfl⟩

/-- The filtered button comes up: the press is over, and counts if it was no stuck one, of 20 ms to the longest valid time. -/
theorem Block.buttonUp_releases {held : Nat} (hseen : (b.port k).button = true ∨ (b.port k).buttonMs ≤ held) : ∃ c t,
    c.port k = { b.port k with button := false, stuck := false, pressAt := t } ∧ Within [.now, .elems, .gates, .tbs, .ports] b c ∧
    ((b.port k).button = true → t = (b.port k).pressAt ∧ c.now = (b.elapseTo ((b.port k).pressAt + held * ms)).now) ∧
    b.buttonUp k held = if (b.port k).stuck || held < 20 then c
      else if (b.port k).maxPress < held then c.portEvent k 0x5A 0 else c.press k := by
  obtain ⟨t, hport, hw, hdown⟩ := buttonDown_dates (b := b) (k := k)
  obtain ⟨z, hz, hzw⟩ := (b.buttonDown k).elapses (((b.buttonDown k).port k).pressAt + held * ms)
  have hzport : z.port k = (b.buttonDown k).port k := hzw.port (by decide)
  refine ⟨z.modPort k (fun p => { p with button := false, stuck := false }), t, ?_, ?_, fun h => ⟨(hdown h).2, ?_⟩, ?_⟩
  · rw [modPort_port, hzport, hport]
  · exact (modPort_within (by decide)).2 ((Within.iff hzw (by decide)).2 ((Within.iff hw (by decide)).2 (.refl b)))
  · rw [modPort_now, hz, (hdown h).1]
  · unfold buttonUp
    rw [if_neg (by obtain h | h := hseen <;> simp [h])]
    dsimp only
    rw [← hz, hzport, hport]
    rfl

/-! ### STEERING (09 R282 step 4, R286) -/

/-- An open port that follows the far end's service goes to STEERING and records it. -/
theorem Block.follow_steers {byCmd : Bool} (href : b.wsh.refLost = false) (hst : (b.port k).st ≠ 4) : let z := b.follow k byCmd
    (z.port k).st = 5 ∧ (z.port k).byCmd = byCmd ∧ k ∈ z.lead.steerQ ∧ Raised b z (passAdp k) 0x50 0 := by
  intro z
  have hz : z = (b.portEvent k 0x50 0).steer k byCmd := by simp only [z, follow, if_neg hst]
  obtain ⟨hopen, hcmd, hqueue, -⟩ := steer_steers (b := b.portEvent k 0x50 0) (k := k) (byCmd := byCmd) (by rw [portEvent_refLost, href])
  have hw : Within [.elems, .ports, .stws, .gold, .lead] (b.portEvent k 0x50 0) ((b.portEvent k 0x50 0).steer k byCmd) := by simp
  rw [hz]
  exact ⟨hopen, hcmd, hqueue, (event_raised_of (by simp [kindSev])).of_wsh rfl (hw .wsh (by decide))⟩

end

/-! ### The commands -/

section
variable {s : State} {k held : Nat} (hk : k < 8)
include hk

/-- R278: the filter sees no press that is shorter than itself. -/
theorem buttonPress_unseen (hup : (s.blk.port k).button = false) (hshort : held < (s.blk.port k).buttonMs) :
    Completes (.buttonPress k (.up held)) s (fun b' => b' = s.blk) := by
  refine completes_of_on (by simpa [Instr.WellFormed] using hk) (show execButtonPress k (.up held) s = s.on (.buttonPress k (.up held)) _ from rfl) ?_
  simp only [Block.buttonUp]
  exact if_pos (by simp [hup, hshort])

/-- A press that counts does what a press brings in the port's state. -/
theorem buttonPress_presses {P : Block → Prop} (hseen : (s.blk.port k).button = true ∨ (s.blk.port k).buttonMs ≤ held)
    (hstuck : (s.blk.port k).stuck = false) (hmin : 20 ≤ held) (hmax : held ≤ (s.blk.port k).maxPress)
    (h : ∀ c t, c.port k = { s.blk.port k with button := false, stuck := false, pressAt := t } →
      Within [.now, .elems, .gates, .tbs, .ports] s.blk c → P (c.press k)) : Completes (.buttonPress k (.up held)) s P := by
  refine completes_of_on (by simpa [Instr.WellFormed] using hk) (show execButtonPress k (.up held) s = s.on (.buttonPress k (.up held)) _ from rfl) ?_
  obtain ⟨c, t, hport, hw, -, heq⟩ := Block.buttonUp_releases hseen
  rw [hstuck, if_neg (by simp [hmin]), if_neg (by omega)] at heq
  dsimp only
  rw [heq]
  exact h c t hport hw

/-- R279: a press of less than 20 ms leaves the button released, and nothing else. -/
theorem buttonPress_short (hdown : (s.blk.port k).button = true) (hshort : held < 20) : Completes (.buttonPress k (.up held)) s (fun b' =>
    b'.port k = { s.blk.port k with button := false, stuck := false } ∧ b'.wsh = s.blk.wsh ∧
    b'.now = (s.blk.elapseTo ((s.blk.port k).pressAt + held * ms)).now) := by
  refine completes_of_on (by simpa [Instr.WellFormed] using hk) (show execButtonPress k (.up held) s = s.on (.buttonPress k (.up held)) _ from rfl) ?_
  obtain ⟨c, t, hport, hw, hdate, heq⟩ := Block.buttonUp_releases (held := held) (.inl hdown)
  obtain ⟨ht, hnow⟩ := hdate hdown
  rw [if_pos (by simp [hshort])] at heq
  dsimp only
  rw [heq]
  exact ⟨by rw [hport, ht], hw .wsh (by decide), hnow⟩

/-- R279: a press longer than the longest valid one is recorded. -/
theorem buttonPress_long (hseen : (s.blk.port k).button = true ∨ (s.blk.port k).buttonMs ≤ held) (hstuck : (s.blk.port k).stuck = false)
    (hmin : 20 ≤ held) (hmax : (s.blk.port k).maxPress < held) : Completes (.buttonPress k (.up held)) s (fun b' =>
      (b'.port k).st = (s.blk.port k).st ∧ Raised s.blk b' (passAdp k) 0x5A 1) := by
  refine completes_of_on (by simpa [Instr.WellFormed] using hk) (show execButtonPress k (.up held) s = s.on (.buttonPress k (.up held)) _ from rfl) ?_
  obtain ⟨c, t, hport, hw, -, heq⟩ := Block.buttonUp_releases hseen
  rw [hstuck, if_neg (by simp [hmin]), if_pos hmax] at heq
  dsimp only
  rw [heq]
  exact ⟨by rw [Block.portEvent, (Block.event_reads ..).2.2.2.1, hport], Block.event_raised_from (by simp [kindSev]) (hw .wsh (by decide)).symm⟩

/-- R278: the filtered button goes down. -/
theorem buttonPress_dates (hup : (s.blk.port k).button = false) : Completes (.buttonPress k .down) s (fun b' =>
    b'.port k = { s.blk.port k with button := true, pressAt := b'.now } ∧ b'.wsh = s.blk.wsh ∧
    b'.now = (s.blk.elapseTo ((s.blk.now / ms + (s.blk.port k).buttonMs) * ms)).now) := by
  refine completes_of_on (by simpa [Instr.WellFormed] using hk) (show execButtonPress k .down s = s.on (.buttonPress k .down) _ from rfl) ?_
  dsimp only
  exact Block.buttonDown_falls hup

theorem buttonPress_held (hdown : (s.blk.port k).button = true) : Completes (.buttonPress k .down) s (fun b' => b' = s.blk) :=
  completes_of_on (by simpa [Instr.WellFormed] using hk) (show execButtonPress k .down s = s.on (.buttonPress k .down) _ from rfl) (if_pos hdown)

/-- R282 step 8: a press at the far end readmits the cable. -/
theorem buttonPress_farReopens (hst : (s.blk.port k).st = 7) : Completes (.buttonPress k .far) s (fun b' => (b'.port k).openNext = true ∧
    b'.wsh = s.blk.wsh) := by
  refine completes_of_on (by simpa [Instr.WellFormed] using hk) (show execButtonPress k .far s = s.on (.buttonPress k .far) _ from rfl) ?_
  have hfar : s.blk.farPress k = s.blk.wantOpen k := if_pos hst
  dsimp only
  rw [hfar]
  exact ⟨Block.wantOpen_opens.1, (show Within [.elems, .ports, .stws, .gold, .lead] s.blk (s.blk.wantOpen k) by simp) .wsh (by decide)⟩

/-- R279: a button still held at the longest valid press is stuck. -/
theorem buttonStuck_reports (hstuck : (s.blk.port k).stuck = false) : Completes (.buttonStuck k) s (fun b' => (b'.port k).stuck = true ∧
    (b'.port k).st = (s.blk.port k).st ∧ Raised s.blk b' (passAdp k) 0x5A 1) := by
  refine completes_of_on (by simpa [Instr.WellFormed] using hk) (show execButtonStuck k s = s.on (.buttonStuck k) _ from rfl) ?_
  obtain ⟨t, hport, hw, -⟩ := Block.buttonDown_dates (b := s.blk) (k := k)
  rw [if_neg (by simp [hstuck])]
  dsimp only
  obtain ⟨z, hz, hzw⟩ := (s.blk.buttonDown k).elapses (((s.blk.buttonDown k).port k).pressAt + ((s.blk.buttonDown k).port k).maxPress * ms)
  have hwsh : z.wsh = s.blk.wsh := (hzw .wsh (by decide)).trans (hw .wsh (by decide))
  rw [← hz, Block.portEvent, (Block.event_reads ..).2.2.2.1, Block.modPort_port, hzw.port (by decide), hport]
  exact ⟨rfl, rfl, Block.event_raised_from (by simp [kindSev]) hwsh.symm⟩

section
variable (href : s.blk.wsh.refLost = false)
include href

/-- R279, R282, R283: a press that counts, by the state of the port. -/
theorem buttonPress_counts (hseen : (s.blk.port k).button = true ∨ (s.blk.port k).buttonMs ≤ held) (hstuck : (s.blk.port k).stuck = false)
    (hmin : 20 ≤ held) (hmax : held ≤ (s.blk.port k).maxPress) :
    ((s.blk.port k).st = 2 ∨ (s.blk.port k).st = 3 → Completes (.buttonPress k (.up held)) s (fun b' => (b'.port k).st = 4 ∧
      (b'.port k).since = b'.now ∧ Raised s.blk b' (passAdp k) 0x50 0)) ∧
    ((s.blk.port k).st = 4 → Completes (.buttonPress k (.up held)) s (fun b' => ((b'.port k).st = 2 ∨ (b'.port k).st = 3) ∧ b'.wsh = s.blk.wsh)) ∧
    ((s.blk.port k).st = 5 ∨ (s.blk.port k).st = 9 ∨ (s.blk.port k).st = 1 ∨ (s.blk.port k).st = 0 → Completes (.buttonPress k (.up held)) s (fun b' =>
      b'.port k = { s.blk.port k with button := false, stuck := false, ignored := min 65535 ((s.blk.port k).ignored + 1),
                                      pressAt := (b'.port k).pressAt } ∧ b'.wsh = s.blk.wsh)) := by
  refine ⟨fun hst => ?_, fun hst => ?_, fun hst => ?_⟩ <;> refine buttonPress_presses hk hseen hstuck hmin hmax fun c t hport hw => ?_
  all_goals have hwsh : c.wsh = s.blk.wsh := hw .wsh (by decide)
  · obtain ⟨hask, hsince, hraised⟩ := Block.press_asks (b := c) (k := k) (by rw [hwsh, href]) (by rwa [hport])
    exact ⟨hask, hsince, hraised.of_wsh hwsh.symm rfl⟩
  · obtain ⟨hopen, hquiet⟩ := Block.press_withdraws (b := c) (k := k) (by rw [hwsh, href]) (by rwa [hport])
    exact ⟨hopen, hquiet.trans hwsh⟩
  · rw [Block.press_ignored (by rwa [hport]), Block.ignorePress, Block.modPort_port, hport]
    exact ⟨rfl, hwsh⟩

/-- R282 step 8, R283: a press that has a port opened, or trained again. -/
theorem buttonPress_readmits (hseen : (s.blk.port k).button = true ∨ (s.blk.port k).buttonMs ≤ held) (hstuck : (s.blk.port k).stuck = false)
    (hmin : 20 ≤ held) (hmax : held ≤ (s.blk.port k).maxPress) :
    ((s.blk.port k).st = 7 → Completes (.buttonPress k (.up held)) s (fun b' => (b'.port k).openNext = true ∧
      b'.farOut = .service k true :: s.blk.farOut)) ∧
    ((s.blk.port k).st = 6 → (s.blk.port k).present = true → Completes (.buttonPress k (.up held)) s (fun b' => (b'.port k).st = 1 ∧
      (b'.port k).step = 1 ∧ (b'.port k).pwr = true ∧ (b'.port k).returning = true)) := by
  refine ⟨fun hst => ?_, fun hst hpresent => ?_⟩ <;> refine buttonPress_presses hk hseen hstuck hmin hmax fun c t hport hw => ?_
  · obtain ⟨hopen, hfar⟩ := Block.press_reopens (b := c) (k := k) (by rw [hport, hst])
    exact ⟨hopen, by rw [hfar, hw .farOut (by decide)]⟩
  · exact Block.press_retrains (by rw [hw .wsh (by decide), href]) (by rw [hport, hst]) (by rw [hport, hpresent])

theorem buttonPress_farSteers (hst : (s.blk.port k).st = 2) : Completes (.buttonPress k .far) s (fun b' => (b'.port k).st = 5 ∧
    (b'.port k).byCmd = false ∧ k ∈ b'.lead.steerQ ∧ Raised s.blk b' (passAdp k) 0x50 0) := by
  refine completes_of_on (by simpa [Instr.WellFormed] using hk) (show execButtonPress k .far s = s.on (.buttonPress k .far) _ from rfl) ?_
  have hfar : s.blk.farPress k = s.blk.follow k false := by
    rw [Block.farPress, hst]
    rfl
  dsimp only
  rw [hfar]
  exact Block.follow_steers href (by rw [hst]; decide)

/-- R282 steps 3 and 4: after the abort window the port is in STEERING, of which the far end is told, or the service is refused. -/
theorem abortWindowEnd_decides (hst : (s.blk.port k).st = 4) :
    ((s.blk.elapseTo ((s.blk.port k).since + 5 * second)).serviceOk k = true → Completes (.abortWindowEnd k) s (fun b' =>
      (b'.port k).st = 5 ∧ (b'.port k).byCmd = false ∧ k ∈ b'.lead.steerQ ∧ b'.farOut = .service k false :: s.blk.farOut)) ∧
    ((s.blk.elapseTo ((s.blk.port k).since + 5 * second)).serviceOk k = false → Completes (.abortWindowEnd k) s (fun b' =>
      (b'.port k).st = 9 ∧ (b'.port k).refusal = 0x51 ∧ Raised s.blk b' (passAdp k) 0x51 1)) := by
  obtain ⟨c, hc, hw⟩ := s.blk.elapses ((s.blk.port k).since + 5 * second)
  have hwsh : c.wsh = s.blk.wsh := hw .wsh (by decide)
  have hdone : ∀ P : Block → Prop, P (if c.serviceOk k then (c.tellFar k false).steer k false else c.refuseService k) →
      Completes (.abortWindowEnd k) s P := fun P hP => by
    refine completes_of_on (by simpa [Instr.WellFormed] using hk) (show execAbortWindowEnd k s = s.on (.abortWindowEnd k) _ from rfl) ?_
    rw [hst, if_neg (by decide), ← hc]
    exact hP
  rw [← hc]
  refine ⟨fun hok => hdone _ ?_, fun hcut => hdone _ ?_⟩
  · rw [if_pos hok]
    obtain ⟨hsteer, hcmd, hqueue, -⟩ := Block.steer_steers (b := c.tellFar k false) (k := k) (byCmd := false) (hwsh ▸ href)
    have hfar : Within [.elems, .ports, .stws, .gold, .lead] (c.tellFar k false) ((c.tellFar k false).steer k false) := by simp
    refine ⟨hsteer, hcmd, hqueue, ?_⟩
    rw [hfar .farOut (by decide), Block.tellFar, hw .farOut (by decide)]
  · rw [if_neg (by rw [hcut]; decide)]
    obtain ⟨hshown, hcause⟩ := Block.refuseService_refuses (b := c) (k := k) (hwsh ▸ href)
    exact ⟨hshown, hcause, Block.event_raised_from (by simp [kindSev]) (by rw [Block.modPort_wsh, Block.portTo_wsh, hwsh])⟩

/-- R282 steps 4 and 5, R269: 1 s in STEERING closes the port. -/
theorem steeringLimit_closes (hst : (s.blk.port k).st = 5) (halign : (s.blk.port k).sinceAlign < 25) :
    Completes (.steeringLimit k) s (fun b' => (b'.port k).st = 6 ∧ k ∉ b'.lead.steerQ ∧ (b'.link (passAdp k)).st = .down ∧
      b'.farOut = List.replicate 3 (.frame k (closeFrame (if (s.blk.port k).byCmd then 2 else 1))) ++ s.blk.farOut) := by
  refine completes_of_on (by simpa [Instr.WellFormed] using hk) (show execSteeringLimit k s = s.on (.steeringLimit k) _ from rfl) ?_
  rw [hst, if_neg (by decide)]
  dsimp only
  rw [(Block.elapseTo_reads ..).2.2.1]
  obtain ⟨c, hc, hw⟩ := s.blk.elapses ((s.blk.port k).since + second)
  rw [← hc]
  generalize (if (s.blk.port k).byCmd then 2 else 1) = cause
  obtain ⟨hclosed, hqueue, hdown, hfar⟩ := Block.closePort_closes (b := c) (cause := cause) hk (by rw [hw .wsh (by decide), href])
    (by rwa [hw.port (by decide)])
  have hcommit : Within [.elems, .stws, .gold, .lead] (c.closePort k cause) ((c.closePort k cause).wantCommit 5 (some (scKey 5 k))) := by simp
  refine ⟨?_, ?_, ?_, ?_⟩
  · rw [hcommit.port (by decide)]
    exact hclosed
  · rw [Block.wantCommit_steerQ]
    exact hqueue
  · rw [hcommit.link (by decide)]
    exact hdown
  · rw [hcommit .farOut (by decide), hfar, hw .farOut (by decide)]

/-- R281: a refusal is shown for 10 s; then the port shows again that it is open. -/
theorem indicatorTimer_reopens (hst : (s.blk.port k).st = 9) : Completes (.indicatorTimer k) s (fun b' => (b'.port k).st = 2 ∨ (b'.port k).st = 3) := by
  refine completes_of_on (by simpa [Instr.WellFormed] using hk) (show execIndicatorTimer k s = s.on (.indicatorTimer k) _ from rfl) ?_
  dsimp only
  rw [hst, if_pos rfl]
  generalize (s.blk.port k).since + 10 * second = t
  rw [Block.portTo_enters (by simpa using href), Block.modPort_port, Block.openCode]
  dsimp only
  split <;> simp

omit href in
/-- R284, R286: CLOSE with cause 3 fences the port. -/
theorem closeReceipt_fences (hst : (s.blk.port k).st = 2) : Completes (.closeReceipt k 3) s (fun b' => (b'.scope 5 k).stopped = true ∧
    Raised s.blk b' (passAdp k) 0x59 (if s.blk.escalates 5 k then 3 else 2)) := by
  refine completes_of_on (by simpa [Instr.WellFormed] using hk) (show execCloseReceipt k 3 s = s.on (.closeReceipt k 3) _ from rfl) ?_
  have hin : s.blk.closeIn k 3 = ((s.blk.modLead (fun l => { l with steerQ := l.steerQ.filter (· != k) })).modPort k
      (fun p => { p with fenceCause := 2 })).fault (passAdp k) 0x59 5 k none (detS 5 k 0) := by
    unfold Block.closeIn
    dsimp only
    rw [hst]
    rfl
  rw [hin]
  exact Block.fault_fencesPort rfl (by simp [kindSev])

/-- R286: with another cause the port follows into STEERING. -/
theorem closeReceipt_steers {c : Nat} (hst : (s.blk.port k).st = 2) (hc : c = 1 ∨ c = 2) : Completes (.closeReceipt k c) s (fun b' =>
    (b'.port k).st = 5 ∧ (b'.port k).byCmd = (c == 2) ∧ k ∈ b'.lead.steerQ ∧ Raised s.blk b' (passAdp k) 0x50 0) := by
  refine completes_of_on (by simp [Instr.WellFormed, hk]; omega) (show execCloseReceipt k c s = s.on (.closeReceipt k c) _ from rfl) ?_
  have hin : s.blk.closeIn k c = s.blk.follow k (c == 2) := by
    unfold Block.closeIn
    dsimp only
    rw [hst]
    obtain rfl | rfl := hc <;> rfl
  rw [hin]
  exact Block.follow_steers href (by rw [hst]; decide)

end
end

/-- Settles O31: the button, STEERING and CLOSE each by the lemmas of their commands. -/
theorem passService : Obligations.PassService := by
  unfold Obligations.PassService
  intro s k held c hk href
  exact ⟨buttonPress_unseen hk, buttonPress_counts hk href, buttonPress_readmits hk href, buttonPress_dates hk, buttonPress_held hk,
    buttonPress_farReopens hk, buttonPress_farSteers hk href, buttonPress_short hk, buttonPress_long hk, buttonStuck_reports hk,
    fun hst => (abortWindowEnd_decides hk href hst).1, fun hst => (abortWindowEnd_decides hk href hst).2, steeringLimit_closes hk href,
    indicatorTimer_reopens hk href, closeReceipt_fences hk, closeReceipt_steers hk href⟩

end Sys2Proof.Machine
end

section
/-! PROOFS. Start-up: reset release, the straps, the boot self-tests and Ridge identity (spec/19 R481 to R485; spec/09 R272). -/

namespace Sys2Proof.Machine

open Block (Within)

section
variable {b : Block} {n : Nat}

/-! ### The straps (19 R483) -/

/-- Samples that agree are the package's ID, under which it lists itself. -/
theorem Block.straps_agree {v m : Nat} (hok : b.strapOk = false) : ∃ c : Block, c.strapOk = false ∧ c.wsh = b.wsh ∧ c.time = b.time ∧
    c.fuseSerial = b.fuseSerial ∧ (b.refclk = true → c.now = max b.now 3200000) ∧ b.straps (List.replicate (m + 1) v) =
    { (c.modLead (fun x => { x with facts0 := { x.facts0 with pkg := v }, facts1 := { x.facts1 with pkg := v } })) with
      pkgid := v, strapOk := true, members := (c.members.erase c.pkgid).set v { serial := c.fuseSerial, prio := c.time.prio, reach := true } } := by
  obtain ⟨c, hc, hw⟩ := b.elapses 3200000
  have hsame : c.strapOk = false := (hw .strapOk (by decide)).trans hok
  unfold straps
  rw [← hc]
  refine ⟨c, hsame, hw .wsh (by decide), hw .time (by decide), hw .fuseSerial (by decide), fun href => hc ▸ elapseTo_now _ _ href, ?_⟩
  rw [List.replicate_succ]
  dsimp only
  rw [hsame, if_neg (by decide), if_pos (by simp)]

/-- Samples that differ are a fault of the package. -/
theorem Block.straps_differ {l : List Nat} (hdiff : ∃ x ∈ l, ∃ y ∈ l, x ≠ y) (hok : b.strapOk = false) :
    ∃ c : Block, c.strapOk = false ∧ c.wsh = b.wsh ∧ b.straps l = c.fault (ioSrc 479) 0x72 11 b.pkgid none 0 := by
  obtain ⟨c, hc, hw⟩ := b.elapses 3200000
  have hsame : c.strapOk = false := (hw .strapOk (by decide)).trans hok
  unfold straps
  rw [← hc]
  refine ⟨c, hsame, hw .wsh (by decide), ?_⟩
  dsimp only
  rw [hsame, if_neg (by decide), show c.pkgid = b.pkgid from hw .pkgid (by decide)]
  obtain ⟨x, hx, y, hy, hne⟩ := hdiff
  cases l with
  | nil => cases hx
  | cons v rest =>
    have hall : ¬ rest.all (· == v) = true := fun h => by
      have heq : ∀ z ∈ v :: rest, z = v := by simpa using h
      exact hne ((heq x hx).trans (heq y hy).symm)
    exact if_neg hall

/-! ### The boot self-tests (19 R485) -/

/-- A fault of a kind that is Fatal by itself is raised as such, and stops the package (11 R320, R321). -/
theorem Block.fault_fatal {src kind id : Nat} {pk ext : Option (BitVec 128)} {det : BitVec 32} {forced : Bool} {b0 : Block}
    (hwsh : b0.wsh = b.wsh) (hsev : kindSev src kind = 3) : let z := b.fault src kind 11 id pk det ext forced
    Raised b0 z src kind 3 ∧ (z.scope 11 id).stopped = true := by
  have hraised := fault_raised b src kind 11 id pk det ext forced
  rw [hsev, if_neg (by simp)] at hraised
  exact ⟨hraised.of_wsh hwsh rfl, fault_stopped b src kind 11 id pk det ext forced (by decide) (by rw [hsev]; decide)⟩

/-- A steward of a compute die carries no plane, and its loss leaves the I/O die's stewards (11 R319). -/
theorem Block.escalates_computeStw (hdie : dieOf n < 12) : b.escalates 10 n = false := by
  simp [escalates, scopeIn, hdie.ne]

@[simp] theorem Block.chooseLead_within {ps : List Part} {b0 : Block} (hs : [.lead] ⊆ ps) : Within ps b0 b.chooseLead ↔ Within ps b0 b := by
  have hlead : .lead ∈ ps := by simpa using hs
  unfold chooseLead
  dsimp only
  repeat' split
  all_goals simp [hlead]

theorem Block.chooseLead_stw {i : Nat} : (b.chooseLead).stw i = b.stw i := by
  rw [stw, (show Within [.lead] b b.chooseLead by simp) .stws (by decide), ← stw]

/-- Steward 0 of the I/O die becomes lead as soon as it has passed while there is none. -/
theorem Block.chooseLead_first (hpass : (b.stw (stwSrc 12 0)).self = 1) (hnone : b.lead.who = none) : b.chooseLead.lead.who = some 0 := by
  have hfind : (List.range 16).find? (fun n => (b.stw (stwSrc 12 n)).self != 2) = some 0 := by
    rw [List.range_succ_eq_map, List.find?_cons_of_pos (by simp [hpass])]
  unfold chooseLead
  dsimp only
  rw [hnone, if_neg (by decide), hfind]
  dsimp only
  rw [if_pos hpass, modLead_lead]

end

section
variable {s : State} {n a : Nat}

theorem bootSelftestDone_passes (hn : isStw n = true) (hfirst : (s.blk.stw n).self = 0) : Completes (.bootSelftestDone n true) s (fun b' =>
    (b'.stw n).self = 1 ∧ b'.wsh = s.blk.wsh ∧ (n = stwSrc 12 0 → s.blk.lead.who = none → b'.lead.who = some 0)) := by
  refine completes_of_on hn (show execBootSelftestDone n true s = s.on (.bootSelftestDone n true) _ from rfl) ?_
  have hdone : s.blk.selftestDone n true = (s.blk.modStw n (fun x => { x with self := 1 })).chooseLead := by
    rw [Block.selftestDone, hfirst]
    rfl
  have hw : Within [.lead, .stws] s.blk (s.blk.modStw n (fun x => { x with self := 1 })).chooseLead := by simp
  rw [hdone]
  refine ⟨by rw [Block.chooseLead_stw, Block.modStw_stw], hw .wsh (by decide), fun hzero hnone => ?_⟩
  exact Block.chooseLead_first (by rw [← hzero, Block.modStw_stw]) hnone

/-- R485: a compute-die steward that fails its self-test is lost, and its scope retired. -/
theorem bootSelftestDone_fails (hn : isStw n = true) (hfirst : (s.blk.stw n).self = 0) (hdie : dieOf n < 12) :
    Completes (.bootSelftestDone n false) s (fun b' => (b'.stw n).self = 2 ∧ (b'.stw n).lost = true ∧ Raised s.blk b' n 0x60 2 ∧
      (b'.scope 10 n).stopped = true ∧ (b'.scope 10 n).retired = true) := by
  refine completes_of_on hn (show execBootSelftestDone n false s = s.on (.bootSelftestDone n false) _ from rfl) ?_
  obtain ⟨c, hc⟩ : ∃ c, c = s.blk.modStw n (fun x => { x with self := 2, lost := true }) := ⟨_, rfl⟩
  have hdone : s.blk.selftestDone n false =
      ((c.fault n 0x60 10 n none (detS 10 n 1)).modScope 10 n (fun sc => { sc with retired := true })).chooseLead := by
    rw [Block.selftestDone, hfirst, hc]
    rfl
  have hsev : kindSev n 0x60 = 2 := by simp [kindSev]
  have hraised := Block.fault_raised_containable (b := c) (ty := 10) (id := n) (pk := none) (ext := none) (det := detS 10 n 1) (forced := false) hsev
  rw [Block.escalates_computeStw hdie] at hraised
  have hwsh : c.wsh = s.blk.wsh := by rw [hc]; rfl
  have hstw : (c.stw n).self = 2 ∧ (c.stw n).lost = true := by rw [hc, Block.modStw_stw]; exact ⟨rfl, rfl⟩
  have hlead : ∀ x : Block, Within [.lead] x x.chooseLead := fun x => by simp
  rw [hdone, Block.chooseLead_stw, Block.modScope_stw_of, (Block.fault_reads ..).2.2.2.2.2.2.2.1, (hlead _).scope (by decide), Block.modScope_scope]
  exact ⟨hstw.1, hstw.2, hraised.of_wsh hwsh.symm (hlead _ .wsh (by decide)),
    Block.fault_stopped c n 0x60 10 n none _ none false (by decide) hsev.ge, rfl⟩

/-- R485: no steward of the I/O die is left. -/
theorem stewardAllLost_fatal (hnone : ∀ k, k < 16 → ¬ (s.blk.stwUp (stwSrc 12 k) = true ∧ (s.blk.stw (stwSrc 12 k)).self = 1)) :
    Completes .stewardAllLost s (fun b' => Raised s.blk b' 6624 0x66 3 ∧ (b'.scope 11 s.blk.pkgid).stopped = true) := by
  refine completes_of_on rfl (show execStewardAllLost s = s.on .stewardAllLost _ from rfl) ?_
  have hany : (List.range 16).any (fun n => s.blk.stwUp (stwSrc 12 n) && (s.blk.stw (stwSrc 12 n)).self = 1) = false :=
    List.any_eq_false.2 fun k hk => by simpa using hnone k (List.mem_range.1 hk)
  dsimp only
  rw [hany, if_neg (by decide)]
  generalize 160000000 = t
  exact Block.fault_fatal (by simp) (by simp [kindSev])

/-- R484: a Ridge whose die has no identity when the time for it ends fails. -/
theorem ridgeIdentityTimeout_fails (hridge : isRidge a = true) (hleft : (s.blk.link (src (dieOf a) 384)).ident = none)
    (hright : (s.blk.link (src (dieOf a) 385)).ident = none) (hhas : s.blk.ridgelessAt a = false) (hst : (s.blk.link a).st ≠ .active)
    (hopen : s.blk.linkStopped a = false) : Completes (.ridgeIdentityTimeout a) s (fun b' => Raised s.blk b' a 0x23 2 ∧ (b'.link a).st = .down ∧
      (b'.scope (linkScope a 7).1 (linkScope a 7).2).stopped = true) := by
  have ha : isDieAdp a = true := by simp [isDieAdp, hridge]
  refine completes_of_on hridge (show execRidgeIdentityTimeout a s = s.on (.ridgeIdentityTimeout a) _ from rfl) ?_
  dsimp only
  rw [if_neg (by simp [hleft, hright, hhas, hst, hopen])]
  generalize 320000000 = t
  obtain ⟨hraised, hstopped⟩ := Block.linkFault_raised (b := s.blk) (c := (s.blk.elapseTo t).modLink a (fun l => { l with st := .down }))
    (kind := 0x23) (pk := none) (ext := none) (det := detLink a 0 255 0) ha (by simp [kindSev]) (by simp)
  rw [Block.escalates_linkScope ha] at hraised
  exact ⟨hraised, by rw [Block.linkFault_link, Block.modLink_link], hstopped⟩

end

/-- 19 R481, R482: what reset release leaves, and 19 R483: what the straps' samples say. -/
theorem resetReleaseAndStraps : Claims.ResetReleaseAndStraps := by
  intro s v l
  refine ⟨completes_of_on rfl (show execResetRelease s = s.on .resetRelease _ from rfl) rfl, fun hv hok => ?_, fun hlen hrange hdiff hok => ?_⟩
  · refine completes_of_on (by simpa [Instr.WellFormed] using hv) (show execStrapSampling _ s = s.on (.strapSampling _) _ from rfl) ?_
    obtain ⟨c, -, hwsh, htime, hser, hnow, heq⟩ := Block.straps_agree (v := v) (m := 7) hok
    rw [heq]
    exact ⟨rfl, rfl, hnow, by rw [SMap.find_set_self, htime, hser], hwsh⟩
  · refine completes_of_on (by simpa [Instr.WellFormed, hlen] using hrange) (show execStrapSampling l s = s.on (.strapSampling l) _ from rfl) ?_
    obtain ⟨c, hstill, hwsh, heq⟩ := Block.straps_differ hdiff hok
    obtain ⟨hraised, hstopped⟩ := Block.fault_fatal (b := c) (b0 := s.blk) (src := ioSrc 479) (kind := 0x72) (id := s.blk.pkgid) (pk := none)
      (ext := none) (det := 0) (forced := false) hwsh.symm (by simp [kindSev])
    rw [heq]
    exact ⟨hraised, by rw [(Block.fault_frame ..).2.2.1, hstill], hstopped⟩

/-- 19 R484, R485: the commands of the boot self-tests and of Ridge identity. -/
theorem selfTestsAndIdentity : Claims.SelfTestsAndIdentity := fun _ _ _ =>
  ⟨fun hn hfirst => ⟨bootSelftestDone_passes hn hfirst, bootSelftestDone_fails hn hfirst⟩, stewardAllLost_fatal, ridgeIdentityTimeout_fails⟩

/-- Settles O8: reset release and the straps, and the boot self-tests with Ridge identity. -/
theorem startUp : Obligations.StartUp := ⟨resetReleaseAndStraps, selfTestsAndIdentity⟩

end Sys2Proof.Machine
end

section
/-! PROOFS. Lane rotation of a Pass port (spec/09 R263, R268, R270, R271; spec/13 R374). -/

namespace Sys2Proof.Machine

open Block (Within)

/-! ### The lanes of a port -/

/-- `q` sends on the lanes of `p`, with the same rotation and the same proposal under way. -/
def Pass.SameLanes (p q : Pass) : Prop := q.mapTx = p.mapTx ∧ q.rotLane = p.rotLane ∧ q.rotStep = p.rotStep ∧ q.prop = p.prop ∧ q.alignTx = p.alignTx

/-- The lanes of a rotation follow from the map in force and the logical lane. -/
theorem Pass.rotLanes_of_sameLanes {p q : Pass} (h : p.SameLanes q) : q.rotLanes = p.rotLanes := by
  obtain ⟨hmap, hlane, -⟩ := h
  simp only [rotLanes, hmap, hlane]

theorem Pass.restMap_of_idle {p : Pass} (hrot : p.rotStep = none) : p.restMap = p.mapTx := by
  unfold restMap
  rw [hrot]

section
variable {b : Block} {k x y st : Nat}

/-! ### The steps (09 R270) -/

@[simp] theorem Block.propose_port {m : SMap Nat} : (b.propose k m).port k =
    { b.port k with prop := some (laneBytes m, ((b.port k).alignTx + 5) % 65536), mapAck := false } := modPort_port ..

/-- A step that copies a lane, moves it, or copies it back proposes the map for it. -/
theorem Block.rotStepTo_proposes (hxy : (x, y) = (b.port k).rotLanes) (hst : st = 1 ∨ st = 3 ∨ st = 5) : (b.rotStepTo k st).port k =
    { b.port k with
      rotStep := some (st, b.now), mapAck := false,
      prop := some (laneBytes (rotMap (b.port k).mapTx st (b.port k).rotLane x y), ((b.port k).alignTx + 5) % 65536) } := by
  unfold rotStepTo
  dsimp only
  rw [← hxy]
  obtain rfl | rfl | rfl := hst <;> exact propose_port.trans (by rw [modPort_port])

/-- The compare and the calibration wait with the map in force. -/
theorem Block.rotStepTo_waits (hst : st = 2 ∨ st = 4) : b.rotStepTo k st = b.modPort k (fun p => { p with rotStep := some (st, b.now) }) := by
  obtain rfl | rfl := hst <;> rfl

/-- A rotation that no CALIBRATE asked for ends alone. -/
theorem Block.rotEnd_alone {ok : Bool} (hcal : (b.port k).calLeft = 0) : b.rotEnd k ok =
    let c := b.modPort k (fun p => { p with rotStep := none, prop := none, mapAck := false, rotLane := (p.rotLane + 1) % 16, calLeft := p.calLeft - 1 })
    if ok then c.bump (passAdp k) 13 1 else c.event (passAdp k) 0x28 none (detLink (passAdp k) 1 (b.port k).rotLane 0) := by
  unfold rotEnd
  dsimp only
  rw [hcal, if_pos rfl]

theorem Block.rotFail_of_idle (hrot : (b.port k).rotStep = none) : b.rotFail k = b := by
  unfold rotFail
  dsimp only
  rw [hrot]

/-- A rotation that fails while it calibrates is reported, and the map before it proposed. -/
theorem Block.rotFail_rests {t : Nat} (hxy : (x, y) = (b.port k).rotLanes) (hrot : (b.port k).rotStep = some (4, t)) (hcal : (b.port k).calLeft = 0)
    (hdiff : laneBytes (rotMap (b.port k).mapTx 6 (b.port k).rotLane x y) ≠ laneBytes (b.port k).mapTx) : let z := b.rotFail k
    (z.port k).rotStep = some (7, z.now) ∧ (z.port k).mapTx = (b.port k).mapTx ∧
    (z.port k).prop.map (·.1) = some (laneBytes (rotMap (b.port k).mapTx 6 (b.port k).rotLane x y)) ∧ Raised b z (passAdp k) 0x28 0 := by
  have hrest : (b.port k).restMap = rotMap (b.port k).mapTx 6 (b.port k).rotLane x y := by
    unfold Pass.restMap
    rw [hrot]
    dsimp only
    rw [← hxy]
    rfl
  obtain ⟨c, hc⟩ : ∃ c, c = b.rotEnd k false := ⟨_, rfl⟩
  have hfail : b.rotFail k = (c.modPort k (fun p => { p with rotStep := some (7, c.now) })).propose k (rotMap (b.port k).mapTx 6 (b.port k).rotLane x y) := by
    unfold rotFail
    dsimp only
    rw [hrot, hrest, ← hc, if_neg (by simpa using hdiff)]
    rfl
  rw [rotEnd_alone hcal] at hc
  have hport : (c.port k).mapTx = (b.port k).mapTx := by
    rw [hc, if_neg (by decide), (event_reads ..).2.2.2.1, modPort_port]
  have hraised : Raised b c (passAdp k) 0x28 0 := hc ▸ event_raised_from (by simp [kindSev]) rfl
  intro z
  rw [show z = _ from hfail, propose_port, modPort_port]
  exact ⟨rfl, hport, rfl, hraised.of_wsh rfl rfl⟩

/-! ### A map comes into force (09 R263, R268) -/

/-- The map of step 1 in force: the compare begins. -/
theorem Block.mapApplies_compares {m : List Nat} {u t : Nat} (hprop : (b.port k).prop = some (m, u)) (hrot : (b.port k).rotStep = some (1, t)) :
    b.mapApplies k = (b.modPort k (fun p => { p with mapTx := ofLaneBytes m, prop := none, mapAck := false })).modPort k
      (fun p => { p with rotStep := some (2, b.now) }) := by
  unfold mapApplies
  dsimp only
  rw [hprop]
  dsimp only
  rw [hrot]
  rfl

/-- The last map of a rotation in force: the rotation is over, and the next is that of the next lane. -/
theorem Block.mapApplies_ends {m : List Nat} {u t : Nat} (hprop : (b.port k).prop = some (m, u)) (hrot : (b.port k).rotStep = some (6, t))
    (hcal : (b.port k).calLeft = 0) : let z := b.mapApplies k
    (z.port k).rotStep = none ∧ (z.port k).rotLane = ((b.port k).rotLane + 1) % 16 ∧ (z.port k).mapTx = ofLaneBytes m ∧ z.wsh = b.wsh := by
  obtain ⟨c, hc⟩ : ∃ c, c = b.modPort k (fun p => { p with mapTx := ofLaneBytes m, prop := none, mapAck := false }) := ⟨_, rfl⟩
  have happly : b.mapApplies k = c.rotEnd k true := by
    unfold mapApplies
    dsimp only
    rw [hprop]
    dsimp only
    rw [hrot, hc]
    rfl
  have hport : c.port k = { b.port k with mapTx := ofLaneBytes m, prop := none, mapAck := false } := by rw [hc, modPort_port]
  have hwsh : c.wsh = b.wsh := by rw [hc]; rfl
  intro z
  rw [show z = _ from happly, rotEnd_alone (by rw [hport, hcal])]
  simp [hport, hwsh]

/-- The ALIGN frame that a port sends: its number, its map, and the map proposed (09 R268). -/
def Block.alignFrame (b : Block) (k : Nat) : Frame :=
  let p := b.port k
  let (pr, n) := p.prop.getD (laneBytes p.mapTx, 0xFFFF)
  plainFrame .align 0 0xFFF (alignCont p.alignTx (laneBytes p.mapTx) pr n p.ackDue p.shadowOk (b.link (passAdp k)).suspects.head?)

/-- An ALIGN frame with the number for which a map was proposed: with MAPACK the map is in force, without it it is proposed again. -/
theorem Block.sendAlign_decides {mp : List Nat} (hk : k < 8) (hprop : (b.port k).prop = some (mp, ((b.port k).alignTx + 1) % 65536)) :
    let c := b.modPort k (fun p => { p with alignTx := (p.alignTx + 1) % 65536 })
    let d := if (b.port k).mapAck then c.mapApplies k else c.propose k (ofLaneBytes mp)
    ∃ fr, (b.sendAlign k).farOut = .frame k fr :: d.farOut ∧ fr.ty = .align ∧ (b.sendAlign k).port k = { d.port k with sinceAlign := 0 } ∧
      (b.sendAlign k).wsh = d.wsh := by
  intro c d
  have hsend : b.sendAlign k = (d.putFrame (passAdp k) (d.alignFrame k)).modPort k (fun p => { p with sinceAlign := 0 }) := by
    have hport : c.port k = { b.port k with alignTx := ((b.port k).alignTx + 1) % 65536 } := modPort_port ..
    unfold sendAlign
    dsimp only
    rw [show b.modPort k _ = c from rfl, hport, hprop]
    dsimp only
    rw [if_neg (by simp)]
    rfl
  obtain ⟨hw, hfar, hport⟩ := putFrame_sendsPass (b := d) (fr := d.alignFrame k) hk
  rw [hsend, modPort_port, hport]
  exact ⟨_, hfar, rfl, rfl, hw .wsh (by decide)⟩

/-- The turn of a Pass port that owes an ALIGN frame, with nothing to bring into the mesh (09 R266). -/
theorem Block.linkTurn_aligns (hk : k < 8) (hclk : (b.ford (.passPort k)).stopped = false) (hdue : 27 ≤ (b.port k).sinceAlign)
    (htakes : b.takesFrames (passAdp k) = true) (hon : b.domSt (passAdp k) = 0) (hins : (b.elem (passAdp k)).ins = []) :
    b.linkTurn (passAdp k) = b.sendAlign k := by
  have hserve : b.passNiServe (passAdp k) = b := by
    have hrx : rxElem (passNi (locOf (passAdp k) - 408)) = passAdp k := by interval_cases k <;> rfl
    rw [passNiServe, isPass_passAdp hk, if_pos rfl]
    exact pump_of_ins_nil (by rw [hrx, hins])
  have hingress : b.adpIngress (passAdp k) = b := by simp [adpIngress, ranked, hins]
  have hclk' : b.hclkOff (passAdp k) = false := by
    have hdie : isDieAdp (passAdp k) = false := by interval_cases k <;> rfl
    rw [hclkOff, hdie, Bool.false_and]
  unfold linkTurn
  rw [portOf_passAdp hk, isPass_passAdp hk, hclk', hclk, hserve, hingress, ite_self, if_neg (by decide), if_pos (by simp [hdue, htakes, hon])]

/-! ### ALIGN is received (09 R268, R271) -/

/-- The advisory is no matter of the lanes. -/
theorem Block.advise_port : ∃ st since attn act, (b.advise k).port k = { b.port k with st := st, since := since, attn := attn, act := act } := by
  unfold advise portTo
  split_ifs
  · exact ⟨_, _, _, _, rfl⟩
  · exact ⟨_, _, _, _, modPort_port ..⟩
  · exact ⟨_, _, _, _, rfl⟩

/-- What a port does for the compare and the suspect lane that an ALIGN frame reports. -/
def Block.actsOnAlign (b : Block) (k : Nat) (shadow : Bool) (suspect : Option Nat) : Block :=
  let b := if shadow then b.shadowPassed k else b
  match suspect with
  | some l => if laneCode (b.port k).mapTx l ≤ 0x10 || laneCode (b.port k).mapTx l ≥ 0x20 then b.laneRepair k l else b
  | none => b

/-- What a port takes from an ALIGN frame that proposes nothing, before it acts on it: the far map and number, and MAPACK. -/
theorem Block.alignIn_notes {num : Nat} {m : List Nat} {ack shadow : Bool} {suspect : Option Nat} (hruns : (b.link (passAdp k)).runs = true)
    (hopen : b.linkStopped (passAdp k) = false) : ∃ c : Block, Within [.links, .ports] b c ∧ (b.port k).SameLanes (c.port k) ∧
      (c.port k).mapAck = ((b.port k).mapAck || (ack && (b.port k).prop.isSome)) ∧ (c.port k).mapRx = ofLaneBytes m ∧ (c.port k).alignRx = num ∧
      b.alignIn k num 0xFFFF m m ack shadow suspect = c.actsOnAlign k shadow suspect := by
  unfold alignIn
  rw [if_neg (by simp [hruns, hopen])]
  extract_lets due b1 b2 c
  obtain ⟨st, since, attn, act, hport⟩ := advise_port (b := b2) (k := k)
  have hport2 : b2.port k = _ := (modLink_port_of ..).trans (modPort_port ..)
  rw [hport2] at hport
  rw [show b2.advise k = c from rfl] at hport
  refine ⟨c, by simp [c, b2, b1], ?_, ?_, ?_, ?_, rfl⟩
  · rw [hport]
    exact ⟨rfl, rfl, rfl, rfl, rfl⟩
  all_goals rw [hport]

/-- A suspect lane that is an idle spare is retired in profile 11 (13 R374). -/
theorem Block.laneRepair_retires {l : Nat} (hrot : (b.port k).rotStep = none) (hidle : laneCode (b.port k).mapTx l = 0x10)
    (hprofile : b.effProfile = 11) : b.laneRepair k l = (b.modPort k (fun p => { p with rotStep := some (8, b.now) })).propose k
      ((ofLaneBytes (laneBytes (b.port k).mapTx)).set l 0x11) := by
  unfold laneRepair
  dsimp only
  rw [Pass.restMap_of_idle hrot, hidle, rotFail_of_idle hrot, if_pos (by decide), if_neg (by simp [hprofile, hrot])]

/-- A suspect lane that carries a logical one is replaced by an idle spare for good (09 R271). -/
theorem Block.laneRepair_replaces {l sp : Nat} (hrot : (b.port k).rotStep = none) (hcarries : laneCode (b.port k).mapTx l < 16)
    (hspare : idleSpare (b.port k).mapTx = some sp) : b.laneRepair k l = (b.modPort k (fun p => { p with rotStep := some (8, b.now) })).propose k
      (((ofLaneBytes (laneBytes (b.port k).mapTx)).set sp (laneCode (b.port k).mapTx l)).set l 0x11) := by
  unfold laneRepair
  dsimp only
  rw [Pass.restMap_of_idle hrot, rotFail_of_idle hrot, if_neg (by simp; omega), hspare]
  dsimp only
  rw [if_pos (by simp [hcarries, hrot])]

end

/-! ### The commands -/

section
variable {s : State} {k num : Nat} {m : List Nat} {p : Pass} {x y t : Nat} (hk : k < 8) (hp : p = s.blk.port k) (hxy : (x, y) = p.rotLanes)
include hk hp

section
include hxy

theorem laneRotationStart_proposes (hcal : p.calLeft = 0) (hrot : p.rotStep = none) (hready : s.blk.rotReady k = true) :
    Completes (.laneRotationStart k) s (fun b' => (b'.port k).rotStep = some (1, b'.now) ∧ (b'.port k).mapTx = p.mapTx ∧
      (b'.port k).prop = some (laneBytes (rotMap p.mapTx 1 p.rotLane x y), (p.alignTx + 5) % 65536) ∧ b'.farOut = s.blk.farOut) := by
  subst hp
  refine completes_of_on (by simpa [Instr.WellFormed] using hk) (show execLaneRotationStart k s = s.on (.laneRotationStart k) _ from rfl) ?_
  dsimp only
  rw [if_pos hcal]
  obtain ⟨c, hc, hw⟩ := s.blk.elapses ((s.blk.now / (625 * ms) + 1) * (625 * ms))
  rw [← hc]
  have hport : c.port k = s.blk.port k := hw.port (by decide)
  have hready' : c.rotReady k = true := by rwa [Block.rotReady, hport, hw.link (by decide), ← Block.rotReady]
  have hfar : Within [.ports] c (c.rotStepTo k 1) := by simp
  rw [Block.rotFail_of_idle (by rw [hport, hrot]), if_pos hready', hfar .farOut (by decide), hfar .now (by decide),
    Block.rotStepTo_proposes (by rw [hport, hxy]) (.inl rfl), hport]
  exact ⟨rfl, rfl, rfl, hw .farOut (by decide)⟩

theorem passLaneCalibrationDone_proposes (hrot : p.rotStep = some (4, t)) : Completes (.passLaneCalibrationDone k) s (fun b' =>
    (b'.port k).rotStep = some (5, s.blk.now) ∧ (b'.port k).prop.map (·.1) = some (laneBytes (rotMap p.mapTx 5 p.rotLane x y))) := by
  subst hp
  refine completes_of_on (by simpa [Instr.WellFormed] using hk) (show execPassLaneCalibrationDone k s = s.on (.passLaneCalibrationDone k) _ from rfl) ?_
  simp only [hrot]
  rw [Block.rotStepTo_proposes hxy (.inr (.inr rfl))]
  exact ⟨rfl, rfl⟩

theorem passLaneCalibrationLimit_rests (hcal : p.calLeft = 0) (hrot : p.rotStep = some (4, t))
    (hdiff : laneBytes (rotMap p.mapTx 6 p.rotLane x y) ≠ laneBytes p.mapTx) : Completes (.passLaneCalibrationLimit k) s (fun b' =>
      (b'.port k).rotStep = some (7, b'.now) ∧ (b'.port k).mapTx = p.mapTx ∧
      (b'.port k).prop.map (·.1) = some (laneBytes (rotMap p.mapTx 6 p.rotLane x y)) ∧ Raised s.blk b' (passAdp k) 0x28 0) := by
  subst hp
  refine completes_of_on (by simpa [Instr.WellFormed] using hk) (show execPassLaneCalibrationLimit k s = s.on (.passLaneCalibrationLimit k) _ from rfl) ?_
  simp only [hrot]
  obtain ⟨c, hc, hw⟩ := s.blk.elapses (t + 2 * ms)
  rw [← hc]
  have hport : c.port k = s.blk.port k := hw.port (by decide)
  rw [← hport] at hxy hrot hcal hdiff ⊢
  obtain ⟨hstep, hmap, hprop, hraised⟩ := Block.rotFail_rests hxy hrot hcal hdiff
  exact ⟨hstep, hmap, hprop, hraised.of_wsh (hw .wsh (by decide)).symm rfl⟩

end

/-- R270: a compare is confirmed by the receiver, or reported; it moves no lane by itself. -/
theorem shadowCompareDone_compares {c : Nat} (hcopy : (laneBytes p.mapRx).find? (fun c => 0x20 ≤ c) = some c) :
    Completes (.shadowCompareDone k true) s (fun b' => b'.port k = { p with shadowOk := true } ∧ b'.wsh = s.blk.wsh) ∧
    Completes (.shadowCompareDone k false) s (fun b' => b'.port k = p ∧ Raised s.blk b' (passAdp k) 0x28 0) := by
  subst hp
  refine ⟨completes_of_on (by simpa [Instr.WellFormed] using hk) (show execShadowCompareDone k true s = s.on (.shadowCompareDone k true) _ from rfl) ?_,
    completes_of_on (by simpa [Instr.WellFormed] using hk) (show execShadowCompareDone k false s = s.on (.shadowCompareDone k false) _ from rfl) ?_⟩
  all_goals
    rw [hcopy]
    dsimp only
  · exact ⟨Block.modPort_port .., rfl⟩
  · exact ⟨(Block.event_reads ..).2.2.2.1, Block.event_raised_of (by simp [kindSev])⟩

/-- 13 R374: in profile 11 an idle spare that fails its pattern test is suspect. -/
theorem shadowCompareDone_tests {sp : Nat} (hnone : (laneBytes p.mapRx).find? (fun c => 0x20 ≤ c) = none) (hspare : idleSpare p.mapRx = some sp)
    (hprofile : s.blk.effProfile = 11) (hnew : (s.blk.link (passAdp k)).suspects.contains sp = false) :
    Completes (.shadowCompareDone k true) s (fun b' => b' = s.blk) ∧
    Completes (.shadowCompareDone k false) s (fun b' =>
      (b'.link (passAdp k)).suspects = (s.blk.link (passAdp k)).suspects ++ [sp] ∧ Raised s.blk b' (passAdp k) 0x25 0) := by
  subst hp
  refine ⟨completes_of_on (by simpa [Instr.WellFormed] using hk) (show execShadowCompareDone k true s = s.on (.shadowCompareDone k true) _ from rfl) ?_,
    completes_of_on (by simpa [Instr.WellFormed] using hk) (show execShadowCompareDone k false s = s.on (.shadowCompareDone k false) _ from rfl) ?_⟩
  all_goals
    rw [hnone]
    dsimp only
    rw [hspare]
    dsimp only
  · rw [Bool.true_or, Bool.true_or, if_pos rfl]
  · rw [if_neg (by simpa [hprofile] using hnew), (Block.event_reads ..).2.2.1, Block.modLink_link]
    exact ⟨rfl, Block.event_raised_from (by simp [kindSev]) rfl⟩

section
variable (hnum : num < 65536) (hm : m.length = 18) (hruns : (s.blk.link (passAdp k)).runs = true) (hopen : s.blk.linkStopped (passAdp k) = false)
include hnum hm hruns hopen

/-- An ALIGN frame that proposes nothing: what the port takes from it, and then the compare and the suspect lane that it reports. -/
theorem alignReceipt_acts {ack shadow : Bool} {suspect : Option Nat} {P : Block → Prop} (hsuspect : suspect.getD 0 < 18)
    (h : ∀ c : Block, Within [.links, .ports] s.blk c → p.SameLanes (c.port k) → (c.port k).mapAck = (p.mapAck || (ack && p.prop.isSome)) →
      (c.port k).mapRx = ofLaneBytes m → (c.port k).alignRx = num →
      P (c.actsOnAlign k shadow suspect)) : Completes (.alignReceipt k num 0xFFFF m m ack shadow suspect) s P := by
  subst hp
  refine completes_of_on (by simp [Instr.WellFormed, hk, hnum, hm, hsuspect])
    (show execAlignReceipt k num 0xFFFF m m ack shadow suspect s = s.on (.alignReceipt k num 0xFFFF m m ack shadow suspect) _ from rfl) ?_
  obtain ⟨c, hw, hlanes, hack, hrx, hnum', heq⟩ := Block.alignIn_notes (num := num) (m := m) (ack := ack) (shadow := shadow) (suspect := suspect) hruns hopen
  rw [heq]
  exact h c hw hlanes hack hrx hnum'

theorem alignReceipt_acks {mp : List Nat} {u : Nat} (hprop : p.prop = some (mp, u)) :
    Completes (.alignReceipt k num 0xFFFF m m true false none) s (fun b' =>
      (b'.port k).mapAck = true ∧ (b'.port k).rotStep = p.rotStep ∧ (b'.port k).mapTx = p.mapTx ∧ (b'.port k).prop = p.prop ∧
      (b'.port k).mapRx = ofLaneBytes m ∧ (b'.port k).alignRx = num) := by
  refine alignReceipt_acts hk hp hnum hm hruns hopen (by decide) fun c _ ⟨hmap, _, hrot, hprop', _⟩ hack hrx hnum' => ?_
  rw [hprop, Option.isSome_some, Bool.and_self, Bool.or_true] at hack
  exact ⟨hack, hrot, hmap, hprop', hrx, hnum'⟩

/-- R270: SHADOWOK moves the lane to the spare. -/
theorem alignReceipt_moves (hxy : (x, y) = p.rotLanes) (hrot : p.rotStep = some (2, t)) (hprop : p.prop = none) :
    Completes (.alignReceipt k num 0xFFFF m m false true none) s (fun b' => (b'.port k).rotStep = some (3, s.blk.now) ∧
      (b'.port k).prop.map (·.1) = some (laneBytes (rotMap p.mapTx 3 p.rotLane x y))) := by
  refine alignReceipt_acts hk hp hnum hm hruns hopen (by decide) fun c hw hlanes _ _ _ => ?_
  have hsame := hlanes
  obtain ⟨hmap, hlane, hrot', hprop', -⟩ := hlanes
  have hpassed : c.shadowPassed k = c.rotStepTo k 3 := by
    unfold Block.shadowPassed
    dsimp only
    rw [hrot', hrot, hprop', hprop]
    rfl
  rw [show c.actsOnAlign k true none = c.shadowPassed k from rfl, hpassed,
    Block.rotStepTo_proposes (x := x) (y := y) (by rw [Pass.rotLanes_of_sameLanes hsame, hxy]) (.inr (.inl rfl)), hmap, hlane, hw .now (by decide)]
  exact ⟨rfl, rfl⟩

/-- R271, 13 R374: a suspect lane is replaced for good, an idle spare retired. -/
theorem alignReceipt_repairs {l : Nat} (hl : l < 18) (hrot : p.rotStep = none) :
    (laneCode p.mapTx l = 0x10 → s.blk.effProfile = 11 → Completes (.alignReceipt k num 0xFFFF m m false false (some l)) s (fun b' =>
      (b'.port k).rotStep = some (8, s.blk.now) ∧ (b'.port k).prop.map (·.1) = some (laneBytes ((ofLaneBytes (laneBytes p.mapTx)).set l 0x11)))) ∧
    (∀ sp, laneCode p.mapTx l < 16 → idleSpare p.mapTx = some sp → Completes (.alignReceipt k num 0xFFFF m m false false (some l)) s (fun b' =>
      (b'.port k).rotStep = some (8, s.blk.now) ∧
      (b'.port k).prop.map (·.1) = some (laneBytes (((ofLaneBytes (laneBytes p.mapTx)).set sp (laneCode p.mapTx l)).set l 0x11)))) := by
  refine ⟨fun hidle hprofile => ?_, fun sp hcarries hspare => ?_⟩
  all_goals
    refine alignReceipt_acts hk hp hnum hm hruns hopen hl fun c hw ⟨hmap, _, hrot', _, _⟩ _ _ _ => ?_
    rw [Block.actsOnAlign, if_neg Bool.false_ne_true, hmap]
    rw [hrot] at hrot'
  · have hprofile' : c.effProfile = 11 := by rw [Block.effProfile, hw .lead (by decide), ← Block.effProfile, hprofile]
    rw [if_pos (by simp [hidle]), Block.laneRepair_retires hrot' (by rw [hmap, hidle]) hprofile', Block.propose_port, Block.modPort_port, hmap,
      hw .now (by decide)]
    exact ⟨rfl, rfl⟩
  · rw [if_pos (by simp; omega), Block.laneRepair_replaces hrot' (by rwa [hmap]) (by rwa [hmap]), Block.propose_port, Block.modPort_port, hmap,
      hw .now (by decide)]
    exact ⟨rfl, rfl⟩

end

/-- R263, R268, R270: the ALIGN frame with the number proposed. With MAPACK its map is in force, and the compare begins, or the rotation is over;
without, it is proposed again. -/
theorem arbitration_aligns {mp : List Nat} (hclk : (s.blk.ford (.passPort k)).stopped = false) (hdue : 27 ≤ p.sinceAlign)
    (htakes : s.blk.takesFrames (passAdp k) = true) (hon : s.blk.domSt (passAdp k) = 0) (hins : (s.blk.elem (passAdp k)).ins = [])
    (hprop : p.prop = some (mp, (p.alignTx + 1) % 65536)) :
    (p.mapAck = true → p.rotStep = some (1, t) → Completes (.arbitration (passAdp k)) s (fun b' =>
      (b'.port k).rotStep = some (2, s.blk.now) ∧ (b'.port k).mapTx = ofLaneBytes mp ∧ (b'.port k).prop = none ∧
      ∃ fr, b'.farOut = .frame k fr :: s.blk.farOut ∧ fr.ty = .align)) ∧
    (p.mapAck = true → p.calLeft = 0 → p.rotStep = some (6, t) → Completes (.arbitration (passAdp k)) s (fun b' => (b'.port k).rotStep = none ∧
      (b'.port k).rotLane = (p.rotLane + 1) % 16 ∧ (b'.port k).mapTx = ofLaneBytes mp ∧ b'.wsh = s.blk.wsh)) ∧
    (p.mapAck = false → Completes (.arbitration (passAdp k)) s (fun b' => (b'.port k).mapTx = p.mapTx ∧
      (b'.port k).prop = some (laneBytes (ofLaneBytes mp), ((p.alignTx + 1) % 65536 + 5) % 65536) ∧ (b'.port k).sinceAlign = 0)) := by
  subst hp
  have hadp : isRouter (passAdp k) = false ∧ (Instr.arbitration (passAdp k)).WellFormed = true := by interval_cases k <;> exact ⟨rfl, rfl⟩
  obtain ⟨hrouter, hwf⟩ := hadp
  obtain ⟨c, hc⟩ : ∃ c, c = s.blk.modPort k (fun p => { p with alignTx := (p.alignTx + 1) % 65536 }) := ⟨_, rfl⟩
  obtain ⟨fr, hfar, hty, hport, hwsh⟩ := Block.sendAlign_decides hk hprop
  have hdone : ∀ P : Block → Prop, P (s.blk.sendAlign k) → Completes (.arbitration (passAdp k)) s P := fun P hP => by
    refine completes_of_on hwf (show execArbitration (passAdp k) s = s.on (.arbitration (passAdp k)) _ from rfl) ?_
    rwa [hrouter, if_neg Bool.false_ne_true, Block.linkTurn_aligns hk hclk hdue htakes hon hins]
  rw [← hc] at hfar hport hwsh
  have hcport : c.port k = { s.blk.port k with alignTx := ((s.blk.port k).alignTx + 1) % 65536 } := by rw [hc, Block.modPort_port]
  have hcw : Within [.ports] s.blk c := by simp [hc]
  have hcprop : (c.port k).prop = _ := (congrArg Pass.prop hcport).trans hprop
  refine ⟨fun hack hrot => hdone _ ?_, fun hack hcal hrot => hdone _ ?_, fun hack => hdone _ ?_⟩
  · rw [hack, if_pos rfl, Block.mapApplies_compares hcprop (by rw [hcport, hrot])] at hfar hport
    rw [hport, hfar, Block.modPort_port, Block.modPort_port]
    exact ⟨by rw [hcw .now (by decide)], rfl, rfl, fr, by rw [← hcw .farOut (by decide)]; rfl, hty⟩
  · rw [hack, if_pos rfl] at hport hwsh
    obtain ⟨hnone, hlane, hmap, hquiet⟩ := Block.mapApplies_ends hcprop (by rw [hcport, hrot]) (by rw [hcport, hcal])
    rw [hport, hwsh, hquiet]
    exact ⟨hnone, by rw [hlane, hcport], hmap, hcw .wsh (by decide)⟩
  · rw [hack, if_neg Bool.false_ne_true, Block.propose_port, hcport] at hport
    rw [hport]
    exact ⟨rfl, rfl, rfl⟩

end

/-- Settles O33: each step of a rotation, and the replacement of a lane, by the lemma of the command that brings it. -/
theorem laneRotation : Obligations.LaneRotation := by
  unfold Obligations.LaneRotation
  intro s k num m p x y t hk hnum hm hp hxy hruns hopen hcal
  refine ⟨laneRotationStart_proposes hk hp hxy hcal, fun mp u _ => alignReceipt_acks hk hp hnum hm hruns hopen, fun mp hclk hdue htakes hon hins hprop => ?_,
    alignReceipt_moves hk hp hnum hm hruns hopen hxy, fun c => shadowCompareDone_compares hk hp, fun sp => shadowCompareDone_tests hk hp,
    fun l hl hrot _ => (alignReceipt_repairs hk hp hnum hm hruns hopen hl hrot).1, passLaneCalibrationDone_proposes hk hp hxy,
    passLaneCalibrationLimit_rests hk hp hxy hcal, fun l sp hl hrot _ => (alignReceipt_repairs hk hp hnum hm hruns hopen hl hrot).2 sp⟩
  obtain ⟨hcompares, hends, hagain⟩ := arbitration_aligns (t := t) hk hp hclk hdue htakes hon hins hprop
  exact ⟨hcompares, fun hack => hends hack hcal, hagain⟩

end Sys2Proof.Machine
end

section
/-! PROOFS. Joining a package over a Pass port, and membership (spec/09 R272, R274, R276; spec/01 R35). -/

namespace Sys2Proof.Machine

open Block (Within)

section
variable {b b' : Block} {k : Nat} {x : FarMember}

/-! ### The time leader (09 R276) -/

/-- The package knows itself for the time leader exactly if the election gives it. -/
def Block.KnowsLeader (b : Block) : Prop := b.time.leader = (b.leaderPkg == b.pkgid)

/-- The election looks at the package's own priority and ID and at the members. -/
theorem Block.leaderPkg_congr (hprio : b'.time.prio = b.time.prio) (hid : b'.pkgid = b.pkgid) (hmem : b'.members = b.members) :
    b'.leaderPkg = b.leaderPkg := by
  simp only [leaderPkg, electors, hprio, hid, hmem]

theorem Block.exchangeBad_leader : (b.exchangeBad k).time.leader = b.time.leader ∧ (b.exchangeBad k).time.prio = b.time.prio := by
  rw [exchangeBad_counts.1]
  exact ⟨rfl, rfl⟩

/-- The choice of the parent leaves the election as it is. -/
theorem Block.chooseParent_leader : b.chooseParent.time.leader = b.time.leader ∧ b.chooseParent.time.prio = b.time.prio := by
  unfold chooseParent
  extract_lets l far near p c
  have hc : c.time.leader = b.time.leader ∧ c.time.prio = b.time.prio := by
    simp only [c]
    split
    · exact exchangeBad_leader
    · exact ⟨rfl, rfl⟩
  split
  · exact ⟨rfl, rfl⟩
  · exact hc

theorem Block.elect_knows : b.elect.KnowsLeader := by
  obtain ⟨c, hc⟩ : ∃ c, c = b.modTime (fun t => { t with
    leader := b.leaderPkg == b.pkgid, ppsLast := if b.leaderPkg == b.pkgid then t.ppsLast else none }) := ⟨_, rfl⟩
  have helect : b.elect = c.chooseParent := by rw [hc]; rfl
  have hw : Within [.elems, .time, .wsh] b b.elect := by simp
  obtain ⟨hleader, hprio⟩ := chooseParent_leader (b := c)
  rw [← helect, hc] at hleader hprio
  rw [KnowsLeader, leaderPkg_congr hprio (hw .pkgid (by decide)) (hw .members (by decide)), hw .pkgid (by decide), hleader]
  rfl

/-- What touches neither the time keeping nor the members leaves that as it is. -/
theorem Block.Within.knowsLeader {ps : List Part} (hw : Within ps b b') (h : b.KnowsLeader) (htime : .time ∉ ps) (hid : .pkgid ∉ ps)
    (hmem : .members ∉ ps) : b'.KnowsLeader := by
  have htime' : b'.time = b.time := hw .time htime
  rw [KnowsLeader, leaderPkg_congr (by rw [htime']) (hw .pkgid hid) (hw .members hmem), hw .pkgid hid, htime']
  exact h

/-! ### A change of the table (09 R272, R276; 01 R35) -/

theorem Block.portTo_port_ne {j st : Nat} (hj : k ≠ j) : (b.portTo j st).port k = b.port k := by
  unfold portTo
  split
  · rfl
  · exact modPort_port_ne _ _ hj

theorem Block.rookHold_port_ne {j : Nat} (hj : k ≠ j) : (b.rookHold j).port k = b.port k := by
  have hw : ∀ (c : Block) p st res, ((c.portEvent j 0x55 0).finishAll p st res).port k = c.port k := fun c p st res =>
    (show Within [.elems, .wsh, .rings, .vecs, .lead, .hostOut] c _ by simp).port (by decide)
  rw [rookHold, hw, modPort_port_ne _ _ hj, portTo_port_ne hj]

theorem Block.wantCommit_port {why : Nat} {scope : Option Nat} : (b.wantCommit why scope).port k = b.port k :=
  (show Within [.elems, .stws, .gold, .lead] b (b.wantCommit why scope) by simp).port (by decide)

theorem Block.wantOpen_port_ne {j : Nat} (hj : k ≠ j) : (b.wantOpen j).port k = b.port k := by
  unfold wantOpen
  extract_lets c
  have hc : c.port k = b.port k := modPort_port_ne _ _ hj
  split
  · rw [wantCommit_port, hc]
  · exact hc

/-- The size of the system is no matter of a port that is joining and that it has not barred. -/
theorem Block.watchRook_port (hst : (b.port k).st = 1) (hrook : (b.port k).rook = false) : b.watchRook.port k = b.port k := by
  have hfold : ∀ (l : List Nat) (c : Block), c.port k = b.port k → (l.foldl (fun (b : Block) k =>
      let p := b.port k
      if b.rookBarred k && p.st ∈ [2, 3, 4, 7, 9] then (b.rookHold k).wantCommit 7 none
      else if !b.rookBarred k && p.rook && p.st = 8 then
        ((b.portTo k 1).modPort k (fun p => { p with rook := false, refusal := 0, step := 7 })).wantOpen k
      else b) c).port k = b.port k := by
    intro l
    induction l with
    | nil => exact fun c hc => hc
    | cons j l ih =>
      intro c hc
      refine ih _ ?_
      by_cases hj : k = j
      · subst hj
        dsimp only
        rw [hc, hst, hrook, if_neg (by simp), if_neg (by simp), hc]
      · dsimp only
        split
        · rw [wantCommit_port, rookHold_port_ne hj, hc]
        split
        · rw [wantOpen_port_ne hj, modPort_port_ne _ _ hj, portTo_port_ne hj, hc]
        · exact hc
  exact hfold _ b rfl

/-- After a change of the table the leader is known, and the members are those of the table. -/
theorem Block.tableChanged_elects {own : Bool} : (b.tableChanged own).KnowsLeader ∧ (b.tableChanged own).members = b.members ∧
    (b.tableChanged own).pkgid = b.pkgid := by
  have hrest : Within [.elems, .ports, .stws, .gold, .wsh, .rings, .vecs, .lead, .hostOut, .farOut] b.elect (b.tableChanged own) := by
    simp [tableChanged]
  have hw : Within [.elems, .ports, .time, .stws, .gold, .wsh, .rings, .vecs, .lead, .hostOut, .farOut] b (b.tableChanged own) := by simp
  exact ⟨hrest.knowsLeader elect_knows (by decide) (by decide) (by decide), hw .members (by decide), hw .pkgid (by decide)⟩

theorem Block.tableChanged_port {own : Bool} (hst : (b.port k).st = 1) (hrook : (b.port k).rook = false) :
    (b.tableChanged own).port k = b.port k := by
  have hport : (b.elect.spreadTable own).port k = b.port k :=
    (show Within [.elems, .time, .wsh, .farOut] b (b.elect.spreadTable own) by simp).port (by decide)
  rw [tableChanged, watchRook_port (by rw [hport, hst]) (by rw [hport, hrook]), hport]

/-! ### Tables that are taken over (09 R272, R274) -/

theorem rowOver_row {o : Option Member} : (rowOver x o).serial = x.serial ∧ (rowOver x o).prio = x.prio := by
  cases o <;> exact ⟨rfl, rfl⟩

/-- A row that is taken over. -/
theorem Block.takeTable_row {whole : Bool} (hx : x.id ≠ b.pkgid) : ∃ m, (b.takeTable [x] whole).members.find x.id = some m ∧
    m.serial = x.serial ∧ m.prio = x.prio := by
  have hfind : ∃ o, (b.takeTable [x] whole).members.find x.id = some (rowOver x o) := by
    unfold takeTable
    dsimp only [List.foldl_cons, List.foldl_nil]
    rw [if_neg hx, SMap.find_set_self]
    exact ⟨_, rfl⟩
  obtain ⟨o, hfind⟩ := hfind
  exact ⟨_, hfind, rowOver_row⟩

/-- A row that the table taken over does not list. -/
theorem Block.takeTable_other {whole : Bool} {j : Nat} (hj : j ≠ x.id) (hown : j ≠ b.pkgid) :
    (b.takeTable [x] whole).members.find j = if whole then none else b.members.find j := by
  have hkept := SMap.find_filter (fun i => !whole || i = b.pkgid || [x].any (fun x => x.id == i)) b.members j
  have hlist : (!whole || decide (j = b.pkgid) || [x].any (fun x => x.id == j)) = !whole := by
    simp [hown, Ne.symm hj]
  rw [hlist] at hkept
  unfold takeTable
  dsimp only [List.foldl_cons, List.foldl_nil]
  split
  · exact hkept.trans (by cases whole <;> rfl)
  · rw [SMap.find_set_ne _ _ hj]
    exact hkept.trans (by cases whole <;> rfl)

/-- The far package of a join is listed as reachable. -/
theorem Block.mergeMembers_row {q : Nat} (hx : x.id ≠ b.pkgid) : ∃ m, (b.mergeMembers [x] q).members.find x.id = some m ∧
    m.serial = x.serial ∧ m.prio = x.prio ∧ m.reach = true := by
  obtain ⟨m, hfind, hser, hprio⟩ := takeTable_row (whole := false) hx
  have hid : (b.takeTable [x] false).pkgid = b.pkgid := rfl
  refine ⟨{ m with reach := true }, ?_, hser, hprio, rfl⟩
  unfold mergeMembers
  dsimp only
  rw [SMap.find_mapVals, hfind, hid]
  simp [hx]

/-- A join is refused for one of two kinds (09 R274). -/
theorem Block.joinRefusal_kind {far : List FarMember} {kind : Nat} (h : b.joinRefusal k far = some kind) : kind = 0x52 ∨ kind = 0x53 := by
  unfold joinRefusal at h
  dsimp only at h
  split_ifs at h <;> simp at h <;> omega

/-! ### A join (09 R274) -/

section
variable {d : Nat} {far : List FarMember} (hst : (b.port k).st = 1) (hstep : (b.port k).step = 6) (hactive : (b.link (passAdp k)).st = .active)
  (hboot : b.lead.bootRom = false) (hrest : b.lead.restarting = false)
include hst hstep hactive hboot hrest

/-- A join over a cable that is too long waits, and is reported. -/
theorem Block.join_late (hd : 1920 < d) : let z := b.join k d far
    (z.port k).refusal = 0x54 ∧ (z.port k).st = 1 ∧ z.members = b.members ∧ Raised b z (passAdp k) 0x54 1 := by
  have hjoin : ∃ c sel st res, Within [.farOut] b c ∧ b.join k d far =
      ((c.modPort k (fun p => { p with refusal := 0x54 })).event (passAdp k) 0x54 none (detT d)).finishAll sel st res := by
    unfold join
    rw [if_neg (by simp [hst]), if_neg (by simp [hst, hstep, hactive, hboot, hrest]), if_pos hd]
    exact ⟨_, _, _, _, (within_farOut (by decide)).2 (.refl b), rfl⟩
  obtain ⟨c, sel, st, res, hc, hjoin⟩ := hjoin
  obtain ⟨c1, hc1⟩ : ∃ c1, c1 = c.modPort k (fun p => { p with refusal := 0x54 }) := ⟨_, rfl⟩
  have hw1 : Within [.ports, .farOut] b c1 := (Within.iff (show Within [.ports] c c1 by simp [hc1]) (by decide)).2 ((Within.iff hc (by decide)).2 (.refl b))
  have hport1 : c1.port k = { b.port k with refusal := 0x54 } := by rw [hc1, modPort_port, hc.port (by decide)]
  rw [← hc1] at hjoin
  intro z
  have hz : Within [.rings, .vecs, .lead, .hostOut] (c1.event (passAdp k) 0x54 none (detT d)) z := by simp [z, hjoin]
  have hw : Within [.elems, .wsh] c1 (c1.event (passAdp k) 0x54 none (detT d)) := by simp
  rw [hz.port (by decide), hw.port (by decide), hport1]
  refine ⟨rfl, hst, ?_, (event_raised_from (by simp [kindSev]) (hw1 .wsh (by decide)).symm).of_wsh rfl (hz .wsh (by decide))⟩
  rw [hz .members (by decide), hw .members (by decide), hw1 .members (by decide)]

/-- A join that the tables refuse holds the port, and is reported with its kind. -/
theorem Block.join_refused {kind : Nat} (href : b.wsh.refLost = false) (hd : d ≤ 1920) (hkind : b.joinRefusal k far = some kind) :
    let z := b.join k d far
    (z.port k).st = 8 ∧ (z.port k).refusal = kind ∧ z.members = b.members ∧ Raised b z (passAdp k) kind 1 := by
  have hjoin : ∃ c sel st res, Within [.farOut] b c ∧ b.join k d far =
      (((c.portTo k 8).modPort k (fun p => { p with refusal := kind })).portEvent k kind kind).finishAll sel st res := by
    unfold join
    rw [if_neg (by simp [hst]), if_neg (by simp [hst, hstep, hactive, hboot, hrest]), if_neg (by omega),
      show ∀ l, Block.joinRefusal { b with farOut := l } k far = some kind from fun _ => hkind]
    exact ⟨_, _, _, _, (within_farOut (by decide)).2 (.refl b), rfl⟩
  obtain ⟨c, sel, st, res, hc, hjoin⟩ := hjoin
  obtain ⟨c1, hc1⟩ : ∃ c1, c1 = (c.portTo k 8).modPort k (fun p => { p with refusal := kind }) := ⟨_, rfl⟩
  have hw1 : Within [.ports] c c1 := by simp [hc1]
  have hport1 : (c1.port k).st = 8 ∧ (c1.port k).refusal = kind := by
    rw [hc1, portTo_enters (by rw [hc .wsh (by decide), href]), modPort_port, modPort_port]
    exact ⟨rfl, rfl⟩
  have hsev : kindSev (passAdp k) kind = 1 := by
    obtain rfl | rfl := joinRefusal_kind hkind <;> simp [kindSev]
  intro z
  have hz : Within [.rings, .vecs, .lead, .hostOut] (c1.portEvent k kind kind) z := by simp [z, hjoin, hc1]
  have hw : Within [.elems, .wsh] c1 (c1.portEvent k kind kind) := by simp
  rw [hz.port (by decide), hw.port (by decide)]
  refine ⟨hport1.1, hport1.2, ?_, (event_raised_from hsev ?_).of_wsh rfl (hz .wsh (by decide))⟩
  · rw [hz .members (by decide), hw .members (by decide), hw1 .members (by decide), hc .members (by decide)]
  · rw [hw1 .wsh (by decide), hc .wsh (by decide)]

omit hst hstep hactive hboot hrest in
/-- What ends a join leaves the step of its port. -/
theorem Block.step_kept : ((b.rookHold k).port k).step = (b.port k).step ∧ ((b.portTo k 7).port k).step = (b.port k).step ∧
    ((b.wantOpen k).port k).step = (b.port k).step := by
  have hto : ∀ st, ((b.portTo k st).port k).step = (b.port k).step := fun st => by
    unfold portTo
    split
    · rfl
    · rw [modPort_port]
  refine ⟨?_, hto 7, ?_⟩
  · have hw : ∀ (c : Block) sel st res, ((c.portEvent k 0x55 0).finishAll sel st res).port k = c.port k := fun c sel st res =>
      (show Within [.elems, .wsh, .rings, .vecs, .lead, .hostOut] c _ by simp).port (by decide)
    rw [rookHold, hw, modPort_port]
    exact hto 8
  · unfold wantOpen
    extract_lets c
    have hc : (c.port k).step = (b.port k).step := by simp only [c, modPort_port]
    split
    · rw [wantCommit_port, hc]
    · exact hc

/-- A join that is accepted lists the far package, and elects. -/
theorem Block.join_accepted (hd : d ≤ 1920) (hnone : b.joinRefusal k [x] = none) (hx : x.id ≠ b.pkgid) : let z := b.join k d [x]
    (z.port k).step = 7 ∧ z.KnowsLeader ∧ z.pkgid = b.pkgid ∧
    ∃ m, z.members.find x.id = some m ∧ m.serial = x.serial ∧ m.prio = x.prio ∧ m.reach = true := by
  have hjoin : ∃ c q, (b.join k d [x] =
      let c2 := ((c.mergeMembers [x] q).modPort k (fun p => { p with step := 7, refusal := 0, rook := false })).tableChanged true
      if c2.rookBarred k then c2.rookHold k
      else if (b.port k).returning && !(b.port k).openNext then c2.portTo k 7
      else c2.wantOpen k) ∧ Within [.farOut] b c := by
    unfold join
    rw [if_neg (by simp [hst]), if_neg (by simp [hst, hstep, hactive, hboot, hrest]), if_neg (by omega),
      show ∀ l, Block.joinRefusal { b with farOut := l } k [x] = none from fun _ => hnone]
    dsimp only
    rw [hst, if_neg (show ¬ 1 = 10 by decide)]
    exact ⟨_, _, rfl, (within_farOut (by decide)).2 (.refl b)⟩
  obtain ⟨c, q, hjoin, hc⟩ := hjoin
  obtain ⟨c1, hc1⟩ : ∃ c1, c1 = (c.mergeMembers [x] q).modPort k (fun p => { p with step := 7, refusal := 0, rook := false }) := ⟨_, rfl⟩
  obtain ⟨c2, hc2⟩ : ∃ c2, c2 = c1.tableChanged true := ⟨_, rfl⟩
  dsimp only at hjoin
  rw [← hc1, ← hc2] at hjoin
  have hcx : x.id ≠ c.pkgid := by rwa [hc .pkgid (by decide)]
  have hmerged : c1.members = (c.mergeMembers [x] q).members ∧ c1.pkgid = c.pkgid := by
    rw [hc1]
    exact ⟨rfl, rfl⟩
  have hport1 : (c1.port k).st = 1 ∧ (c1.port k).rook = false ∧ (c1.port k).step = 7 := by
    rw [hc1, modPort_port, show (c.mergeMembers [x] q).port k = c.port k from rfl, hc.port (by decide)]
    exact ⟨hst, rfl, rfl⟩
  obtain ⟨hst1, hrook1, hstep1⟩ := hport1
  have hport2 : c2.port k = c1.port k := hc2 ▸ tableChanged_port hst1 hrook1
  obtain ⟨hknows, hmem, hid⟩ := tableChanged_elects (b := c1) (own := true)
  rw [← hc2] at hknows hmem hid
  intro z
  have hz : Within [.elems, .ports, .stws, .gold, .wsh, .rings, .vecs, .lead, .hostOut] c2 z := by
    simp only [z, hjoin]
    split_ifs <;> simp
  have hstep2 : (z.port k).step = (c2.port k).step := by
    obtain ⟨hhold, hto, hopen⟩ := step_kept (b := c2) (k := k)
    simp only [z, hjoin]
    split_ifs <;> assumption
  refine ⟨by rw [hstep2, hport2, hstep1], hz.knowsLeader hknows (by decide) (by decide) (by decide), ?_, ?_⟩
  · rw [hz .pkgid (by decide), hid, hmerged.2, hc .pkgid (by decide)]
  · rw [hz .members (by decide), hmem, hmerged.1]
    exact mergeMembers_row hcx

end

end

/-! ### The commands -/

section
variable {s : State} {k d i : Nat} {far : List FarMember} {x : FarMember}

section
variable (hwf : (Instr.join k d far).WellFormed = true)
include hwf

/-- A join at the step for it. -/
theorem join_answers (href : s.blk.wsh.refLost = false) (hst : (s.blk.port k).st = 1) (hstep : (s.blk.port k).step = 6)
    (hactive : (s.blk.link (passAdp k)).st = .active) (hboot : s.blk.lead.bootRom = false) (hrest : s.blk.lead.restarting = false) :
    (1920 < d → Completes (.join k d far) s (fun b' => (b'.port k).refusal = 0x54 ∧ (b'.port k).st = 1 ∧
      b'.members = s.blk.members ∧ Raised s.blk b' (passAdp k) 0x54 1)) ∧
    (∀ kind, d ≤ 1920 → s.blk.joinRefusal k far = some kind → Completes (.join k d far) s (fun b' =>
      (b'.port k).st = 8 ∧ (b'.port k).refusal = kind ∧ b'.members = s.blk.members ∧ Raised s.blk b' (passAdp k) kind 1)) ∧
    (∀ x, d ≤ 1920 → s.blk.joinRefusal k far = none → far = [x] → x.id ≠ s.blk.pkgid → Completes (.join k d far) s (fun b' =>
      (b'.port k).step = 7 ∧ b'.time.leader = (b'.leaderPkg == s.blk.pkgid) ∧
      ∃ m, b'.members.find x.id = some m ∧ m.serial = x.serial ∧ m.prio = x.prio ∧ m.reach = true)) := by
  have hdone : ∀ P : Block → Prop, P (s.blk.join k d far) → Completes (.join k d far) s P := fun P hP =>
    completes_of_on hwf (show execJoin k d far s = s.on (.join k d far) _ from rfl) hP
  refine ⟨fun hd => hdone _ (Block.join_late hst hstep hactive hboot hrest hd),
    fun kind hd hkind => hdone _ (Block.join_refused hst hstep hactive hboot hrest href hd hkind), fun x hd hnone hfar hx => hdone _ ?_⟩
  subst hfar
  obtain ⟨hseven, hknows, hid, hrow⟩ := Block.join_accepted hst hstep hactive hboot hrest hd hnone hx
  exact ⟨hseven, by rw [← hid]; exact hknows, hrow⟩

/-- R272: a table that comes over a port in service, from the leader or to it. -/
theorem join_distributes (hfar : far = [x]) (hst : (s.blk.port k).st = 2) (hboot : s.blk.lead.bootRom = false)
    (hrest : s.blk.lead.restarting = false) (hx : x.id ≠ s.blk.pkgid) : Completes (.join k d far) s (fun b' =>
      b'.time.leader = (b'.leaderPkg == s.blk.pkgid) ∧
      (∀ j, j ≠ x.id → j ≠ s.blk.pkgid → b'.members.find j = if s.blk.time.leader then s.blk.members.find j else none) ∧
      ∃ m, b'.members.find x.id = some m ∧ m.serial = x.serial ∧ m.prio = x.prio) := by
  subst hfar
  refine completes_of_on hwf (show execJoin k d [x] s = s.on (.join k d [x]) _ from rfl) ?_
  have hjoin : s.blk.join k d [x] = (s.blk.takeTable [x] (!s.blk.time.leader)).tableChanged false := by
    unfold Block.join
    rw [if_pos (by simp [hst, hboot, hrest])]
  obtain ⟨hknows, hmem, hid⟩ := Block.tableChanged_elects (b := s.blk.takeTable [x] (!s.blk.time.leader)) (own := false)
  rw [Block.KnowsLeader, hid] at hknows
  rw [hjoin, hmem]
  refine ⟨hknows, fun j hj hown => ?_, Block.takeTable_row hx⟩
  rw [Block.takeTable_other hj hown]
  cases s.blk.time.leader <;> rfl

end

/-- R272: a member that no path has reached for 10 s leaves the table. -/
theorem memberTimeout_leaves {m : Member} (hi : i < 16) (hfind : s.blk.members.find i = some m) (hreach : m.reach = false) (hown : i ≠ s.blk.pkgid) :
    Completes (.memberTimeout i) s (fun b' => b'.members.find i = none ∧ (∀ j, j ≠ i → b'.members.find j = s.blk.members.find j) ∧
      b'.time.leader = (b'.leaderPkg == s.blk.pkgid)) := by
  refine completes_of_on (by simpa [Instr.WellFormed] using hi) (show execMemberTimeout i s = s.on (.memberTimeout i) _ from rfl) ?_
  rw [hfind]
  dsimp only
  rw [if_neg (by simp [hreach, hown])]
  obtain ⟨e, he, hw⟩ := s.blk.elapses (m.since + 10 * second)
  have hmem0 : e.members = s.blk.members := hw .members (by decide)
  obtain ⟨c, hc⟩ : ∃ c, c = { e with members := e.members.erase i } := ⟨_, rfl⟩
  obtain ⟨hknows, hmem, hid⟩ := Block.tableChanged_elects (b := c) (own := true)
  have hcid : c.pkgid = s.blk.pkgid := by
    rw [hc, ← hw .pkgid (by decide)]
  rw [Block.KnowsLeader, hid, hcid] at hknows
  rw [← he, ← hc, hmem, show c.members = s.blk.members.erase i by rw [hc, ← hmem0]]
  exact ⟨SMap.find_erase_self .., fun j hj => SMap.find_erase_ne _ hj, hknows⟩

end

/-- Settles O32: a join by what the tables say of it, a table that is distributed, and a member that is lost. -/
theorem passJoining : Obligations.PassJoining := by
  unfold Obligations.PassJoining
  intro s k d far hwf href
  exact ⟨fun hst hstep hactive hboot hrest => join_answers hwf href hst hstep hactive hboot hrest,
    fun x hst hboot hrest hfar hx => join_distributes hwf hfar hst hboot hrest hx, fun i m hi hfind hreach hown => memberTimeout_leaves hi hfind hreach hown⟩

end Sys2Proof.Machine
end
